-- ==== Sys2Proof/Word.lean ====
section
/-! DEFINITION. Words, bytes and the index types of the units (R1, R366). -/

namespace Sys2Proof

/-- One byte of a frame, record or RAM. -/
abbrev Byte := BitVec 8

/-- Channel instance: A0-A11 are 0-11, B0-B11 are 12-23. -/
abbrev Ch := Fin 24
/-- Bank instance: A is 0, B is 1. -/
abbrev BankIx := Fin 2
/-- Modulator M0-M15. -/
abbrev ModIx := Fin 16
/-- Filter channel F0-F31. -/
abbrev FltIx := Fin 32
/-- CAN controller. -/
abbrev CanIx := Fin 2
/-- Auxiliary output AUX0-AUX15. -/
abbrev AuxIx := Fin 16
/-- Trip input TRIP0-TRIP3. -/
abbrev TripIx := Fin 4
/-- Reflex rule. -/
abbrev RuleIx := Fin 256
/-- Gradebook entry G0-G255, or Timetable entry m * 16 + e. -/
abbrev EntryIx := Fin 256

end Sys2Proof
end

