-- ==== Sys2Proof/Config.lean ====
section
/-! DEFINITION. What an implementation fixes and the manual leaves open: free values, none with a body. -/

namespace Sys2Proof.Config

/-- Scale of the FIR presets 5, 6 and 7, within 1/64 of one in units of 2^-30: the normalisation of the window design is not given
(R288). Free value (assumption 3). -/
opaque presetScale (preset : Nat) : BitVec 25

/-- How the two sections of presets 11, 12 and 13 are placed: their order, and the gain of the first in 1/65,536 of half their
mean gain above that half, are not given (R288). Free value (assumption 3). -/
opaque presetSections (preset : Nat) : Bool × BitVec 17

/-- The resampler's fixed windowed-sinc prototype (R271): its cut-off in 1/65,536 of the input rate, and its window at `n` 64ths of a
result interval from the middle. Free values, which govern where they meet R271 (assumption 4). -/
opaque resampleCutoff : BitVec 16
opaque resampleWindow (n : Nat) : BitVec 20

/-- Factory trim of a modulator at a gain code, applied to the decimator's value (R237): held in OTP, arithmetic and contents not
given, nor the scale that makes a code of the filter's sum of order and ratio (R233, R235). Free value (assumption 5). -/
opaque factoryTrim (modulator gain order ratio : Nat) (sum : Int) : Int

/-- The n-th random CHALLENGE drawn since the part was made (R446). Free value (assumption 6). -/
opaque challenge (n : Nat) : BitVec 256

/-- Coil terminal difference in uV that a LISTEN sample code stands for: the manual states no scale for these samples
(R24, R26, R133). Free value (assumption 21). -/
opaque listenMicrovolts (code : Int) : Int

/-- Mean that CAL_RESULT carries for a step that ended before any result was collected: the manual gives the field no
value there (R254, R371). Free value (assumption 13). -/
opaque emptyStepMean (entry step : Nat) : BitVec 32

/-- FLT.STAGE_DELAY (field 0) and FLT.GROUP_DELAY (field 1) where the value of their formula, num / den, lies outside
the type's range: the manual gives no reading there (R286, R287, R291). Free value (assumption 14). -/
opaque unstatedDelay (field : Nat) (num den : Int) : BitVec 64

/-- Receive error counter, above 119, after a good frame received while it stood above 127: ISO 11898-1 asks only for a
value between 119 and 127 (R388). Free value (assumption 22). -/
opaque recAfterPassive (controller count : Nat) : Fin 9

/-- What a key slot, a revoke fuse (its low bit) or the rollback floor (its low 16 bits) holds after the `n`-th fuse
operation of kind `op` read back wrong (R445). Free value (assumption 23). -/
opaque failedBurn (op n : Nat) : Option (BitVec 256)

/-- What a parameter or event field (named by the ID of the parameter it reports) holds where its quantity lies outside
the field's type: the manual states no result there. Free value (assumption 24). -/
opaque unstatedField (id : Nat) (v : Int) : Int

/-- Output of a resampler at the fc of its write, with 8 fraction bits, where the phase rounds up to the next result and the
sixteenth result that this needs has not left the decimator: the manual states no value there (R270). Free value
(assumption 67). -/
opaque lateResample (fc : Nat) : BitVec 32

/-- Address (low 16 bits) and data of the configuration slot that carries a write: the manual gives the power die's
configuration registers no addresses and no data format (R23, R25). Free value (assumption 70). -/
opaque slotWord (kind id inst : Nat) (value : Int) : BitVec 48

/-- Whether a high level of HP_SEL_N that lasts this many ns, 10 or more and fewer than 20, ends the selection: the manual gives the
glitch filter no answer there (R331). Free value (assumption 85). -/
opaque shortDeselect (ns : Nat) : Bool

/-- Gains of the Roll Call current loop for an apparent inductance in uH and a PWM period in fc, in nV per uA and nV per uA and
period: the manual gives its bandwidth of 500 Hz and its settling, not its gains (R108). Free value (assumption 77). -/
opaque rollCallGain (apparentL period : Nat) : Int × Int

/-- Single-bit errors of the processor RAM and the mailbox RAM corrected in fabric cycle `fc` of the `n`-th boot (R438): the manual
gives no rate. Free value (assumption 60). -/
opaque correctedErrors (n fc : Nat) : Nat

/-- Whether the uncorrectable RAM error in fabric cycle `fc` of the `n`-th boot strikes the queued command record of acceptance
number `seq` (R439). Free value (assumption 60). -/
opaque strikes (n fc seq : Nat) : Bool

/-- Whether a frame of another node is in progress on a controller's bus in a fabric cycle: the bus is outside the device (R376). Free
value (assumption 102). -/
opaque busBusy (controller fc : Nat) : Bool

end Sys2Proof.Config
end

