-- ==== Sys2Proof/Syntax.lean ====
section
/-! DEFINITION. The commands of the block: one constructor of `Instr` for each row of spec/opcode_table.json, with
the operands the environment supplies. The sixteen mailbox opcodes carry none of their own: their operands are the
bytes of the record at the head of the device's command queue (R345, R349, R360). -/

namespace Sys2Proof

/-- Who issued a command or a parameter write (R61). -/
inductive Source where
  | host | cangw
  deriving DecidableEq, Repr

/-- One frame as the device received it up to the host CRC (R321, R322). -/
structure HpFrame where
  op : Byte
  alive : Byte
  flags : Byte
  window : Byte
  offset : BitVec 16
  length : BitVec 16
  data : List Byte
  crc : BitVec 32
  deriving DecidableEq, Repr

/-- Which limit input (R69). -/
inductive Side where
  | p | n
  deriving DecidableEq, Repr

/-- What Roll Call measured on one coil (R108): the apparent inductance of step 2 in uH, the twin's mean induced
and applied voltage of step 3 or 4 in mV, the current at the end of step 5, the averaged voltage (uV) and current
(uA) of step 5, and the 63.2 % crossing of step 7 in ns, if any. -/
structure RcCoil where
  apparentL : Nat
  induced : Nat
  applied : Nat
  endCurrent : Nat
  voltage : Nat
  current : Nat
  crossing : Option Nat
  deriving DecidableEq, Repr

/-- One SENT frame as the pulses between successive falling edges show it, in ns (R190): the calibration pulse, then those of
the status nibble, the data nibbles, the CRC nibble, and of a pause where one came. -/
structure SentRx where
  calNs : Nat
  pulses : List Nat
  deriving DecidableEq, Repr

/-- A level at a trip input in mV, with which its comparator changes (R408). -/
structure TripLevel where
  trip : TripIx
  mv : BitVec 16
  deriving DecidableEq, Repr

/-- A CAN frame on the bus; a remote frame is received only (R373, R381). -/
structure CanFrame where
  ident : BitVec 29
  ext : Bool
  rtr : Bool
  fd : Bool
  brs : Bool
  esi : Bool
  data : List Byte
  deriving DecidableEq, Repr

/-- Who detected a bus error and how fault confinement counts it (R388, ISO 11898-1). -/
inductive CanErr where
  | receiver | receiverPrimary | transmitter
  deriving DecidableEq, Repr

/-- End of a transmission attempt (R385). -/
inductive TxEnd where
  | success | lostArbitration | error
  deriving DecidableEq, Repr

/-- A supply with a supervisor on the control die (R418). -/
inductive Supply where
  | vcore | vio | vdda
  deriving DecidableEq, Repr

/-- Boundary-scan instruction (R450). -/
inductive Jtag where
  | bypass | idcode | sample | extest | clamp | highz
  deriving DecidableEq, Repr

/-- What a rate-limited report covers (R199, R247, R252, R380). -/
inductive ReportKind where
  | fbIllegal (ch : Ch) | fbLines (ch : Ch) | missingTooth (ch : Ch) | extraPulse (ch : Ch) | fbCheck (ch : Ch)
  | adcOverrun (m : ModIx) | adcDataLost (m : ModIx) | rxOverrun (c : CanIx)
  deriving DecidableEq, Repr

/-- Step 3 or step 4 of a restart (R312, R316). -/
inductive RestartFail where
  | image | data
  deriving DecidableEq, Repr

/-- One constructor per row of the opcode table. The third operand of `canFrameReceived` is how many ticks of device time
ago the sample point of the frame's SOF bit was (R382). `commit` carries the clock edges of the selection, how long HP_SEL_N is
high in ns (R331), and the ALIVE byte received (R321, R329). `noise` inverts bits on the link's way: of a superframe by the place
of a character, of a symbol lane by lane. `rollcallComplete` and `conversionResult` name what ends: the measured values of the
coils, and a decimator's value with the clock edge of its last bit. -/
inductive Instr where
  | get | set | moveTo | moveVel | stop | enable | disable | groupStart | interpMove | rollCall
  | calibrate | gbSnapshot | fltSwap | canTx | canCancel | clearFault
  | gatewayCommand (c : CanIx)
  | commandPost (f : HpFrame)
  | responseFetch (f : HpFrame)
  | eventFetch (f : HpFrame)
  | hpCtrl (f : HpFrame)
  | loadApertureWrite (f : HpFrame)
  | verify (f : HpFrame)
  | verifyComplete
  | clear (f : HpFrame)
  | stagingClearDone
  | debugUnlockRequest
  | commit (clocks high : Nat) (alive : Byte)
  | parameterWrite (src : Source) (id : BitVec 16) (inst : Byte) (value : BitVec 64)
  | chPositionWrite (src : Source) (ch : Ch) (value : BitVec 64)
  | chLimitLatchWrite (src : Source) (ch : Ch) (value : BitVec 64)
  | fbEnable (src : Source) (ch : Ch) (value : BitVec 64)
  | fbTrust (src : Source) (ch : Ch) (value : BitVec 64)
  | rfxEnable (src : Source) (r : RuleIx) (value : BitVec 64)
  | rfxRelease (src : Source) (r : RuleIx) (value : BitVec 64)
  | adcRun (src : Source) (m : ModIx) (value : BitVec 64)
  | gbEnable (src : Source) (g : EntryIx) (value : BitVec 64)
  | fltRun (src : Source) (f : FltIx) (value : BitVec 64)
  | fltPresetLoad (src : Source) (f : FltIx) (page1 : Bool) (value : BitVec 64)
  | auxRun (src : Source) (k : AuxIx) (value : BitVec 64)
  | auxLoadAll (src : Source) (value : BitVec 64)
  | auxForce (src : Source) (k : AuxIx) (value : BitVec 64)
  | auxTripEnable (src : Source) (t : TripIx) (value : BitVec 64)
  | auxTripClear (src : Source) (t : TripIx) (value : BitVec 64)
  | canRun (src : Source) (c : CanIx) (value : BitVec 64)
  | canMode (src : Source) (c : CanIx) (value : BitVec 64)
  | canModeChangeAtIdle (c : CanIx)
  | canRecover (src : Source) (c : CanIx) (value : BitVec 64)
  | canRxPop (src : Source) (c : CanIx) (value : BitVec 64)
  | devHostSilenceWrite (src : Source) (value : BitVec 64)
  | devEclipseTest (src : Source) (value : BitVec 64)
  | devStandby (src : Source) (value : BitVec 64)
  | standbyPowerDieOff
  | devAttestGo (src : Source) (value : BitVec 64)
  | devVaultLoad (src : Source) (value : BitVec 64)
  | devOtpArm (src : Source) (value : BitVec 64)
  | otpProgramCustomerSlot (slot : Fin 2) (readBack : Bool)
  | otpRevokeVendorSlot (slot : Fin 2) (readBack : Bool)
  | otpRevokeCustomerSlot (slot : Fin 2) (readBack : Bool)
  | otpRaiseRollbackFloor (readBack : Bool)
  | configTagEcho (tag : Byte)
  | downlinkSuperframe (noise : List (Nat × Byte))
  | uplinkSuperframe (noise : List (Nat × Byte)) (vmA vmB : BitVec 16) (temp : BitVec 16) (listen : List (Ch × Int × Int))
  | modulatorSlot (bits : BitVec 80) (crc : Byte)
  | urgentSymbol (noise0 noise1 noise2 noise3 : Byte)
  | downlinkSilence
  | linkSilenceRcCount
  | uplinkLost
  | periodStart (b : BankIx)
  | periodCentre (b : BankIx) (codes : List (Int × Int))
  | integrationStep
  | limitInputActive (ch : Ch) (side : Side)
  | limitInputInactive (ch : Ch) (side : Side)
  | standstillDelayExpiry (ch : Ch)
  | idleDelayExpiry (b : BankIx)
  | satPeriodsCount (ch : Ch)
  | rollcallComplete (ch : Ch) (coil1 coil2 : RcCoil)
  | catchDecision (ch : Ch)
  | rejoinTakeUp (ch : Ch)
  | twinRejoined (ch : Ch)
  | stall (ch : Ch)
  | followErr (ch : Ch)
  | keLearnUpdate (ch : Ch)
  | shortTrip (ch : Ch) (hb : Fin 4) (instant : Bool)
  | gateFault (ch : Ch)
  | softoffPlateauEnd (ch : Ch)
  | bankOv (b : BankIx) (vm : BitVec 16)
  | bankUv (b : BankIx) (vm : BitVec 16)
  | vmWindowReturn (b : BankIx) (vm : BitVec 16)
  | chopOn (b : BankIx) (vm : BitVec 16)
  | chopOff (b : BankIx) (vm : BitVec 16)
  | chopOverload (b : BankIx) (onMs : BitVec 32)
  | safeInputAsserted (b : BankIx)
  | safeInputDeasserted (b : BankIx)
  | overTemperature (temp : BitVec 16)
  | otClear (temp : BitVec 16)
  | parkHoldEnd (ch : Ch)
  | quadTransition (ch : Ch) (a b : BitVec 16)
  | index (ch : Ch)
  | hallChange (ch : Ch) (u v w : BitVec 16)
  | wssTooth (ch : Ch)
  | stepEdge (ch : Ch) (rising : Bool) (dir : BitVec 16)
  | sentFrame (ch : Ch) (rx : SentRx)
  | serialFrameEnd (ch : Ch) (bits : BitVec 40) (idleHigh : Bool)
  | lineOpen (ch : Ch) (on : Bool)
  | lineShort (ch : Ch) (on : Bool)
  | speedTimeout (ch : Ch)
  | rateLimitedReport (k : ReportKind)
  | rfxFiring (r : RuleIx)
  | rfxReportWindowEnd (r : RuleIx)
  | adcTrigger (m : ModIx)
  | passStart (m : ModIx)
  | conversionResult (m : ModIx) (sum : Int) (lastClk : Nat)
  | calibrationStepComplete (m : ModIx)
  | gbWindowBoundary (g : EntryIx)
  | filterSlot (f : FltIx)
  | coldBoot
  | bootProcessorFault
  | powerDieUp (vmA vmB : BitVec 16)
  | eclipseStart (cause : Fin 7)
  | eclipseEnd (durationMs : BitVec 16)
  | eclipseExpired
  | hostSilent
  | supplySupervisorTrip (v : Supply)
  | supplySupervisorRelease (v : Supply)
  | vstbyPowerOn
  | clockLoss
  | rootQualified
  | resetNLow
  | wake
  | debugHalt
  | debugResume
  | debugReset
  | jtagInstructionLoad (i : Jtag)
  | canFrameReceived (c : CanIx) (f : CanFrame) (sofTicks : Nat)
  | canIntegrated (c : CanIx)
  | txTimeReached (c : CanIx) (buf : Fin 32)
  | txTimedStart (c : CanIx) (buf : Fin 32)
  | txAttemptEnd (c : CanIx) (e : TxEnd)
  | txLateDropped (c : CanIx) (buf : Fin 32)
  | canBusError (c : CanIx) (e : CanErr)
  | reintegrated (c : CanIx)
  | busStuck (c : CanIx) (on : Bool)
  | detectDwellExpiry (c : CanIx)
  | auxPeriodStart (k : AuxIx)
  | auxTrip (x : TripLevel)
  | powerDieStop
  | eclipseRestartFailed (e : RestartFail)
  | standbyUnitsStop
  | tripComparatorInactive (x : TripLevel)
  | vstbyPowerLoss
  | wakeLevelChange (high : Bool)
  | trstNLow
  deriving DecidableEq, Repr

end Sys2Proof
end

