-- ==== Sys2Proof/Machine/State.lean ====
section
/-! DEFINITION. The state of the block as plain data: the control die, the power die, the Shonak link between them,
and the queue of waiting commands. A docstring names the rule of spec/ that gives a field. -/

namespace Sys2Proof.Machine

/-- Stops of the model. No command of this block stops the model with a fault: the device's own faults are state. -/
inductive Fault where
  /-- Raised by nobody: kept because the interface asks for a fault type. Safe. -/
  | none
  deriving DecidableEq, Repr

/-- Refusals of the model. -/
inductive Refusal where
  /-- A command whose meaning is not written yet; raised by exec's arms only. Safe. -/
  | notModelled (mnemonic : String)
  deriving DecidableEq, Repr

/-- The variants of R1. -/
inductive Variant where
  | clv24X | clv16X | clv12S | clv08B
  deriving DecidableEq, Repr

/-- Result codes of R365. -/
inductive Result where
  | ok | queued | badOpcode | badParamId | outOfRange | unitAbsent | busyRunning | notOwner | noCredit
  | wrongState | calReject | faultLatched | eclipseRetry | duplicate
  deriving DecidableEq, Repr

/-! ### Shared records -/

/-- A duty entry of the downlink (R24). -/
structure DutyEntry where
  test : Bool
  listen : Bool
  gateEn : Bool
  d4 : BitVec 25
  d3 : BitVec 25
  d2 : BitVec 25
  d1 : BitVec 25
  deriving DecidableEq, Repr

/-- GATE_EN = 0 with all duty words 0 (R24). -/
def DutyEntry.off : DutyEntry := ⟨false, false, false, 0, 0, 0, 0⟩

/-- An event record (R356); the instance and payload are those of R371. -/
structure Event where
  code : Nat
  inst : Nat
  deferred : Bool
  suspect : Bool
  evtSeq : Nat
  time : Nat
  payload : List Byte
  deriving DecidableEq, Repr

/-! ### Motion engine (R47 to R91) -/

/-- Channel states of R81. -/
inductive ChState where
  | disabled | rollcall | idle | holdReduced | moving | stopping | parked | fault
  deriving DecidableEq, Repr

/-- CH.MODE (R90). -/
inductive Mode where
  | none | position | velocity | follow | interp
  deriving DecidableEq, Repr

/-- STOP_DONE causes 0 to 6 (R371). -/
inductive StopCause where
  | velZero | stop | limit | reflex | fault | group | disable
  deriving DecidableEq, Repr

/-- A motion command (R54): MOVE_TO with its target or displacement, or MOVE_VEL. -/
inductive Move where
  | to (target : Int) (relative follow : Bool)
  | vel (v : Int)
  deriving DecidableEq, Repr

/-- Motion engine of one channel. `pos` has 24 fraction bits (R49); `vel` and `acc` carry the same fraction. -/
structure Motion where
  /-- R49, CH.POSITION, in 2^-24 microsteps -/
  pos : Int
  /-- CH.VELOCITY (R90), in 2^-24 microsteps/s -/
  vel : Int
  /-- CH.ACCEL (R90), in 2^-24 microsteps/s^2 -/
  acc : Int
  /-- travel not yet a whole 2^-24 microstep, in 1/400,000 of it, and 400,000 times the same fraction of the speed (model's own
  field, assumption 10) -/
  carry : Int
  /-- electrical angle code (R92) -/
  theta : BitVec 18
  /-- CH.TARGET (R90) in microsteps -/
  target : Int
  /-- CH.MODE (R90) -/
  mode : Mode
  /-- VELOCITY of the MOVE_VEL in force (R56) -/
  velCmd : Int
  /-- velocity in force whose VEL_REACHED has been reported and that is still in force (R56) -/
  velReported : Option Int
  /-- offset, follower position and last count of follow mode (R57, R189) -/
  followOffset : Int
  followPos : Int
  followLast : BitVec 32
  /-- armed move (R73) -/
  armed : Option Move
  /-- motion commands held for the next integration step (R48, R67, R87) -/
  held : List Move
  /-- cause of the ramp stop that runs in STOPPING (R65, R371) -/
  stopCause : StopCause
  /-- it has not been integrated yet (R53) -/
  stopNew : Bool
  /-- the running ramp stop was caused by a fault (R82) -/
  stopFault : Bool
  /-- a DISABLE is pending (R68) -/
  disablePending : Bool
  /-- ramp stop (of a host STOP too) and immediate stop ordered for the next integration step (R63) -/
  rampReq : Option StopCause
  immReq : Option StopCause
  /-- debounced limit inputs (R69) -/
  limP : Bool
  limN : Bool
  /-- CH.LIMIT_LATCH (R70) and whether the latch's position is still to be captured -/
  latchP : Bool
  latchN : Bool
  capP : Bool
  capN : Bool
  /-- CH.LIMIT_POS_P, CH.LIMIT_POS_N (R70) -/
  limitPosP : Int
  limitPosN : Int
  /-- CH.VLIMIT_RFX (R63) -/
  vlimitRfx : Nat
  deriving DecidableEq, Repr

/-- Causes latched for a channel (R85, R161, R217). -/
structure Causes where
  short : Bool
  gate : Bool
  bank : Bool
  stall : Bool
  stallOff : Bool
  follow : Bool
  followOff : Bool
  coilOpen : Bool
  rollCall : Bool
  rfxOff : Bool
  eclipse : Bool
  silent : Bool
  deriving DecidableEq, Repr

/-! ### Coil drive and estimator (R92 to R141) -/

/-- A set-point: commanded angle, projected position (2^-24 microsteps), current magnitude in uA peak, and its duty
entry (R38, R93, R101, R129). -/
structure SetPoint where
  angle : Nat
  pos : Int
  cur : Int
  /-- the regulator drives a current vector in it: not TEST, LISTEN, OPEN, SHORT or off (R99, R105) -/
  driven : Bool
  entry : DutyEntry
  deriving DecidableEq, Repr

/-- Saturation count of R103: consecutive saturated or clamped set-points, set-points without, COIL_SAT reported, the coil
check of this count made, and the sums of measured and set-point magnitudes over the counted set-points, in uA. -/
structure SatCount where
  run : Nat
  clear : Nat
  reported : Bool
  checked : Bool
  meas1 : Nat
  set1 : Nat
  meas2 : Nat
  set2 : Nat
  deriving DecidableEq, Repr

/-- What the regulator captured for the last set-point, from which R113 computes it once more: velocity, trim and current
before it, the step of the trim (R99, R102), and the saturation count before it with the magnitudes that it adds: measured
and set-point, coil 1 then coil 2 (R103). -/
structure RegIn where
  vel : Int
  td : Int
  tq : Int
  cur : Int
  gd : Int
  gq : Int
  count : SatCount
  add : Nat × Nat × Nat × Nat
  deriving DecidableEq, Repr

/-- Coil-voltage regulator of one channel. -/
structure Coil where
  /-- CH.LADDER_RUNG (R94) -/
  rung : Nat
  /-- projected, unwrapped angle of the previous set-point in codes (R96) -/
  prevAngle : Int
  /-- position projected for the last set-point, in 2^-24 microsteps (R38, R67) -/
  lastPos : Int
  /-- slow current trim TD, TQ in nV (R102) -/
  td : Int
  tq : Int
  /-- current magnitude I in force, uA peak (R104) -/
  cur : Int
  /-- hold reduction: asked for, set-points done of the ramp (R104) -/
  reduced : Bool
  rampDone : Nat
  /-- set-point for the next period, for the period in progress and for the two before (R38, R102, R120) -/
  next : SetPoint
  now : SetPoint
  prev : SetPoint
  prev2 : SetPoint
  inp : RegIn
  /-- bit [0] of CH.SAT_STATUS and the coil deficit bits (R103, R118) -/
  sat : Bool
  /-- the last set-point is saturated in the sense of R100, its trim apart (R139) -/
  satV : Bool
  deficit1 : Bool
  deficit2 : Bool
  /-- saturation count (R103) -/
  count : SatCount
  deriving DecidableEq, Repr

/-- One coil during the timetable of a Roll Call (R108): the sums of its zero offset, the peak current of its short pulse (uA),
the integrator of the current loop (nV), the voltage and current summed over the last 10 ms of the DC step (nV, uA), the
latest current, that at the end of the step, the 63.2 % crossing (ns), and the sum of the voltages that its pulse induces in
the partner (uV). -/
structure RcTrack where
  offset : Int
  peak : Nat
  integ : Int
  vSum : Int
  iSum : Int
  last : Int
  endI : Int
  cross : Option Nat
  induced : Nat
  deriving DecidableEq, Repr

/-- A Roll Call's timetable (R108): TEST set-points computed, and samples in the sums of offset, DC step and induced voltage. -/
structure RcRun where
  n : Nat
  offN : Nat
  avgN : Nat
  indN : Nat
  coil1 : RcTrack
  coil2 : RcTrack
  deriving DecidableEq, Repr

/-- Load-angle estimator, following error, catch, Roll Call results and Ke collection of one channel. -/
structure Estim where
  /-- estimates and currents kept for the average, newest first (R121): (e1, e2, i1, i2) in nV and uA -/
  hist : List (Int × Int × Int × Int)
  /-- previous sample pair in uA (R120) -/
  lastI : Int × Int
  /-- CH.EST_VALID (R122) -/
  valid : Bool
  /-- set-points since the last step change of the current (R122) -/
  blank : Nat
  /-- missed frame reported for the last two periods (R122) -/
  missedNow : Bool
  missedPrev : Bool
  /-- CH.LOAD_ANGLE, CH.EMF (R123) in 0.01 degree and mV -/
  loadAngle : Int
  emf : Nat
  /-- CH.TWIN_K (R120) -/
  twinK : Nat
  /-- travel in codes under each stall criterion (R124) -/
  angleCount : Nat
  emfCount : Nat
  /-- following error (R129): CH.FE, offset, accumulated count, last count, consecutive count -/
  fe : Int
  feOffset : Int
  feAcc : Int
  feLast : BitVec 32
  feCount : Nat
  /-- checked set-points that still set fe_offset (R130): after a catch lock those whose position is from before it too -/
  feZero : Nat
  /-- inside a stretch of suspension, already reported (R131) -/
  feSuspended : Bool
  /-- catch: window samples (oldest first), CH.CATCH_RESULT, CH.CATCH_SPEED, CH.CATCH_ANGLE (R133 to R135) -/
  listening : Bool
  samples : List (Int × Int)
  catchResult : Nat
  catchSpeed : Int
  catchAngle : Nat
  /-- CH.RC_RESULT (R109); a Roll Call has passed since runtime start (R115) -/
  rcResult : Nat
  rcPassed : Bool
  /-- Roll Call in progress (R108) -/
  rc : RcRun
  /-- measurement of a Roll Call that awaits the firmware (R117) -/
  rcWait : Option (RcCoil × RcCoil)
  /-- the partner was in DISABLED or ROLLCALL when the Roll Call began, so the twin check is made (R109) -/
  rcTwin : Bool
  /-- channels that were enabled with it (R361, model's own field); none once a listening window has ended without a lock -/
  rcMates : BitVec 24
  /-- a stall and a following error arose at one set-point and the first report has acted for both (R128) -/
  joint : Bool
  /-- Ke collection (R139): set-points seen, qualified, sum of |e| / |omega| in nV s/rad -/
  keSeen : Nat
  keGood : Nat
  keSum : Nat
  deriving DecidableEq, Repr

/-- Stages of a twin rejoin (R116). -/
inductive Rejoin where
  | none
  | loading
  | ramp (done : Nat)
  deriving DecidableEq, Repr

/-- One channel on the control die. -/
structure Channel where
  /-- CH.STATE (R81) -/
  state : ChState
  /-- all FETs off as the control die orders or knows it: in FAULT, off rather than holding (R81); in PARKED, the
  hold has ended (R161) -/
  fetsOff : Bool
  motion : Motion
  causes : Causes
  coil : Coil
  est : Estim
  /-- SOLO (R113), rejoin stage (R116) and the percent share in hundredths that a rejoin ramp gives -/
  solo : Bool
  rejoin : Rejoin
  /-- PS.FAULT (R158), PS.PARK_CAUSE (R161), PS.I_COIL1/2 as codes (R150) -/
  psFault : Byte
  parkCause : Nat
  code1 : Int
  code2 : Int
  /-- a bank turn-off latched for the channel has been reported (R165, R496) -/
  bankSeen : Bool
  /-- the bank coil policy drives the set-point (R105); the channel has left standing since the last period start (R106) -/
  policy : Bool
  left : Bool
  /-- the estimator domain, and the gate-drive slice as the firmware has ordered it, are on (R430) -/
  powered : Bool
  slice : Bool
  deriving DecidableEq, Repr

/-- A host-class change that acts on a pair (R115). -/
inductive PairChange where
  | stop
  | disable
  | interp (target : Int)
  | write (id : Nat) (value : Int)
  deriving DecidableEq, Repr

/-- A reflex action on a twin in the pair's log (R115, R218): integration step, rule, and the rule's low word. -/
structure ReflexEntry where
  step : Nat
  rule : Nat
  word : Nat
  deriving DecidableEq, Repr

/-- Pair record of a twin pair (R115). -/
structure PairRecord where
  /-- engine, state and integration step of the pair's last shared start -/
  start : Motion
  startState : ChState
  startStep : Nat
  /-- later host-class changes with their steps, oldest first -/
  changes : List (Nat × PairChange)
  /-- hardware log of reflex actions, at most 16, and its overflow -/
  log : List ReflexEntry
  overflow : Bool
  /-- the trajectory recomputed from the shared start to the present step, and whether it is a ramp stop (R116) -/
  shadow : Motion
  stopping : Bool
  /-- writes to one twin that the other has not matched: parameter, written on the bank B twin, value (R76) -/
  unmatched : List (Nat × Bool × Int)
  deriving DecidableEq, Repr

/-- Motion of an interpolation group on its path coordinate (R79), in 2^-24 microsteps. -/
structure Group where
  active : Bool
  /-- the first integration step has begun the motion -/
  started : Bool
  /-- members: channel, start and displacement (before the first step: channel, 0 and the target in microsteps) -/
  members : List (Ch × Int × Int)
  /-- displacement of every member that started (R79): the group's limits stay theirs when one leaves (R80) -/
  spans : List (Ch × Int)
  /-- L (R79) -/
  len : Nat
  pos : Int
  carry : Int
  vel : Int
  acc : Int
  /-- the group stops on the line (R80) -/
  stopping : Bool
  deriving DecidableEq, Repr

/-- One bank on the control die (R98, R105, R159, R177). -/
structure Bank where
  /-- BANK.PWM_PERIOD_FC (R98) -/
  period : Nat
  /-- index of the PWM period in progress (R26) -/
  index : Nat
  /-- TIMEBASE and TAG of the latest good uplink superframe (R26) -/
  timebase : Nat
  sampleTag : Byte
  /-- LOAD bit and FRAME of the downlink (R23) -/
  load : Bool
  frame : Byte
  /-- BANK.POLICY_ACTIVE (R105) -/
  policyActive : Bool
  /-- BANK.VM, BANK.STATUS, BANK.MISSED_FRAMES, BANK.LINK_CRC_ERRORS (R177) -/
  vm : Nat
  status : Byte
  missedFrames : Nat
  crcErrors : Nat
  /-- chopper switchings seen in the last 100 ms (fc, on), newest first, with the one before: BANK.CHOP_DUTY (R164) -/
  chopLog : List (Nat × Bool)
  /-- BANK.CHOP_MAX_ON of the present on-interval (R177) -/
  chopMax : Nat
  /-- CHOP_OVERLOAD already reported in this on-interval (R164) -/
  chopReported : Bool
  deriving DecidableEq, Repr

/-! ### Power die (R142 to R177) -/

/-- Two-step turn-off of a channel (R156). -/
inductive TurnOff where
  | none | plateau | off
  deriving DecidableEq, Repr

/-- One channel on the power die. -/
structure PdChan where
  /-- duty entry loaded; entries of the newest good superframe and of the one before it (R39, R40) -/
  entry : DutyEntry
  shadow : DutyEntry
  shadowOld : DutyEntry
  /-- HOLD in force: period starts still to pass (R32) -/
  hold : Nat
  /-- GATE_EN = 1 ignored after an urgent SOFT_OFF (R32, R158) -/
  softIgnore : Bool
  /-- short latches SC1 to SC4, INST, GATE, PARK (R158) and the latched bank turn-off (R165, R166, R496) -/
  sc : BitVec 4
  inst : Bool
  gate : Bool
  park : Bool
  bankOff : Bool
  /-- the latched bank turn-off was an undervoltage -/
  bankUv : Bool
  /-- fc in which an entry with GATE_EN = 0 last stopped the switching (R173), and of the last turn-off command or start
  of full off, from which the gate check counts (R145) -/
  offFc : Option Nat
  checkFc : Option Nat
  /-- the gate-drive slice is powered (R146, R430) -/
  slice : Bool
  turnOff : TurnOff
  /-- park hold running (R170) -/
  parkHold : Bool
  /-- sense codes of the last period centre (R150) -/
  code1 : Int
  code2 : Int
  deriving DecidableEq, Repr

/-- One bank on the power die. -/
structure PdBank where
  /-- LOAD and FRAME of the newest good superframe and the fc in which it completed; the same of the one before it (R40) -/
  load : Bool
  frame : Byte
  came : Nat
  loadOld : Bool
  frameOld : Byte
  cameOld : Nat
  /-- index of the period whose centre was sampled (R26) -/
  sampleTag : Byte
  /-- under- and overvoltage, chopper and safe input as they stand (R162 to R169) -/
  uv : Bool
  ov : Bool
  chop : Bool
  safe : Bool
  /-- missed a frame since the last uplink superframe (R159) -/
  missed : Bool
  /-- charge pump runs (R144, R417) -/
  pump : Bool
  /-- VEXC is on (R234, R432) -/
  vexc : Bool
  deriving DecidableEq, Repr

/-- Phases of a multiplexer sequencer (R244, R248): start-up of the front end, an entry, or the 12 clocks of its last result. -/
inductive MuxPhase where
  | idle
  | startUp
  | entry
  | tail
  deriving DecidableEq, Repr

/-- A modulator's multiplexer sequencer (R19, R243): its run, phase, entry, clocks left in the phase (0: without end), the input
and gain it has selected, and the front end. -/
structure MuxSeq where
  running : Bool
  phase : MuxPhase
  entry : Nat
  left : Nat
  input : Nat
  gain : Nat
  frontEnd : Bool
  deriving DecidableEq, Repr

/-- The power die as a whole. -/
structure PowerDie where
  /-- multiplexer sequencers of the 16 modulators (R19, R243) -/
  mux : Vector MuxSeq 16
  /-- urgent symbols ignored and counted as link errors (R30) -/
  linkErrors : Nat
  /-- runs: either VM above 6 V, not in reset (R417, R426), not in standby (R428) -/
  running : Bool
  standby : Bool
  /-- charge pumps, VM monitors, park logic and timebases are switched on (R305, R430) -/
  units : Bool
  /-- SEQ of the latest good downlink superframe (R23) -/
  downSeq : Byte
  chans : Vector PdChan 24
  banks : Vector PdBank 2
  /-- over-temperature condition (R159, R171) -/
  ot : Bool
  /-- downlink superframes discarded since the last uplink superframe (R159), saturating at 3 -/
  crcErr : Nat
  /-- tags applied in the most recent 32 downlink superframes, newest first (R493) -/
  applied : List (List Byte)
  /-- tags of the four slots of the most recent good downlink superframe, 0 for an unused one (R26 ACK) -/
  ack : List Byte
  /-- settings received by configuration writes, keyed as the parameter store (R175) -/
  config : List (Nat × Int)
  /-- uplink SEQ (R26) -/
  upSeq : Byte
  deriving DecidableEq, Repr

/-! ### Shonak link on the control die (R21 to R41, R493, R494) -/

/-- What a configuration write does on the power die (R25). -/
inductive CfgKind where
  | param (id inst : Nat) (value : Int)
  | clear (ch : Ch)
  | prepare (ch : Ch)
  | sliceOff (ch : Ch)
  | startUp
  | adcRun (m : ModIx) (on : Bool)
  | standby
  | vexc (b : BankIx) (on : Bool)
  deriving DecidableEq, Repr

/-- A configuration write with its tag (R493). -/
structure CfgWrite where
  tag : Byte
  kind : CfgKind
  deriving DecidableEq, Repr

/-- The link transmitter and receiver. -/
structure Link where
  /-- the transmitter runs (R494) -/
  txOn : Bool
  seq : Byte
  /-- SEQ of the latest good uplink superframe (R26) -/
  rxSeq : Byte
  /-- configuration writes sent until echoed, oldest first (R493) -/
  cfg : List CfgWrite
  /-- configuration writes that wait for a free tag, and whether the command in execution waits for them (R306, R493) -/
  backlog : List (CfgKind × Bool)
  /-- last tag of the rotation (R493) -/
  lastTag : Byte
  /-- tags echoed and the superframes since (R493: not issued again within 48) -/
  cooling : List (Byte × Nat)
  /-- consecutive good superframes down and up, counted to 64 (R161) -/
  goodDown : Nat
  goodUp : Nat
  /-- a good uplink superframe has arrived since runtime or power-die start, so R36 acts -/
  supervised : Bool
  /-- UPLINK_LOST (R36) -/
  lost : Bool
  /-- urgent orders pending (R31) -/
  softOff : BitVec 24
  park : BitVec 24
  hold : BitVec 24
  /-- the power die answers; it has started once since runtime start (R306) -/
  answers : Bool
  startedOnce : Bool
  /-- the power die has started and the firmware has not yet answered it (R306, R431) -/
  upPending : Bool
  deriving DecidableEq, Repr

/-! ### Feedback interface (R178 to R205) -/

/-- Feedback interface of one channel. -/
structure Fb where
  running : Bool
  /-- a start or stop, and a forced trust, that take effect in the next fc (R10, R182, R204) -/
  startNext : Option Bool
  trustNext : Bool
  /-- FB.CMP0, FB.CMP1 and FB.CMP_ENABLE as they act in this fc (R200, R204) -/
  cmp0 : Int
  cmp1 : Int
  cmpEnable : Nat
  count : BitVec 32
  /-- comparator outputs after the filter, before FB.POL: A, B, I (or U, V, W), the decoder's reference (R178, R179);
  `hallOk` once a valid state was seen -/
  lineA : Bool
  lineB : Bool
  lineI : Bool
  hallOk : Bool
  /-- speed: fc of the last counted edge, sign of the last count, kept periods in fc (newest first), and whether the
  next period is measured (R195, R196) -/
  lastEdge : Nat
  haveEdge : Bool
  /-- a count has been made since the start (R184) -/
  counted : Bool
  neg : Bool
  periods : List Nat
  /-- STATUS bits (R205) -/
  lineShort : Bool
  lineOpen : Bool
  frameLate : Bool
  checkErr : Bool
  standstill : Bool
  suspect : Bool
  indexSeen : Bool
  /-- count changed direction since the last index (R184) -/
  dirChanged : Bool
  indexPos : BitVec 32
  indexInterval : Int
  errCount : Nat
  /-- run of good changes or periods (R197) -/
  trustRun : Nat
  /-- tooth reference and consecutive failing periods (R198) -/
  toothRef : Option Nat
  toothFails : Nat
  firstPeriod : Bool
  /-- count at each current-sampling instant (R194) -/
  latched : BitVec 32
  /-- fc of the latest sampling instant (R194) -/
  latchFc : Option Nat
  /-- absolute modes: last position, last good frame value, first frame seen (R193) -/
  absPos : Nat
  absRaw : BitVec 64
  absSeen : Bool
  /-- SENT: last calibration pulse in ns, serial-message bits received (newest last), FB.SENT_SLOW (R190) -/
  lastCal : Option Nat
  slowBits : List (Bool × Bool)
  sentSlow : BitVec 32
  /-- SERIAL: period centres since the last frame, a frame in progress (R191) -/
  ssiCentres : Nat
  ssiBusy : Bool
  ssiFirst : Bool
  /-- fc in which the latest frame started (R191) -/
  ssiFrom : Nat
  /-- occurrences since the last report: FB_ILLEGAL, FB_LINES, MISSING_TOOTH, EXTRA_PULSE, FB_CHECK, and whether the
  10 ms limit of each runs (R199) -/
  occ : List Nat
  limited : List Bool
  deriving DecidableEq, Repr

/-! ### Reflex matrix (R206 to R231) -/

/-- A reflex rule beyond its two words. -/
structure Rule where
  enabled : Bool
  /-- an enable or disable, and a release, that take effect in the next fc (R10, R223, R224) -/
  enableNext : Option Bool
  releaseNext : Bool
  /-- level of each member's source, and activity of each member, in the previous fc (R212) -/
  srcPrev : BitVec 24
  memPrev : BitVec 24
  capture : BitVec 24
  fireCount : Nat
  fireTime : Nat
  /-- latched action armed by a firing (R216), channels asserted (RFX.ASSERTED), AUX_SAFE asserted -/
  armed : Bool
  asserted : BitVec 24
  auxAsserted : Bool
  /-- channels on which its held or latched action was asserted in the previous fc (R215, R218) -/
  assertedPrev : BitVec 24
  /-- RFX.OVERRIDDEN after a losing pulse firing (R220) -/
  overridden : Bool
  /-- a write of the command in execution enables it in the next fc, so that a firing there is the command's (R223, R350) -/
  caused : Bool
  /-- a firing of this fc, which acts at its end, and the members newly active in it (R213, R221, R225) -/
  due : Bool
  members : BitVec 24
  /-- a 1 ms report window runs; firings gathered, the time of the first and the capture of the latest (R230) -/
  window : Bool
  gathered : Nat
  gatherTime : Nat
  gatherCap : BitVec 24
  deriving DecidableEq, Repr

/-! ### Converters and Gradebook (R232 to R264) -/

/-- A calibration step that collects (R254): step, values kept (newest first), over-range seen, clock at acceptance. -/
structure CalRun where
  step : Nat
  values : List Int
  ovr : Bool
  fromClk : Nat
  /-- ended early: 5 modulator stopped, 6 Eclipse (R254) -/
  ended : Option Nat
  deriving DecidableEq, Repr

/-- A sinc filter (R235): integrators and combs of its order, bits taken towards the next decimation, decimations since its
reset up to its order. -/
structure Sinc where
  acc : List Int
  comb : List Int
  bits : Nat
  blocks : Nat
  deriving DecidableEq, Repr

/-- A result on its way out of the decimator (R236): its entry and the instance it is delivered as, the filter's sum, the clock
of its last bit, the fc in which it leaves, and whether the pass ends with it (R244). -/
structure ConvOut where
  entry : Nat
  into : EntryIx
  sum : Int
  lastClk : Nat
  leave : Nat
  last : Bool
  deriving DecidableEq, Repr

/-- One modulator as the control die knows it: decimator and decimator sequencer (R19, R243). -/
structure Modulator where
  running : Bool
  /-- a write of 0 to ADC.RUN is applied and waits for the next CLK_MOD edge (R259) -/
  stopping : Bool
  /-- a pass runs; fc of the edges at which triggered passes start, oldest first (R247); entry in progress; first result discarded
  (R248) -/
  inPass : Bool
  due : List Nat
  entry : Nat
  discard : Bool
  powered : Bool
  /-- bits still ignored; the filter; results that the entry has converted; the pass's last bit is taken (R244) -/
  wait : Nat
  sinc : Sinc
  done : Nat
  ended : Bool
  out : List ConvOut
  /-- PWM events since the last trigger, and fc of the next timer trigger (R246) -/
  pwmEvents : Nat
  nextTimer : Nat
  overrun : Nat
  overrunNew : Nat
  lost : Nat
  lostNew : Nat
  ovrLimited : Bool
  lostLimited : Bool
  /-- identical bits in a row and the last bit; first clock edges of recent unstable spans (R251) -/
  runLen : Nat
  lastBit : Bool
  unstable : List Nat
  /-- the running pair is interleaved (R249) -/
  paired : Bool
  deriving DecidableEq, Repr

/-- Per Timetable entry: pending zero, CAL_REASON, and the step that collects (R253, R254). -/
structure Entry where
  zero : Option Int
  reason : Nat
  cal : Option CalRun
  deriving DecidableEq, Repr

/-- Accumulators of a Gradebook entry (R256). -/
structure GbAcc where
  sum : Int
  count : Nat
  min : Int
  max : Int
  ovr : Nat
  lost : Nat
  deriving DecidableEq, Repr

/-- A published record (R258). -/
structure GbRec where
  endTime : Nat
  acc : GbAcc
  early : Bool
  unread : Bool
  seq : Nat
  deriving DecidableEq, Repr

/-- One Gradebook entry. -/
structure Gb where
  /-- GB.ENABLE as written, and accumulating since a boundary (R257, R260) -/
  enabled : Bool
  active : Bool
  /-- window length and feeder of the window in progress, and the device time of the last boundary taken (R257, R260) -/
  window : Nat
  src : Nat
  closed : Option Nat
  acc : GbAcc
  pub : Option GbRec
  read : Bool
  seq : Nat
  deriving DecidableEq, Repr

/-! ### Filter engine (R265 to R294) -/

/-- A converter result as the filter engine records it: fc at which it left, code, marks (R236, R251, R252). -/
structure ResultIn where
  fc : Nat
  code : Int
  ovr : Bool
  lost : Bool
  deriving DecidableEq, Repr

/-- One filter channel. -/
structure Flt where
  running : Bool
  /-- fc of a write of 0 to FLT.RUN that waits for the next slot start (R291) -/
  stopReq : Option Nat
  /-- fc at which the first active slot of the run starts (R267) -/
  firstSlot : Nat
  page1 : Bool
  /-- fc in which the firmware applied a pending swap (R279) -/
  swapPending : Option Nat
  /-- results received, newest first, and how many are new since the last active slot -/
  inputs : List ResultIn
  fresh : Nat
  /-- last good input value with its over-range flag, and the fc of the result last used (R269, R274) -/
  lastIn : Int
  lastOver : Bool
  lastInFc : Nat
  /-- biquad delays per section (x1, x2, y1, y2) and FIR delay line, newest first (R272) -/
  biquad : List (Int × Int × Int × Int)
  fir : List Int
  /-- primed by a first input (R275) -/
  primed : Bool
  settleLeft : Nat
  lostLeft : Nat
  heldRun : Nat
  starved : Bool
  /-- ratio and lag from the settings with which the feeder last started again, for when the channel is starved (R277) -/
  figures : Option (Nat × Nat)
  rsRatio : Nat
  rsLag : Nat
  settleInForce : Nat
  /-- D of the running page as a fraction, denominator 0 where there is none (R286, R287); `timed` from the first
  start on -/
  timed : Bool
  /-- a recomputation of R287 waits for the restart (R290) -/
  retimeDue : Bool
  delayNum : Int
  delayDen : Int
  lastWait : Nat
  waitVaries : Bool
  lostOut : Bool
  heldOut : Bool
  underrun : Nat
  dropped : Nat
  saturations : Nat
  output : Int
  /-- written outputs, newest first, for RATE (R282) -/
  written : List Int
  deriving DecidableEq, Repr

/-- What an evaluation of a comparator makes of it: state, confirmations, and the output that FLT_THRESH carries where it changes and
reports (R282, R283). -/
structure CmpStep where
  set : Bool
  run : Nat
  report : Option Int
  deriving DecidableEq, Repr

/-- One threshold comparator, and the evaluation that takes place in the next fc (R282). -/
structure Cmp where
  set : Bool
  run : Nat
  next : Option CmpStep
  deriving DecidableEq, Repr

/-! ### CAN controllers (R373 to R399) -/

/-- A stored received frame (R380, R381). -/
structure RxFrame where
  seq : Nat
  filter : Nat
  default : Bool
  frame : CanFrame
  time : Nat
  deriving DecidableEq, Repr

/-- A TX buffer's frame (R383). -/
structure TxFrame where
  frame : CanFrame
  handle : Nat
  timed : Bool
  txTime : Nat
  pending : Bool
  begun : Bool
  /-- late limit reached during an attempt (R386) -/
  late : Bool
  order : Nat
  /-- device time at the sample point of its latest SOF (R382) -/
  sof : Nat
  deriving DecidableEq, Repr

/-- Phases of a controller (R376). -/
inductive CanPhase where
  | stopped | integrating | onBus | leaving
  deriving DecidableEq, Repr

/-- One CAN controller. -/
structure Can where
  phase : CanPhase
  /-- restricted operation in force (R377); a mode or bit-timing change waits for bus idle -/
  restricted : Bool
  changePending : Bool
  tec : Nat
  recv : Nat
  busOff : Bool
  recovering : Bool
  stuck : Bool
  ring : List RxFrame
  nextRxSeq : Nat
  overruns : Nat
  overrunNew : Nat
  ovrLimited : Bool
  tx : Vector (Option TxFrame) 32
  gens : Vector Nat 32
  txOrder : Nat
  /-- buffer whose attempt is in progress (R385), and the fabric cycle of its SOF's sample point while that lies ahead (R382) -/
  sending : Option (Fin 32)
  sofAt : Option Nat
  hits : Vector Nat 128
  /-- detection (R378): searching, candidate index 0 to 3, consecutive valid frames, DETECT_RESULT -/
  detecting : Bool
  candidate : Nat
  validRun : Nat
  detectResult : Nat
  /-- a lock and an expiry of CAN.DETECT_DWELL that the firmware has still to act on (R378, R397) -/
  lockDue : Bool
  dwellDue : Bool
  /-- gateway (R391 to R395): frames queued (record, arrived during an Eclipse), last accepted record and its answer -/
  gwQueue : List (List Byte × Bool)
  gwLast : Option (List Byte × List Byte)
  gwRefused : Nat
  /-- nominal bit timing in use on the bus -/
  timing : BitVec 32
  deriving DecidableEq, Repr

/-! ### Auxiliary PWM (R400 to R414) -/

/-- Run state of an output (R405): `withdrawn` is a write of 0 between AUX.LOAD_ALL and period 0. -/
inductive AuxRunState where
  | stopped | armed | starting | withdrawn | running | stopping
  deriving DecidableEq, Repr

/-- What drives a ball over one period, the trips apart (R407): AUX_SAFE in force, held by a trip that has been cleared, the
force, and the active interval of the PWM in 1/32 fc (empty without periods). -/
structure AuxDrive where
  rfxSafe : Bool
  tripHeld : Bool
  force : Nat
  on : Nat × Nat
  deriving DecidableEq, Repr

/-- One auxiliary output. -/
structure AuxOut where
  run : AuxRunState
  periodAct : Nat
  dutyAct : Nat
  /-- load register (period, duty): a copy that waits for a period start, and one made in this fc, which no start of this fc
  takes (R403) -/
  copy : Option (Nat × Nat)
  copyNew : Option (Nat × Nat)
  /-- force in force, a change that waits for the next period start, and one written in this fc (R406) -/
  force : Nat
  forceNext : Option Nat
  forceNew : Option Nat
  /-- AUX_SAFE in force (taken at a period boundary), and as asserted at the end of the fc before (R406) -/
  rfxSafe : Bool
  safeSeen : Bool
  /-- held by a trip until the next period start after its clear (R409) -/
  tripHeld : Bool
  /-- next period start on the output's grid, in 1/32 fc (R402, R405) -/
  nextAt : Nat
  /-- place of the latest period start, and what drove the ball before it (R401, R402) -/
  startAt : Nat
  before : AuxDrive
  deriving DecidableEq, Repr

/-- One trip input. -/
structure Trip where
  enabled : Bool
  /-- a write of AUX.TRIP_ENABLE and one of AUX.TRIP_CLEAR that act in the next fc (R408, R409) -/
  enableNext : Option Bool
  clearNext : Bool
  /-- the command that enabled it waits for its response, which comes before AUX_TRIP (R350) -/
  caused : Bool
  /-- level at the input in mV (R408) -/
  level : BitVec 16
  latch : Bool
  /-- raw trip and latch one and two fc behind, as the sources show them (R408) -/
  sync1 : Bool × Bool
  sync2 : Bool × Bool
  time : Nat
  deriving DecidableEq, Repr

/-! ### Mailboxes (R345 to R372) -/

/-- A command record accepted into the queue with its acceptance number (R347, R348). -/
structure Queued where
  seq : Nat
  /-- controller that a gateway command came from; none for the host -/
  via : Option CanIx
  record : List Byte
  /-- the record still agrees with the host CRC stored with it (R439) -/
  sound : Bool
  deriving DecidableEq, Repr

/-- A command that has begun and waits for tag echoes (R25, R161, R493). -/
structure Waiting where
  seq : Nat
  /-- controller that a gateway command came from; none for the host -/
  via : Option CanIx
  record : List Byte
  tags : List Byte
  /-- response to write once every tag is echoed -/
  result : Result
  detail : Nat
  data : List Byte
  /-- channels that enter DISABLED (CLEAR_FAULT, R161) or ROLLCALL (ENABLE of a latched channel, R496) on completion -/
  clears : List Ch
  starts : List Ch
  deriving DecidableEq, Repr

/-- A slot of the event ring: a record, or a loss marker with the EVT_SEQ of its first loss and the device times of
its losses, oldest first (R357). -/
inductive Slot where
  | event (e : Event)
  | marker (firstSeq : Nat) (times : List Nat)
  deriving DecidableEq, Repr

/-- Mailbox RAM and its counters. -/
structure Mailbox where
  queue : List Queued
  responses : List (List Byte)
  waiting : Option Waiting
  ring : List Slot
  /-- the newest slot is a marker to which further losses still count (R357) -/
  markerOpen : Bool
  /-- events hardware raised during an Eclipse, oldest first (R312) -/
  deferred : List Event
  /-- the firmware executes a command, and the events that it causes wait for its response (R350) -/
  holding : Bool
  held : List Event
  nextEvtSeq : Nat
  acceptSeq : Nat
  doneSeq : Nat
  eventsLost : Nat
  /-- result of the latest parameter write applied on its own (model's own field, assumption 9) -/
  itemResult : Result
  /-- units to which a parameter write has been applied in this fc, and writes of the firmware's own that wait for another one:
  parameter, instance, value (R367, model's own fields) -/
  written : List (Nat × Nat)
  later : List (Nat × Nat × Int)
  deriving DecidableEq, Repr

/-! ### Host port (R319 to R344) -/

/-- The frame in progress after its host CRC (R329): what its commit will do. -/
structure CurFrame where
  frame : HpFrame
  /-- reason it was rejected, or none when good (R329) -/
  reject : Option Nat
  duplicate : Bool
  result : Result
  /-- reply data as latched (R326, R328) -/
  reply : List Byte
  /-- status byte of the reply (R327) -/
  status : Byte
  /-- response records, ring slots and marker losses that the reply returned -/
  consume : Nat
  markerSeen : Nat
  deriving DecidableEq, Repr

/-- Record of the last new frame (R333). -/
structure Replay where
  op : Byte
  window : Byte
  offset : BitVec 16
  length : BitVec 16
  result : Result
  reply : List Byte
  deriving DecidableEq, Repr

/-- What the hardware shows of the device at the end of a fabric cycle, for the status byte and window 4 of a frame latched in the
next one (R328). -/
structure HpView where
  attn : Bool
  eclipsed : Bool
  fault : Bool
  free : Nat
  events : Nat
  started : Bool
  lost : Bool
  silent : Bool
  /-- HP.ECLIPSE and the device time (R336) -/
  eclipse : Nat
  time : Nat
  deriving DecidableEq, Repr

/-- Host-port hardware. -/
structure HostPort where
  /-- the device at the end of the fabric cycle before (R328) -/
  view : HpView
  cur : Option CurFrame
  lastAlive : Byte
  valid : Bool
  replay : Option Replay
  prevBad : Bool
  rejectCount : Nat
  rejectAlive : Byte
  rejectReason : Nat
  /-- HP.CTRL (R336) -/
  ctrl : BitVec 32
  /-- HP.STATUS SILENT (R342) -/
  silent : Bool
  /-- ATTN_CREDIT condition: a post has returned NO_CREDIT (R337) -/
  creditWanted : Bool
  /-- host-silence timer: runs, and fc since its last restart (R341) -/
  timerOn : Bool
  timer : Nat
  /-- the timer has run out in an fc in which no good commit restarted it, with the DEV.HOST_SILENCE_ACTION of that expiry (R341,
  R344) -/
  silenceDue : Option Nat
  silenceCount : Nat
  deriving DecidableEq, Repr

/-! ### Boot, firmware and Eclipse (R295 to R318) -/

/-- Life of the control die. -/
inductive Phase where
  /-- held in reset (R423, R426) -/
  | reset
  /-- boot ROM, window 0 answers (R296) -/
  | boot
  /-- firmware runs (R305) -/
  | runtime
  /-- deep standby (R429) -/
  | standby
  /-- debug port opening has ended the runtime (R448) -/
  | opened
  deriving DecidableEq, Repr

/-- STATE of BOOT_STATUS (R301). -/
inductive BootState where
  | ready | clearing | verifying | starting | failed
  deriving DecidableEq, Repr

/-- OTP contents (R299, R303, R445, R448). -/
structure Otp where
  variant : Variant
  serial : BitVec 64
  romVersion : BitVec 16
  floor : BitVec 16
  vendor0 : Option (BitVec 256)
  vendor1 : Option (BitVec 256)
  vendorRev0 : Bool
  vendorRev1 : Bool
  cust0 : Option (BitVec 256)
  cust1 : Option (BitVec 256)
  custRev0 : Bool
  custRev1 : Bool
  debug : Bool
  kill : Bool
  deviceKey : BitVec 256
  deriving DecidableEq, Repr

/-- The identity block's OTP-derived bytes as built at the last cold boot (R299, R445). -/
structure Ident where
  floor : BitVec 16
  keySlots : Byte
  cause : Nat
  debug : Bool
  deriving DecidableEq, Repr

/-- Boot ROM, image and Eclipse hold logic. -/
structure Boot where
  st : BootState
  fail : Nat
  lastFail : Nat
  page : Nat
  /-- staging area (R302): canonical list, an unlisted byte reads 0 -/
  staging : List Host.Cell
  ident : Ident
  imageHash : BitVec 256
  fwVersion : BitVec 32
  imageRollback : BitVec 16
  stagingError : Bool
  /-- Eclipse (R309 to R316) -/
  eclipse : Bool
  halted : Bool
  cause : Nat
  attempts : Nat
  result : Nat
  elapsed : Nat
  count : Nat
  /-- fc of the end of the latest Eclipse (R316) -/
  lastEnd : Option Nat
  expired : Bool
  expiries : Nat
  /-- an Eclipse with cause 6 follows the response (R309) -/
  testPending : Bool
  deriving DecidableEq, Repr

/-! ### Power, reset, standby, security, debug (R415 to R452) -/

/-- Standby entry (R428). -/
inductive Entering where
  | none
  /-- accepted, its response not yet written (R427) -/
  | asked
  | armed
  | unitsStopped
  deriving DecidableEq, Repr

/-- Power controller, reset controller and wake domain. -/
structure Power where
  vstby : Bool
  vcore : Bool
  vio : Bool
  vdda : Bool
  rootOk : Bool
  /-- RESET_N held low from outside, and guard cycles that the reset controller's own pulse has still to run (R420, R422) -/
  extLow : Bool
  pulseLeft : Nat
  /-- a cause of R423 asks for the reset controller's own pulse, once everything is qualified -/
  pulseDue : Bool
  /-- causes that arose since the last runtime start (R424), the first of them, and whether its guard cycle still runs -/
  arose : BitVec 6
  first : Option Nat
  guarding : Bool
  tripped : BitVec 3
  /-- DEV.RESET_CAUSE, DEV.RESET_DETAIL (R297, R436) -/
  cause : Nat
  detail : BitVec 16
  wakeLatch : Bool
  wakeLevel : Bool
  entering : Entering
  /-- VM above 6 V, per bank (R417) -/
  vmA : Bool
  vmB : Bool
  temp : Int
  /-- the auxiliary PWM domain, as the firmware switches it (R400, R430) -/
  auxDomain : Bool
  deriving DecidableEq, Repr

/-- Attestation, vault, OTP programming and debug port. -/
structure Security where
  vault : Vector (Option (BitVec 256)) 16
  mac : BitVec 256
  attestTime : Nat
  /-- an OTP operation is armed for the next command (R445) -/
  otpArmed : Bool
  otpStatus : Nat
  /-- the arm holds for the command in execution (R445) -/
  otpNow : Bool
  /-- a DEV.OTP_OP accepted and not yet burnt: operation (0 none), its item in the SET, and the value it burns -/
  otpOp : Nat
  otpItem : Nat
  otpValue : BitVec 256
  /-- fuse operations burnt since the part was made (model's own field, assumption 23) -/
  otpBurns : Nat
  /-- window 5: challenges drawn, ATTEMPTS, RESULT, request committed (KEY and SIG), R446 -/
  draws : Nat
  attempts : Nat
  dbgResult : Nat
  request : Option (List Byte)
  debugHalt : Bool
  jtag : Jtag
  eccCorrected : Nat
  deriving DecidableEq, Repr

/-! ### The whole block -/

structure State where
  /-- commands waiting, first in first out -/
  pending : List Instr
  phase : Phase
  /-- fabric cycles since the start of the cold boot (R42) -/
  fc : Nat
  /-- fabric cycle of the runtime start, from which frames are counted (R266) -/
  runFc : Nat
  /-- device time in ticks (R421) and the fabric cycles of the tick in progress less its share of the slew, in
  fc * 10^9 (R43) -/
  time : Nat
  timeFrac : Int
  /-- device time at the start of the filter engine's latest slot (R266, R279) -/
  slotTime : Nat
  /-- integration steps since runtime start (R48) -/
  istep : Nat
  /-- pulse sources active in this fc (R207) -/
  pulses : List Nat
  /-- parameter store: writable parameters whose value is not the Reset column's (R13, R366) -/
  params : List (Nat × Int)
  chans : Vector Channel 24
  pairs : Vector PairRecord 12
  groups : Vector Group 4
  banks : Vector Bank 2
  pd : PowerDie
  link : Link
  fbs : Vector Fb 24
  rules : Vector Rule 256
  /-- CLK_MOD edges since the boot (R235) and the first edges of recent lost 5-bit groups (R252) -/
  modClk : Nat
  /-- fc in which the last modulator slot came (R28) -/
  slotFc : Nat
  lostClks : List Nat
  mods : Vector Modulator 16
  entries : Vector Entry 256
  gbs : Vector Gb 256
  flts : Vector Flt 32
  cmps : Vector Cmp 128
  cans : Vector Can 2
  auxs : Vector AuxOut 16
  trips : Vector Trip 4
  mbx : Mailbox
  hp : HostPort
  boot : Boot
  power : Power
  sec : Security
  otp : Otp
  deriving DecidableEq, Repr

/-! ### Reset values -/

def Motion.init : Motion :=
  { pos := 0, vel := 0, acc := 0, carry := 0, theta := 0, target := 0, mode := .none, velCmd := 0, velReported := none
    followOffset := 0, followPos := 0, followLast := 0, armed := none, held := [], stopCause := .velZero, stopNew := false
    stopFault := false, disablePending := false, rampReq := none, immReq := none, limP := false, limN := false
    latchP := false, latchN := false, capP := false, capN := false, limitPosP := 0, limitPosN := 0
    vlimitRfx := 1310720000 }

def Causes.init : Causes :=
  ⟨false, false, false, false, false, false, false, false, false, false, false, false⟩

def SetPoint.init : SetPoint := ⟨0, 0, 0, false, DutyEntry.off⟩

def SatCount.init : SatCount := ⟨0, 0, false, false, 0, 0, 0, 0⟩

def Coil.init : Coil :=
  { rung := 1, prevAngle := 0, lastPos := 0, td := 0, tq := 0, cur := 0, reduced := false, rampDone := 0, next := SetPoint.init
    now := SetPoint.init, prev := SetPoint.init, prev2 := SetPoint.init
    inp := ⟨0, 0, 0, 0, 0, 0, SatCount.init, (0, 0, 0, 0)⟩, sat := false, satV := false, deficit1 := false
    deficit2 := false, count := SatCount.init }

def RcTrack.init : RcTrack := ⟨0, 0, 0, 0, 0, 0, 0, none, 0⟩

def RcRun.init : RcRun := ⟨0, 0, 0, 0, RcTrack.init, RcTrack.init⟩

def Estim.init : Estim :=
  { hist := [], lastI := (0, 0), valid := false, blank := 0, missedNow := false, missedPrev := false, loadAngle := 0
    emf := 0, twinK := 0, angleCount := 0, emfCount := 0, fe := 0, feOffset := 0, feAcc := 0, feLast := 0, feCount := 0
    feZero := 0, feSuspended := false, listening := false, samples := [], catchResult := 0, catchSpeed := 0
    catchAngle := 0, rcResult := 0, rcPassed := false, rc := RcRun.init, rcWait := none, rcTwin := false, rcMates := 0, joint := false, keSeen := 0, keGood := 0, keSum := 0 }

def Channel.init : Channel :=
  { state := .disabled, fetsOff := true, motion := Motion.init, causes := Causes.init, coil := Coil.init
    est := Estim.init, solo := false, rejoin := .none, psFault := 0, parkCause := 0, code1 := 0, code2 := 0
    bankSeen := false, policy := false, left := false, powered := false, slice := false }

def PairRecord.init : PairRecord :=
  { start := Motion.init, startState := .disabled, startStep := 0, changes := [], log := [], overflow := false
    shadow := Motion.init, stopping := false, unmatched := [] }

def Group.init : Group := ⟨false, false, [], [], 0, 0, 0, 0, 0, false⟩

def Bank.init : Bank :=
  { period := 9600, index := 0, timebase := 0, sampleTag := 0, load := false, frame := 0, policyActive := false, vm := 0, status := 0, missedFrames := 0
    crcErrors := 0, chopLog := [], chopMax := 200, chopReported := false }

def PdChan.init : PdChan :=
  { entry := DutyEntry.off, shadow := DutyEntry.off, shadowOld := DutyEntry.off, hold := 0, softIgnore := false, sc := 0, inst := false, gate := false
    park := false, bankOff := false, bankUv := false, offFc := none, checkFc := none, slice := false, turnOff := .none, parkHold := false, code1 := 0, code2 := 0 }

def PdBank.init : PdBank :=
  { load := false, frame := 0, came := 0, loadOld := false, frameOld := 0, cameOld := 0, sampleTag := 0, uv := false
    ov := false, chop := false, safe := false, missed := false, pump := false, vexc := false }

def MuxSeq.init : MuxSeq := ⟨false, .idle, 0, 0, 0, 0, false⟩

def PowerDie.init (running : Bool) : PowerDie :=
  { mux := Vector.replicate 16 MuxSeq.init, linkErrors := 0, running := running, standby := false, units := false, downSeq := 0, chans := Vector.replicate 24 PdChan.init, banks := Vector.replicate 2 PdBank.init
    ot := false, crcErr := 0, applied := [], ack := [0, 0, 0, 0], config := [], upSeq := 0 }

def Link.init : Link :=
  { txOn := false, seq := 0, rxSeq := 0, cfg := [], backlog := [], lastTag := 0, cooling := [], goodDown := 0, goodUp := 0, supervised := false
    lost := false, softOff := 0, park := 0, hold := 0, answers := false, startedOnce := false, upPending := false }

def Fb.init : Fb :=
  { running := false, startNext := none, trustNext := false, cmp0 := 0, cmp1 := 0, cmpEnable := 0, count := 0, lineA := false, lineB := false, lineI := false, hallOk := false, lastEdge := 0
    haveEdge := false, counted := false, neg := false, periods := [], lineShort := false, lineOpen := false, frameLate := false
    checkErr := false, standstill := false, suspect := true, indexSeen := false, dirChanged := false, indexPos := 0
    indexInterval := 0, errCount := 0, trustRun := 0, toothRef := none, toothFails := 0, firstPeriod := true, latched := 0, latchFc := none
    absPos := 0, absRaw := 0, absSeen := false, lastCal := none, slowBits := [], sentSlow := 0, ssiCentres := 0
    ssiBusy := false, ssiFirst := true, ssiFrom := 0, occ := [0, 0, 0, 0, 0], limited := [false, false, false, false, false] }

def Rule.init : Rule :=
  { enabled := false, enableNext := none, releaseNext := false, srcPrev := 0, memPrev := 0, capture := 0, fireCount := 0, fireTime := 0, armed := false
    asserted := 0, auxAsserted := false, assertedPrev := 0, overridden := false, caused := false, due := false, members := 0, window := false
    gathered := 0, gatherTime := 0, gatherCap := 0 }

def Sinc.init (order : Nat) : Sinc := ⟨List.replicate order 0, List.replicate order 0, 0, 0⟩

def Modulator.init : Modulator :=
  { running := false, stopping := false, inPass := false, due := [], entry := 0, discard := false, powered := false, wait := 0
    sinc := Sinc.init 0, done := 0, ended := false, out := [], pwmEvents := 0, nextTimer := 0, overrun := 0, overrunNew := 0, lost := 0, lostNew := 0, ovrLimited := false, lostLimited := false
    runLen := 0, lastBit := false, unstable := [], paired := false }

def Entry.init : Entry := ⟨none, 0, none⟩

def GbAcc.init : GbAcc := ⟨0, 0, 0, 0, 0, 0⟩

def Gb.init : Gb := ⟨false, false, 0, 0, none, GbAcc.init, none, true, 0⟩

def Flt.init : Flt :=
  { running := false, stopReq := none, firstSlot := 0, page1 := false, swapPending := none, inputs := [], fresh := 0, lastIn := 0
    lastOver := false, lastInFc := 0, biquad := [], fir := [], primed := false, settleLeft := 0, lostLeft := 0
    heldRun := 0, starved := false, figures := none, rsRatio := 0, rsLag := 0, settleInForce := 0
    timed := false, retimeDue := false, delayNum := 0, delayDen := 1, lastWait := 0, waitVaries := false, lostOut := false, heldOut := false
    underrun := 0, dropped := 0, saturations := 0, output := 0, written := [] }

def Cmp.init : Cmp := ⟨false, 0, none⟩

def Can.init : Can :=
  { phase := .stopped, restricted := true, changePending := false, tec := 0, recv := 0, busOff := false, recovering := false
    stuck := false, ring := [], nextRxSeq := 1, overruns := 0, overrunNew := 0, ovrLimited := false
    tx := Vector.replicate 32 none, gens := Vector.replicate 32 0, txOrder := 0, sending := none, sofAt := none
    hits := Vector.replicate 128 0, detecting := false, candidate := 0, validRun := 0, detectResult := 0, lockDue := false, dwellDue := false, gwQueue := []
    gwLast := none, gwRefused := 0, timing := 0x3E7E3E00 }

def AuxDrive.init : AuxDrive := ⟨false, false, 0, (0, 0)⟩

def AuxOut.init : AuxOut :=
  { run := .stopped, periodAct := 307200, dutyAct := 0, copy := none, copyNew := none, force := 0, forceNext := none
    forceNew := none, rfxSafe := false, safeSeen := false, tripHeld := false, nextAt := 0, startAt := 0, before := AuxDrive.init }

def Trip.init : Trip :=
  { enabled := false, enableNext := none, clearNext := false, caused := false, level := 0, latch := false
    sync1 := (false, false), sync2 := (false, false), time := 0 }

def Mailbox.init : Mailbox :=
  { queue := [], responses := [], waiting := none, ring := [], markerOpen := false, deferred := [], holding := false, held := [], nextEvtSeq := 1
    acceptSeq := 0, doneSeq := 0, eventsLost := 0, itemResult := .ok, written := [], later := [] }

def HpView.init : HpView := ⟨false, false, true, 0, 0, false, false, false, 0, 0⟩

def HostPort.init : HostPort :=
  { view := HpView.init, cur := none, lastAlive := 0, valid := false, replay := none, prevBad := false, rejectCount := 0, rejectAlive := 0
    rejectReason := 0, ctrl := 0x30, silent := false, creditWanted := false, timerOn := false, timer := 0
    silenceDue := none, silenceCount := 0 }

/-- OTP of the part the model starts with (assumption 2). -/
def Otp.init : Otp :=
  { variant := .clv24X, serial := 0, romVersion := 0, floor := 0, vendor0 := some 0, vendor1 := none, vendorRev0 := false
    vendorRev1 := false, cust0 := none, cust1 := none, custRev0 := false, custRev1 := false, debug := false, kill := false
    deviceKey := 0 }

def Boot.init : Boot :=
  { st := .ready, fail := 0, lastFail := 0, page := 0, staging := [], ident := ⟨0, 1, 0, false⟩, imageHash := 0
    fwVersion := 0, imageRollback := 0, stagingError := false, eclipse := false, halted := false, cause := 0, attempts := 0
    result := 0, elapsed := 0, count := 0, lastEnd := none, expired := false, expiries := 0, testPending := false }

def Power.init : Power :=
  { vstby := true, vcore := true, vio := true, vdda := true, rootOk := true, extLow := false, pulseLeft := 0, pulseDue := false, arose := 1, first := some 0, guarding := false
    tripped := 0, cause := 0, detail := 1, wakeLatch := false, wakeLevel := false, entering := .none, vmA := true
    vmB := true, temp := 0, auxDomain := false }

def Security.init : Security :=
  { vault := Vector.replicate 16 none, mac := 0, attestTime := 0, otpArmed := false, otpStatus := 0, otpNow := false, otpOp := 0, otpItem := 0,
    otpValue := 0, otpBurns := 0, draws := 1
    attempts := 0, dbgResult := 0, request := none, debugHalt := false, jtag := .idcode, eccCorrected := 0 }

/-- The block right after a cold boot from power-up: boot ROM ready, window 0 answers, power die held off, no
firmware loaded (R295, R296, R301, R425). -/
def State.reset : State :=
  { pending := [], phase := .boot, fc := 0, runFc := 0, time := 0, timeFrac := 0, slotTime := 0, istep := 0, pulses := [], params := []
    chans := Vector.replicate 24 Channel.init, pairs := Vector.replicate 12 PairRecord.init
    groups := Vector.replicate 4 Group.init, banks := Vector.replicate 2 Bank.init, pd := PowerDie.init true
    link := Link.init, fbs := Vector.replicate 24 Fb.init, rules := Vector.replicate 256 Rule.init, modClk := 0
    slotFc := 0, lostClks := [], mods := Vector.replicate 16 Modulator.init, entries := Vector.replicate 256 Entry.init
    gbs := Vector.replicate 256 Gb.init, flts := Vector.replicate 32 Flt.init, cmps := Vector.replicate 128 Cmp.init
    cans := Vector.replicate 2 Can.init, auxs := Vector.replicate 16 AuxOut.init, trips := Vector.replicate 4 Trip.init
    mbx := Mailbox.init, hp := HostPort.init, boot := Boot.init, power := Power.init, sec := Security.init
    otp := Otp.init }

end Sys2Proof.Machine
end

