-- ==== Sys2Proof/Machine/Bytes.lean ====
section
/-! DEFINITION. Byte order, sign extension, saturation, masks and sparse maps, shared by every unit. -/

namespace Sys2Proof.Machine

/-- `n` little-endian bytes of a number (R2: multi-byte fields are little-endian). -/
def leBytes : Nat → Nat → List Byte
  | 0, _ => []
  | n + 1, v => BitVec.ofNat 8 v :: leBytes n (v / 256)

/-- The number that little-endian bytes spell. -/
def leNat : List Byte → Nat
  | [] => 0
  | b :: bs => b.toNat + 256 * leNat bs

/-- The number that big-endian bytes spell. -/
def beNat (bs : List Byte) : Nat := bs.foldl (fun a b => a * 256 + b.toNat) 0

/-- `n` big-endian bytes of a number. -/
def beBytes (n v : Nat) : List Byte := (leBytes n v).reverse

/-- Byte `i`, 0 beyond the end. -/
def byteAt (bs : List Byte) (i : Nat) : Byte := bs.getD i 0

/-- `n` bytes from offset `i`. -/
def slice (bs : List Byte) (i n : Nat) : List Byte := (bs.drop i).take n

/-- Little-endian field of `n` bytes at offset `i`. -/
def field (bs : List Byte) (i n : Nat) : Nat := leNat (slice bs i n)

/-- All bytes of a field are zero. -/
def zeroField (bs : List Byte) (i n : Nat) : Bool := (slice bs i n).all (· == 0#8)

/-- `bs` cut or filled with zeros to `n` bytes. -/
def padTo (n : Nat) (bs : List Byte) : List Byte := (bs ++ List.replicate (n - bs.length) 0#8).take n

/-- Two's complement reading of the low `n` bits. -/
def sint (n v : Nat) : Int :=
  let w := v % 2 ^ n
  if 2 * w < 2 ^ n then (w : Int) else (w : Int) - 2 ^ n

/-- The low `n` bits of an integer. -/
def uint (n : Nat) (v : Int) : Nat := (v % 2 ^ n).toNat

/-- Saturation to a range. -/
def clamp (lo hi x : Int) : Int := if x < lo then lo else if hi < x then hi else x

/-- A quantity in the field that reports it; a free value where it lies outside the field's type (assumption 24). -/
def fitField (id : Nat) (lo hi v : Int) : Int := if lo ≤ v ∧ v ≤ hi then v else Config.unstatedField id v

/-- Saturating count of an `n`-bit counter. -/
def satAdd (max a b : Nat) : Nat := min max (a + b)

/-- Nearest integer to a / b for b > 0, ties away from zero. -/
def divNear (a b : Int) : Int := if 0 ≤ a then (2 * a + b) / (2 * b) else -((2 * (-a) + b) / (2 * b))

/-- Bit as a number. -/
def b2n (b : Bool) : Nat := if b then 1 else 0

/-- Bit `k` of a mask over channels. -/
def maskBit (m : BitVec 24) (c : Ch) : Bool := m.getLsbD c.val

/-- Channels of a mask, in instance order. -/
def maskChs (m : BitVec 24) : List Ch := (List.finRange 24).filter fun c => maskBit m c

/-- Mask of the channels for which `p` holds. -/
def maskWhere (p : Ch → Bool) : BitVec 24 :=
  (List.finRange 24).foldl (fun m c => if p c then m ||| BitVec.ofNat 24 (2 ^ c.val) else m) 0

/-- Mask of one channel. -/
def chBit (c : Ch) : BitVec 24 := BitVec.ofNat 24 (2 ^ c.val)

/-- One element of a fixed array replaced by a function of it. -/
def upd {α : Type} {n : Nat} (v : Vector α n) (i : Fin n) (f : α → α) : Vector α n := v.set i (f v[i])

/-- Result code byte (R365). -/
def Result.code : Result → Byte
  | .ok => 0x00
  | .queued => 0x01
  | .badOpcode => 0x10
  | .badParamId => 0x11
  | .outOfRange => 0x12
  | .unitAbsent => 0x13
  | .busyRunning => 0x14
  | .notOwner => 0x15
  | .noCredit => 0x16
  | .wrongState => 0x17
  | .calReject => 0x18
  | .faultLatched => 0x19
  | .eclipseRetry => 0x1A
  | .duplicate => 0x1B

/-! ### Sparse maps in canonical form: keys strictly rising, no entry that holds the default -/

/-- Value under a key; `d` where the map lists none. -/
def Sparse.get {α : Type} (d : α) : List (Nat × α) → Nat → α
  | [], _ => d
  | (k', x) :: m, k => if k = k' then x else Sparse.get d m k

/-- The map without a key. -/
def Sparse.del {α : Type} : List (Nat × α) → Nat → List (Nat × α)
  | [], _ => []
  | (k', x) :: m, k => if k = k' then m else (k', x) :: Sparse.del m k

/-- The map with a key placed in order. -/
def Sparse.ins {α : Type} : List (Nat × α) → Nat → α → List (Nat × α)
  | [], k, v => [(k, v)]
  | (k', x) :: m, k, v =>
    if k < k' then (k, v) :: (k', x) :: m
    else if k = k' then (k, v) :: m
    else (k', x) :: Sparse.ins m k v

/-- A write keeps the canonical form: a key that takes the default is removed. -/
def Sparse.put {α : Type} [DecidableEq α] (d : α) (m : List (Nat × α)) (k : Nat) (v : α) : List (Nat × α) :=
  if v = d then Sparse.del m k else Sparse.ins m k v

/-- Every key is above `k`, keys rise, and no value is its key's default. -/
def Sparse.wfFrom {α : Type} [DecidableEq α] (d : Nat → α) : Option Nat → List (Nat × α) → Bool
  | _, [] => true
  | lo, (k, x) :: m =>
    (match lo with
      | none => true
      | some l => decide (l < k)) && decide (x ≠ d k) && Sparse.wfFrom d (some k) m

/-- The canonical form. -/
def Sparse.wf {α : Type} [DecidableEq α] (d : Nat → α) (m : List (Nat × α)) : Bool := Sparse.wfFrom d none m

/-! ### Staging area (R302): container bytes, an unlisted byte reads 0 -/

/-- One byte of the staging area. -/
def stagingByte (m : List Host.Cell) (a : Nat) : Byte := Sparse.get 0#8 m a

/-- One byte stored. -/
def stagingPut (m : List Host.Cell) (a : Nat) (b : Byte) : List Host.Cell := Sparse.put 0#8 m a b

/-- Bytes stored from an address upwards. -/
def stagingWrite (m : List Host.Cell) : Nat → List Byte → List Host.Cell
  | _, [] => m
  | a, b :: bs => stagingWrite (stagingPut m a b) (a + 1) bs

/-- `n` bytes read from an address upwards. -/
def stagingRead (m : List Host.Cell) (a n : Nat) : List Byte := (List.range n).map fun i => stagingByte m (a + i)

/-- The canonical form of the staging area. -/
def stagingWf (m : List Host.Cell) : Bool := Sparse.wf (fun _ => 0#8) m

end Sys2Proof.Machine
end

