-- ==== Sys2Proof/Machine/Crypto.lean ====
section
/-! DEFINITION. Checks and keys: CRC-32C (R329), CRC-8 (R27), the CRCs of SENT and serial frames (R190, R191),
SHA-256, HMAC and ECDSA over P-256 (R303, R443, R447). The manual names the standards; their arithmetic is PRESUMED
(assumption 12). -/

namespace Sys2Proof.Machine

/-! ### CRC -/

/-- One byte into a reflected 32-bit CRC of polynomial 0x1EDC6F41 (reflected 0x82F63B78), R329. -/
def crc32cByte (crc : BitVec 32) (b : Byte) : BitVec 32 :=
  (List.range 8).foldl (fun c _ => if c.getLsbD 0 then (c >>> 1) ^^^ 0x82F63B78#32 else c >>> 1)
    (crc ^^^ b.setWidth 32)

/-- CRC-32C: initial value and final XOR 0xFFFFFFFF (R329). -/
def crc32c (bs : List Byte) : BitVec 32 := bs.foldl crc32cByte 0xFFFFFFFF#32 ^^^ 0xFFFFFFFF#32

/-- A bitwise CRC of width `w`, most significant bit first. -/
def crcBits (w poly init : Nat) (bits : List Bool) : Nat :=
  bits.foldl (fun c b =>
    let top := (c / 2 ^ (w - 1)) % 2 == 1
    let c' := (2 * c) % 2 ^ w
    if top != b then c' ^^^ poly else c') init

/-- Bits of a number, most significant first. -/
def msbBits (n v : Nat) : List Bool := (List.range n).reverse.map fun i => v.testBit i

/-- CRC-8 of a modulator slot: polynomial 0x2F, initial value 0xFF, over 80 bits taken as ten bytes in ascending
order, each most significant bit first (R27; bit order PRESUMED, assumption 12). -/
def crc8Slot (bits : BitVec 80) : Nat :=
  crcBits 8 0x2F 0xFF ((List.range 10).flatMap fun i => msbBits 8 ((bits.toNat / 2 ^ (8 * i)) % 256))

/-- A bitwise CRC of width `w` that shifts each message bit in at the bottom, most significant bit first. -/
def crcShiftIn (w poly init : Nat) (bits : List Bool) : Nat :=
  bits.foldl (fun c b =>
    let c' := 2 * c % 2 ^ w + b2n b
    if c.testBit (w - 1) then c' ^^^ poly else c') init

/-- SENT CRC-4 over nibbles: polynomial 0xD, seed 5, nibbles shifted in; `recommended` shifts in one zero nibble more
(R190, SAE J2716, assumption 12). -/
def sentCrc4 (recommended : Bool) (ns : List (BitVec 4)) : Nat :=
  crcShiftIn 4 0xD 5 ((ns.map BitVec.toNat ++ (if recommended then [0] else [])).flatMap fun n => msbBits 4 n)

/-! ### SHA-256 -/

/-- The largest `r` below 2^n with r^k <= v, bit by bit from the top. -/
def rootDigits (k v : Nat) : Nat → Nat → Nat
  | 0, r => r
  | n + 1, r => rootDigits k v n (if (r + 2 ^ n) ^ k ≤ v then r + 2 ^ n else r)

/-- The first 64 primes. -/
def firstPrimes : List Nat :=
  (List.range 312).filter fun n => 2 ≤ n && (List.range 16).all fun d => n ≤ d + 2 || n % (d + 2) != 0

/-- First 32 fraction bits of the `k`-th root of a prime: the standard's constants. -/
def rootFraction (k p : Nat) : BitVec 32 := BitVec.ofNat 32 (rootDigits k (p * 2 ^ (32 * k)) 40 0)

/-- XOR of a word rotated right by each amount. -/
def xorRotations (x : BitVec 32) (by_ : List Nat) : BitVec 32 := by_.foldl (fun y n => y ^^^ x.rotateRight n) 0

/-- One round on the eight working words, with the round's constant and message word added up in `kw`. -/
def shaRound (q : List (BitVec 32)) (kw : BitVec 32) : List (BitVec 32) :=
  match q with
  | [a, b, c, d, e, f, g, h] =>
    let picked := g ^^^ (e &&& (f ^^^ g))
    let common := (a &&& (b ||| c)) ||| (b &&& c)
    let into := kw + h + picked + xorRotations e [6, 11, 25]
    [into + common + xorRotations a [2, 13, 22], a, b, c, d + into, e, f, g]
  | _ => q

/-- The 16 message words in use, moved on by one: the oldest leaves, the next one enters. -/
def shaWindow (w : List (BitVec 32)) : List (BitVec 32) :=
  let at_ := fun i : Nat => w.getD i 0
  let small := fun (x : BitVec 32) (m n k : Nat) => xorRotations x [m, n] ^^^ x >>> k
  w.drop 1 ++ [at_ 0 + at_ 9 + small (at_ 1) 7 18 3 + small (at_ 14) 17 19 10]

/-- The rounds with the constants `ks`, from a window of message words. -/
def shaRounds : List (BitVec 32) → List (BitVec 32) → List (BitVec 32) → List (BitVec 32)
  | [], _, q => q
  | k :: ks, w, q => shaRounds ks (shaWindow w) (shaRound q (k + w.headD 0))

/-- One block of 64 bytes into the digest. -/
def shaBlock (q : List (BitVec 32)) (block : List Byte) : List (BitVec 32) :=
  let words := (List.range 16).map fun i => BitVec.ofNat 32 (beNat (slice block (4 * i) 4))
  List.zipWith (· + ·) q (shaRounds (firstPrimes.map (rootFraction 3)) words q)

/-- Message length in blocks once the end mark and the bit count are added. -/
def shaCount (len : Nat) : Nat := (len + 72) / 64

/-- The message with its end mark, filled up with zeros, and the bit count at the very end. -/
def shaPad (bs : List Byte) : List Byte :=
  padTo (64 * shaCount bs.length - 8) (bs ++ [0x80#8]) ++ beBytes 8 (8 * bs.length)

def shaBlocks : Nat → List (BitVec 32) → List Byte → List (BitVec 32)
  | 0, q, _ => q
  | n + 1, q, bs => shaBlocks n (shaBlock q (bs.take 64)) (bs.drop 64)

/-- SHA-256 as 32 bytes. -/
def sha256 (bs : List Byte) : List Byte :=
  (shaBlocks (shaCount bs.length) ((firstPrimes.take 8).map (rootFraction 2)) (shaPad bs)).flatMap fun w => beBytes 4 w.toNat

/-- SHA-256 as one number, first byte most significant. -/
def sha256Word (bs : List Byte) : BitVec 256 := BitVec.ofNat 256 (beNat (sha256 bs))

/-- HMAC-SHA-256 with a 32-byte key (R443). -/
def hmac256 (key msg : List Byte) : List Byte :=
  let k := padTo 64 key
  sha256 (k.map (· ^^^ 0x5C#8) ++ sha256 (k.map (· ^^^ 0x36#8) ++ msg))

/-! ### ECDSA over P-256 -/

def p256P : Nat := 2 ^ 256 - 2 ^ 224 + 2 ^ 192 + 2 ^ 96 - 1
def p256N : Nat := 0xffffffff00000000ffffffffffffffffbce6faada7179e84f3b9cac2fc632551
def p256B : Nat := 0x5ac635d8aa3a93e7b3ebbd55769886bc651d06b0cc53b0f63bce3c3e27d2604b
/-- x^e mod m over the lowest `n` bits of e. -/
def powMod (m : Nat) : Nat → Nat → Nat → Nat
  | 0, _, _ => 1 % m
  | n + 1, x, e =>
    let h := powMod m n (x * x % m) (e / 2)
    if e % 2 == 1 then h * x % m else h

/-- Inverse modulo a prime. -/
def invMod (m x : Nat) : Nat := powMod m 256 (x % m) (m - 2)

/-- A point of the curve as X / Z^2, Y / Z^3; Z = 0 is the point at infinity. -/
structure EcPoint where
  x : Nat
  y : Nat
  z : Nat
  deriving DecidableEq, Repr

def EcPoint.infinity : EcPoint := ⟨1, 1, 0⟩

def p256G : EcPoint :=
  ⟨0x6b17d1f2e12c4247f8bce6e563a440f277037d812deb33a0f4a13945d898c296,
   0x4fe342e2fe1a7f9b8ee7eb4a7c0f9e162bce33576b315ececbb6406837bf51f5, 1⟩

/-- Difference modulo the prime of the field. -/
def subP (a b : Nat) : Nat := (a + (p256P - b % p256P)) % p256P

/-- Twice a point. -/
def EcPoint.double (q : EcPoint) : EcPoint :=
  let m := p256P
  let zz := q.z * q.z % m
  let yy := q.y * q.y % m
  let b := 4 * q.x * yy % m
  let a := 3 * subP q.x zz * (q.x + zz) % m
  let x := subP (a * a) (2 * b)
  ⟨x, subP (a * subP b x) (8 * yy * yy), 2 * q.y * q.z % m⟩

/-- Sum of two points. -/
def EcPoint.add (q t : EcPoint) : EcPoint :=
  if q.z == 0 then t
  else if t.z == 0 then q
  else
    let m := p256P
    let zq := q.z * q.z % m
    let zt := t.z * t.z % m
    let u := q.x * zt % m
    let h := subP (t.x * zq) u
    let s := q.y * zt * t.z % m
    let r := subP (t.y * zq * q.z) s
    if h == 0 then (if r == 0 then q.double else EcPoint.infinity)
    else
      let hh := h * h % m
      let v := u * hh % m
      let x := subP (r * r) (hh * h + 2 * v)
      ⟨x, subP (r * subP v x) (s * (hh * h % m)), h * q.z * t.z % m⟩

/-- Multiple of a point over the lowest `n` bits of `k`. -/
def ecMul : Nat → Nat → EcPoint → EcPoint
  | 0, _, _ => EcPoint.infinity
  | n + 1, k, p =>
    let h := ecMul n (k / 2) p.double
    if k % 2 == 1 then h.add p else h

/-- The 64 bytes X, Y name a point of the curve. -/
def ecOnCurve (x y : Nat) : Bool :=
  x < p256P && y < p256P && (x * x * x + (p256P - 3) * x + p256B) % p256P == y * y % p256P

/-- ECDSA P-256 verification of a 64-byte signature (r then s) with a 64-byte key (X then Y) over a SHA-256 (R303). -/
def ecdsaVerify (key sig hash : List Byte) : Bool :=
  let x := beNat (slice key 0 32)
  let y := beNat (slice key 32 32)
  let r := beNat (slice sig 0 32)
  let s := beNat (slice sig 32 32)
  let z := beNat hash
  ecOnCurve x y && 0 < r && r < p256N && 0 < s && s < p256N &&
    (let w := invMod p256N s
     let q := (ecMul 256 (z * w % p256N) p256G).add (ecMul 256 (r * w % p256N) ⟨x, y, 1⟩)
     q.z != 0 && q.x * invMod p256P (q.z * q.z) % p256P % p256N == r)

end Sys2Proof.Machine
end

