-- ==== Sys2Proof/Machine/Params.lean ====
section
/-! DEFINITION. The parameter tables (R89 to R91, R118, R119, R141, R176, R177, R204, R231, R262, R264, R291 to R293,
R318, R344, R372, R398, R413, R436, R452): identifiers, classes, types, ranges and reset values as listed there. -/

namespace Sys2Proof.Machine

/-- Range column of a parameter table. -/
inductive PSpec where
  | readOnly
  | range (lo hi step : Int)
  | zeroOr (lo hi : Int)
  | among (vs : List Int)
  | nonzero
  deriving DecidableEq, Repr

/-- One row: first and last ID, class, type and range, reset value. -/
structure PRow where
  lo : Nat
  hi : Nat
  stop : Bool
  width : Nat
  signed : Bool
  spec : PSpec
  reset : Int
  deriving DecidableEq, Repr

/-! ### Identifiers -/

abbrev Pid.CH_STATE : Nat := 0x2000
abbrev Pid.CH_POSITION : Nat := 0x2001
abbrev Pid.CH_VELOCITY : Nat := 0x2002
abbrev Pid.CH_ACCEL : Nat := 0x2003
abbrev Pid.CH_TARGET : Nat := 0x2004
abbrev Pid.CH_MODE : Nat := 0x2005
abbrev Pid.CH_ARMED : Nat := 0x2006
abbrev Pid.CH_VMAX : Nat := 0x2010
abbrev Pid.CH_AMAX : Nat := 0x2011
abbrev Pid.CH_DMAX : Nat := 0x2012
abbrev Pid.CH_JMAX : Nat := 0x2013
abbrev Pid.CH_VSTART : Nat := 0x2014
abbrev Pid.CH_VSTOP : Nat := 0x2015
abbrev Pid.CH_VLIMIT_RFX : Nat := 0x2016
abbrev Pid.CH_CMD_SOURCE : Nat := 0x2020
abbrev Pid.CH_LIMIT_MODE : Nat := 0x2021
abbrev Pid.CH_LIMIT_POL : Nat := 0x2022
abbrev Pid.CH_LIMIT_DEBOUNCE : Nat := 0x2023
abbrev Pid.CH_LIMIT_LATCH : Nat := 0x2024
abbrev Pid.CH_LIMIT_POS_P : Nat := 0x2025
abbrev Pid.CH_LIMIT_POS_N : Nat := 0x2026
abbrev Pid.CH_INTERP_GROUP : Nat := 0x2030
abbrev Pid.CH_I_RUN : Nat := 0x2100
abbrev Pid.CH_HOLD_PCT : Nat := 0x2101
abbrev Pid.CH_STANDSTILL_DELAY : Nat := 0x2102
abbrev Pid.CH_HOLD_RAMP : Nat := 0x2103
abbrev Pid.CH_COIL_POLICY : Nat := 0x2104
abbrev Pid.CH_DIR_INVERT : Nat := 0x2105
abbrev Pid.CH_ANGLE : Nat := 0x2106
abbrev Pid.CH_LADDER_RUNG : Nat := 0x2107
abbrev Pid.CH_LADDER_T1 : Nat := 0x2110
abbrev Pid.CH_LADDER_T2 : Nat := 0x2111
abbrev Pid.CH_LADDER_T3 : Nat := 0x2112
abbrev Pid.CH_LADDER_T4 : Nat := 0x2113
abbrev Pid.CH_LADDER_T5 : Nat := 0x2114
abbrev Pid.CH_LADDER_T6 : Nat := 0x2115
abbrev Pid.CH_LADDER_HYST : Nat := 0x2116
abbrev Pid.CH_LADDER_MAX : Nat := 0x2117
abbrev Pid.CH_MOTOR_R : Nat := 0x2120
abbrev Pid.CH_MOTOR_L : Nat := 0x2121
abbrev Pid.CH_MOTOR_KE : Nat := 0x2122
abbrev Pid.CH_KE_LEARN : Nat := 0x2123
abbrev Pid.CH_RC_RESULT : Nat := 0x2124
abbrev Pid.CH_RC_EXPECT_R : Nat := 0x2125
abbrev Pid.CH_RC_EXPECT_L : Nat := 0x2126
abbrev Pid.CH_RC_TOL_PCT : Nat := 0x2127
abbrev Pid.CH_RC_L_MIN : Nat := 0x2128
abbrev Pid.CH_TWIN : Nat := 0x2130
abbrev Pid.CH_TWIN_SOLO_PCT : Nat := 0x2131
abbrev Pid.CH_REJOIN_RAMP : Nat := 0x2132
abbrev Pid.CH_TWIN_STATE : Nat := 0x2133
abbrev Pid.CH_VSAT_PCT : Nat := 0x2140
abbrev Pid.CH_SAT_PERIODS : Nat := 0x2141
abbrev Pid.CH_SAT_STATUS : Nat := 0x2142
abbrev Pid.CH_TRIM_MAX_PCT : Nat := 0x2143
abbrev Pid.CH_TRIM_D : Nat := 0x2144
abbrev Pid.CH_TRIM_Q : Nat := 0x2145
abbrev Pid.BANK_PWM_FREQ : Nat := 0x1100
abbrev Pid.BANK_PWM_PERIOD_FC : Nat := 0x1101
abbrev Pid.BANK_IDLE_DELAY : Nat := 0x1102
abbrev Pid.BANK_POLICY_ACTIVE : Nat := 0x1103
abbrev Pid.CH_START_MODE : Nat := 0x2200
abbrev Pid.CH_CATCH_MIN : Nat := 0x2201
abbrev Pid.CH_CATCH_EMF_MIN : Nat := 0x2202
abbrev Pid.CH_CATCH_RESULT : Nat := 0x2203
abbrev Pid.CH_CATCH_SPEED : Nat := 0x2204
abbrev Pid.CH_CATCH_ANGLE : Nat := 0x2205
abbrev Pid.CH_STALL_ACTION : Nat := 0x2210
abbrev Pid.CH_STALL_ANGLE : Nat := 0x2211
abbrev Pid.CH_STALL_STEPS : Nat := 0x2212
abbrev Pid.CH_STALL_VMIN : Nat := 0x2213
abbrev Pid.CH_STALL_EMF_PCT : Nat := 0x2214
abbrev Pid.CH_EST_AVG : Nat := 0x2215
abbrev Pid.CH_STALL_BLANK : Nat := 0x2216
abbrev Pid.CH_LOAD_ANGLE : Nat := 0x2220
abbrev Pid.CH_EMF : Nat := 0x2221
abbrev Pid.CH_EST_VALID : Nat := 0x2222
abbrev Pid.CH_TWIN_K : Nat := 0x2223
abbrev Pid.CH_FE_ENABLE : Nat := 0x2230
abbrev Pid.CH_FE_NUM : Nat := 0x2231
abbrev Pid.CH_FE_DEN : Nat := 0x2232
abbrev Pid.CH_FE_LIMIT : Nat := 0x2233
abbrev Pid.CH_FE_TIME : Nat := 0x2234
abbrev Pid.CH_FE_ACTION : Nat := 0x2235
abbrev Pid.CH_FE : Nat := 0x2236
abbrev Pid.PS_SENSE_RATIO : Nat := 0x3000
abbrev Pid.PS_SC_THRESHOLD : Nat := 0x3001
abbrev Pid.PS_SC_APPLIED : Nat := 0x3002
abbrev Pid.PS_SC_BLANK : Nat := 0x3003
abbrev Pid.PS_DEADTIME_MIN : Nat := 0x3004
abbrev Pid.PS_GATE_STRENGTH : Nat := 0x3005
abbrev Pid.PS_FAULT : Nat := 0x3006
abbrev Pid.PS_PARK_CAUSE : Nat := 0x3007
abbrev Pid.PS_I_COIL1 : Nat := 0x3008
abbrev Pid.PS_I_COIL2 : Nat := 0x3009
abbrev Pid.BANK_UV_TRIP : Nat := 0x1200
abbrev Pid.BANK_OV_TRIP : Nat := 0x1201
abbrev Pid.BANK_CHOP_ON : Nat := 0x1202
abbrev Pid.BANK_CHOP_OFF : Nat := 0x1203
abbrev Pid.BANK_CHOP_ENABLE : Nat := 0x1204
abbrev Pid.BANK_CHOP_DUTY : Nat := 0x1205
abbrev Pid.BANK_CHOP_MAX_ON : Nat := 0x1206
abbrev Pid.BANK_SOFTOFF_PLATEAU : Nat := 0x1207
abbrev Pid.BANK_SOFTOFF_TIME : Nat := 0x1208
abbrev Pid.BANK_PARK_HOLD : Nat := 0x1209
abbrev Pid.BANK_VM : Nat := 0x120A
abbrev Pid.BANK_STATUS : Nat := 0x120B
abbrev Pid.BANK_MISSED_FRAMES : Nat := 0x120C
abbrev Pid.BANK_LINK_CRC_ERRORS : Nat := 0x120D
abbrev Pid.FB_ENABLE : Nat := 0x4000
abbrev Pid.FB_MODE : Nat := 0x4001
abbrev Pid.FB_POL : Nat := 0x4002
abbrev Pid.FB_THRESH_A : Nat := 0x4003
abbrev Pid.FB_THRESH_B : Nat := 0x4004
abbrev Pid.FB_THRESH_I : Nat := 0x4005
abbrev Pid.FB_HYST : Nat := 0x4006
abbrev Pid.FB_FILTER : Nat := 0x4007
abbrev Pid.FB_COUNT_DIR : Nat := 0x4008
abbrev Pid.FB_COUNT : Nat := 0x4010
abbrev Pid.FB_SPEED : Nat := 0x4011
abbrev Pid.FB_SPEED_EDGES : Nat := 0x4012
abbrev Pid.FB_SPEED_TIMEOUT : Nat := 0x4013
abbrev Pid.FB_STATUS : Nat := 0x4014
abbrev Pid.FB_ERR_COUNT : Nat := 0x4015
abbrev Pid.FB_TRUST_EDGES : Nat := 0x4016
abbrev Pid.FB_TRUST : Nat := 0x4017
abbrev Pid.FB_LINES : Nat := 0x4020
abbrev Pid.FB_LINES_TOL : Nat := 0x4021
abbrev Pid.FB_INDEX_POS : Nat := 0x4022
abbrev Pid.FB_INDEX_INTERVAL : Nat := 0x4023
abbrev Pid.FB_CMP0 : Nat := 0x4030
abbrev Pid.FB_CMP1 : Nat := 0x4031
abbrev Pid.FB_CMP_ENABLE : Nat := 0x4032
abbrev Pid.FB_SENT_TICK : Nat := 0x4040
abbrev Pid.FB_SENT_NIBBLES : Nat := 0x4041
abbrev Pid.FB_SENT_CRC : Nat := 0x4042
abbrev Pid.FB_SENT_SLOW : Nat := 0x4043
abbrev Pid.FB_ABS_BITS : Nat := 0x4050
abbrev Pid.FB_ABS_SHIFT : Nat := 0x4051
abbrev Pid.FB_ABS_RAW : Nat := 0x4052
abbrev Pid.FB_SSI_BITS : Nat := 0x4053
abbrev Pid.FB_SSI_RATE : Nat := 0x4054
abbrev Pid.FB_SSI_CODE : Nat := 0x4055
abbrev Pid.FB_SSI_CHECK : Nat := 0x4056
abbrev Pid.FB_SSI_EVERY : Nat := 0x4057
abbrev Pid.FB_STEP_SCALE : Nat := 0x4060
abbrev Pid.FB_STEP_EDGE : Nat := 0x4061
abbrev Pid.FB_WSS_SHUNT : Nat := 0x4070
abbrev Pid.FB_WSS_MONITOR : Nat := 0x4071
abbrev Pid.FB_WSS_QUAL : Nat := 0x4072
abbrev Pid.RFX_RULE_LO : Nat := 0xA000
abbrev Pid.RFX_RULE_HI : Nat := 0xA001
abbrev Pid.RFX_ENABLE : Nat := 0xA002
abbrev Pid.RFX_CAPTURE : Nat := 0xA003
abbrev Pid.RFX_FIRE_COUNT : Nat := 0xA004
abbrev Pid.RFX_FIRE_TIME : Nat := 0xA005
abbrev Pid.RFX_ASSERTED : Nat := 0xA006
abbrev Pid.RFX_RELEASE : Nat := 0xA007
abbrev Pid.RFX_OVERRIDDEN : Nat := 0xA008
abbrev Pid.RFX_OVR_AMAX : Nat := 0xA010
abbrev Pid.RFX_OVR_DMAX : Nat := 0xA011
abbrev Pid.RFX_OVR_JMAX : Nat := 0xA012
abbrev Pid.RFX_SOURCE_STATE : Nat := 0xA020
abbrev Pid.ADC_RUN : Nat := 0x5000
abbrev Pid.ADC_TABLE_LEN : Nat := 0x5001
abbrev Pid.ADC_TRIG_SRC : Nat := 0x5002
abbrev Pid.ADC_TRIG_CH : Nat := 0x5003
abbrev Pid.ADC_TRIG_EVERY : Nat := 0x5004
abbrev Pid.ADC_TRIG_DELAY : Nat := 0x5005
abbrev Pid.ADC_TIMER_PERIOD : Nat := 0x5006
abbrev Pid.ADC_POWER_DOWN : Nat := 0x5007
abbrev Pid.ADC_INTERLEAVE : Nat := 0x5008
abbrev Pid.ADC_STATUS : Nat := 0x5009
abbrev Pid.ADC_OVERRUN : Nat := 0x500A
abbrev Pid.ADC_LOST : Nat := 0x500B
abbrev Pid.ADC_E_INPUT : Nat := 0x5100
abbrev Pid.ADC_E_GAIN : Nat := 0x5101
abbrev Pid.ADC_E_SETTLE : Nat := 0x5102
abbrev Pid.ADC_E_ORDER : Nat := 0x5103
abbrev Pid.ADC_E_RATIO : Nat := 0x5104
abbrev Pid.ADC_E_COUNT : Nat := 0x5105
abbrev Pid.ADC_E_GROUP_DELAY : Nat := 0x5106
abbrev Pid.ADC_CAL_OFFSET : Nat := 0x5107
abbrev Pid.ADC_CAL_GAIN : Nat := 0x5108
abbrev Pid.ADC_CAL_TARGET : Nat := 0x5109
abbrev Pid.ADC_CAL_STABLE : Nat := 0x510A
abbrev Pid.ADC_CAL_REASON : Nat := 0x510B
abbrev Pid.ADC_VEXC_ENABLE : Nat := 0x5200
abbrev Pid.GB_SOURCE : Nat := 0x6000
abbrev Pid.GB_WINDOW : Nat := 0x6001
abbrev Pid.GB_ENABLE : Nat := 0x6002
abbrev Pid.GB_SEQ : Nat := 0x6003
abbrev Pid.FLT_RUN : Nat := 0x7000
abbrev Pid.FLT_SOURCE : Nat := 0x7001
abbrev Pid.FLT_INPUT_MODE : Nat := 0x7002
abbrev Pid.FLT_DIVIDE : Nat := 0x7003
abbrev Pid.FLT_RS_RATIO : Nat := 0x7004
abbrev Pid.FLT_RS_LAG : Nat := 0x7005
abbrev Pid.FLT_SETTLE : Nat := 0x7006
abbrev Pid.FLT_SETTLE_IN_FORCE : Nat := 0x7007
abbrev Pid.FLT_GROUP_DELAY : Nat := 0x7008
abbrev Pid.FLT_STAGE_DELAY : Nat := 0x7009
abbrev Pid.FLT_STATUS : Nat := 0x700A
abbrev Pid.FLT_UNDERRUN : Nat := 0x700B
abbrev Pid.FLT_DROPPED : Nat := 0x700C
abbrev Pid.FLT_SATURATIONS : Nat := 0x700D
abbrev Pid.FLT_OUTPUT : Nat := 0x700E
abbrev Pid.FLT_GB_GATE : Nat := 0x700F
abbrev Pid.FLT_P0_TYPE : Nat := 0x7020
abbrev Pid.FLT_P0_LEN : Nat := 0x7021
abbrev Pid.FLT_P0_PRESET : Nat := 0x7022
abbrev Pid.FLT_P1_TYPE : Nat := 0x7030
abbrev Pid.FLT_P1_LEN : Nat := 0x7031
abbrev Pid.FLT_P1_PRESET : Nat := 0x7032
abbrev Pid.FLT_P0_C0 : Nat := 0x7100
abbrev Pid.FLT_P1_C0 : Nat := 0x7140
abbrev Pid.FLT_TH_MODE : Nat := 0x7200
abbrev Pid.FLT_TH_HI : Nat := 0x7201
abbrev Pid.FLT_TH_LO : Nat := 0x7202
abbrev Pid.FLT_TH_HYST : Nat := 0x7203
abbrev Pid.FLT_TH_SPAN : Nat := 0x7204
abbrev Pid.FLT_TH_CONFIRM : Nat := 0x7205
abbrev Pid.FLT_TH_STATE : Nat := 0x7206
abbrev Pid.FLT_TH_REPORT : Nat := 0x7207
abbrev Pid.DEV_CAPS : Nat := 0x0100
abbrev Pid.DEV_FW_VERSION : Nat := 0x0101
abbrev Pid.DEV_ROM_VERSION : Nat := 0x0102
abbrev Pid.DEV_RESET_CAUSE : Nat := 0x0103
abbrev Pid.DEV_ECLIPSE_COUNT : Nat := 0x0104
abbrev Pid.DEV_ECLIPSE_CAUSE : Nat := 0x0105
abbrev Pid.DEV_ECLIPSE_LAST : Nat := 0x0106
abbrev Pid.DEV_ECLIPSE_TEST : Nat := 0x0107
abbrev Pid.DEV_AUTONOMY_EXPIRIES : Nat := 0x0108
abbrev Pid.DEV_HOST_SILENCE : Nat := 0x0200
abbrev Pid.DEV_HOST_SILENCE_ACTION : Nat := 0x0201
abbrev Pid.DEV_HOST_SILENCE_COUNT : Nat := 0x0202
abbrev Pid.DEV_ACCEPT_SEQ : Nat := 0x0000
abbrev Pid.DEV_DONE_SEQ : Nat := 0x0001
abbrev Pid.DEV_EVENTS_LOST : Nat := 0x0002
abbrev Pid.DEV_EVENT_SUPPRESS : Nat := 0x0003
abbrev Pid.DEV_RESP_FREE : Nat := 0x0004
abbrev Pid.CAN_RUN : Nat := 0x8000
abbrev Pid.CAN_MODE : Nat := 0x8001
abbrev Pid.CAN_NOMINAL : Nat := 0x8002
abbrev Pid.CAN_DATA : Nat := 0x8003
abbrev Pid.CAN_FD_ENABLE : Nat := 0x8004
abbrev Pid.CAN_RX_DEFAULT : Nat := 0x8005
abbrev Pid.CAN_RX_OVERWRITE : Nat := 0x8006
abbrev Pid.CAN_LATE_LIMIT : Nat := 0x8007
abbrev Pid.CAN_TX_REPORT : Nat := 0x8008
abbrev Pid.CAN_KEEP_TX_ON_REJOIN : Nat := 0x8009
abbrev Pid.CAN_BUSOFF_AUTO : Nat := 0x800A
abbrev Pid.CAN_RECOVER : Nat := 0x800B
abbrev Pid.CAN_STATUS : Nat := 0x800C
abbrev Pid.CAN_TEC : Nat := 0x800D
abbrev Pid.CAN_REC : Nat := 0x800E
abbrev Pid.CAN_TX_FREE : Nat := 0x800F
abbrev Pid.CAN_RX_OVERRUNS : Nat := 0x8010
abbrev Pid.CAN_DETECT_ENABLE : Nat := 0x8018
abbrev Pid.CAN_DETECT_SET : Nat := 0x8019
abbrev Pid.CAN_DETECT_DWELL : Nat := 0x801A
abbrev Pid.CAN_DETECT_FRAMES : Nat := 0x801B
abbrev Pid.CAN_DETECT_TO_NORMAL : Nat := 0x801C
abbrev Pid.CAN_DETECT_RESULT : Nat := 0x801D
abbrev Pid.CAN_GW_ENABLE : Nat := 0x8020
abbrev Pid.CAN_GW_TX_IDENT : Nat := 0x8021
abbrev Pid.CAN_GW_BRS : Nat := 0x8022
abbrev Pid.CAN_GW_REFUSED : Nat := 0x8023
abbrev Pid.CAN_RX_COUNT : Nat := 0x8030
abbrev Pid.CAN_RX_HEAD : Nat := 0x8031
abbrev Pid.CAN_RX_TIME : Nat := 0x8032
abbrev Pid.CAN_RX_DATA0 : Nat := 0x8033
abbrev Pid.CAN_RX_POP : Nat := 0x803B
abbrev Pid.CAN_FLT_MATCH : Nat := 0x8040
abbrev Pid.CAN_FLT_ACTION : Nat := 0x8041
abbrev Pid.CAN_FLT_HITS : Nat := 0x8042
abbrev Pid.AUX_RUN : Nat := 0x9000
abbrev Pid.AUX_PERIOD : Nat := 0x9001
abbrev Pid.AUX_DUTY : Nat := 0x9002
abbrev Pid.AUX_PERIOD_ACT : Nat := 0x9003
abbrev Pid.AUX_DUTY_ACT : Nat := 0x9004
abbrev Pid.AUX_ALIGN : Nat := 0x9005
abbrev Pid.AUX_PHASE : Nat := 0x9006
abbrev Pid.AUX_POL : Nat := 0x9007
abbrev Pid.AUX_FORCE : Nat := 0x9008
abbrev Pid.AUX_SAFE_LEVEL : Nat := 0x9009
abbrev Pid.AUX_STATUS : Nat := 0x900A
abbrev Pid.AUX_TRIP_ENABLE : Nat := 0x9020
abbrev Pid.AUX_TRIP_THRESH : Nat := 0x9021
abbrev Pid.AUX_TRIP_POL : Nat := 0x9022
abbrev Pid.AUX_TRIP_MAP : Nat := 0x9023
abbrev Pid.AUX_TRIP_CLEAR : Nat := 0x9024
abbrev Pid.AUX_TRIP_TIME : Nat := 0x9025
abbrev Pid.AUX_LOAD_ALL : Nat := 0x9030
abbrev Pid.DEV_STANDBY : Nat := 0x0300
abbrev Pid.DEV_WAKE_LEVEL : Nat := 0x0301
abbrev Pid.DEV_RESET_DETAIL : Nat := 0x0302
abbrev Pid.DEV_PWR_DEVICE : Nat := 0x0303
abbrev Pid.DEV_PWR_BANK : Nat := 0x0304
abbrev Pid.DEV_PWR_CH_MOTION : Nat := 0x0305
abbrev Pid.DEV_PWR_CH_EST : Nat := 0x0306
abbrev Pid.DEV_PWR_CH_FB : Nat := 0x0307
abbrev Pid.DEV_PWR_CH_GATE : Nat := 0x0308
abbrev Pid.DEV_TIME : Nat := 0x0310
abbrev Pid.DEV_TIME_SLEW : Nat := 0x0311
abbrev Pid.DEV_POWER_DIE_TEMP : Nat := 0x0312
abbrev Pid.DEV_FAULT_SUMMARY : Nat := 0x0400
abbrev Pid.DEV_ECC_CORRECTED : Nat := 0x0401
abbrev Pid.DEV_ATTEST_KEY : Nat := 0x0410
abbrev Pid.DEV_ATTEST_NONCE0 : Nat := 0x0411
abbrev Pid.DEV_ATTEST_GO : Nat := 0x0415
abbrev Pid.DEV_ATTEST_TIME : Nat := 0x0416
abbrev Pid.DEV_ATTEST_MAC0 : Nat := 0x0417
abbrev Pid.DEV_VAULT_SLOT : Nat := 0x0420
abbrev Pid.DEV_VAULT_DATA0 : Nat := 0x0421
abbrev Pid.DEV_VAULT_LOAD : Nat := 0x0425
abbrev Pid.DEV_VAULT_FILLED : Nat := 0x0426
abbrev Pid.DEV_OTP_ARM : Nat := 0x0430
abbrev Pid.DEV_OTP_KEYHASH0 : Nat := 0x0431
abbrev Pid.DEV_OTP_VALUE : Nat := 0x0435
abbrev Pid.DEV_OTP_OP : Nat := 0x0436
abbrev Pid.DEV_OTP_STATUS : Nat := 0x0437

/-! ### Tables -/

def devRows : List PRow :=
  [⟨0x0100, 0x0100, false, 64, false, .readOnly, 0⟩,
   ⟨0x0101, 0x0101, false, 32, false, .readOnly, 0⟩,
   ⟨0x0102, 0x0102, false, 16, false, .readOnly, 0⟩,
   ⟨0x0103, 0x0103, false, 8, false, .readOnly, 0⟩,
   ⟨0x0104, 0x0104, false, 32, false, .readOnly, 0⟩,
   ⟨0x0105, 0x0105, false, 8, false, .readOnly, 0⟩,
   ⟨0x0106, 0x0106, false, 16, false, .readOnly, 0⟩,
   ⟨0x0107, 0x0107, false, 8, false, .among [1], 0⟩,
   ⟨0x0108, 0x0108, false, 32, false, .readOnly, 0⟩,
   ⟨0x0200, 0x0200, false, 16, false, .zeroOr 10 60000, 200⟩,
   ⟨0x0201, 0x0201, false, 8, false, .range 0 1 1, 0⟩,
   ⟨0x0202, 0x0202, false, 32, false, .readOnly, 0⟩] ++
   [⟨0x0000, 0x0000, false, 32, false, .readOnly, 0⟩,
   ⟨0x0001, 0x0001, false, 32, false, .readOnly, 0⟩,
   ⟨0x0002, 0x0002, false, 32, false, .readOnly, 0⟩,
   ⟨0x0003, 0x0003, false, 16, false, .range 0 65534 2, 0⟩,
   ⟨0x0004, 0x0004, false, 8, false, .readOnly, 32⟩,
   ⟨0x0300, 0x0300, false, 8, false, .among [1], 0⟩,
   ⟨0x0301, 0x0301, false, 8, false, .readOnly, 0⟩,
   ⟨0x0302, 0x0302, false, 16, false, .readOnly, 0⟩,
   ⟨0x0303, 0x0303, false, 24, false, .readOnly, 1025023⟩,
   ⟨0x0304, 0x0304, false, 24, false, .readOnly, 790275⟩,
   ⟨0x0305, 0x0305, false, 24, false, .readOnly, 0⟩,
   ⟨0x0306, 0x0306, false, 24, false, .readOnly, 0⟩] ++
   [⟨0x0307, 0x0307, false, 24, false, .readOnly, 0⟩,
   ⟨0x0308, 0x0308, false, 24, false, .readOnly, 0⟩,
   ⟨0x0310, 0x0310, false, 64, false, .readOnly, 0⟩,
   ⟨0x0311, 0x0311, false, 32, true, .range (-200000) 200000 1, 0⟩,
   ⟨0x0312, 0x0312, false, 16, true, .readOnly, 0⟩,
   ⟨0x0400, 0x0400, false, 32, false, .readOnly, 0⟩,
   ⟨0x0401, 0x0401, false, 32, false, .readOnly, 0⟩,
   ⟨0x0410, 0x0410, false, 8, false, .range 0 16 1, 0⟩,
   ⟨0x0411, 0x0414, false, 64, false, .range 0 18446744073709551615 1, 0⟩,
   ⟨0x0415, 0x0415, false, 8, false, .among [1], 0⟩,
   ⟨0x0416, 0x0416, false, 64, false, .readOnly, 0⟩,
   ⟨0x0417, 0x041A, false, 64, false, .readOnly, 0⟩] ++
   [⟨0x0420, 0x0420, false, 8, false, .range 1 16 1, 1⟩,
   ⟨0x0421, 0x0424, false, 64, false, .range 0 18446744073709551615 1, 0⟩,
   ⟨0x0425, 0x0425, false, 8, false, .among [1], 0⟩,
   ⟨0x0426, 0x0426, false, 16, false, .readOnly, 0⟩,
   ⟨0x0430, 0x0430, false, 32, false, .range 0 4294967295 1, 0⟩,
   ⟨0x0431, 0x0434, false, 64, false, .range 0 18446744073709551615 1, 0⟩,
   ⟨0x0435, 0x0435, false, 16, false, .range 1 65535 1, 1⟩,
   ⟨0x0436, 0x0436, false, 8, false, .range 1 7 1, 0⟩,
   ⟨0x0437, 0x0437, false, 8, false, .readOnly, 0⟩]

def bankRows : List PRow :=
  [⟨0x1100, 0x1100, true, 32, false, .range 16000 50000 1, 25000⟩,
   ⟨0x1101, 0x1101, false, 16, false, .readOnly, 9600⟩,
   ⟨0x1102, 0x1102, false, 32, false, .range 10 600000 1, 1000⟩,
   ⟨0x1103, 0x1103, false, 8, false, .readOnly, 0⟩,
   ⟨0x1200, 0x1200, true, 16, false, .range 6000 30000 1, 7000⟩,
   ⟨0x1201, 0x1201, true, 16, false, .range 12000 52000 1, 44000⟩,
   ⟨0x1202, 0x1202, true, 16, false, .range 9000 51000 1, 40000⟩,
   ⟨0x1203, 0x1203, true, 16, false, .range 8000 50000 1, 38000⟩,
   ⟨0x1204, 0x1204, true, 8, false, .range 0 1 1, 1⟩,
   ⟨0x1205, 0x1205, false, 16, false, .readOnly, 0⟩,
   ⟨0x1206, 0x1206, false, 16, false, .range 1 10000 1, 200⟩,
   ⟨0x1207, 0x1207, true, 16, false, .range 3000 8000 500, 5000⟩] ++
   [⟨0x1208, 0x1208, true, 16, false, .range 500 8000 500, 2000⟩,
   ⟨0x1209, 0x1209, true, 16, false, .range 0 1000 1, 100⟩,
   ⟨0x120A, 0x120A, false, 16, false, .readOnly, 0⟩,
   ⟨0x120B, 0x120B, false, 8, false, .readOnly, 0⟩,
   ⟨0x120C, 0x120C, false, 32, false, .readOnly, 0⟩,
   ⟨0x120D, 0x120D, false, 32, false, .readOnly, 0⟩]

def chRows : List PRow :=
  [⟨0x2000, 0x2000, false, 8, false, .readOnly, 0⟩,
   ⟨0x2001, 0x2001, true, 40, true, .range (-549755813888) 549755813887 1, 0⟩,
   ⟨0x2002, 0x2002, false, 32, true, .readOnly, 0⟩,
   ⟨0x2003, 0x2003, false, 32, true, .readOnly, 0⟩,
   ⟨0x2004, 0x2004, false, 40, true, .readOnly, 0⟩,
   ⟨0x2005, 0x2005, false, 8, false, .readOnly, 0⟩,
   ⟨0x2006, 0x2006, false, 8, false, .readOnly, 0⟩,
   ⟨0x2010, 0x2010, false, 32, false, .range 0 1310720000 1, 6553600⟩,
   ⟨0x2011, 0x2011, false, 32, false, .range 1 4294967295 1, 65536000⟩,
   ⟨0x2012, 0x2012, false, 32, false, .range 1 4294967295 1, 65536000⟩,
   ⟨0x2013, 0x2013, false, 64, false, .range 0 1099511627775 1, 0⟩,
   ⟨0x2014, 0x2014, false, 32, false, .range 0 13107200 1, 0⟩] ++
   [⟨0x2015, 0x2015, false, 32, false, .range 0 13107200 1, 0⟩,
   ⟨0x2016, 0x2016, false, 32, false, .readOnly, 1310720000⟩,
   ⟨0x2020, 0x2020, true, 8, false, .range 0 1 1, 0⟩,
   ⟨0x2021, 0x2021, true, 8, false, .range 0 2 1, 0⟩,
   ⟨0x2022, 0x2022, true, 8, false, .range 0 3 1, 0⟩,
   ⟨0x2023, 0x2023, true, 16, false, .range 0 1000 1, 100⟩,
   ⟨0x2024, 0x2024, true, 8, false, .among [0], 0⟩,
   ⟨0x2025, 0x2025, false, 40, true, .readOnly, 0⟩,
   ⟨0x2026, 0x2026, false, 40, true, .readOnly, 0⟩,
   ⟨0x2030, 0x2030, true, 8, false, .among [0, 1, 2, 3, 255], 255⟩,
   ⟨0x2100, 0x2100, false, 16, false, .range 0 20000 1, 0⟩,
   ⟨0x2101, 0x2101, false, 8, false, .range 0 100 1, 50⟩] ++
   [⟨0x2102, 0x2102, false, 16, false, .range 0 60000 1, 250⟩,
   ⟨0x2103, 0x2103, false, 16, false, .range 0 1000 1, 50⟩,
   ⟨0x2104, 0x2104, false, 8, false, .range 0 2 1, 0⟩,
   ⟨0x2105, 0x2105, true, 8, false, .range 0 1 1, 0⟩,
   ⟨0x2106, 0x2106, false, 32, false, .readOnly, 0⟩,
   ⟨0x2107, 0x2107, false, 8, false, .readOnly, 1⟩,
   ⟨0x2110, 0x2110, true, 16, false, .range 1 20000 1, 50⟩,
   ⟨0x2111, 0x2111, true, 16, false, .range 1 20000 1, 200⟩,
   ⟨0x2112, 0x2112, true, 16, false, .range 1 20000 1, 800⟩,
   ⟨0x2113, 0x2113, true, 16, false, .range 1 20000 1, 3000⟩,
   ⟨0x2114, 0x2114, true, 16, false, .range 1 20000 1, 8000⟩,
   ⟨0x2115, 0x2115, true, 16, false, .range 1 20000 1, 15000⟩] ++
   [⟨0x2116, 0x2116, true, 16, false, .range 0 1000 1, 10⟩,
   ⟨0x2117, 0x2117, true, 8, false, .range 1 7 1, 7⟩,
   ⟨0x2120, 0x2120, true, 32, false, .zeroOr 100 100000, 0⟩,
   ⟨0x2121, 0x2121, true, 32, false, .zeroOr 100 200000, 0⟩,
   ⟨0x2122, 0x2122, false, 32, false, .range 0 1000000 1, 0⟩,
   ⟨0x2123, 0x2123, false, 8, false, .range 0 1 1, 1⟩,
   ⟨0x2124, 0x2124, false, 8, false, .readOnly, 0⟩,
   ⟨0x2125, 0x2125, true, 32, false, .range 0 100000 1, 0⟩,
   ⟨0x2126, 0x2126, true, 32, false, .range 0 200000 1, 0⟩,
   ⟨0x2127, 0x2127, true, 8, false, .range 1 100 1, 30⟩,
   ⟨0x2128, 0x2128, true, 32, false, .range 10 10000 1, 200⟩,
   ⟨0x2130, 0x2130, true, 8, false, .range 0 1 1, 0⟩] ++
   [⟨0x2131, 0x2131, false, 8, false, .range 50 100 1, 70⟩,
   ⟨0x2132, 0x2132, false, 16, false, .range 1 1000 1, 20⟩,
   ⟨0x2133, 0x2133, false, 8, false, .readOnly, 0⟩,
   ⟨0x2140, 0x2140, true, 8, false, .range 80 100 1, 97⟩,
   ⟨0x2141, 0x2141, false, 16, false, .range 1 10000 1, 250⟩,
   ⟨0x2142, 0x2142, false, 8, false, .readOnly, 0⟩,
   ⟨0x2143, 0x2143, false, 8, false, .range 0 50 1, 10⟩,
   ⟨0x2144, 0x2144, false, 16, true, .readOnly, 0⟩,
   ⟨0x2145, 0x2145, false, 16, true, .readOnly, 0⟩,
   ⟨0x2200, 0x2200, true, 8, false, .range 0 1 1, 0⟩,
   ⟨0x2201, 0x2201, true, 16, false, .range 1 5000 1, 20⟩,
   ⟨0x2202, 0x2202, true, 16, false, .range 10 5000 1, 50⟩] ++
   [⟨0x2203, 0x2203, false, 8, false, .readOnly, 0⟩,
   ⟨0x2204, 0x2204, false, 32, true, .readOnly, 0⟩,
   ⟨0x2205, 0x2205, false, 32, false, .readOnly, 0⟩,
   ⟨0x2210, 0x2210, false, 8, false, .range 0 2 1, 1⟩,
   ⟨0x2211, 0x2211, false, 8, false, .range 10 170 1, 80⟩,
   ⟨0x2212, 0x2212, false, 16, false, .range 1 1000 1, 4⟩,
   ⟨0x2213, 0x2213, false, 16, false, .range 1 20000 1, 100⟩,
   ⟨0x2214, 0x2214, false, 8, false, .range 0 90 1, 25⟩,
   ⟨0x2215, 0x2215, true, 8, false, .among [1, 2, 4, 8, 16], 4⟩,
   ⟨0x2216, 0x2216, false, 16, false, .range 0 1000 1, 8⟩,
   ⟨0x2220, 0x2220, false, 16, true, .readOnly, 0⟩,
   ⟨0x2221, 0x2221, false, 16, false, .readOnly, 0⟩] ++
   [⟨0x2222, 0x2222, false, 8, false, .readOnly, 0⟩,
   ⟨0x2223, 0x2223, false, 16, false, .readOnly, 0⟩,
   ⟨0x2230, 0x2230, true, 8, false, .range 0 1 1, 0⟩,
   ⟨0x2231, 0x2231, true, 32, true, .nonzero, 65536⟩,
   ⟨0x2232, 0x2232, true, 32, false, .range 1 4294967295 1, 1⟩,
   ⟨0x2233, 0x2233, false, 32, false, .range 1 4294967295 1, 131072⟩,
   ⟨0x2234, 0x2234, false, 16, false, .range 1 1000 1, 4⟩,
   ⟨0x2235, 0x2235, false, 8, false, .range 0 2 1, 1⟩,
   ⟨0x2236, 0x2236, false, 40, true, .readOnly, 0⟩]

def psRows : List PRow :=
  [⟨0x3000, 0x3000, true, 16, false, .range 500 20000 1, 2000⟩,
   ⟨0x3001, 0x3001, true, 32, false, .range 1 100000 1, 6000⟩,
   ⟨0x3002, 0x3002, false, 32, false, .readOnly, 6000⟩,
   ⟨0x3003, 0x3003, true, 16, false, .range 100 3200 100, 1000⟩,
   ⟨0x3004, 0x3004, true, 16, false, .range 50 1600 50, 300⟩,
   ⟨0x3005, 0x3005, true, 8, false, .range 0 3 1, 3⟩,
   ⟨0x3006, 0x3006, false, 8, false, .readOnly, 0⟩,
   ⟨0x3007, 0x3007, false, 8, false, .readOnly, 0⟩,
   ⟨0x3008, 0x3008, false, 32, true, .readOnly, 0⟩,
   ⟨0x3009, 0x3009, false, 32, true, .readOnly, 0⟩]

def fbRows : List PRow :=
  [⟨0x4000, 0x4000, false, 8, false, .range 0 1 1, 0⟩,
   ⟨0x4001, 0x4001, true, 8, false, .range 0 6 1, 0⟩,
   ⟨0x4002, 0x4002, true, 8, false, .range 0 7 1, 0⟩,
   ⟨0x4003, 0x4003, true, 16, false, .range 0 4080 1, 1600⟩,
   ⟨0x4004, 0x4004, true, 16, false, .range 0 4080 1, 1600⟩,
   ⟨0x4005, 0x4005, true, 16, false, .range 0 4080 1, 1600⟩,
   ⟨0x4006, 0x4006, true, 8, false, .range 0 3 1, 2⟩,
   ⟨0x4007, 0x4007, true, 8, false, .range 0 255 1, 24⟩,
   ⟨0x4008, 0x4008, true, 8, false, .range 0 1 1, 0⟩,
   ⟨0x4010, 0x4010, false, 32, false, .readOnly, 0⟩,
   ⟨0x4011, 0x4011, false, 32, true, .readOnly, 0⟩,
   ⟨0x4012, 0x4012, true, 8, false, .range 1 64 1, 4⟩] ++
   [⟨0x4013, 0x4013, true, 16, false, .range 1 10000 1, 100⟩,
   ⟨0x4014, 0x4014, false, 16, false, .readOnly, 8⟩,
   ⟨0x4015, 0x4015, false, 32, false, .readOnly, 0⟩,
   ⟨0x4016, 0x4016, true, 8, false, .range 1 255 1, 8⟩,
   ⟨0x4017, 0x4017, false, 8, false, .among [1], 0⟩,
   ⟨0x4020, 0x4020, true, 32, false, .range 0 1048576 1, 0⟩,
   ⟨0x4021, 0x4021, true, 16, false, .range 0 1000 1, 4⟩,
   ⟨0x4022, 0x4022, false, 32, false, .readOnly, 0⟩,
   ⟨0x4023, 0x4023, false, 32, true, .readOnly, 0⟩,
   ⟨0x4030, 0x4030, false, 32, false, .range 0 4294967295 1, 0⟩,
   ⟨0x4031, 0x4031, false, 32, false, .range 0 4294967295 1, 0⟩,
   ⟨0x4032, 0x4032, false, 8, false, .range 0 3 1, 0⟩] ++
   [⟨0x4040, 0x4040, true, 16, false, .range 30 900 1, 30⟩,
   ⟨0x4041, 0x4041, true, 8, false, .range 1 6 1, 6⟩,
   ⟨0x4042, 0x4042, true, 8, false, .range 0 1 1, 1⟩,
   ⟨0x4043, 0x4043, false, 32, false, .readOnly, 0⟩,
   ⟨0x4050, 0x4050, true, 8, false, .range 8 32 1, 24⟩,
   ⟨0x4051, 0x4051, true, 8, false, .range 0 39 1, 0⟩,
   ⟨0x4052, 0x4052, false, 64, false, .readOnly, 0⟩,
   ⟨0x4053, 0x4053, true, 8, false, .range 1 40 1, 25⟩,
   ⟨0x4054, 0x4054, true, 32, false, .range 100000 10000000 1, 2000000⟩,
   ⟨0x4055, 0x4055, true, 8, false, .range 0 1 1, 0⟩,
   ⟨0x4056, 0x4056, true, 8, false, .range 0 3 1, 2⟩,
   ⟨0x4057, 0x4057, true, 8, false, .range 1 16 1, 1⟩] ++
   [⟨0x4060, 0x4060, true, 32, false, .range 1 4194304 1, 4096⟩,
   ⟨0x4061, 0x4061, true, 8, false, .range 0 2 1, 0⟩,
   ⟨0x4070, 0x4070, true, 16, false, .range 20 180 1, 100⟩,
   ⟨0x4071, 0x4071, true, 8, false, .range 0 1 1, 0⟩,
   ⟨0x4072, 0x4072, true, 16, false, .range 10 10000 1, 200⟩]

def adcRows : List PRow :=
  [⟨0x5000, 0x5000, false, 8, false, .range 0 1 1, 0⟩,
   ⟨0x5001, 0x5001, true, 8, false, .range 1 16 1, 1⟩,
   ⟨0x5002, 0x5002, true, 8, false, .range 0 3 1, 0⟩,
   ⟨0x5003, 0x5003, true, 8, false, .range 0 23 1, 0⟩,
   ⟨0x5004, 0x5004, true, 8, false, .range 1 255 1, 1⟩,
   ⟨0x5005, 0x5005, true, 16, false, .range 0 9600 1, 0⟩,
   ⟨0x5006, 0x5006, true, 32, false, .range 32 16777215 1, 10000⟩,
   ⟨0x5007, 0x5007, true, 8, false, .range 0 1 1, 0⟩,
   ⟨0x5008, 0x5008, true, 8, false, .range 0 1 1, 0⟩,
   ⟨0x5009, 0x5009, false, 16, false, .readOnly, 0⟩,
   ⟨0x500A, 0x500A, false, 32, false, .readOnly, 0⟩,
   ⟨0x500B, 0x500B, false, 32, false, .readOnly, 0⟩] ++
   [⟨0x5100, 0x5100, true, 8, false, .range 0 17 1, 0⟩,
   ⟨0x5101, 0x5101, true, 8, false, .range 0 7 1, 0⟩,
   ⟨0x5102, 0x5102, true, 16, false, .range 0 65535 1, 20⟩,
   ⟨0x5103, 0x5103, true, 8, false, .range 2 5 1, 3⟩,
   ⟨0x5104, 0x5104, true, 32, false, .range 32 262144 1, 1000⟩,
   ⟨0x5105, 0x5105, true, 16, false, .range 0 65535 1, 1⟩,
   ⟨0x5106, 0x5106, false, 32, false, .readOnly, 151050⟩,
   ⟨0x5107, 0x5107, true, 32, true, .range (-8808037) 8808037 1, 0⟩,
   ⟨0x5108, 0x5108, true, 32, false, .range 1 16777215 1, 4194304⟩,
   ⟨0x5109, 0x5109, true, 32, false, .range 1048576 8388607 1, 7340032⟩,
   ⟨0x510A, 0x510A, false, 32, false, .range 1 8388607 1, 2048⟩,
   ⟨0x510B, 0x510B, false, 8, false, .readOnly, 0⟩] ++
   [⟨0x5200, 0x5200, false, 8, false, .range 0 1 1, 0⟩]

def gbRows : List PRow :=
  [⟨0x6000, 0x6000, true, 16, false, .range 0 65535 1, 0⟩,
   ⟨0x6001, 0x6001, true, 32, false, .zeroOr 100 4294967295, 100000⟩,
   ⟨0x6002, 0x6002, false, 8, false, .range 0 1 1, 0⟩,
   ⟨0x6003, 0x6003, false, 16, false, .readOnly, 0⟩]

def fltRows : List PRow :=
  [⟨0x7000, 0x7000, false, 8, false, .range 0 1 1, 0⟩,
   ⟨0x7001, 0x7001, true, 8, false, .range 0 255 1, 0⟩,
   ⟨0x7002, 0x7002, true, 8, false, .range 0 1 1, 0⟩,
   ⟨0x7003, 0x7003, true, 16, false, .range 1 1000 1, 1⟩,
   ⟨0x7004, 0x7004, false, 32, false, .readOnly, 0⟩,
   ⟨0x7005, 0x7005, false, 32, false, .readOnly, 0⟩,
   ⟨0x7006, 0x7006, true, 16, false, .range 0 65535 1, 65535⟩,
   ⟨0x7007, 0x7007, false, 16, false, .readOnly, 0⟩,
   ⟨0x7008, 0x7008, false, 64, false, .readOnly, 0⟩,
   ⟨0x7009, 0x7009, false, 32, false, .readOnly, 0⟩,
   ⟨0x700A, 0x700A, false, 16, false, .readOnly, 0⟩,
   ⟨0x700B, 0x700B, false, 32, false, .readOnly, 0⟩] ++
   [⟨0x700C, 0x700C, false, 32, false, .readOnly, 0⟩,
   ⟨0x700D, 0x700D, false, 32, false, .readOnly, 0⟩,
   ⟨0x700E, 0x700E, false, 32, true, .readOnly, 0⟩,
   ⟨0x700F, 0x700F, false, 8, false, .range 0 8 1, 0⟩,
   ⟨0x7020, 0x7020, true, 8, false, .range 0 2 1, 0⟩,
   ⟨0x7021, 0x7021, true, 8, false, .range 1 64 1, 1⟩,
   ⟨0x7022, 0x7022, true, 8, false, .range 0 16 1, 1⟩,
   ⟨0x7030, 0x7030, true, 8, false, .range 0 2 1, 0⟩,
   ⟨0x7031, 0x7031, true, 8, false, .range 1 64 1, 1⟩,
   ⟨0x7032, 0x7032, true, 8, false, .range 0 16 1, 1⟩,
   ⟨0x7100, 0x713F, true, 24, true, .range (-8388608) 8388607 1, 0⟩,
   ⟨0x7140, 0x717F, true, 24, true, .range (-8388608) 8388607 1, 0⟩] ++
   [⟨0x7200, 0x7200, false, 8, false, .range 0 4 1, 0⟩,
   ⟨0x7201, 0x7201, false, 32, true, .range (-16777215) 16777215 1, 0⟩,
   ⟨0x7202, 0x7202, false, 32, true, .range (-16777215) 16777215 1, 0⟩,
   ⟨0x7203, 0x7203, false, 32, false, .range 0 8388607 1, 0⟩,
   ⟨0x7204, 0x7204, false, 16, false, .range 1 255 1, 1⟩,
   ⟨0x7205, 0x7205, false, 8, false, .range 1 255 1, 1⟩,
   ⟨0x7206, 0x7206, false, 8, false, .readOnly, 0⟩,
   ⟨0x7207, 0x7207, false, 8, false, .range 0 1 1, 0⟩]

def canRows : List PRow :=
  [⟨0x8000, 0x8000, false, 8, false, .range 0 1 1, 0⟩,
   ⟨0x8001, 0x8001, false, 8, false, .range 0 1 1, 1⟩,
   ⟨0x8002, 0x8002, true, 32, false, .range 0 4294967295 1, 1048460800⟩,
   ⟨0x8003, 0x8003, true, 32, false, .range 0 4294967295 1, 2134380608⟩,
   ⟨0x8004, 0x8004, true, 8, false, .range 0 1 1, 1⟩,
   ⟨0x8005, 0x8005, false, 8, false, .range 0 1 1, 0⟩,
   ⟨0x8006, 0x8006, false, 8, false, .range 0 1 1, 0⟩,
   ⟨0x8007, 0x8007, false, 32, false, .range 1 4294967295 1, 10000⟩,
   ⟨0x8008, 0x8008, false, 8, false, .range 0 2 1, 1⟩,
   ⟨0x8009, 0x8009, false, 8, false, .range 0 1 1, 0⟩,
   ⟨0x800A, 0x800A, false, 8, false, .range 0 1 1, 1⟩,
   ⟨0x800B, 0x800B, false, 8, false, .among [1], 0⟩] ++
   [⟨0x800C, 0x800C, false, 16, false, .readOnly, 0⟩,
   ⟨0x800D, 0x800D, false, 16, false, .readOnly, 0⟩,
   ⟨0x800E, 0x800E, false, 16, false, .readOnly, 0⟩,
   ⟨0x800F, 0x800F, false, 8, false, .readOnly, 32⟩,
   ⟨0x8010, 0x8010, false, 32, false, .readOnly, 0⟩,
   ⟨0x8018, 0x8018, true, 8, false, .range 0 1 1, 0⟩,
   ⟨0x8019, 0x8019, true, 8, false, .range 1 15 1, 15⟩,
   ⟨0x801A, 0x801A, true, 16, false, .range 10 10000 1, 200⟩,
   ⟨0x801B, 0x801B, true, 8, false, .range 1 255 1, 4⟩,
   ⟨0x801C, 0x801C, true, 8, false, .range 0 1 1, 0⟩,
   ⟨0x801D, 0x801D, false, 8, false, .readOnly, 0⟩,
   ⟨0x8020, 0x8020, true, 8, false, .range 0 1 1, 0⟩] ++
   [⟨0x8021, 0x8021, true, 32, false, .range 0 4294967295 1, 0⟩,
   ⟨0x8022, 0x8022, true, 8, false, .range 0 1 1, 0⟩,
   ⟨0x8023, 0x8023, false, 32, false, .readOnly, 0⟩,
   ⟨0x8030, 0x8030, false, 8, false, .readOnly, 0⟩,
   ⟨0x8031, 0x8031, false, 64, false, .readOnly, 0⟩,
   ⟨0x8032, 0x8032, false, 64, false, .readOnly, 0⟩,
   ⟨0x8033, 0x803A, false, 64, false, .readOnly, 0⟩,
   ⟨0x803B, 0x803B, false, 16, false, .range 1 65535 1, 0⟩,
   ⟨0x8040, 0x8040, true, 64, false, .range 0 18446744073709551615 1, 0⟩,
   ⟨0x8041, 0x8041, false, 8, false, .range 0 255 1, 0⟩,
   ⟨0x8042, 0x8042, false, 32, false, .readOnly, 0⟩]

def auxRows : List PRow :=
  [⟨0x9000, 0x9000, false, 8, false, .range 0 1 1, 0⟩,
   ⟨0x9001, 0x9001, false, 32, false, .range 7680 33554431 1, 307200⟩,
   ⟨0x9002, 0x9002, false, 32, false, .range 0 33554431 1, 0⟩,
   ⟨0x9003, 0x9003, false, 32, false, .readOnly, 307200⟩,
   ⟨0x9004, 0x9004, false, 32, false, .readOnly, 0⟩,
   ⟨0x9005, 0x9005, true, 8, false, .range 0 1 1, 0⟩,
   ⟨0x9006, 0x9006, true, 32, false, .range 0 33554430 1, 0⟩,
   ⟨0x9007, 0x9007, true, 8, false, .range 0 1 1, 0⟩,
   ⟨0x9008, 0x9008, false, 8, false, .range 0 2 1, 0⟩,
   ⟨0x9009, 0x9009, true, 8, false, .range 0 1 1, 0⟩,
   ⟨0x900A, 0x900A, false, 16, false, .readOnly, 0⟩,
   ⟨0x9020, 0x9020, false, 8, false, .range 0 1 1, 0⟩] ++
   [⟨0x9021, 0x9021, true, 8, false, .range 0 255 1, 128⟩,
   ⟨0x9022, 0x9022, true, 8, false, .range 0 1 1, 0⟩,
   ⟨0x9023, 0x9023, true, 16, false, .range 0 65535 1, 0⟩,
   ⟨0x9024, 0x9024, false, 8, false, .among [1], 0⟩,
   ⟨0x9025, 0x9025, false, 64, false, .readOnly, 0⟩,
   ⟨0x9030, 0x9030, false, 8, false, .among [1], 0⟩]

def rfxRows : List PRow :=
  [⟨0xA000, 0xA000, true, 64, false, .range 0 18446744073709551615 1, 0⟩,
   ⟨0xA001, 0xA001, true, 64, false, .range 0 18446744073709551615 1, 0⟩,
   ⟨0xA002, 0xA002, false, 8, false, .range 0 1 1, 0⟩,
   ⟨0xA003, 0xA003, false, 24, false, .readOnly, 0⟩,
   ⟨0xA004, 0xA004, false, 32, false, .readOnly, 0⟩,
   ⟨0xA005, 0xA005, false, 64, false, .readOnly, 0⟩,
   ⟨0xA006, 0xA006, false, 24, false, .readOnly, 0⟩,
   ⟨0xA007, 0xA007, false, 8, false, .among [1], 0⟩,
   ⟨0xA008, 0xA008, false, 8, false, .readOnly, 0⟩,
   ⟨0xA010, 0xA010, false, 32, false, .range 1 4294967295 1, 65536000⟩,
   ⟨0xA011, 0xA011, false, 32, false, .range 1 4294967295 1, 65536000⟩,
   ⟨0xA012, 0xA012, false, 64, false, .range 0 1099511627775 1, 0⟩] ++
   [⟨0xA020, 0xA020, false, 8, false, .readOnly, 0⟩]

/-- Rows of the space that the top nibble of an ID names (R366); reserved spaces have none. -/
def rowsOf : Nat → List PRow
  | 0 => devRows
  | 1 => bankRows
  | 2 => chRows
  | 3 => psRows
  | 4 => fbRows
  | 5 => adcRows
  | 6 => gbRows
  | 7 => fltRows
  | 8 => canRows
  | 9 => auxRows
  | 10 => rfxRows
  | _ => []

/-- The row that defines an ID, if any (R363, R366). -/
def paramRow (id : Nat) : Option PRow := (rowsOf (id / 4096)).find? fun r => r.lo ≤ id && id ≤ r.hi

/-- A value lies in the Range column. -/
def PSpec.ok : PSpec → Int → Bool
  | .readOnly, _ => false
  | .range lo hi step, v => lo ≤ v && v ≤ hi && v % step == 0
  | .zeroOr lo hi, v => v == 0 || (lo ≤ v && v ≤ hi)
  | .among vs, v => vs.contains v
  | .nonzero, v => v != 0

/-- The number that the eight VALUE bytes carry, when the upper bytes are the type's extension (R364). -/
def PRow.decode (r : PRow) (value : BitVec 64) : Option Int :=
  let v : Int := if r.signed then value.toInt else value.toNat
  if r.signed then
    if -(2 ^ (r.width - 1)) ≤ v && v < 2 ^ (r.width - 1) then some v else none
  else if v < 2 ^ r.width then some v else none

/-- The eight VALUE bytes of a number (R364). -/
def encodeValue (v : Int) : BitVec 64 := BitVec.ofInt 64 v

/-- Reset value of a parameter (R13). -/
def resetOf (id : Nat) : Int := ((paramRow id).map (·.reset)).getD 0

/-- Key of a parameter in the store. -/
def pkey (id inst : Nat) : Nat := id * 256 + inst % 256

/-- Reset value under a key of the store. -/
def resetOfKey (k : Nat) : Int := resetOf (k / 256)

/-- Value in force of a writable parameter. -/
def State.par (s : State) (id inst : Nat) : Int := Sparse.get (resetOf id) s.params (pkey id inst)

/-- The same as a number, for unsigned parameters. -/
def State.parN (s : State) (id inst : Nat) : Nat := (s.par id inst).toNat

/-- The same as a flag. -/
def State.parB (s : State) (id inst : Nat) : Bool := s.par id inst != 0

/-- A parameter takes a value. -/
def State.setPar (s : State) (id inst : Nat) (v : Int) : State :=
  { s with params := Sparse.put (resetOf id) s.params (pkey id inst) v }

/-- Unit of a parameter: its space, told apart where one space has units of several kinds, and the unit's instance. -/
def unitOf (id inst : Nat) : Nat × Nat :=
  let space := id / 4096
  if space == 5 then (if id < 0x5100 then (5, inst) else if id < 0x5200 then (5, inst / 16) else (0x52, inst))
  else if space == 7 then (if id < 0x7200 then 7 else 0x72, inst)
  else if space == 8 then (8, if id < 0x8040 then inst else inst / 128)
  else if space == 9 then (if id < 0x9020 then 9 else if id < 0x9030 then 0x92 else 0x93, inst)
  else (space, inst)

/-- A unit has been written in this fc. -/
def State.noteWrite (s : State) (unit : Nat × Nat) : State :=
  { s with mbx := { s.mbx with written := s.mbx.written ++ [unit] } }

/-- A write of the firmware's own: at once, or, where its unit has been written in this fc, in a later one (R367). -/
def State.ownWrite (s : State) (id inst : Nat) (v : Int) : State :=
  if s.mbx.written.contains (unitOf id inst) then { s with mbx := { s.mbx with later := s.mbx.later ++ [(id, inst, v)] } }
  else (s.setPar id inst v).noteWrite (unitOf id inst)

end Sys2Proof.Machine
end

