-- ==== Sys2Proof/Machine/Ops.lean ====
section
/-! DEFINITION. The named operations over the state: access to one unit, the conditions under which the firmware and
the hardware run, and raising an event. -/

namespace Sys2Proof.Machine

/-! ### One unit of the state -/

def State.chan (s : State) (c : Ch) : Channel := s.chans[c]
def State.onChan (s : State) (c : Ch) (f : Channel → Channel) : State := { s with chans := upd s.chans c f }
def State.onMotion (s : State) (c : Ch) (f : Motion → Motion) : State :=
  s.onChan c fun k => { k with motion := f k.motion }
def State.onCauses (s : State) (c : Ch) (f : Causes → Causes) : State :=
  s.onChan c fun k => { k with causes := f k.causes }
def State.onEst (s : State) (c : Ch) (f : Estim → Estim) : State := s.onChan c fun k => { k with est := f k.est }
def State.onCoil (s : State) (c : Ch) (f : Coil → Coil) : State := s.onChan c fun k => { k with coil := f k.coil }
def State.bank (s : State) (b : BankIx) : Bank := s.banks[b]
def State.onBank (s : State) (b : BankIx) (f : Bank → Bank) : State := { s with banks := upd s.banks b f }
def State.pdChan (s : State) (c : Ch) : PdChan := s.pd.chans[c]
def State.onPdChan (s : State) (c : Ch) (f : PdChan → PdChan) : State :=
  { s with pd := { s.pd with chans := upd s.pd.chans c f } }
def State.pdBank (s : State) (b : BankIx) : PdBank := s.pd.banks[b]
def State.onPdBank (s : State) (b : BankIx) (f : PdBank → PdBank) : State :=
  { s with pd := { s.pd with banks := upd s.pd.banks b f } }
def State.fb (s : State) (c : Ch) : Fb := s.fbs[c]
def State.onFb (s : State) (c : Ch) (f : Fb → Fb) : State := { s with fbs := upd s.fbs c f }
def State.rule (s : State) (r : RuleIx) : Rule := s.rules[r]
def State.onRule (s : State) (r : RuleIx) (f : Rule → Rule) : State := { s with rules := upd s.rules r f }
def State.modu (s : State) (m : ModIx) : Modulator := s.mods[m]
def State.onMod (s : State) (m : ModIx) (f : Modulator → Modulator) : State := { s with mods := upd s.mods m f }
def State.gb (s : State) (g : EntryIx) : Gb := s.gbs[g]
def State.onGb (s : State) (g : EntryIx) (f : Gb → Gb) : State := { s with gbs := upd s.gbs g f }
def State.flt (s : State) (f : FltIx) : Flt := s.flts[f]
def State.onFlt (s : State) (f : FltIx) (g : Flt → Flt) : State := { s with flts := upd s.flts f g }
def State.can (s : State) (c : CanIx) : Can := s.cans[c]
def State.onCan (s : State) (c : CanIx) (f : Can → Can) : State := { s with cans := upd s.cans c f }
def State.aux (s : State) (k : AuxIx) : AuxOut := s.auxs[k]
def State.onAux (s : State) (k : AuxIx) (f : AuxOut → AuxOut) : State := { s with auxs := upd s.auxs k f }
/-- A boundary-scan instruction that holds the control die in reset (R451). -/
def jtagHolds : Jtag → Bool
  | .extest | .clamp | .highz => true
  | _ => false

/-- RESET_N is low, by the device's own pulse or from outside (R422). -/
def Power.resetLow (p : Power) : Bool := p.extLow || 0 < p.pulseLeft

/-- Both dies are in reset: RESET_N is low, or boundary scan holds them as it does (R426, R451). -/
def State.inReset (s : State) : Bool := s.power.resetLow || jtagHolds s.sec.jtag

/-- Output of a trip comparator: active above its threshold of 12.5 mV steps, or below it (R408). -/
def State.tripRaw (s : State) (t : TripIx) : Bool :=
  let x := 2 * s.trips[t].level.toNat
  let threshold := 25 * s.parN Pid.AUX_TRIP_THRESH t.val
  if s.parB Pid.AUX_TRIP_POL t.val then x < threshold else threshold < x

def State.trip (s : State) (t : TripIx) : Trip := s.trips[t]
def State.onTrip (s : State) (t : TripIx) (f : Trip → Trip) : State := { s with trips := upd s.trips t f }

/-- Effect of a list of steps, left to right. -/
def State.forAll {α : Type} (s : State) (xs : List α) (f : α → State → State) : State := xs.foldl (fun t x => f x t) s

/-! ### Channels, banks and twins -/

/-- All channels in instance order (R9). -/
def allCh : List Ch := List.finRange 24

/-- Bank of a channel: A0-A11 in A, B0-B11 in B. -/
def bankOf (c : Ch) : BankIx := if c.val < 12 then 0 else 1

/-- Channels of a bank. -/
def bankChs (b : BankIx) : List Ch := allCh.filter fun c => bankOf c == b

/-- Twin partner: A(n) and B(n). -/
def twinOf (c : Ch) : Ch := c + 12

/-- Index of the pair that a channel belongs to. -/
def pairOf (c : Ch) : Fin 12 := ⟨c.val % 12, Nat.mod_lt _ (by decide)⟩

/-- CH.TWIN of a channel (R75). -/
def State.isTwin (s : State) (c : Ch) : Bool := s.parB Pid.CH_TWIN c.val

/-! ### What runs -/

/-- The control die's hardware runs: runtime has started and no debug halt holds CLK_FAB (R305, R449). -/
def State.hwOn (s : State) : Bool := s.phase == .runtime && !s.sec.debugHalt

/-- The firmware runs: no Eclipse in progress or halted processor (R310, R316). -/
def State.fwOn (s : State) : Bool := s.hwOn && !s.boot.eclipse && !s.boot.halted

/-- The link can carry traffic downwards: transmitter and power die run (R306, R494). -/
def State.linkUp (s : State) : Bool := s.link.txOn && s.pd.running && !s.pd.standby && !s.sec.debugHalt

/-! ### Presence (R1, R300) -/

/-- CAPS of the four variants (R300). -/
def Variant.caps : Variant → Nat
  | .clv24X => 0xB12497FFFFFFFFFF
  | .clv16X => 0xB116170F0F0FF0FF
  | .clv12S => 0xB1120A0F0F03F03F
  | .clv08B => 0xB10802000000F00F

def State.caps (s : State) : Nat := s.otp.variant.caps

def State.hasCh (s : State) (c : Ch) : Bool := s.caps.testBit c.val
def State.hasMod (s : State) (m : ModIx) : Bool := s.caps.testBit (24 + m.val)
def State.hasFlt (s : State) : Bool := s.caps.testBit 40
def State.hasCan (s : State) (c : CanIx) : Bool := s.caps.testBit (41 + c.val)
/-- AUX field of CAPS: 0 none, 1 AUX0-AUX7, 2 AUX0-AUX15. -/
def State.auxCount (s : State) : Nat := 8 * ((s.caps / 2 ^ 43) % 4)
def State.hasTrip (s : State) : Bool := 0 < s.auxCount
/-- Channels of a bank that the variant has. -/
def State.presentChs (s : State) (b : BankIx) : List Ch := (bankChs b).filter fun c => s.hasCh c
/-- Number of interpolation groups. -/
def State.groupCount (s : State) : Nat := (s.caps / 2 ^ 45) % 8

/-! ### Channel states (R81) -/

/-- IDLE, HOLD_REDUCED, MOVING or STOPPING (R208, ENERGISED). -/
def ChState.energised : ChState → Bool
  | .idle | .holdReduced | .moving | .stopping => true
  | _ => false

/-- MOVING or STOPPING (R208). -/
def ChState.inMotion : ChState → Bool
  | .moving | .stopping => true
  | _ => false

/-- Stopped in the sense of the CH space (R89). -/
def ChState.stopped : ChState → Bool
  | .disabled | .idle | .holdReduced | .parked | .fault => true
  | _ => false

/-- Standing in the sense of the bank coil policy (R105): a paused move is in MOVING and does not stand (R495). -/
def ChState.standing : ChState → Bool := ChState.stopped

/-- Value of CH.STATE (R81). -/
def ChState.code : ChState → Nat
  | .disabled => 0
  | .rollcall => 1
  | .idle => 2
  | .holdReduced => 3
  | .moving => 4
  | .stopping => 5
  | .parked => 6
  | .fault => 7

def State.energised (s : State) (c : Ch) : Bool := (s.chan c).state.energised

/-! ### Events (R355 to R359) -/

/-- Class of an event code. -/
def eventClass (code : Nat) : Nat := (code / 256) % 16

/-- A class is suppressed; class 0 cannot be (R359). -/
def State.suppressed (s : State) (code : Nat) : Bool :=
  eventClass code != 0 && (s.parN Pid.DEV_EVENT_SUPPRESS 0).testBit (eventClass code)

/-- The ring after one more event: stored, or counted in the marker of the 256th place (R357). -/
def Mailbox.store (m : Mailbox) (e : Event) : Mailbox :=
  let m := { m with nextEvtSeq := (m.nextEvtSeq + 1) % 2 ^ 32 }
  if m.ring.length < 255 then { m with ring := m.ring ++ [.event e], markerOpen := false }
  else
    let lost := { m with eventsLost := satAdd (2 ^ 32 - 1) m.eventsLost 1 }
    match m.markerOpen, m.ring.getLast? with
    | true, some (.marker q ts) => { lost with ring := m.ring.dropLast ++ [.marker q (ts ++ [e.time])] }
    | _, _ => { lost with ring := m.ring ++ [.marker e.evtSeq [e.time]], markerOpen := true }

/-- The ring takes an event that is not suppressed, under the next EVT_SEQ (R356, R357). -/
def State.ringUp (s : State) (e : Event) : State :=
  { s with mbx := s.mbx.store { e with evtSeq := s.mbx.nextEvtSeq } }

/-- The firmware posts an event: suppressed, or numbered and stored (R356, R357, R359). -/
def State.post (s : State) (e : Event) : State := if s.suppressed e.code then s else s.ringUp e

/-- The firmware learns of an event: posted, or put behind what waits for a response (R350, R358). -/
def State.learn (s : State) (e : Event) : State :=
  if s.mbx.holding || !s.mbx.held.isEmpty then
    if s.suppressed e.code then s else { s with mbx := { s.mbx with held := s.mbx.held ++ [e] } }
  else s.post e

/-- The firmware executes a command, whose events wait for its response (R350). -/
def State.holdEvents (s : State) (b : Bool) : State := { s with mbx := { s.mbx with holding := b } }

/-- An event arises. One that a command causes waits for the command's response, by the suppression in force where it arises (R350,
R359), and what the firmware learns of after it waits behind it (R358); during an Eclipse it waits for the restart (R312). No event
source is active outside the runtime (R296). -/
def State.raiseS (s : State) (code inst : Nat) (suspect : Bool) (payload : List Byte) : State :=
  let e : Event := { code := code, inst := inst, deferred := s.boot.eclipse, suspect := suspect, evtSeq := 0,
                     time := s.time, payload := padTo 16 payload }
  if s.phase != .runtime then s
  else if !s.mbx.holding && (s.boot.eclipse || s.boot.halted) then
    { s with mbx := { s.mbx with deferred := s.mbx.deferred ++ [e] } }
  else s.learn e

def State.raise (s : State) (code inst : Nat) (payload : List Byte) : State := s.raiseS code inst false payload

/-- An event that arose at another device time than the present one. -/
def State.raiseAt (s : State) (t code inst : Nat) (payload : List Byte) : State :=
  { ({ s with time := t }).raise code inst payload with time := s.time }

/-- A pulse source becomes active in this fc (R207). -/
def State.pulse (s : State) (src : Nat) : State :=
  if s.pulses.contains src then s else { s with pulses := s.pulses ++ [src] }

/-- Pulse of a channel's local source (R46). -/
def State.chPulse (s : State) (c : Ch) (n : Nat) : State := s.pulse (c.val * 36 + n)

/-- Signed payload field. -/
def leInt (n : Nat) (v : Int) : List Byte := leBytes n (uint (8 * n) v)

/-- Present position in whole microsteps (R49). -/
def Motion.position (m : Motion) : Int := m.pos / 2 ^ 24

/-- Present velocity in whole microsteps/s, towards minus infinity as CH.POSITION (R49, R90, assumption 81). -/
def Motion.velocity (m : Motion) : Int := m.vel / 2 ^ 24

/-! ### Parameters carried to the power die (R25, R175, R493) -/

/-- The next tag of the rotation that is free: not awaiting its echo and not issued within 48 superframes (R493). -/
def Link.freeTag (l : Link) : Byte :=
  let busy := fun t : Nat => t == 0 || l.cfg.any (fun w => w.tag.toNat == t) || l.cooling.any (fun p => p.1.toNat == t)
  let cand := (List.range 255).map fun i => (l.lastTag.toNat + i) % 255 + 1
  BitVec.ofNat 8 ((cand.find? fun t => !busy t).getD 0)

/-- The link takes up a configuration write under the next free tag; with none free it waits (R493). -/
def Link.issue (l : Link) (k : CfgKind) (waited : Bool) : Link :=
  if l.freeTag != 0 then { l with cfg := l.cfg ++ [⟨l.freeTag, k⟩], lastTag := l.freeTag }
  else { l with backlog := l.backlog ++ [(k, waited)] }

/-- A configuration write of a command is issued; answers its tag, if it already has one. Without an answering power die
nothing is sent (R306). -/
def State.configWrite (s : State) (k : CfgKind) : State × List Byte :=
  if s.link.txOn && s.link.answers then
    ({ s with link := s.link.issue k true }, if s.link.freeTag != 0 then [s.link.freeTag] else [])
  else (s, [])

/-- A configuration write that no command waits for. -/
def State.sendWrite (s : State) (k : CfgKind) : State :=
  if s.link.txOn && s.link.answers then { s with link := s.link.issue k false } else s

/-! ### Urgent orders (R30, R31, R494) -/

/-- Channels of a mask that are not already in an ordered state (R31). -/
def State.notYet (s : State) (ordered : PdChan → Bool) (m : BitVec 24) : BitVec 24 :=
  maskWhere fun c => maskBit m c && !ordered (s.pdChan c)

/-- An order exists only while the link transmitter runs; it joins the pending symbol of its type (R31, R494). -/
def State.orderSoftOff (s : State) (m : BitVec 24) : State :=
  if s.link.txOn then { s with link := { s.link with softOff := s.link.softOff ||| m } } else s
def State.orderPark (s : State) (m : BitVec 24) : State :=
  if s.link.txOn then { s with link := { s.link with park := s.link.park ||| m } } else s
def State.orderHold (s : State) (m : BitVec 24) : State :=
  if s.link.txOn then { s with link := { s.link with hold := s.link.hold ||| m } } else s

/-- The write that powers a channel's slice has not been echoed yet (R431). -/
def State.preparing (s : State) (c : Ch) : Bool :=
  s.link.cfg.any (fun w => w.kind == .prepare c) || s.link.backlog.any fun p => p.1 == .prepare c

end Sys2Proof.Machine
end

