-- ==== Sys2Proof/Machine/PowerStage.lean ====
section
/-! DEFINITION. The power stage on the power die: gates, shorts, two-step turn-off, supply monitors, park and current
sampling (R142 to R173, R496). -/

namespace Sys2Proof.Machine

/-! ### Settings and life of the power die -/

/-- The power die runs: supplied, out of reset and not in standby (R417, R426, R428). -/
def State.pdOn (s : State) : Bool := s.pd.running && !s.pd.standby && !s.inReset

/-- A setting as the power die holds it (R175). -/
def State.pdPar (s : State) (id inst : Nat) : Int := Sparse.get (resetOf id) s.pd.config (pkey id inst)

/-- A supply level as applied, in steps of 100 mV rounded down (R162). -/
def State.level100 (s : State) (id : Nat) (b : BankIx) : Int := s.pdPar id b.val / 100 * 100

/-! ### Gates of one channel -/

/-- VM of a bank stands above 6 V (R417). -/
def State.vmPresent (s : State) (b : BankIx) : Bool := if b == 0 then s.power.vmA else s.power.vmB

/-- The gates can be driven: the power die runs, the channel's slice is powered and its bank's charge pump runs. Otherwise
the undervoltage-safe pull-downs hold every gate off (R146, R417). -/
def State.drives (s : State) (c : Ch) : Bool :=
  s.pdOn && (s.pdChan c).slice && (s.pdBank (bankOf c)).pump && s.vmPresent (bankOf c)

/-- The loaded entry, and no turn-off, has the gates switch or stand under a hold (R147, R156). -/
def PdChan.switching (k : PdChan) : Bool := k.entry.gateEn && k.turnOff == .none

/-- Some FET counts as commanded on: until the start of full off (R151). -/
def PdChan.commandedOn (k : PdChan) : Bool := k.switching || k.turnOff == .plateau

/-- Some FET of the channel is on or may turn on. -/
def State.fetsOn (s : State) (c : Ch) : Bool := s.drives c && (s.pdChan c).commandedOn

/-- A two-step turn-off starts; one that runs is not restarted (R156, R157). A park hold ends with it (R170). -/
def PdChan.startOff (k : PdChan) : PdChan :=
  { k with parkHold := false,
           turnOff := match k.turnOff with
             | .none => if k.entry.gateEn then .plateau else .off
             | t => t }

/-- The same where the gates are found in any state: the turn-off begins unless it runs already (R157). The spec does not say
how long one runs once full off has begun: a gate that fails its check after that begins a new one (DESIGN CHOICE,
assumption 87). -/
def PdChan.forceOff (k : PdChan) : PdChan := { k with parkHold := false, turnOff := .plateau }

/-- A latch keeps the FETs off (R158, R160, R166, R170, R32). -/
def PdChan.latched (k : PdChan) : Bool := k.sc != 0 || k.gate || k.bankOff || k.softIgnore || (k.park && !k.parkHold)

/-- Flag character of the uplink (R158). -/
def PdChan.flags (k : PdChan) : Byte :=
  k.sc ++ (BitVec.ofBool k.inst ++ BitVec.ofBool k.gate ++ BitVec.ofBool k.park ++ BitVec.ofBool k.softIgnore)

/-- The latches of trips are cleared; the FETs stay off until an entry loads (R147, R156, R496). -/
def PdChan.clearTrips (k : PdChan) : PdChan :=
  { k with sc := 0, inst := false, gate := false, bankOff := false, bankUv := false }

/-- A configuration write clears every latch of the channel (R161); under a safe input or over-temperature the channel
stays in park (R169, R171). -/
def PdChan.clear (k : PdChan) (stay : Bool) : PdChan := { k.clearTrips with park := k.park && stay }

/-- Park of one channel on the power die (R168, R170): duty words frozen, a HOLD over (R31); with BANK.PARK_HOLD = 0 the
turn-off begins at once. A channel already in park is not affected. -/
def PdChan.enterPark (k : PdChan) (hold : Int) : PdChan :=
  if k.park then k
  else
    let k := { k with park := true, hold := 0 }
    if hold = 0 || k.turnOff != .none then k.startOff else { k with parkHold := true }

/-- Channels of a mask park on the power die: those that the variant has, while the park logic is on (R1, R430). -/
def State.pdPark (s : State) (m : BitVec 24) : State :=
  if s.pdOn && s.pd.units then
    s.forAll ((maskChs m).filter fun c => s.hasCh c) fun c s =>
      s.onPdChan c fun k => k.enterPark (s.pdPar Pid.BANK_PARK_HOLD (bankOf c).val)
  else s

/-- All 24 channels, and those of one bank. -/
def allMask : BitVec 24 := maskWhere fun _ => true
def bankMask (b : BankIx) : BitVec 24 := maskWhere fun c => bankOf c == b

/-- FAULT_N as the power die drives it: low while a park latch is set or while it does not run (R170, R426). -/
def State.pdFaultLow (s : State) : Bool := !s.pdOn || allCh.any fun c => (s.pdChan c).park

/-! ### Trips (R145, R151 to R157) -/

/-- A short comparator trips (R155): the channel turns off in two steps, also in the fc in which GATE_EN = 0 loads (R173). -/
def State.shortTrip (s : State) (c : Ch) (hb : Fin 4) (instant : Bool) : State :=
  s.onPdChan c fun k =>
    let k := if k.turnOff == .none && !k.entry.gateEn then k.forceOff else k.startOff
    { k with sc := k.sc ||| BitVec.ofNat 4 (2 ^ hb.val), inst := k.inst || instant }

/-- Only a FET that is commanded on, or was until this fc, trips (R151, R155, R173). With all FETs of the channel off there
is no diagnostic, so nothing is detected (R172): what is wrong shows when the channel is energised again, here and in
`rcResult` (R109) and `execSatPeriodsCount` (R103). -/
def execShortTrip (ch : Ch) (hb : Fin 4) (instant : Bool) (s : State) : Host.Outcome State Fault Refusal :=
  let k := s.pdChan ch
  .next (if s.drives ch && (k.commandedOn || k.offFc == some s.fc) then s.shortTrip ch hb instant else s)

/-- The gate check is due: while gates switch, and for 2 us (480 fc) from a turn-off command or the start of full off
(R145); with all FETs off for longer there is none (R172). -/
def State.gateChecked (s : State) (c : Ch) : Bool :=
  let k := s.pdChan c
  s.drives c && (k.commandedOn || k.checkFc.any fun f => s.fc ≤ f + 480)

/-- A gate fails its check (R145): the channel turns off in two steps and latches it (R157, R160). -/
def execGateFault (ch : Ch) (s : State) : Host.Outcome State Fault Refusal :=
  .next (if s.gateChecked ch then s.onPdChan ch fun k => { k.forceOff with gate := true } else s)

/-- The plateau ends: every gate fully off, until the cause is released and an entry loads (R156). -/
def PdChan.fullOff (k : PdChan) (fc : Nat) : PdChan :=
  if k.turnOff == .plateau then { k with turnOff := .off, checkFc := some fc } else k

def execSoftoffPlateauEnd (ch : Ch) (s : State) : Host.Outcome State Fault Refusal :=
  .next (if (s.pdChan ch).turnOff == .plateau then s.onPdChan ch fun k => k.fullOff s.fc else s)

/-! ### Supply monitor and chopper (R162 to R167) -/

/-- The turn-off of a bank (R165, R166): every channel whose gates switch, or which is turning off, latches it. -/
def State.bankTurnOff (s : State) (b : BankIx) (uv : Bool) : State :=
  s.forAll (bankChs b) fun c s =>
    if s.fetsOn c then s.onPdChan c fun k => { k.startOff with bankOff := true, bankUv := uv } else s

/-- The VM monitors and choppers run (R430). -/
def State.vmWatched (s : State) : Bool := s.pdOn && s.pd.units

/-- VM counts above BANK.OV_TRIP (R165). -/
def execBankOv (b : BankIx) (vm : BitVec 16) (s : State) : Host.Outcome State Fault Refusal :=
  .next
    (if s.vmWatched && s.level100 Pid.BANK_OV_TRIP b < vm.toNat then
      (s.bankTurnOff b false).onPdBank b fun k =>
        { k with ov := true, uv := false, chop := k.chop || s.pdPar Pid.BANK_CHOP_ENABLE b.val == 1 }
    else s)

/-- Whether a bank's VM stands above 6 V (R417). -/
def State.noteVm (s : State) (b : BankIx) (vm : BitVec 16) : State :=
  { s with power := if b == 0 then { s.power with vmA := 6000 < vm.toNat } else { s.power with vmB := 6000 < vm.toNat } }

/-- Below 6 V the passive pull-downs hold every gate of the bank off (R146, R417). -/
def State.gatesOff (s : State) (b : BankIx) (vm : BitVec 16) : State :=
  if 6000 < vm.toNat then s
  else s.forAll (bankChs b) fun c s => s.onPdChan c fun k => k.fullOff s.fc

/-- VM counts below BANK.UV_TRIP (R166). -/
def execBankUv (b : BankIx) (vm : BitVec 16) (s : State) : Host.Outcome State Fault Refusal :=
  .next
    (if s.vmWatched && (vm.toNat : Int) < s.level100 Pid.BANK_UV_TRIP b then
      (((s.bankTurnOff b true).gatesOff b vm).noteVm b vm).onPdBank b fun k => { k with uv := true, ov := false }
    else s)

/-- VM has stayed back inside a level for 1 us: UV or OV clears (R162). -/
def execVmWindowReturn (b : BankIx) (vm : BitVec 16) (s : State) : Host.Outcome State Fault Refusal :=
  .next
    (if s.vmWatched then
      (s.noteVm b vm).onPdBank b fun k =>
        { k with ov := k.ov && s.level100 Pid.BANK_OV_TRIP b < vm.toNat,
                 uv := k.uv && (vm.toNat : Int) < s.level100 Pid.BANK_UV_TRIP b }
    else s)

/-- VM counts above BANK.CHOP_ON (R164). -/
def execChopOn (b : BankIx) (vm : BitVec 16) (s : State) : Host.Outcome State Fault Refusal :=
  .next
    (if s.vmWatched && s.pdPar Pid.BANK_CHOP_ENABLE b.val == 1 && s.level100 Pid.BANK_CHOP_ON b < vm.toNat then
      s.onPdBank b fun k => { k with chop := true }
    else s)

/-- VM counts below BANK.CHOP_OFF (R164, R165). -/
def execChopOff (b : BankIx) (vm : BitVec 16) (s : State) : Host.Outcome State Fault Refusal :=
  .next
    (if s.vmWatched && (vm.toNat : Int) < s.level100 Pid.BANK_CHOP_OFF b then s.onPdBank b fun k => { k with chop := false }
     else s)

/-- The chopper has stayed on for longer than BANK.CHOP_MAX_ON: reported once for the on-interval (R164). -/
def execChopOverload (b : BankIx) (onMs : BitVec 32) (s : State) : Host.Outcome State Fault Refusal :=
  let k := s.bank b
  .next
    (if s.hwOn && k.status.getLsbD 4 && k.chopMax < onMs.toNat && !k.chopReported then
      ((s.onBank b fun k => { k with chopReported := true }).pulse (864 + 24 * b.val + 7)).raise 0x0405 b.val
        (leBytes 4 onMs.toNat)
    else s)

/-- The chopper as the uplink shows it: a switching is entered, older ones than 100 ms are dropped but one (R164). -/
def Bank.noteChop (k : Bank) (fc : Nat) (on : Bool) (max : Nat) : Bank :=
  let old := k.chopLog.takeWhile fun p => fc < p.1 + 24000000
  let log := old ++ ((k.chopLog.drop old.length).take 1)
  if k.status.getLsbD 4 == on then { k with chopLog := log }
  else { k with chopLog := (fc, on) :: log, chopMax := if on then max else k.chopMax, chopReported := false }

/-- fc of on-time in the log back to `from0`, the newest entry reaching to `upto`. -/
def chopOnTime (from0 : Nat) : Nat → List (Nat × Bool) → Nat
  | _, [] => 0
  | upto, (t, on) :: rest => (if on then upto - max t from0 else 0) + chopOnTime from0 (min upto (max t from0)) rest

/-- BANK.CHOP_DUTY in 0.1 % (R164). -/
def State.chopDuty (s : State) (b : BankIx) : Nat :=
  chopOnTime (s.fc - 24000000) s.fc (s.bank b).chopLog * 1000 / 24000000

/-! ### Safe inputs, temperature, park (R168 to R171) -/

def execSafeInputAsserted (b : BankIx) (s : State) : Host.Outcome State Fault Refusal :=
  .next ((s.onPdBank b fun k => { k with safe := true }).pdPark (bankMask b))

def execSafeInputDeasserted (b : BankIx) (s : State) : Host.Outcome State Fault Refusal :=
  .next (s.onPdBank b fun k => { k with safe := false })

/-- The power die reaches 170 degrees (1,360 eighths): every channel parks (R168, R171). -/
def execOverTemperature (temp : BitVec 16) (s : State) : Host.Outcome State Fault Refusal :=
  .next (if s.pdOn && 1360 ≤ temp.toInt then ({ s with pd := { s.pd with ot := true } }).pdPark allMask else s)

/-- The power die falls below 150 degrees: OT clears, no park latch does (R171). -/
def execOtClear (temp : BitVec 16) (s : State) : Host.Outcome State Fault Refusal :=
  .next (if s.pdOn && temp.toInt < 1200 then { s with pd := { s.pd with ot := false } } else s)

/-- BANK.PARK_HOLD expires: two-step turn-off (R170). -/
def execParkHoldEnd (ch : Ch) (s : State) : Host.Outcome State Fault Refusal :=
  .next (if s.pdOn && (s.pdChan ch).parkHold then s.onPdChan ch fun k => k.startOff else s)

/-! ### Loading entries (R32, R40, R147, R160, R170) -/

/-- A channel of the power die at a period start; `due` is the entry of the eligible superframe, if one arrived (R40). An
entry that loads ends a completed turn-off whose cause is gone; GATE_EN = 0 turns every gate fully off, and ends the
disregard of GATE_EN = 1 (R32, R147, R160). A plateau that a latch began runs on under GATE_EN = 0; that of an urgent
SOFT_OFF ends in full off there, where R156 would hold it and R147 turns off without one (DESIGN CHOICE, assumption 86). -/
def PdChan.periodStart (k : PdChan) (due : Option DutyEntry) (fc : Nat) : PdChan :=
  if k.park then k
  else if 1 < k.hold then { k with hold := k.hold - 1 }
  else
    let k := { k with hold := 0 }
    match due with
    | none => k
    | some e =>
      if e.gateEn then { k with entry := e, turnOff := if k.turnOff == .off && !k.latched then .none else k.turnOff }
      else
        let was := k.commandedOn
        let k := { k with entry := e, softIgnore := false }
        let k := { k with turnOff := if k.latched then (if k.turnOff == .none then .off else k.turnOff) else .none }
        if was && k.turnOff != .plateau then { k with offFc := some fc, checkFc := some fc } else k

/-! ### Period centre (R29, R143, R150) -/

/-- Sense codes of one channel: 12 bits signed; 0 with all FETs off, unless TEST or LISTEN samples (R150). -/
def PdChan.sample (k : PdChan) (on : Bool) (codes : Int × Int) : PdChan :=
  if on || k.entry.test || k.entry.listen then
    { k with code1 := clamp (-2048) 2047 codes.1, code2 := clamp (-2048) 2047 codes.2 }
  else { k with code1 := 0, code2 := 0 }

/-- The sense converters of a bank sample every channel (R150); the samples carry the period's index (R26). -/
def State.sampleBank (s : State) (b : BankIx) (codes : List (Int × Int)) : State :=
  if s.pdOn then
    (s.forAll ((bankChs b).zip codes) fun p s => s.onPdChan p.1 fun k => k.sample (s.fetsOn p.1) p.2).onPdBank b fun k =>
      { k with sampleTag := BitVec.ofNat 8 (s.bank b).index }
  else s

end Sys2Proof.Machine
end

