-- ==== Sys2Proof/Machine/Adc.lean ====
section
/-! DEFINITION. Modulators, decimators, Timetable, calibration and Gradebook (R232 to R264). -/

namespace Sys2Proof.Machine

/-! ### Entries of the Timetable (R242) -/

/-- Instance of entry `e` of a modulator. -/
def entryIx (m : ModIx) (e : Nat) : EntryIx := ⟨(m.val * 16 + e) % 256, Nat.mod_lt _ (by decide)⟩

/-- A setting of an entry. -/
def State.ePar (s : State) (m : ModIx) (e id : Nat) : Int := s.par id (entryIx m e).val

def State.onEntry (s : State) (i : EntryIx) (f : Entry → Entry) : State := { s with entries := upd s.entries i f }

/-- Clocks that a result's window spans (R236). -/
def State.windowLen (s : State) (m : ModIx) (e : Nat) : Nat :=
  (s.ePar m e Pid.ADC_E_ORDER).toNat * ((s.ePar m e Pid.ADC_E_RATIO).toNat - 1) + 1

/-- ADC.E_GROUP_DELAY in ns (R238). -/
def State.groupDelayNs (s : State) (i : EntryIx) : Nat :=
  s.parN Pid.ADC_E_ORDER i.val * (s.parN Pid.ADC_E_RATIO i.val - 1) * 50 + 1200

/-- Even member of a modulator's pair, and the odd one (R249). -/
def evenOf (m : ModIx) : ModIx := ⟨m.val / 2 * 2, by omega⟩
def oddOf (m : ModIx) : ModIx := ⟨m.val / 2 * 2 + 1, by omega⟩

/-- Bank of a modulator (R45, R232). -/
def modBank (m : ModIx) : BankIx := if m.val < 8 then 0 else 1

/-- Modulator whose entries a modulator converts: both members of an interleaved pair convert the even member's entry 0
(R249). -/
def Modulator.source (k : Modulator) (m : ModIx) : ModIx := if k.paired then evenOf m else m

/-! ### CLK_MOD (R28, R235, R247) -/

/-- The first CLK_MOD edge at or after a fabric cycle: edges fall every 24 fc (R247), on multiples of 24 (assumption 83). -/
def edgeFrom (fc : Nat) : Nat := (fc + 23) / 24 * 24

/-- Bits up to the present edge that have still to reach the decimators: the latest slot's earliest bit reached them as the slot
came, 10 clocks after its edge, and each later bit follows one clock after the one before; an edge taken just before the slot of its
own fabric cycle has that slot's earliest bit still to come (R27, R28, assumption 83). -/
def State.inFlight (s : State) : Nat := min 11 (6 + (s.fc - s.slotFc) / 24)

/-- Number of the first bit after the present edge. -/
def State.nextClk (s : State) : Nat := s.modClk + s.inFlight

/-! ### The multiplexer sequencer on the power die (R19, R243, R244, R248, R249) -/

def State.onMux (s : State) (m : ModIx) (f : MuxSeq → MuxSeq) : State := { s with pd := { s.pd with mux := upd s.pd.mux m f } }

/-- A setting of the entry that a modulator converts, as the power die holds it: both members of an interleaved pair convert the even
member's (R243, R249). -/
def State.muxPar (s : State) (m : ModIx) (e id : Nat) : Nat := (s.pdPar id (entryIx ((s.modu m).source m) e).val).toNat

/-- Edges that an entry lasts: E_SETTLE + (k + E_COUNT - 1) N (R244), one period more where its first result is discarded
(R248), and 0 for an entry without end (R245). -/
def State.muxLen (s : State) (m : ModIx) (e : Nat) (discard : Bool) : Nat :=
  let n := s.muxPar m e Pid.ADC_E_COUNT
  if n == 0 then 0
  else s.muxPar m e Pid.ADC_E_SETTLE + (s.muxPar m e Pid.ADC_E_ORDER + n - 1 + b2n discard) * s.muxPar m e Pid.ADC_E_RATIO

/-- The multiplexer selects an entry's input and gain (R244). -/
def State.muxSelect (s : State) (m : ModIx) (e : Nat) (discard : Bool) (q : MuxSeq) : MuxSeq :=
  { q with phase := .entry, entry := e, left := s.muxLen m e discard, input := s.muxPar m e Pid.ADC_E_INPUT,
           gain := s.muxPar m e Pid.ADC_E_GAIN }

/-- A pass begins: `delay` clocks of start-up first (R244, R248, R249). -/
def State.muxPass (s : State) (m : ModIx) (delay : Nat) (q : MuxSeq) : MuxSeq :=
  if delay == 0 then { s.muxSelect m 0 false q with frontEnd := true }
  else { q with phase := .startUp, entry := 0, left := delay, frontEnd := true }

/-- One CLK_MOD edge of a multiplexer sequencer: the phase's clocks run out, and the next phase begins. -/
def State.muxEdge (s : State) (m : ModIx) (q : MuxSeq) : MuxSeq :=
  if q.left != 1 then { q with left := q.left - 1 }
  else match q.phase with
    | .idle => { q with left := 0 }
    | .startUp => s.muxSelect m 0 (s.pdPar Pid.ADC_POWER_DOWN m.val != 0) q
    | .entry =>
      if (q.entry + 1 : Int) < s.pdPar Pid.ADC_TABLE_LEN m.val then s.muxSelect m (q.entry + 1) false q
      else { q with phase := .tail, left := 12 }
    | .tail => { q with phase := .idle, entry := 0, left := 0, frontEnd := s.pdPar Pid.ADC_POWER_DOWN m.val == 0 }

/-- A CLK_MOD edge on the power die: every multiplexer sequencer counts it (R243). -/
def State.modEdge (s : State) : State :=
  if s.pdOn then { s with pd := { s.pd with mux := s.pd.mux.mapFinIdx fun i q h => s.muxEdge ⟨i, h⟩ q } } else s

/-! ### The decimator (R235, R236, R244, R248, R249) -/

/-- Integrators: each adds the value before it. -/
def integrators (x : Int) : List Int → List Int
  | [] => []
  | a :: as => (a + x) :: integrators (a + x) as

/-- Combs: each subtracts the value it was given one decimation before. -/
def combs (x : Int) : List Int → Int × List Int
  | [] => (x, [])
  | z :: zs =>
    let r := combs (x - z) zs
    (r.1, x :: r.2)

/-- A modulator bit enters a sinc filter of the order of its lists: a one counts 1, a zero -1. At every `ratio`-th bit a value
leaves, and it is a result once as many have left since the reset as the order (R235, R244). -/
def Sinc.take (f : Sinc) (ratio : Nat) (b : Bool) : Sinc × Option Int :=
  let acc := integrators (if b then 1 else -1) f.acc
  if f.bits + 1 < ratio then ({ f with acc := acc, bits := f.bits + 1 }, none)
  else
    let r := combs (acc.getLastD 0) f.comb
    let n := min f.acc.length (f.blocks + 1)
    (⟨acc, r.2, 0, n⟩, if f.acc.length ≤ n then some r.1 else none)

/-- The decimator sequencer begins an entry: the filter is reset after `delay` and E_SETTLE ignored bits (R244). -/
def State.beginEntry (s : State) (m : ModIx) (e delay : Nat) (k : Modulator) : Modulator :=
  let src := k.source m
  { k with entry := e, done := 0, ended := false, wait := delay + (s.ePar src e Pid.ADC_E_SETTLE).toNat
           sinc := Sinc.init (s.ePar src e Pid.ADC_E_ORDER).toNat }

/-- A result of the filter (R236, R244, R248): the entry goes on, the next one begins, or the pass has its last bit. -/
def State.converted (s : State) (m : ModIx) (clk leave : Nat) (sum : Int) (k : Modulator) : Modulator :=
  let src := k.source m
  let n := (s.ePar src k.entry Pid.ADC_E_COUNT).toNat
  let final := n != 0 && n ≤ k.done + 1
  let more := final && k.entry + 1 < s.parN Pid.ADC_TABLE_LEN src.val
  if k.discard then { k with discard := false }
  else
    let k := { k with out := k.out ++ [⟨k.entry, entryIx src k.entry, sum, clk, leave, final && !more⟩] }
    if more then s.beginEntry m (k.entry + 1) 0 k else { k with done := k.done + 1, ended := final }

/-- One bit at a decimator, with its clock and the fc in which a result that ends with it leaves. -/
def State.decimate (s : State) (m : ModIx) (clk leave : Nat) (b : Bool) (k : Modulator) : Modulator :=
  if !k.inPass || k.ended then k
  else if 0 < k.wait then { k with wait := k.wait - 1 }
  else
    let r := k.sinc.take (s.ePar (k.source m) k.entry Pid.ADC_E_RATIO).toNat b
    let k := { k with sinc := r.1 }
    match r.2 with
    | none => k
    | some sum => s.converted m clk leave sum k

/-! ### Modulator bits (R27, R28, R251, R252) -/

/-- Latest 1,400,000 clocks: longer than any window. -/
def recent (now : Nat) (l : List Nat) : List Nat := l.filter fun t => now < t + 1400000

/-- One bit of a modulator at a clock: 64 identical bits in a row make it unstable (R251). -/
def Modulator.bit (k : Modulator) (clk : Nat) (b : Bool) : Modulator :=
  let n := if b == k.lastBit then k.runLen + 1 else 1
  if 64 ≤ n then { k with lastBit := b, runLen := 0, unstable := recent clk (k.unstable ++ [clk - 63]) }
  else { k with lastBit := b, runLen := n }

/-- The five bits of one modulator in a slot, the earliest first: bit `i` reaches the decimator `i` clocks after the slot, and a
result leaves 2 clocks after its last bit (R28, R236). -/
def State.slotBits (s : State) (m : ModIx) (bits : Nat) (k : Modulator) : Modulator :=
  (List.range 5).foldl (fun k i =>
    s.decimate m (s.modClk + i) (s.fc + 24 * (i + 2)) (bits.testBit i) (k.bit (s.modClk + i) (bits.testBit i))) k

/-- Bits 5m + 4 to 5m of a good slot; the pattern 1, 0, 1, 0, 1 in place of lost ones (R27, R252). -/
def groupOf (good : Bool) (bits : BitVec 80) (m : ModIx) : Nat := if good then bits.toNat / 2 ^ (5 * m.val) % 32 else 21

/-- An uplink modulator slot (R27): with a bad CRC-8 its bits are lost, and every running modulator asserts DATA_LOST (R252). -/
def execModulatorSlot (bits : BitVec 80) (crc : Byte) (s : State) : Host.Outcome State Fault Refusal :=
  let good := crc8Slot bits == crc.toNat
  .next
    (if s.hwOn then
      let s1 := { s with
        modClk := s.modClk + 5
        slotFc := s.fc
        lostClks := recent s.modClk (if good then s.lostClks else s.lostClks ++ [s.modClk])
        mods := s.mods.mapFinIdx fun i k h => if k.running then s.slotBits ⟨i, h⟩ (groupOf good bits ⟨i, h⟩) k else k }
      if good then s1
      else s1.forAll (List.finRange 16) fun (m : ModIx) s => if (s.modu m).running then s.pulse (912 + 4 * m.val + 2) else s
    else s)

/-- A span of `n` clocks from `a` meets the window of `len` clocks that ends at `last`. -/
def meets (a n last len : Nat) : Bool := a ≤ last && last < a + n + len - 1

/-! ### Gradebook (R256 to R261) -/

/-- A result accumulated (R256). -/
def GbAcc.add (a : GbAcc) (code : Int) (ovr lost : Bool) : GbAcc :=
  if lost then { a with lost := satAdd 65535 a.lost 1 }
  else
    { a with sum := sint 56 (uint 56 (a.sum + code)), count := a.count + 1,
             min := if a.count == 0 then code else Min.min a.min code, max := if a.count == 0 then code else Max.max a.max code,
             ovr := if ovr then satAdd 65535 a.ovr 1 else a.ovr }

/-- A snapshot: accumulators published and cleared (R257, R258). -/
def Gb.snap (g : Gb) (time : Nat) (early : Bool) : Gb :=
  { g with acc := GbAcc.init, seq := (g.seq + 1) % 65536, read := false
           pub := some { endTime := time, acc := g.acc, early := early, unread := g.pub.isSome && !g.read,
                         seq := (g.seq + 1) % 65536 } }

/-- A boundary at device time `t` for an entry with GB.WINDOW `w` and GB.SOURCE `src`, taken once: a window in progress that ends
here snapshots, and an enabled entry whose windows begin here accumulates from now on (R257, R260). A window in progress keeps
the length and the feeder it began with. -/
def Gb.boundary (g : Gb) (w src t : Nat) : Gb :=
  if g.closed == some t then g
  else
    let g := { g with closed := some t }
    let g := if g.active && g.window != 0 && t % g.window == 0 then { g.snap t false with active := false } else g
    if g.enabled && !g.active && w != 0 && t % w == 0 then { g with active := true, window := w, src := src, acc := GbAcc.init }
    else g

/-- One result of feeder `i` at one Gradebook entry (R256, R257): one stamped on a boundary belongs to the new window. With
GB.WINDOW = 0 every result snapshots on its own. -/
def Gb.feed (g : Gb) (w src i time : Nat) (code : Int) (ovr lost : Bool) : Gb :=
  let g := g.boundary w src time
  if g.active then
    if g.src != i then g
    else
      let g := { g with acc := g.acc.add code ovr lost }
      if 16777215 ≤ g.acc.count then g.snap time true else g
  else if g.enabled && w == 0 && src == i then { g with acc := GbAcc.init.add code ovr lost }.snap time false
  else g

/-- A feeder as GB.SOURCE names it: kind 1 a Timetable entry, 2 a filter channel (R264). -/
def feeder (kind ix : Nat) : Nat := kind * 16384 + ix

/-- Every Gradebook entry takes the result of a feeder (R256). -/
def State.feedGb (s : State) (kind ix : Nat) (code : Int) (ovr lost : Bool) : State :=
  { s with gbs := Vector.ofFn fun g : EntryIx =>
      s.gbs[g].feed (s.parN Pid.GB_WINDOW g.val) (s.parN Pid.GB_SOURCE g.val) (feeder kind ix) s.time code ovr lost }

/-- Device time reaches a multiple of GB.WINDOW (R257, R260). -/
def execGbWindowBoundary (g : EntryIx) (s : State) : Host.Outcome State Fault Refusal :=
  .next
    (if s.hwOn then s.onGb g fun k => k.boundary (s.parN Pid.GB_WINDOW g.val) (s.parN Pid.GB_SOURCE g.val) s.time
    else s)

/-- A write of GB.ENABLE (R257, R260): a window in progress goes on to its boundary. -/
def State.writeGbEnable (s : State) (g : EntryIx) (v : Int) : State × Result :=
  let s' := s.setPar Pid.GB_ENABLE g.val v
  if v == 0 then (s'.onGb g fun k => { k with enabled := false }, .ok)
  else
    (s'.onGb g fun k => if k.enabled then k else { k with enabled := true, seq := if k.active then k.seq else 0 }, .ok)

/-- The 32 bytes of a published record (R258). -/
def Gb.record (g : Gb) : List Byte :=
  match g.pub with
  | none => padTo 32 (List.replicate 19 0 ++ [2])
  | some r =>
    let a := r.acc
    leBytes 8 r.endTime ++ leInt 8 a.sum ++ leBytes 3 a.count ++
      [BitVec.ofNat 8 (4 * b2n r.unread + 2 * b2n (a.count == 0) + b2n r.early)] ++ leInt 3 a.min ++ leInt 3 a.max ++
      leBytes 2 a.ovr ++ leBytes 2 a.lost ++ leBytes 2 r.seq

/-! ### Results (R236, R237, R244, R248, R251, R252) -/

/-- Division by 2^n with convergent rounding: to the nearest, ties to even (R255, R273). -/
def roundEven (x : Int) (n : Nat) : Int :=
  let q := x / 2 ^ n
  let r := x % 2 ^ n
  if 2 * r < 2 ^ n then q else if 2 * r = 2 ^ n then q + q % 2 else q + 1

/-- Full scale (R233). -/
def fullScale : Int := 8388607

/-- System calibration of an entry and the clamp (R237, R255). -/
def State.calibrate (s : State) (i : EntryIx) (x : Int) : Int :=
  clamp (-fullScale) fullScale (roundEven ((x - s.par Pid.ADC_CAL_OFFSET i.val) * s.par Pid.ADC_CAL_GAIN i.val) 22)

/-- Rate-limited report of overruns or lost results (R247, R252). -/
def State.reportOverrun (s : State) (m : ModIx) : State :=
  (s.onMod m fun k => { k with overrunNew := 0, ovrLimited := true }).raise 0x0702 m.val (leBytes 4 (s.modu m).overrunNew)
def State.reportLost (s : State) (m : ModIx) : State :=
  (s.onMod m fun k => { k with lostNew := 0, lostLimited := true }).raise 0x0703 m.val (leBytes 4 (s.modu m).lostNew)

/-- A trigger ignored and counted (R247). -/
def State.overrun (s : State) (m : ModIx) : State :=
  let s := s.onMod m fun k => { k with overrun := satAdd (2 ^ 32 - 1) k.overrun 1, overrunNew := k.overrunNew + 1 }
  if (s.modu m).ovrLimited then s else s.reportOverrun m

/-- A result marked lost is counted and reported (R252). -/
def State.lostResult (s : State) (m : ModIx) : State :=
  let s := s.onMod m fun k => { k with lost := satAdd (2 ^ 32 - 1) k.lost 1, lostNew := k.lostNew + 1 }
  if (s.modu m).lostLimited then s else s.reportLost m

/-- A result as a filter channel records it (R268, R270). A lost one stands with the value before it (R274); before the first
good one there is none, and the record begins with that (assumption 84). -/
def Flt.take (f : Flt) (r : ResultIn) : Flt :=
  let add := fun r : ResultIn => { f with inputs := (r :: f.inputs).take 64, fresh := f.fresh + 1 }
  if r.lost then
    match f.inputs with
    | p :: _ => add { r with code := p.code, ovr := p.ovr }
    | [] => f
  else add r

/-- A result goes to every running filter channel that it feeds (R236, R268). -/
def State.toFilters (s : State) (i : EntryIx) (r : ResultIn) : State :=
  { s with flts := s.flts.mapFinIdx fun f k _ => if k.running && s.parN Pid.FLT_SOURCE f == i.val then k.take r else k }

/-- A collecting calibration step takes a result whose whole window follows its acceptance (R254). -/
def CalRun.take (k : CalRun) (x : Int) (ovr : Bool) (first : Nat) : CalRun :=
  if k.ended.isSome || 64 ≤ k.values.length || first < k.fromClk then k
  else { k with values := x :: k.values, ovr := k.ovr || ovr }

/-- The last result of a pass has left (R244, R248): front end off under POWER_DOWN; a trigger of CONTINUOUS (R246). -/
def State.endPass (s : State) (m : ModIx) : State :=
  (s.onMod m fun k =>
    { k with entry := 0, done := 0, ended := false, inPass := false, powered := !s.parB Pid.ADC_POWER_DOWN m.val
             due := if k.due.isEmpty && s.parN Pid.ADC_TRIG_SRC m.val == 3
               then [edgeFrom (s.fc + s.parN Pid.ADC_TRIG_DELAY m.val)] else k.due }).pulse (912 + 4 * m.val + 3)

/-- A result leaves: trim, marks, calibration, and everything it goes to. -/
def State.result (s : State) (m : ModIx) (r : ConvOut) : State :=
  let k := s.modu m
  let own := entryIx m r.entry
  let src : ModIx := ⟨r.into.val / 16 % 16, Nat.mod_lt _ (by decide)⟩
  let set := fun id => (s.ePar src r.entry id).toNat
  let len := s.windowLen src r.entry
  let trimmed := Config.factoryTrim m.val (set Pid.ADC_E_GAIN) (set Pid.ADC_E_ORDER) (set Pid.ADC_E_RATIO) r.sum
  let unstable := k.unstable.any fun a => meets a 68 r.lastClk len
  let ovr := 105 * fullScale < 100 * |trimmed| || unstable
  let lost := s.lostClks.any fun a => meets a 5 r.lastClk len
  let code := s.calibrate own trimmed
  let s1 := s.pulse (912 + 4 * m.val)
  let s2 := if ovr then s1.pulse (912 + 4 * m.val + 1) else s1
  let s3 := if lost then s2.lostResult m else s2
  let s4 := (s3.feedGb 1 r.into.val code ovr lost).toFilters r.into ⟨s.fc, code, ovr, lost⟩
  s4.onEntry own fun x => { x with cal := x.cal.map fun c => c.take trimmed ovr (r.lastClk + 1 - len) }

/-- A result leaves the decimator, 12 clocks after the edge of its last bit (R236). Only the oldest on its way can leave. -/
def execConversionResult (m : ModIx) (sum : Int) (lastClk : Nat) (s : State) : Host.Outcome State Fault Refusal :=
  .next
    (if !s.hwOn then s
     else match (s.modu m).out with
      | [] => s
      | r :: rest =>
        if s.fc < r.leave || r.sum != sum || r.lastClk != lastClk then s
        else
          let t := (s.onMod m fun k => { k with out := rest }).result m r
          if r.last && (t.modu m).inPass then t.endPass m else t)

/-! ### Triggers and passes (R245 to R248) -/

/-- A single entry with a count of 0: every trigger after its first is ignored without counting (R247). -/
def State.endless (s : State) (m : ModIx) : Bool :=
  s.parN Pid.ADC_TABLE_LEN m.val == 1 && s.ePar m 0 Pid.ADC_E_COUNT == 0

/-- PWM events of a bank as the triggers of the modulators that name one of its channels (R246). -/
def State.countPwm (s : State) (b : BankIx) (src : Nat) : State :=
  { s with mods := Vector.ofFn fun m : ModIx =>
      let k := s.mods[m]
      if k.running && s.parN Pid.ADC_TRIG_SRC m.val == src && (s.parN Pid.ADC_TRIG_CH m.val < 12) == (b == 0) then
        { k with pwmEvents := k.pwmEvents + 1 }
      else k }

/-- The trigger selected by ADC.TRIG_SRC has come (R246): the timer has run its period, or ADC.TRIG_EVERY PWM events have passed.
CONTINUOUS triggers at the start edge and at the end of each pass alone. -/
def State.triggerDue (s : State) (m : ModIx) : Bool :=
  match s.parN Pid.ADC_TRIG_SRC m.val with
  | 0 => (s.modu m).nextTimer ≤ s.fc
  | 3 => false
  | _ => s.parN Pid.ADC_TRIG_EVERY m.val ≤ (s.modu m).pwmEvents

/-- The trigger's count begins again. -/
def State.retrigger (s : State) (m : ModIx) : State :=
  s.onMod m fun k =>
    { k with pwmEvents := 0
             nextTimer := if s.parN Pid.ADC_TRIG_SRC m.val == 0 then k.nextTimer + 24 * s.parN Pid.ADC_TIMER_PERIOD m.val
               else k.nextTimer }

/-- A trigger arrives (R246, R247): the pass is to start at the first edge at or after it plus ADC.TRIG_DELAY. One that arrives while a
pass runs is ignored and counted; one that arrives while an earlier one still waits for its delay is neither. -/
def execAdcTrigger (m : ModIx) (s : State) : Host.Outcome State Fault Refusal :=
  let k := s.modu m
  .next
    (if !(s.hwOn && k.running && s.triggerDue m && !(k.paired && m.val % 2 == 1)) then s
     else
      let s := s.retrigger m
      if s.endless m && (k.inPass || !k.due.isEmpty) then s
      else if k.inPass then s.overrun m
      else s.onMod m fun k => { k with due := k.due ++ [edgeFrom (s.fc + s.parN Pid.ADC_TRIG_DELAY m.val)] })

/-- The pass of one modulator begins `lag` clocks after the present edge: front end on, with 400 clocks of start-up and the first
result discarded where it was off, then entry 0 (R244, R248). -/
def State.startPass (s : State) (m : ModIx) (lag : Nat) : State :=
  let delay := lag + if (s.modu m).powered then 0 else 400
  (s.onMod m fun k =>
    { s.beginEntry m 0 (s.inFlight + delay) k with due := k.due.tail, inPass := true, discard := !k.powered, powered := true }).onMux m
      (s.muxPass m delay)

/-- First CLK_MOD edge at or after the trigger plus ADC.TRIG_DELAY (R247); the odd member of a pair starts N / 2 clocks later
(R249). Where the pass of a trigger before it runs by then, the trigger is ignored and counted too (DESIGN CHOICE, assumption 115). -/
def execPassStart (m : ModIx) (s : State) : Host.Outcome State Fault Refusal :=
  let k := s.modu m
  .next
    (match k.due with
     | [] => s
     | edge :: rest =>
       if !(s.hwOn && k.running && edge ≤ s.fc) then s
       else if k.inPass then (s.onMod m fun k => { k with due := rest }).overrun m
       else
        let s := s.startPass m 0
        if k.paired then s.startPass (oddOf m) ((s.ePar m 0 Pid.ADC_E_RATIO).toNat / 2) else s)

/-! ### ADC.RUN (R243, R249, R250, R259) -/

/-- The checks of an interleaved pair (R249). -/
def State.pairOk (s : State) (m : ModIx) : Bool :=
  let o := oddOf m
  s.parN Pid.ADC_TABLE_LEN m.val == 1 && s.parN Pid.ADC_TABLE_LEN o.val == 1 && s.ePar m 0 Pid.ADC_E_COUNT == 0 &&
    s.ePar m 0 Pid.ADC_E_RATIO % 2 == 0 && !s.parB Pid.ADC_POWER_DOWN m.val && !s.parB Pid.ADC_POWER_DOWN o.val &&
    [Pid.ADC_E_INPUT, Pid.ADC_E_GAIN, Pid.ADC_E_ORDER, Pid.ADC_E_RATIO, Pid.ADC_E_SETTLE].all fun id =>
      s.ePar m 0 id == s.ePar o 0 id

/-- The pair of the modulator is set to interleave. -/
def State.interleaves (s : State) (m : ModIx) : Bool := s.parB Pid.ADC_INTERLEAVE (evenOf m).val

/-- A write of 1 to ADC.RUN is in range (R259). -/
def State.adcStartOk (s : State) (m : ModIx) : Bool :=
  let len := s.parN Pid.ADC_TABLE_LEN m.val
  !(1 < len && ((List.range len).any fun e => s.ePar m e Pid.ADC_E_COUNT == 0)) &&
    !(s.parN Pid.ADC_TRIG_SRC m.val == 3 && s.parB Pid.ADC_POWER_DOWN m.val) &&
    (!s.interleaves m || s.pairOk m)

/-- The run starts at the edge that its configuration write fixes (R243): the start edge is a trigger of TIMER and of
CONTINUOUS (R246). -/
def State.startMod (s : State) (m : ModIx) (paired lead : Bool) : State :=
  let src := s.parN Pid.ADC_TRIG_SRC m.val
  let start := edgeFrom s.fc
  (s.onMod m fun k =>
    { k with running := true, stopping := false, inPass := false, entry := 0, done := 0, ended := false, discard := false, wait := 0
             due := if lead && (src == 0 || src == 3) then [edgeFrom (start + s.parN Pid.ADC_TRIG_DELAY m.val)] else []
             nextTimer := start + 24 * s.parN Pid.ADC_TIMER_PERIOD m.val
             powered := !s.parB Pid.ADC_POWER_DOWN m.val, pwmEvents := 0, runLen := 0, paired := paired }).onMux m fun _ =>
      { MuxSeq.init with running := true, frontEnd := !s.parB Pid.ADC_POWER_DOWN m.val }

/-- A stopped feeder starves the RESAMPLE channels that it feeds at once: 16 new results end that (R276, R277). One under DIRECT input
starves by its held outputs. -/
def Flt.starve (k : Flt) : Flt := { k with starved := true, inputs := k.inputs.take 1 }

/-- Running RESAMPLE channels that a modulator feeds (R270, R277). -/
def State.feeds (s : State) (m : ModIx) (f : Nat) (k : Flt) : Bool :=
  k.running && s.parN Pid.FLT_INPUT_MODE f == 1 && s.parN Pid.FLT_SOURCE f / 16 == m.val

/-- The modulator stops (R254, R259, R277): a partly converted result, one with a bit still to reach the decimator, is abandoned
(DESIGN CHOICE, assumption 116), collecting steps end with reason 5, and the channels fed starve. -/
def State.stopMod (s : State) (m : ModIx) : State :=
  let s := s.onMod m fun k => { k with running := false, stopping := false, inPass := false, due := [], powered := false
                                       paired := false, entry := 0, done := 0, ended := false, discard := false, wait := 0
                                       out := k.out.filter fun r => r.leave ≤ s.fc + 48 }
  let s := { s with flts := s.flts.mapFinIdx fun f k _ => if s.feeds m f k then k.starve else k }
  (s.onMux m fun _ => MuxSeq.init).forAll (List.range 16) fun e s => s.onEntry (entryIx m e) fun x =>
    { x with cal := x.cal.map fun c => if c.values.length < 64 && c.ended.isNone then { c with ended := some 5 } else c }

/-- Both dies run the modulator, and no stop waits for its edge. -/
def State.runs (s : State) (m : ModIx) : Bool := (s.modu m).running && s.pd.mux[m].running && !(s.modu m).stopping

/-- A stop that waits for its edge is made. -/
def State.endStopping (s : State) (m : ModIx) : State := if (s.modu m).stopping then s.stopMod m else s

/-- The stops applied since the CLK_MOD edge before this one take effect (R259). -/
def State.stopMods (s : State) : State := s.forAll (List.finRange 16) fun m s => s.endStopping m

/-- The modulator is to stop at the next CLK_MOD edge (R259). -/
def State.orderStop (s : State) (m : ModIx) : State := s.onMod m fun k => { k with stopping := k.running }

/-- The configuration write of a run is applied on the power die (R243, R250, R259): a run that either die has not started
begins, after the stop that a write before it in the same superframe has ordered. An odd member that ran alone begins again as a member
of the pair (DESIGN CHOICE, assumption 101). -/
def State.applyRun (s : State) (m : ModIx) (on : Bool) : State :=
  if on then
    if s.runs m then s
    else if s.interleaves m then
      (((s.endStopping (evenOf m)).stopMod (oddOf m)).startMod (evenOf m) true true).startMod (oddOf m) true false
    else (s.endStopping m).startMod m false true
  else if (s.modu m).paired then (s.orderStop (evenOf m)).orderStop (oddOf m)
  else s.orderStop m

/-- A write of ADC.RUN (R243, R249, R250, R259): the tags it waits for beside the result. -/
def State.writeAdcRun (s : State) (m : ModIx) (v : Int) : State × Result × List Byte :=
  if s.interleaves m && m.val % 2 == 1 then (s, .wrongState, [])
  else if v != 0 && s.par Pid.ADC_RUN m.val != 0 then (s, .ok, [])
  else if v != 0 && !s.adcStartOk m then (s, .outOfRange, [])
  else
    let s := s.setPar Pid.ADC_RUN m.val v
    let r := s.configWrite (.adcRun m (v != 0))
    if s.interleaves m then
      let q := (r.1.setPar Pid.ADC_RUN (oddOf m).val v).configWrite (.adcRun (oddOf m) (v != 0))
      (q.1, .ok, r.2 ++ q.2)
    else (r.1, .ok, r.2)

/-- ADC.STATUS (R263). -/
def State.adcStatus (s : State) (m : ModIx) : Nat :=
  let k := s.modu m
  let es := (List.range 16).map fun e => s.entries[entryIx m e]
  b2n k.running + 2 * b2n k.inPass + 4 * b2n k.powered + 8 * b2n k.paired + 16 * b2n (es.any fun e => e.zero.isSome) +
    32 * b2n (es.any fun e => e.cal.isSome) + 256 * k.entry

/-! ### System calibration (R253 to R255) -/

/-- The fields of CALIBRATE lie in their ranges (R253). -/
def calFieldsOk (e step : Nat) : Bool := e ≤ 15 && (step == 1 || step == 2)

/-- CALIBRATE in the order of R363 and R497 (R253). -/
def State.judgeCalibrate (s : State) (m : Nat) (e step : Nat) : Result :=
  let ix : ModIx := ⟨m % 16, Nat.mod_lt _ (by decide)⟩
  let x := s.entries[entryIx ix e]
  if m ≤ 15 && !s.hasMod ix then .unitAbsent
  else if 15 < m || !calFieldsOk e step then .outOfRange
  else if !(s.modu ix).running || s.parN Pid.ADC_TABLE_LEN ix.val ≤ e || x.cal.isSome || (step == 2 && x.zero.isNone)
  then .wrongState
  else .queued

/-- An accepted CALIBRATE begins to collect (R253, R254). -/
def State.startCalibrate (s : State) (m : ModIx) (e step : Nat) : State :=
  s.onEntry (entryIx m e) fun x =>
    { x with cal := some { step := step, values := [], ovr := false, fromClk := s.nextClk, ended := none } }

/-- A calibration step is over: 64 values, or ended early. -/
def CalRun.done (k : CalRun) : Bool := 64 ≤ k.values.length || k.ended.isSome

/-- Mean of the collected values, nearest. -/
def meanOf (xs : List Int) : Int := divNear (xs.foldl (· + ·) 0) (max 1 xs.length)

/-- Reason of a finished step, 0 on a pass: the checks in the order of R254, but for a step that an Eclipse interrupted, which R261 and
R317 give reason 6 (assumption 31). -/
def State.calReason (s : State) (i : EntryIx) (k : CalRun) (zero : Option Int) : Nat :=
  let hi := k.values.foldl max (k.values.headD 0)
  let lo := k.values.foldl min (k.values.headD 0)
  let f := meanOf k.values
  if k.ended == some 6 then 6
  else if k.ovr then 3
  else match k.ended with
  | some r => r
  | none =>
    if s.par Pid.ADC_CAL_STABLE i.val < hi - lo then 1
    else if k.step == 2 && f < zero.getD 0 then 4
    else if k.step == 2 && f - zero.getD 0 < 2097152 then 2
    else 0

/-- The step's outcome (R254, R255). -/
def State.finishCal (s : State) (m : ModIx) (e : Nat) (k : CalRun) : State :=
  let i := entryIx m e
  let x := s.entries[i]
  let reason := s.calReason i k x.zero
  let f := meanOf k.values
  let z := x.zero.getD 0
  let mean : BitVec 32 := if k.values.isEmpty then Config.emptyStepMean i.val k.step else BitVec.ofInt 32 f
  let zero := if reason != 0 then x.zero else if k.step == 1 then some f else none
  let s1 := s.onEntry i fun _ => { zero := zero, reason := reason, cal := none }
  let s2 :=
    if reason == 0 && k.step == 2 then
      (s1.ownWrite Pid.ADC_CAL_OFFSET i.val z).ownWrite Pid.ADC_CAL_GAIN i.val
        (divNear (s.par Pid.ADC_CAL_TARGET i.val * 4194304) (f - z))
    else s1
  let code : Byte := if reason == 0 then Result.ok.code else Result.calReject.code
  s2.raise 0x0701 m.val ([BitVec.ofNat 8 e, BitVec.ofNat 8 k.step, code, BitVec.ofNat 8 reason] ++ leBytes 4 mean.toNat)

/-- The firmware decides the finished step of the modulator's lowest entry that has one (R254, R261). -/
def execCalibrationStepComplete (m : ModIx) (s : State) : Host.Outcome State Fault Refusal :=
  let ready := (List.range 16).find? fun e => (s.entries[entryIx m e].cal.map CalRun.done).getD false
  .next
    (match ready with
     | none => s
     | some e =>
       match s.entries[entryIx m e].cal with
       | some k => if s.fwOn then s.finishCal m e k else s
       | none => s)

/-- Collecting steps end with reason 6 when an Eclipse begins (R254, R261). -/
def State.interruptCals (s : State) : State :=
  { s with entries := s.entries.map fun x =>
      { x with cal := x.cal.map fun c => if c.done then c else { c with ended := some 6 } } }

/-! ### GB_SNAPSHOT (R258) -/

/-- The published records of entries FIRST to FIRST + COUNT - 1, which count as read from then on. -/
def State.snapshot (s : State) (first count : Nat) : State × List Byte :=
  let ixs : List EntryIx := (List.finRange 256).filter fun g => first ≤ g.val && g.val < first + count
  (s.forAll ixs fun g s => s.onGb g fun k => { k with read := true }, ixs.flatMap fun g => (s.gb g).record)

end Sys2Proof.Machine
end

