-- ==== Sys2Proof/Machine/Planner.lean ====
section
/-! DEFINITION. The profile planner of one path (R51 to R53, R58 to R60, R495): one integration step of 5 us at a time.
The manual gives the time-optimal profile; the arithmetic that follows it step by step is the model's own
(assumption 10). Distances are in 2^-24 microsteps, rates in the same unit per second. -/

namespace Sys2Proof.Machine

/-- One microstep. -/
def unitStep : Int := 2 ^ 24

/-- Integration steps per second (R48). -/
def stepRate : Int := 200000

/-- Limits in force on a path: speed limit, acceleration, deceleration, jerk, start and stop speed (R51, R53). -/
structure Limits where
  v : Int
  a : Int
  d : Int
  j : Int
  vstart : Int
  vstop : Int
  deriving DecidableEq, Repr

/-- Position, velocity and acceleration on a path; `c` is the travel not yet a whole 2^-24 microstep and `f` the speed not yet
a whole 2^-24 microstep/s, both in 1/400,000 of it. -/
structure Kin where
  x : Int
  v : Int
  a : Int
  c : Int
  f : Int
  deriving DecidableEq, Repr

/-- A standing path. -/
def Kin.rest (x : Int) : Kin := ⟨x, 0, 0, 0, 0⟩

/-- The two fractions as one number, as an engine and a group keep them. -/
def Kin.carry (k : Kin) : Int := k.c + 2 * stepRate * k.f

/-- A path from its numbers and the fractions of `Kin.carry`. -/
def Kin.of (x v a carry : Int) : Kin := ⟨x, v, a, carry % (2 * stepRate), carry / (2 * stepRate)⟩

/-- Speed in 1/400,000 of 2^-24 microstep/s, in which the mean of two accelerations over one step is a whole number. -/
def Kin.fine (k : Kin) : Int := 2 * stepRate * k.v + k.f

/-- Travel of one step in which the speed goes from `k.v` to `v'`, in 1/400,000 of 2^-24 microstep. -/
def Kin.travel (k : Kin) (v' : Int) : Int := k.c + k.v + v'

/-- One step onwards; what is not a whole 2^-24 microstep is kept for the next. -/
def Kin.move (k : Kin) (v' a' : Int) : Kin :=
  { x := k.x + k.travel v' / (2 * stepRate), v := v', a := a', c := if v' = 0 then 0 else k.travel v' % (2 * stepRate),
    f := 0 }

/-- The same with the speed of `Kin.fine`. -/
def Kin.moveFine (k : Kin) (w a' : Int) : Kin := { k.move (w / (2 * stepRate)) a' with f := w % (2 * stepRate) }

/-- One step nearer to a target, where `k.x` is the distance to go; a path that has come to rest brakes no more. -/
def Kin.near (k : Kin) (v' a' : Int) : Kin :=
  { k.move v' (if v' = 0 ∧ a' < 0 then 0 else a') with x := k.x - k.travel v' / (2 * stepRate) }

/-- The step of `k'`, taken as one nearer to a target. -/
def Kin.nearAs (k k' : Kin) : Kin := { k.near k'.v k'.a with f := k'.f }

/-- Distance to go in 1/400,000 of 2^-24 microstep. -/
def Kin.gap (k : Kin) : Int := 2 * stepRate * k.x - k.c

/-- Bits of an integer square root, from bit `n` - 1 down. -/
def isqrtGo : Nat → Nat → Nat → Nat
  | 0, r, _ => r
  | k + 1, r, n => isqrtGo k (if (r + 2 ^ k) * (r + 2 ^ k) ≤ n then r + 2 ^ k else r) n

/-- Integer square root of a number below 2^128. -/
def isqrt (n : Nat) : Nat := isqrtGo 64 0 n

/-- Distance of a deceleration from speed `v` to `ve`, both with zero acceleration, under D and J (R51). -/
def decelDistance (v ve d j : Int) : Int :=
  let dv := v - ve
  if dv ≤ 0 then 0
  else if j = 0 then (v * v - ve * ve) / (2 * d)
  else if d * d ≤ dv * j then (v + ve) * (dv * j + d * d) / (2 * d * j)
  else (v + ve) * (isqrt (dv * 2 ^ 80 / j).toNat : Int) / 2 ^ 40

/-- Distance in which a path at speed `v` and deceleration `b` ≤ D comes down to `ve` with zero acceleration; where it
cannot, the distance in which its acceleration returns to zero (R51, R58). -/
def fallDistance (v b ve d j : Int) : Int :=
  if ve ≤ v - b * b / (2 * j) then
    decelDistance (v + b * b / (2 * j)) ve d j - (v * b / j + b * b * b / (3 * j * j))
  else v * b / j - b * b * b / (3 * j * j)

/-- Distance in which a path at speed `v` ≥ 0 and acceleration `a` can come down to `ve` with zero acceleration; a
deceleration above D first falls to D at rate J (R58). -/
def stopDistance (v a ve d j : Int) : Int :=
  if j = 0 then decelDistance v ve d 0
  else if 0 ≤ a then v * a / j + a * a * a / (3 * j * j) + decelDistance (v + a * a / (2 * j)) ve d j
  else if -a ≤ d then fallDistance v (-a) ve d j
  else
    let b := -a
    let w := v - (b * b - d * d) / (2 * j)
    let t := b - d
    if ve ≤ w then v * t / j - b * t * t / (2 * j * j) + t * t * t / (6 * j * j) + fallDistance w d ve d j
    else fallDistance v b ve d j

/-- Largest value of [lo, hi] that a downward closed condition allows, found by halving; `lo` where none is. -/
def largestOk (ok : Int → Bool) : Nat → Int → Int → Int
  | 0, lo, _ => lo
  | n + 1, lo, hi =>
    if hi ≤ lo + 1 then lo
    else if ok ((lo + hi) / 2) then largestOk ok n ((lo + hi) / 2) hi
    else largestOk ok n lo ((lo + hi) / 2)

def largest (ok : Int → Bool) (lo hi : Int) : Int := if ok hi then hi else largestOk ok 64 lo hi

/-- Smallest value of [lo, hi] that an upward closed condition allows; `hi` where none is. -/
def smallest (ok : Int → Bool) (lo hi : Int) : Int := -largest (fun x => ok (-x)) (-hi) (-lo)

/-- Change of acceleration in one integration step under jerk J (R58). -/
def jerkStep (j : Int) : Int := max 1 (j / stepRate)

/-- Accelerations that the next step may take: any within the limits in one step for J = 0, else those at rate J from the
present one, which lead back into the limits where a change has left it outside (R58). -/
def accelLo (l : Limits) (a : Int) : Int :=
  if l.j = 0 then -l.d else max (a - jerkStep l.j) (min (-l.d) (a + jerkStep l.j))
def accelHi (l : Limits) (a : Int) : Int :=
  if l.j = 0 then l.a else min (a + jerkStep l.j) (max l.a (a - jerkStep l.j))

/-- Fine speed after one step under jerk with acceleration `a'`, and the same in whole units. -/
def Kin.fineAfter (k : Kin) (a' : Int) : Int := max 0 (k.fine + k.a + a')
def Kin.speedAfter (k : Kin) (a' : Int) : Int := k.fineAfter a' / (2 * stepRate)

/-- Fine speed that a path gains while its acceleration returns from `a` to zero in whole steps of `q`. -/
def returnGain (q a : Int) : Int :=
  let n := |a| / q
  let g := |a| * (2 * n + 1) - q * n * (n + 1)
  if a < 0 then -g else g

/-- Acceleration of the next step under jerk when the speed tends to `vt` along the direction of travel: the largest from which
the return of the acceleration to zero does not pass `vt` (R56, R60). -/
def accelToSpeed (l : Limits) (k : Kin) (vt : Int) : Int :=
  largest (fun a' => k.fine + k.a + a' + returnGain (jerkStep l.j) a' ≤ 2 * stepRate * vt) (accelLo l k.a) (accelHi l k.a)

/-- One step towards speed `vt` ≥ 0. Under jerk it arrives with the step whose acceleration is zero, from one within the jerk
of a step, so that the acceleration changes at rate J to the end (R58). -/
def stepToSpeed (l : Limits) (k : Kin) (vt : Int) : Kin :=
  if l.j = 0 then
    let a' := clamp (-l.d) l.a ((vt - k.v) * stepRate)
    let v' := max 0 (k.v + a' / stepRate)
    k.move v' (if v' = vt then 0 else a')
  else if |k.a| ≤ jerkStep l.j ∧ |2 * stepRate * vt - k.fine - k.a| ≤ 2 then k.move vt 0
  else
    let a' := accelToSpeed l k vt
    k.moveFine (k.fineAfter a') a'

/-- A deceleration to standstill: the stop step when the speed reaches VSTOP or the speed limit; a stop that only begins
takes it at once from a speed at or below VSTOP (R53). -/
def stepToRest (l : Limits) (fresh : Bool) (k : Kin) : Kin :=
  let least := min l.vstop l.v
  if k.v ≤ (if fresh then l.vstop else least) then Kin.rest k.x
  else
    let k' := stepToSpeed l k 0
    if k'.v ≤ least then Kin.rest k'.x else k'

/-- Start speed of a path whose speed tends to `vt` (R53). -/
def startSpeed (l : Limits) (vt : Int) : Int := min l.vstart (min l.v vt)

/-- One step of a path in velocity mode, along its direction of travel: start step from rest, then the S-curve. -/
def stepVelocity (l : Limits) (k : Kin) (vt : Int) : Kin :=
  let v0 := startSpeed l vt
  if k.v = 0 ∧ 0 < v0 then k.move v0 0
  else stepToSpeed l k (min vt l.v)

/-! ### Towards a target -/

/-- What the whole steps of the jerk may cost a deceleration whose acceleration is still to turn: an eighth of one step's speed
for the corners and a twelfth for the trapezoids, under a quarter in all, over the time that remains (assumption 10). -/
def cornerLoss (l : Limits) (v a ve : Int) : Int :=
  let dv := v - ve + (if 0 < a then a * a / (2 * l.j) else 0)
  if l.j = 0 ∨ a ≤ -l.d ∨ dv ≤ 0 then 0
  else if l.d * l.d ≤ dv * l.j then jerkStep l.j * dv / (4 * stepRate * l.d)
  else jerkStep l.j * (isqrt (dv * 2 ^ 80 / l.j).toNat : Int) / (2 ^ 42 * stepRate)

/-- The jerk does not bind: there is none, or one step's change spans the whole range of accelerations. -/
def rigid (l : Limits) : Bool := l.j = 0 || l.a + l.d ≤ jerkStep l.j

/-- Jerk as a deceleration within D can use it in one step. -/
def brakeJerk (l : Limits) : Int := min l.j (l.d * stepRate)

/-- Distance that the plan keeps in hand for rounding, and that within which it closes: travel of a few jerk steps. -/
def margin (l : Limits) : Int := 4 + 3 * brakeJerk l / (stepRate * stepRate * stepRate)
def slack (l : Limits) : Int := 8 + 11 * brakeJerk l / (stepRate * stepRate * stepRate)

/-- Travel of a braking by `w` a step from speed `v` to `ve`, its last step shorter, in 1/400,000 of 2^-24 microstep. -/
def brakeTravel (v ve w : Int) : Int :=
  let n := (v - ve) / w
  let r := (v - ve) % w
  if v ≤ ve then 0 else 2 * n * v - w * n * n + (if r = 0 then 0 else 2 * ve + r)

/-- One step towards a target whose accelerations, up to `a` and down to -`d`, change freely: the highest speed from which the
path still comes down to `ve` at the target (R52). -/
def stepFree (l : Limits) (a d ve : Int) (k : Kin) : Kin :=
  let w := max 1 (d / stepRate)
  let lo := max 0 (k.v - w)
  let hi := if k.v ≤ l.v then min (k.v + a / stepRate) l.v else max lo l.v
  let v' := largest (fun u => k.v + u + brakeTravel u ve w ≤ k.gap) lo hi
  k.near v' (if v' = 0 then 0 else (v' - k.v) * stepRate)

/-- Acceleration within which the jerk does not bind. -/
def freeAccel (l : Limits) : Int := min (jerkStep l.j / 2) (min l.a l.d)

/-- The path closes on its target: near it, able to stop there, and within the accelerations that the jerk leaves free. -/
def closing (l : Limits) (ve : Int) (k : Kin) : Bool :=
  ve = 0 && stepRate ≤ freeAccel l && k.x ≤ slack l && |k.a| ≤ freeAccel l && brakeTravel k.v 0 (freeAccel l / stepRate) ≤ k.gap

/-- Start speed of a position move: lowered until the channel can still arrive, never below the lesser of VSTART and VSTOP (R53). -/
def startSpeedTo (l : Limits) (k : Kin) : Int :=
  let ve := min l.vstop l.v
  let top := min l.vstart l.v
  let base := min top (min l.vstart l.vstop)
  largest
    (fun v =>
      if rigid l then v + brakeTravel v ve (max 1 (l.d / stepRate)) ≤ k.gap
      else stopDistance v 0 ve l.d l.j + cornerLoss l v 0 ve + margin l + v / stepRate ≤ k.x)
    base top

/-- One step under jerk towards a target: the acceleration is the lower of what the speed limit and what the stop at the target
allow, but no deceleration from which the path could not return to zero acceleration at its arrival speed; with the target out of reach of both, the path tends to its arrival speed,
or holds its speed where that lies below (R52, R53, R59). -/
def stepJerk (l : Limits) (ve : Int) (k : Kin) : Kin :=
  let lo := if k.v = 0 ∧ k.a = 0 then 0 else accelLo l k.a
  let reach := fun a' =>
    let v' := k.speedAfter a'
    stopDistance v' a' ve l.d l.j + cornerLoss l v' a' ve + margin l ≤ (k.near v' a').x
  if reach lo then
    let free := stepToSpeed l k l.v
    let a' := largest reach lo (accelHi l k.a)
    let b := if a' < 0 then max a' (min 0 (accelToSpeed l k ve)) else a'
    k.nearAs (if free.a ≤ a' then free else k.moveFine (k.fineAfter b) b)
  else if k.v ≤ ve then
    let a' := clamp lo (accelHi l k.a) 0
    k.nearAs (k.moveFine (k.fineAfter a') a')
  else k.nearAs (stepToSpeed l k ve)

/-- One step of a path in position mode towards a target ahead; `k.x` is the distance still to go, so it falls (R51 to R53,
R59). -/
def stepTarget (l : Limits) (k : Kin) : Kin :=
  let ve := min l.vstop l.v
  let v0 := startSpeedTo l k
  if k.v = 0 ∧ 0 < v0 then k.near v0 0
  else if rigid l then stepFree l l.a l.d ve k
  else if closing l ve k then stepFree l (freeAccel l) (freeAccel l) 0 k
  else stepJerk l ve k

/-- Speed above the planned arrival speed that the rounding may leave to the stop step. -/
def speedSlack (l : Limits) : Int := if rigid l then 0 else min (16 * l.j / (stepRate * stepRate)) (l.d / stepRate)

/-- Distance that counts as none for a path at rest: what the arithmetic cannot resolve. -/
def grain (l : Limits) : Int := if !rigid l && freeAccel l < stepRate then slack l else 2

/-- The path is at its target: at rest there, or at its arrival speed within half a step of it, so that the stop step follows
(R49, R52, R53). -/
def arrived (l : Limits) (k : Kin) : Bool :=
  if k.v = 0 then k.x ≤ grain l
  else 0 < min l.vstop l.v && k.v ≤ min l.vstop l.v + speedSlack l && 2 * stepRate * k.x ≤ k.v

end Sys2Proof.Machine
end

