-- ==== Sys2Proof/Machine/Trig.lean ====
section
/-! DEFINITION. Sine, cosine and arctangent in integers, for the amplitude table (R93), the regulator (R99) and the
estimator (R123, R133). The manual gives the table's entries; the method is the model's own (assumption 11). -/

namespace Sys2Proof.Machine

/-- pi / 2 in units of 2^-60. -/
def halfPi60 : Int := 1811004865519298829

/-- 2 pi times 10^18. -/
def twoPi18 : Int := 6283185307179586477

/-- Terms of a Taylor series at `x` (2^-60): `t` is the term of power `k`, alternating. -/
def taylorGo (x : Int) : Nat → Int → Nat → Int → Int
  | 0, _, _, acc => acc
  | n + 1, t, k, acc =>
    let t' := -(t * x / 2 ^ 60 * x / 2 ^ 60) / ((k + 1) * (k + 2))
    taylorGo x n t' (k + 2) (acc + t')

/-- Sine and cosine of `i` / 2^22 of a quarter turn, in 2^-60. -/
def sinQuarter (i : Nat) : Int := let x := halfPi60 * i / 2 ^ 22; taylorGo x 14 x 1 x
def cosQuarter (i : Nat) : Int := taylorGo (halfPi60 * i / 2 ^ 22) 14 (2 ^ 60) 0 (2 ^ 60)

/-- Cosine and sine in 2^-60 of an angle in 2^-24 turns. -/
def cosSin24 (a : Int) : Int × Int :=
  let u := uint 24 a
  let i := u % 2 ^ 22
  let c := cosQuarter i
  let s := sinQuarter i
  match u / 2 ^ 22 with
  | 0 => (c, s)
  | 1 => (-s, c)
  | 2 => (-c, -s)
  | _ => (s, -c)

/-- Entries of the amplitude table for code `a`: round(524,287 cos phi), round(524,287 sin phi) with
phi = 2 pi (a + 32,768) / 262,144 (R93). -/
def tableEntry (a : Nat) : Int × Int :=
  let cs := cosSin24 (((a + 32768) % 262144) * 64)
  (divNear (524287 * cs.1) (2 ^ 60), divNear (524287 * cs.2) (2 ^ 60))

/-- Angle within the first quarter of the point (x, y), both at or above 0, in 2^-24 turns. -/
def atanGo (x y : Int) : Nat → Nat → Nat
  | 0, i => i
  | n + 1, i =>
    let j := i + 2 ^ n
    atanGo x y n (if x * sinQuarter j ≤ y * cosQuarter j then j else i)

/-- Angle of the vector (x, y) in 2^-24 turns, 0 to 2^24 - 1; 0 for the null vector. -/
def atan2 (y x : Int) : Int :=
  if x = 0 ∧ y = 0 then 0
  else if 0 < x ∧ 0 ≤ y then atanGo x y 22 0
  else if x ≤ 0 ∧ 0 < y then 2 ^ 22 + atanGo y (-x) 22 0
  else if x < 0 ∧ y ≤ 0 then 2 ^ 23 + atanGo (-x) (-y) 22 0
  else 3 * 2 ^ 22 + atanGo (-y) x 22 0

/-- An angle in 2^-24 turns wrapped to half a turn each way. -/
def wrap24 (a : Int) : Int := sint 24 (uint 24 a)

/-- Length of a vector. -/
def norm (x y : Int) : Nat := isqrt (x * x + y * y).toNat

end Sys2Proof.Machine
end

