-- ==== Sys2Proof/Machine/Regulator.lean ====
section
/-! DEFINITION. The coil-voltage regulator: ladder, current magnitude, vector, trim and duty entry (R92 to R106, R111, R113).
Currents are in uA, resistances in mOhm, inductances in uH, voltages in nV (assumption 11). -/

namespace Sys2Proof.Machine

/-! ### Duty entry (R24) -/

/-- The 104 bits of a duty entry. -/
def DutyEntry.pack (e : DutyEntry) : BitVec 104 :=
  BitVec.ofBool false ++ BitVec.ofBool e.test ++ BitVec.ofBool e.listen ++ BitVec.ofBool e.gateEn ++
    e.d4 ++ e.d3 ++ e.d2 ++ e.d1

/-- The duty entry that 104 bits spell; the reserved bit is not examined. -/
def DutyEntry.unpack (b : BitVec 104) : DutyEntry :=
  { test := b.getLsbD 102, listen := b.getLsbD 101, gateEn := b.getLsbD 100,
    d4 := b.extractLsb' 75 25, d3 := b.extractLsb' 50 25, d2 := b.extractLsb' 25 25, d1 := b.extractLsb' 0 25 }

/-! ### Resolution ladder (R94 to R97) -/

/-- Grid step of a rung in codes (R94). -/
def gridStep : Nat → Int
  | 0 | 1 => 1
  | 2 => 64
  | 3 => 256
  | 4 => 1024
  | 5 => 4096
  | 6 => 16384
  | _ => 65536

/-- The rung wanted at speed `v` (2^-24 microsteps/s) from rung `n` (R95). -/
def wantedRung (t : Nat → Int) (h maxRung v : Int) : Nat → Nat → Nat
  | 0, n => n
  | fuel + 1, n =>
    let sp := v.natAbs
    let full : Int := 65536 * unitStep
    if v = 0 then 1
    else if maxRung < n then wantedRung t h maxRung v fuel (n - 1)
    else if n < maxRung ∧ n < 7 ∧ t n * full ≤ sp then wantedRung t h maxRung v fuel (n + 1)
    else if 1 < n ∧ (sp : Int) < (t (n - 1) - h) * full then wantedRung t h maxRung v fuel (n - 1)
    else n

/-- A multiple of `g` was reached or passed from `p` to `u` in the direction of travel (R96). -/
def crossed (p u g : Int) (negative : Bool) : Bool := if negative then (-p) / g < (-u) / g else p / g < u / g

/-- Rungs change while the multiple crossed fits each of them (R96). -/
def climb (p u : Int) (negative : Bool) (want : Nat) : Nat → Nat → Nat
  | 0, n => n
  | fuel + 1, n =>
    if n = want then n
    else
      let next := if n < want then n + 1 else n - 1
      if crossed p u (max (gridStep n) (gridStep next)) negative then climb p u negative want fuel next else n

/-- The commanded angle on the grid of a rung (R94). -/
def quantise (u g : Int) (negative : Bool) : Int := if negative then -((-u) / g * g) else u / g * g

/-! ### Projection (R38) -/

/-- Position projected to the centre of period k + 1, one and a half periods on, from velocity and acceleration. -/
def Motion.project (m : Motion) (period : Nat) : Int :=
  let p3 : Int := 3 * period
  m.pos + m.vel * p3 / 480000000 + m.acc * p3 * p3 / (2 * 480000000 * 480000000)

/-! ### Current magnitude (R104, R111) -/

/-- Set-points of a time in ms. -/
def setPoints (ms : Int) (period : Nat) : Nat := (ms * 240000 / period).toNat

/-- Set-points of the current ramp of a rejoining channel, by CH.REJOIN_RAMP as it now stands (R116, R118). -/
def State.rampTotal (s : State) (c : Ch) : Nat :=
  max 1 (setPoints (s.par Pid.CH_REJOIN_RAMP c.val) (s.bank (bankOf c)).period)

/-- Share of CH.I_RUN in hundredths of a percent (R111, R113, R116). -/
def State.share (s : State) (c : Ch) : Int :=
  let k := s.chan c
  let p := s.chan (twinOf c)
  let soloPct := s.par Pid.CH_TWIN_SOLO_PCT c.val * 100
  if !s.isTwin c then 10000
  else match k.rejoin, p.rejoin with
    | .ramp done, _ => 5000 * (min done (s.rampTotal c) : Nat) / s.rampTotal c
    | _, .ramp done =>
      soloPct + (5000 - soloPct) * (min done (s.rampTotal (twinOf c)) : Nat) / s.rampTotal (twinOf c)
    | _, _ => if k.solo then soloPct else 5000

/-- Full current in uA peak: the square root of 2 times the share of CH.I_RUN (R104). -/
def State.fullCurrent (s : State) (c : Ch) : Int :=
  s.par Pid.CH_I_RUN c.val * s.share c * 141421356237 / 10 ^ 12

/-- The channel's current is reduced: HOLD_REDUCED, or FAULT holding after its delay (R104). -/
def Channel.holds (k : Channel) : Bool := k.state == .holdReduced || (k.state == .fault && k.coil.reduced)

/-- Current magnitude after `done` set-points of a hold reduction (R104). -/
def State.currentAt (s : State) (c : Ch) (done : Nat) : Int :=
  let full := s.fullCurrent c
  if (s.chan c).holds then
    let pct := s.par Pid.CH_HOLD_PCT c.val
    let n := setPoints (s.par Pid.CH_HOLD_RAMP c.val) (s.bank (bankOf c)).period
    if n ≤ done then full * pct / 100 else full * (100 * n + (pct - 100) * (done : Nat)) / (100 * n)
  else full

/-! ### Vector, trim and entry (R99 to R102) -/

/-- Electrical speed in urad/s of a velocity in 2^-24 microsteps/s (R99). -/
def omega6 (vel : Int) : Int := vel * twoPi18 / (262144 * 2 ^ 24 * 10 ^ 12)

/-- Coil components in nV of a vector with components along u and q for code `a` (R93, R99). -/
def coilVector (along across : Int) (a : Nat) (sgn : Int) : Int × Int :=
  let cs := tableEntry a
  ((along * cs.1 - across * cs.2).tdiv 524287, sgn * (along * cs.2 + across * cs.1).tdiv 524287)

/-- On-time in 1/32 fc, nearest, at most the period (R101). -/
def onTime (v vm : Int) (period : Nat) : Nat :=
  if vm ≤ 0 then 0 else min (32 * period) (divNear (|v| * (32 * period)) vm).toNat

/-- Duty words of one coil: the half-bridge that carries the voltage, the other 0 (R101). -/
def coilDuty (v vm : Int) (period : Nat) : BitVec 25 × BitVec 25 :=
  let n := BitVec.ofNat 25 (onTime v vm period)
  if 0 < v then (n, 0) else if v < 0 then (0, n) else (0, 0)

/-- Sign of coil 2 (R93). -/
def State.coilSign (s : State) (c : Ch) : Int := if s.parB Pid.CH_DIR_INVERT c.val then -1 else 1

/-- Vector before scaling, at the trim given (R99). -/
def State.vector (s : State) (c : Ch) (i td tq vel : Int) (a : Nat) : Int × Int :=
  let w := omega6 vel
  let r := s.par Pid.CH_MOTOR_R c.val
  let l := s.par Pid.CH_MOTOR_L c.val
  let ke := s.par Pid.CH_MOTOR_KE c.val
  coilVector (r * i + td) (w * l * i / 10 ^ 9 + ke * w / 1000 + tq) a (s.coilSign c)

/-- Measured coil currents in uA, coil 2 in the frame of R93 (R150). -/
def State.measured (s : State) (c : Ch) : Int × Int :=
  let ratio := s.par Pid.PS_SENSE_RATIO c.val
  ((s.chan c).code1 * 3125 * ratio / 1000, s.coilSign c * ((s.chan c).code2 * 3125 * ratio / 1000))

/-- One step of the slow current trim, before its clamp (R102): error along u and q of the period sampled. A period that
no current vector drove (Roll Call, LISTEN, OPEN, SHORT, FETs off) gives no error: the rule names no set-point to compare
its samples with (DESIGN CHOICE, assumption 71). -/
def State.trimStep (s : State) (c : Ch) (sp : SetPoint) (period : Nat) : Int × Int :=
  if !sp.driven then (0, 0)
  else
  let m := s.measured c
  let cs := tableEntry sp.angle
  let e1 := sp.cur * cs.1 / 524287 - m.1
  let e2 := sp.cur * cs.2 / 524287 - m.2
  let ed := (e1 * cs.1 + e2 * cs.2).tdiv 524287
  let eq := (e2 * cs.1 - e1 * cs.2).tdiv 524287
  let gain := fun x : Int => (s.par Pid.CH_MOTOR_R c.val * x * period * 1256637061).tdiv (240000000 * 10 ^ 6)
  (gain ed, gain eq)

/-- Rescaling of the trim when the current changes (R102). -/
def rescale (x new old : Int) : Int := if old = 0 then x else (x * new).tdiv old

/-! ### What a channel drives (R24, R81, R105, R116) -/

inductive Drive where
  | off
  | listen
  | test
  | short
  | vector
  deriving DecidableEq, Repr

/-- What the set-point of a channel orders in its present state. -/
def State.drive (s : State) (c : Ch) : Drive :=
  let k := s.chan c
  match k.state with
  | .disabled | .parked => .off
  | .fault => if k.fetsOff then .off else .vector
  | .rollcall => if k.rejoin != .none || k.est.rcWait.isSome then .off else if k.est.listening then .listen else .test
  | .holdReduced =>
    if k.policy then
      match s.parN Pid.CH_COIL_POLICY c.val with
      | 1 => .off
      | 2 => .short
      | _ => .vector
    else .vector
  | _ => .vector

/-! ### Set-point (R38, R39) -/

/-- The commanded angle of the next set-point: rung, angle code, unwrapped projected angle, projected position. -/
def State.commanded (s : State) (c : Ch) : Nat × Nat × Int × Int :=
  let k := s.chan c
  let m := k.motion
  let period := (s.bank (bankOf c)).period
  let proj := m.project period
  let raw : Int := m.theta.toNat + (proj / 2 ^ 24 - m.position)
  let u := k.coil.prevAngle + sint 18 (uint 18 (raw - k.coil.prevAngle))
  let neg := m.vel < 0
  let t := fun n : Nat => s.par (Pid.CH_LADDER_T1 + (n - 1)) c.val
  let rung :=
    if m.vel = 0 then 1
    else climb k.coil.prevAngle u neg
      (wantedRung t (s.par Pid.CH_LADDER_HYST c.val) (s.par Pid.CH_LADDER_MAX c.val) m.vel 14 k.coil.rung) 7 k.coil.rung
  (rung, uint 18 (quantise u (gridStep rung) neg), u, proj)

/-- A solved set-point: trim, voltages of the two coils, and whether it is saturated or its trim sits at the clamp. -/
structure Solved where
  td : Int
  tq : Int
  v : Int × Int
  saturated : Bool
  clamped : Bool
  deriving DecidableEq, Repr

/-- Voltages, trim and saturation of a set-point of current `i` at angle code `a`, from what the regulator captured for it
(R99, R100, R102). -/
def State.solve (s : State) (c : Ch) (x : RegIn) (i : Int) (a : Nat) : Solved :=
  let vm : Int := (s.bank (bankOf c)).vm * 10 ^ 6
  let lim := vm * s.par Pid.CH_VSAT_PCT c.val / 100
  let clampTo := vm * s.par Pid.CH_TRIM_MAX_PCT c.val / 100
  let td0 := rescale x.td i x.cur
  let tq0 := rescale x.tq i x.cur
  let td1 := clamp (-clampTo) clampTo (td0 + x.gd)
  let tq1 := clamp (-clampTo) clampTo (tq0 + x.gq)
  let v1 := s.vector c i td1 tq1 x.vel a
  let saturated := !decide (|v1.1| ≤ lim ∧ |v1.2| ≤ lim)
  let td := if saturated then td0 else td1
  let tq := if saturated then tq0 else tq1
  let v2 := if saturated then s.vector c i td tq x.vel a else v1
  let big := max |v2.1| |v2.2|
  { td := td, tq := tq, v := if big ≤ lim then v2 else ((v2.1 * lim).tdiv big, (v2.2 * lim).tdiv big),
    saturated := saturated, clamped := 0 < clampTo && (|td| == clampTo || |tq| == clampTo) }

/-- Voltage vector of a duty entry, recomputed from its on-times (R120), in nV. -/
def entryVoltage (e : DutyEntry) (vm sgn period : Int) : Int × Int :=
  (((e.d1.toNat : Int) - e.d2.toNat) * vm * 10 ^ 6 / (32 * period),
   sgn * (((e.d3.toNat : Int) - e.d4.toNat) * vm * 10 ^ 6 / (32 * period)))

/-! ### Roll Call's timetable (R107, R108) -/

/-- The partner runs Roll Call with the channel, or has just ended its own (R107, R111). A partner that begins its own in the middle
of the channel's changes the share of the test current from there on: R107 does not say (DESIGN CHOICE, assumption 106). -/
def State.rcTogether (s : State) (c : Ch) : Bool :=
  let p := s.chan (twinOf c)
  s.isTwin c && (s.chan c).est.rcTwin && (p.state == .rollcall || p.state.energised || (p.state == .fault && p.causes.rollCall))

/-- A channel in ROLLCALL whose listening window or Roll Call has not begun. -/
def State.rcFresh (s : State) (c : Ch) : Bool :=
  (s.chan c).state == .rollcall && (s.chan c).rejoin == .none && (s.chan c).est.rc.n == 0

/-- A listening window or Roll Call that has not begun waits until the slices of the channel and of all that were enabled with it are
powered, so that they begin at one period start (R107, R361, R431). -/
def State.rcWaits (s : State) (c : Ch) : Bool :=
  s.rcFresh c && (s.preparing c || allCh.any fun d => maskBit (s.chan c).est.rcMates d && s.rcFresh d && s.preparing d)

/-- Test current of one coil in uA (R107): half of the full current at the share that Roll Call uses. -/
def State.testCurrent (s : State) (c : Ch) : Int :=
  let share : Int :=
    if !s.isTwin c then 100 else if s.rcTogether c then 50 else s.par Pid.CH_TWIN_SOLO_PCT c.val
  s.par Pid.CH_I_RUN c.val * share * 141421356237 / (2 * 10 ^ 10)

/-- Step of R108 that a time in fc lies in; 8 from the end of the rise on. -/
def rcStep (t : Nat) : Nat :=
  if t < 240000 then 1 else if t < 288000 then 2 else if t < 384000 then 3 else if t < 480000 then 4
  else if t < 7680000 then 5 else if t < 17280000 then 6 else if t < 26880000 then 7 else 8

/-- A time is the first multiple of the period at or after an instant. -/
def firstAt (t period instant : Nat) : Bool := instant ≤ t && t < instant + period

/-- Coil whose short pulse the period at `t` carries: coil 1 at 1.0 ms and coil 2 at 1.1 ms (assumption 77). -/
def rcPulse (t period : Nat) : Nat := if firstAt t period 240000 then 1 else if firstAt t period 264000 then 2 else 0

/-- The channel applies its twin pulse in this step: bank A in step 3, bank B in step 4 (R108). -/
def State.rcApplies (s : State) (c : Ch) (step : Nat) : Bool :=
  s.isTwin c && (if c.val < 12 then step == 3 else step == 4)

/-- Its partner's pulse runs in this step, and the channel listens. -/
def State.rcListens (s : State) (c : Ch) (step : Nat) : Bool := s.isTwin c && s.rcApplies (twinOf c) step

/-- Test currents of the two coils with the signs that they have at the nearest full-step point to theta, coil 2 at its
terminals (R93, R108). Half way between two of them it is the higher one, which R108 does not say (DESIGN CHOICE,
assumption 107). -/
def State.rcTarget (s : State) (c : Ch) : Int × Int :=
  let cs := tableEntry (((s.chan c).motion.theta.toNat + 32768) / 65536 * 65536 % 262144)
  (cs.1.sign * s.testCurrent c, s.coilSign c * cs.2.sign * s.testCurrent c)

/-- Apparent inductance in uH: VM over 2 us divided by the peak current (R108). -/
def RcTrack.apparentL (k : RcTrack) (vm : Nat) : Nat := if k.peak = 0 then 2 ^ 32 else vm * 2000 / k.peak

/-- Twin pulse in nV: test current times apparent L over 400 us, capped at VM (R108). -/
def RcTrack.twinPulse (k : RcTrack) (test : Int) (vm : Nat) : Int := min (vm * 10 ^ 6) (test * k.apparentL vm * 5 / 2)

/-- Voltage of the rise in nV: the test current times the coil's own R of step 5 (R108). -/
def RcTrack.riseVoltage (k : RcTrack) (target : Int) : Int := if k.iSum = 0 then 0 else (target * k.vSum).tdiv k.iSum

/-- One coil takes up the sample of a period (R108); the peak of its short pulse is the centre sample of the pulse's period, since
the spec names no other (DESIGN CHOICE, assumption 94): `code` as sensed, `v` the voltage applied, `heard` the partner's
terminal difference, `step` and `t` of the period. -/
def State.rcTake (s : State) (c : Ch) (k : RcTrack) (coil t : Nat) (offN : Nat) (code v heard target : Int) : RcTrack :=
  let period := (s.bank (bankOf c)).period
  let step := rcStep t
  let zero := if offN = 0 then 0 else divNear k.offset offN
  let i := (code - zero) * 3125 * s.par Pid.PS_SENSE_RATIO c.val / 1000
  let level := 632 * |target| / 1000
  let now := target.sign * i
  let before := target.sign * k.last
  let rise := t - (17280000 + period - 1) / period * period
  let crossed := k.cross.isNone && level ≤ now
  { offset := if step == 1 then k.offset + code else k.offset
    peak := if rcPulse t period == coil then i.natAbs else k.peak
    integ := if step == 5 then k.integ + (Config.rollCallGain (k.apparentL (s.bank (bankOf c)).vm) period).2 * (target - i) else k.integ
    vSum := if step == 5 && 5280000 ≤ t then k.vSum + v else k.vSum
    iSum := if step == 5 && 5280000 ≤ t then k.iSum + i else k.iSum
    last := if step == 7 || step == 5 then i else 0
    endI := if step == 5 then i else k.endI
    cross := if step == 7 && crossed then
        some ((rise - period + (if now = before then 0 else ((period : Int) * (level - before) / (now - before)).toNat)) * 1000 / 240)
      else k.cross
    induced := if s.rcApplies c step then k.induced + heard.natAbs else k.induced }

/-- The Roll Call takes up the sample of the period before the one in progress, whose set-point was computed two set-points
ago. -/
def State.rcAbsorb (s : State) (c : Ch) : RcRun :=
  let k := s.chan c
  let q := k.est.rc
  if q.n < 2 then q
  else
    let period := (s.bank (bankOf c)).period
    let t := (q.n - 2) * period
    let step := rcStep t
    let v := entryVoltage k.coil.now.entry (s.bank (bankOf c)).vm 1 period
    let p := s.chan (twinOf c)
    let target := s.rcTarget c
    { n := q.n
      offN := if step == 1 then q.offN + 1 else q.offN
      avgN := if step == 5 && 5280000 ≤ t then q.avgN + 1 else q.avgN
      indN := if s.rcApplies c step then q.indN + 1 else q.indN
      coil1 := s.rcTake c q.coil1 1 t q.offN k.code1 v.1 (Config.listenMicrovolts p.code1) target.1
      coil2 := s.rcTake c q.coil2 2 t q.offN k.code2 v.2 (Config.listenMicrovolts p.code2) target.2 }

/-- Voltage in nV that the loop of step 5 gives a coil: proportional and integral part, within VM. -/
def State.rcLoop (s : State) (c : Ch) (k : RcTrack) (target : Int) : Int :=
  let vm : Nat := (s.bank (bankOf c)).vm
  let g := Config.rollCallGain (k.apparentL vm) (s.bank (bankOf c)).period
  clamp (-(vm * 10 ^ 6)) (vm * 10 ^ 6) (g.1 * (target - k.last) + k.integ)

/-- A duty entry of Roll Call with given voltages at the coil terminals. -/
def State.rcVolts (s : State) (c : Ch) (v1 v2 : Int) : DutyEntry :=
  let vm : Int := (s.bank (bankOf c)).vm * 10 ^ 6
  let d1 := coilDuty v1 vm (s.bank (bankOf c)).period
  let d2 := coilDuty v2 vm (s.bank (bankOf c)).period
  { test := true, listen := false, gateEn := true, d1 := d1.1, d2 := d1.2, d3 := d2.1, d4 := d2.2 }

/-- The duty entry of the next period of a Roll Call (R24, R108). -/
def State.rcEntry (s : State) (c : Ch) (q : RcRun) : DutyEntry :=
  let period := (s.bank (bankOf c)).period
  let vm := (s.bank (bankOf c)).vm
  let t := q.n * period
  let dark : DutyEntry := { DutyEntry.off with test := true }
  let target := s.rcTarget c
  match rcStep t with
  | 2 =>
    let pulse : BitVec 25 := BitVec.ofNat 25 (32 * 480)
    if rcPulse t period = 1 then { dark with gateEn := true, d1 := pulse }
    else if rcPulse t period = 2 then { dark with gateEn := true, d3 := pulse }
    else { dark with gateEn := true }
  | 3 | 4 =>
    let test := s.testCurrent c
    if s.rcApplies c (rcStep t) then s.rcVolts c (q.coil1.twinPulse test vm) (q.coil2.twinPulse test vm)
    else { dark with listen := s.rcListens c (rcStep t) }
  | 5 => s.rcVolts c (s.rcLoop c q.coil1 target.1) (s.rcLoop c q.coil2 target.2)
  | 6 => { dark with gateEn := true }
  | 7 => s.rcVolts c (q.coil1.riseVoltage target.1) (q.coil2.riseVoltage target.2)
  | _ => dark

/-- What one coil's timetable has measured (R108). -/
def RcTrack.result (k : RcTrack) (vm : Nat) (test : Int) (avgN indN : Nat) : RcCoil :=
  { apparentL := k.apparentL vm
    induced := k.induced / max 1 indN / 1000
    applied := (k.twinPulse test vm).natAbs / 10 ^ 6
    endCurrent := k.endI.natAbs
    voltage := k.vSum.natAbs / max 1 avgN / 1000
    current := k.iSum.natAbs / max 1 avgN
    crossing := k.cross }

/-- What the Roll Call of a channel has measured on its two coils. -/
def State.rcMeasured (s : State) (c : Ch) : RcCoil × RcCoil :=
  let q := (s.chan c).est.rc
  let vm := (s.bank (bankOf c)).vm
  (q.coil1.result vm (s.testCurrent c) q.avgN q.indN, q.coil2.result vm (s.testCurrent c) q.avgN q.indN)

/-- Every sample of the timetable is in. -/
def State.rcDone (s : State) (c : Ch) : Bool := 26880000 ≤ ((s.chan c).est.rc.n - 2) * (s.bank (bankOf c)).period

/-- A DISABLED channel listens to the twin pulse of its partner's Roll Call (R108, R109). -/
def State.hearsPartner (s : State) (c : Ch) : Bool :=
  let p := s.chan (twinOf c)
  s.drive (twinOf c) == .test && (s.chan c).state == .disabled &&
    s.rcListens c (rcStep (p.est.rc.n * (s.bank (bankOf c)).period))

/-- The duty entry of a set-point of coil voltages `v` (R24, R101). -/
def State.entryFor (s : State) (c : Ch) (v : Int × Int) : DutyEntry :=
  let vm : Int := (s.bank (bankOf c)).vm * 10 ^ 6
  let d1 := coilDuty v.1 vm (s.bank (bankOf c)).period
  let d2 := coilDuty v.2 vm (s.bank (bankOf c)).period
  match s.drive c with
  | .off => if s.hearsPartner c then { DutyEntry.off with test := true, listen := true } else DutyEntry.off
  | .listen => if s.rcWaits c then DutyEntry.off else { DutyEntry.off with listen := true }
  | .test =>
    if s.rcWaits c then { DutyEntry.off with test := true } else s.rcEntry c (s.rcAbsorb c)
  | .short => { DutyEntry.off with gateEn := true }
  | .vector => { test := false, listen := false, gateEn := true, d1 := d1.1, d2 := d1.2, d3 := d2.1, d4 := d2.2 }

/-- The current is neither being reduced nor ramped by a rejoin, so that a change of it is a step (R122). -/
def State.steady (s : State) (c : Ch) : Bool :=
  !(s.chan c).holds && (s.chan c).rejoin == .none && (s.chan (twinOf c)).rejoin == .none

/-- The saturation count after one more set-point (R103): a saturated or clamped one counts and adds its magnitudes; one
that is neither ends the count, and CH.SAT_PERIODS of them, one after the other, re-arm the report. That they must follow one
another R103 does not say (DESIGN CHOICE, assumption 108). -/
def SatCount.step (q : SatCount) (sat : Bool) (periods : Int) (x : Nat × Nat × Nat × Nat) : SatCount :=
  if sat then
    { q with run := q.run + 1, clear := 0, meas1 := q.meas1 + x.1, set1 := q.set1 + x.2.1,
             meas2 := q.meas2 + x.2.2.1, set2 := q.set2 + x.2.2.2 }
  else
    { SatCount.init with clear := q.clear + 1, reported := q.reported && !(periods ≤ (q.clear + 1 : Nat)) }

/-- Measured and set-point magnitudes of the period sampled (R103): coil 1, then coil 2. The samples that are in when a set-point is
computed are those of the period whose entry was computed two set-points earlier; the model adds these to the sums of a
counted set-point, which R103 does not say (DESIGN CHOICE, assumption 92). -/
def State.magnitudes (s : State) (c : Ch) : Nat × Nat × Nat × Nat :=
  let sp := (s.chan c).coil.now
  let m := s.measured c
  let cs := tableEntry sp.angle
  (m.1.natAbs, (sp.cur * cs.1 / 524287).natAbs, m.2.natAbs, (sp.cur * cs.2 / 524287).natAbs)

/-- The periods of a Roll Call, or of a listening window, are counted from the one that begins it (R107, R133). -/
def State.rcOnward (s : State) (c : Ch) : RcRun :=
  let q := (s.chan c).est.rc
  if s.rcWaits c then q
  else match s.drive c with
    | .test => { s.rcAbsorb c with n := q.n + 1 }
    | .listen => { q with n := q.n + 1 }
    | _ => q

/-- The set-point of current `i` steps the current or its share, which begins the blank of R122: any change of it, and the
first vector after set-points that drove none. R122 names three such changes and does not say of the others whether they begin
it (DESIGN CHOICE, assumption 112). -/
def State.stepsCurrent (s : State) (c : Ch) (i : Int) : Bool :=
  s.drive c == .vector && s.steady c && (i != (s.chan c).coil.cur || !(s.chan c).coil.next.driven)

/-- Regulator of one channel at a period start (R99 to R103): the new set-point moves into `next`. -/
def State.regulate (s : State) (c : Ch) : State :=
  let k := s.chan c
  let w := k.coil
  let cmd := s.commanded c
  let i := s.currentAt c (w.rampDone + 1)
  let g := s.trimStep c w.now (s.bank (bankOf c)).period
  let x : RegIn := ⟨k.motion.vel, w.td, w.tq, w.cur, g.1, g.2, w.count, s.magnitudes c⟩
  let r := s.solve c x i cmd.2.1
  let drives := s.drive c == .vector
  let sat := drives && (r.saturated || r.clamped)
  s.onChan c fun k =>
    { k with
      coil :=
        { w with rung := cmd.1, prevAngle := cmd.2.2.1, lastPos := cmd.2.2.2, inp := x,
                 td := if drives then r.td else w.td, tq := if drives then r.tq else w.tq,
                 cur := if drives then i else w.cur,
                 rampDone := if k.holds then w.rampDone + 1 else 0,
                 reduced := k.holds,
                 next := ⟨cmd.2.1, cmd.2.2.2, if drives then i else 0, drives, s.entryFor c r.v⟩,
                 now := w.next, prev := w.now, prev2 := w.prev,
                 sat := sat, satV := drives && r.saturated,
                 count := w.count.step sat (s.par Pid.CH_SAT_PERIODS c.val) x.add },
      est := { k.est with blank := if s.stepsCurrent c i then 0 else k.est.blank + 1, rc := s.rcOnward c },
      rejoin := match k.rejoin with
        | .ramp done => .ramp (done + 1)
        | r => r }

/-- The next set-point once more, at the current that now applies, from what was captured for it (R113). -/
def State.recomputed (s : State) (c : Ch) : Channel :=
  let k := s.chan c
  let w := k.coil
  let i := s.currentAt c w.rampDone
  let r := s.solve c w.inp i w.next.angle
  if s.drive c == .vector then
    let sat := r.saturated || r.clamped
    let q := { w.inp.count with reported := w.inp.count.reported || w.count.reported,
                                checked := w.inp.count.checked || w.count.checked }
    { k with
      coil :=
        { w with td := r.td, tq := r.tq, cur := i,
                 next := { w.next with cur := i, driven := true, entry := s.entryFor c r.v },
                 sat := sat, satV := r.saturated,
                 count := q.step sat (s.par Pid.CH_SAT_PERIODS c.val) w.inp.add },
      est := { k.est with blank := if i != w.inp.cur && s.steady c then 0 else k.est.blank } }
  else k

def State.recompute (s : State) (c : Ch) : State := s.onChan c fun _ => s.recomputed c

/-- GATE_EN = 0 from the next period start: the set-point already computed is taken back (R68, R126). -/
def Coil.retract (w : Coil) : Coil := { w with next := { w.next with driven := false, entry := DutyEntry.off } }

end Sys2Proof.Machine
end

