-- ==== Sys2Proof/Machine/Channel.lean ====
section
/-! DEFINITION. What happens to a channel when its motion ends without a profile, when a fault allows motion, when it
parks, and what the twin supervisor and the group do then (R64, R67, R80, R82, R113, R114, R161). -/

namespace Sys2Proof.Machine

/-! ### States -/

/-- STOP_DONE cause (R371). -/
def StopCause.code : StopCause → Nat
  | .velZero => 0
  | .stop => 1
  | .limit => 2
  | .reflex => 3
  | .fault => 4
  | .group => 5
  | .disable => 6

/-- A pair whose two channels carry CH.TWIN = 1 (R75). -/
def State.paired (s : State) (c : Ch) : Bool := s.isTwin c && s.isTwin (twinOf c)

/-- Both twins of the channel's pair are energised. -/
def State.pairEnergised (s : State) (c : Ch) : Bool := s.paired c && s.energised c && s.energised (twinOf c)

/-! ### Events of the motion engine -/

/-- Position field of an event (R371). -/
def posField (p : Int) : List Byte := leInt 8 p

def State.stopDone (s : State) (c : Ch) (cause : StopCause) : State :=
  (s.chPulse c 7).raise 0x0103 c.val (posField (s.chan c).motion.position ++ [BitVec.ofNat 8 cause.code])

/-! ### Motion ends without a profile -/

/-- The motion engine drops target, armed move and held commands (R67, R73). -/
def Motion.discard (m : Motion) : Motion :=
  { m with vel := 0, acc := 0, carry := 0, target := m.position, mode := .none, velCmd := 0, velReported := none,
           armed := none, held := [], stopNew := false, stopFault := false, disablePending := false, rampReq := none, immReq := none }

/-- Position and angle code are frozen at the last set-point issued (R67). -/
def Channel.freeze (k : Channel) : Channel :=
  if k.state.inMotion then
    { k with motion :=
        { k.motion with pos := k.coil.lastPos,
                        theta := k.motion.theta + BitVec.ofInt 18 (k.coil.lastPos / 2 ^ 24 - k.motion.position) } }
  else k

/-- The channel leaves motion: frozen, and everything waiting dropped (R67). -/
def Channel.endMotion (k : Channel) : Channel :=
  let k := k.freeze
  { k with motion := k.motion.discard, rejoin := .none,
           est := { k.est with rcWait := none, listening := false, samples := [] } }

/-! ### Groups and twins -/

/-- The other members of the channel's group ramp-stop on the line; the member itself leaves it (R80). -/
def State.leaveGroup (s : State) (c : Ch) : State :=
  { s with groups := s.groups.map fun g =>
      if g.active && g.members.any (fun m => m.1 == c) then
        { g with members := g.members.filter (fun m => m.1 != c), stopping := true }
      else g }

/-- A member leaves its group, which goes on along the line without it (R68). -/
def State.quitGroup (s : State) (c : Ch) : State :=
  { s with groups := s.groups.map fun g => { g with members := g.members.filter (fun m => m.1 != c) } }

/-- A rejoin ramp ends with the partner's FETs: the check of the following error sets fe_offset anew (R116, R130). -/
def Channel.endRamp (k : Channel) : Channel :=
  { k with rejoin := .none, est := { k.est with feZero := if k.rejoin == .none then k.est.feZero else max 1 k.est.feZero } }

/-- The twin supervisor sets SOLO when the partner's FETs turn off, and the regulator computes its next set-point anew
(R113, R116). The reasons of R113 turn the partner out of its energised state; whether FETs that the OPEN bank policy keeps
off count too is not said, and the model sets no SOLO for it (DESIGN CHOICE, assumption 72). -/
def State.partnerOff (s : State) (c : Ch) (cause : Nat) : State :=
  let p := twinOf c
  let k := s.chan p
  let carries := k.state.energised || (k.state == .fault && !k.fetsOff)
  if s.paired c && carries && !k.solo then
    ((s.onChan p fun k => { k.endRamp with solo := true }).recompute p).raise 0x0205 p.val [BitVec.ofNat 8 cause]
  else if s.paired c && carries then (s.onChan p fun k => k.endRamp).recompute p
  else s

/-! ### Faults -/

/-- A fault that does not allow motion (R67, R82): FAULT with FETs off, and the twin supervisor acts, for a channel in ROLLCALL
too (R111, R113). In PARKED the cause is latched only (R170), and in DISABLED nothing is latched (R82). -/
def State.faultOff (s : State) (c : Ch) (set : Causes → Causes) : State :=
  match (s.chan c).state with
  | .disabled => s
  | .parked => s.onCauses c set
  | _ =>
    let wasOff := (s.chan c).fetsOff && (s.chan c).state != .rollcall
    let s := (s.leaveGroup c).onChan c fun k =>
      { k.endMotion with state := .fault, fetsOff := true, causes := set k.causes, solo := false, policy := false }
    if wasOff then s else s.partnerOff c 1

/-- A fault that allows motion on one channel: latched, the armed move discarded, a ramp stop from the next
integration step on (R64, R82). -/
def Channel.faultStop (k : Channel) (set : Causes → Causes) : Channel :=
  { k with causes := set k.causes,
           motion := { k.motion with armed := none, stopFault := true, rampReq := some .fault } }

/-- A fault that allows motion acts on both twins of an energised pair (R114, R127, assumption 36). -/
def State.faultMotion (s : State) (c : Ch) (set : Causes → Causes) : State :=
  if s.energised c then
    let s' := s.onChan c fun k => k.faultStop set
    if s.pairEnergised c then s'.onChan (twinOf c) fun k => k.faultStop set else s'
  else s

/-- Device-level stop of R315 and R342: energised channels ramp-stop, a channel in ROLLCALL enters FAULT with FETs
off, the rest are not affected. -/
def State.deviceStop (s : State) (c : Ch) (set : Causes → Causes) : State :=
  match (s.chan c).state with
  | .rollcall => s.faultOff c fun k => { set k with rollCall := true }
  | _ => s.faultMotion c set

/-- Channels that a device-level stop affects. -/
def State.deviceStopMask (s : State) : BitVec 24 :=
  maskWhere fun c => s.energised c || (s.chan c).state == .rollcall

/-- Park in any state but PARKED (R82, R114, R161): the duty words are held. -/
def State.parkCh (s : State) (c : Ch) (cause : Nat) : State :=
  match (s.chan c).state with
  | .parked => s
  | _ =>
    let s' := (s.leaveGroup c).onChan c fun k =>
      { k.endMotion with state := .parked, fetsOff := false, parkCause := cause, policy := false }
    let s' := s'.raise 0x0406 c.val [BitVec.ofNat 8 cause]
    if s'.paired c && s'.energised (twinOf c) then
      s'.onMotion (twinOf c) fun m => { m with immReq := some .fault }
    else s'

/-- The park hold has ended and the FETs are off (R113, R170, R371). -/
def State.parkOff (s : State) (c : Ch) : State :=
  let s := s.onChan c fun k => { k with fetsOff := true, solo := false }
  (s.raise 0x0407 c.val [BitVec.ofNat 8 (s.chan c).parkCause]).partnerOff c 2

/-- The turn-off of a DISABLE at the next PWM period (R68, R113): DISABLED, or FAULT where a fault that allows motion arose
during the stop. A twin leaves its group to its energised partner, which carries on alone. -/
def State.turnOffCh (s : State) (c : Ch) : State :=
  let fault := (s.chan c).motion.stopFault
  let s := (if s.pairEnergised c then s.quitGroup c else s.leaveGroup c).onChan c fun k =>
    { k with state := if fault then .fault else .disabled, fetsOff := true, solo := false, rejoin := .none,
             policy := false, powered := k.powered && (fault || !s.fwOn), motion := k.motion.discard, coil := k.coil.retract,
             est := { k.est with rcWait := none, listening := false, samples := [] } }
  s.partnerOff c 0

/-- The pair's hardware log of reflex actions (R115, R218). -/
def State.logReflex (s : State) (c : Ch) (r : RuleIx) : State :=
  if s.paired c then
    { s with pairs := upd s.pairs (pairOf c) fun q =>
        if q.log.length < 16 then { q with log := q.log ++ [⟨s.istep, r.val, s.parN Pid.RFX_RULE_LO r.val⟩] }
        else { q with overflow := true } }
  else s

/-- A host-class change that acts on a pair enters its record with its integration step (R115). -/
def State.noteChange (s : State) (c : Ch) (x : PairChange) : State :=
  if s.paired c then
    { s with pairs := upd s.pairs (pairOf c) fun q => { q with changes := q.changes ++ [(s.istep, x)] } }
  else s

/-- What is asked of a twin's engine since the last integration step is asked of the recorded trajectory too, so that it is not
lost with the twin (R116). -/
def State.onShadow (s : State) (c : Ch) (f : Motion → Motion) : State :=
  if s.paired c then { s with pairs := upd s.pairs (pairOf c) fun q => { q with shadow := f q.shadow } } else s

/-- A shared start of the pair: its record begins anew from the channel's engine (R115). -/
def State.sharedStart (s : State) (c : Ch) : State :=
  let k := s.chan c
  { s with pairs := upd s.pairs (pairOf c) fun q =>
      { q with start := k.motion, startState := k.state, startStep := s.istep, changes := [], log := [], overflow := false,
               shadow := k.motion, stopping := k.state == .stopping } }

/-- State of the pair (R111): 0 not twin, 1 shared, 2 solo, 3 rejoining. For a twin of which neither it nor its partner
carries the actuator, or whose partner is not a twin, the spec names no value: the model reads 1 (DESIGN CHOICE,
assumption 73). -/
def State.twinState (s : State) (c : Ch) : Nat :=
  let p := twinOf c
  if !s.isTwin c then 0
  else if (s.chan c).rejoin != .none || (s.chan p).rejoin != .none then 3
  else if (s.chan c).solo || (s.chan p).solo then 2
  else 1

end Sys2Proof.Machine
end

