-- ==== Sys2Proof/Machine/Reflex.lean ====
section
/-! DEFINITION. The reflex matrix (R206 to R231): event sources, rule words, conditions, firing and assertions. -/

namespace Sys2Proof.Machine

/-! ### Sources -/

/-- Level sources of a channel (R208). -/
def State.chSource (s : State) (c : Ch) (n : Nat) : Bool :=
  let k := s.chan c
  let f := s.fb c
  match n with
  | 0 => k.motion.limP
  | 1 => k.motion.limN
  | 2 => k.motion.latchP
  | 3 => k.motion.latchN
  | 4 => k.state.inMotion
  | 5 => k.state.energised
  | 11 => k.est.valid && (s.par Pid.CH_STALL_ANGLE c.val) * 100 < |k.est.loadAngle|
  | 14 => k.coil.sat
  | 18 => k.solo
  | 19 => k.state == .fault
  | 20 => k.psFault.getLsbD 1
  | 21 => k.psFault.getLsbD 4 || k.psFault.getLsbD 5 || k.psFault.getLsbD 6 || k.psFault.getLsbD 7
  | 22 => k.psFault.getLsbD 2
  | 27 => f.suspect
  | 28 => f.standstill
  | 29 => f.lineOpen || f.lineShort
  | 31 => f.neg
  | 32 => k.est.valid
  | _ => false

/-- Level sources of a bank (R209). -/
def State.bankSource (s : State) (b : BankIx) (n : Nat) : Bool :=
  let k := s.bank b
  match n with
  | 0 => k.status.getLsbD 7
  | 1 => k.status.getLsbD 6
  | 2 => k.status.getLsbD 5
  | 3 => k.status.getLsbD 4
  | 4 => k.status.getLsbD 3
  | 10 => (s.presentChs b).any fun c => (s.chan c).state == .fault
  | 11 => (s.presentChs b).any fun c => (s.chan c).state == .parked
  | 12 => k.policyActive
  | _ => false

/-- Level sources of a CAN controller (R210, R388). -/
def State.canSource (s : State) (c : CanIx) (n : Nat) : Bool :=
  let k := s.can c
  match n with
  | 4 => 96 ≤ k.tec || 96 ≤ k.recv
  | 5 => 128 ≤ k.tec || 128 ≤ k.recv
  | 6 => k.busOff
  | 7 => k.stuck
  | 9 => k.restricted && k.phase != .stopped
  | _ => false

/-- Level sources of the filter thresholds and of the trips (R210). -/
def State.cmpSource (s : State) (n : Nat) : Bool := (s.cmps[(⟨n % 128, Nat.mod_lt _ (by decide)⟩ : Fin 128)]).set
def State.tripSource (s : State) (n : Nat) : Bool :=
  let t := s.trip ⟨n % 4, Nat.mod_lt _ (by decide)⟩
  if n < 4 then t.sync2.2 else if n < 8 then t.sync2.1 else false

/-- Level sources by number (R206); a source of an absent unit is never active (R207). -/
def State.level (s : State) (n : Nat) : Bool :=
  if n < 864 then
    let c : Ch := ⟨n / 36 % 24, Nat.mod_lt _ (by decide)⟩
    s.hasCh c && s.chSource c (n % 36)
  else if n < 888 then s.bankSource 0 (n - 864)
  else if n < 912 then s.bankSource 1 (n - 888)
  else if n < 976 then false
  else if n < 1104 then s.hasFlt && s.cmpSource (n - 976)
  else if n < 1120 then s.hasCan 0 && s.canSource 0 (n - 1104)
  else if n < 1136 then s.hasCan 1 && s.canSource 1 (n - 1120)
  else s.hasTrip && s.tripSource (n - 1136)

/-- Activity of a source in this fc (R206, R207): pulses of this fc, and levels. -/
def State.source (s : State) (n : Nat) : Bool := s.pulses.contains n || s.level n

/-! ### Rule words (R211) -/

structure RuleWord where
  arg : Nat
  report : Bool
  dur : Nat
  action : Nat
  dir : Nat
  qual : Nat
  gateMode : Nat
  gateSrc : Nat
  trig : Nat
  count : Nat
  stride : Nat
  src : Nat
  self : Bool
  auxMask : Nat
  chMask : BitVec 24
  deriving DecidableEq, Repr

/-- Bits [hi:lo] of a word. -/
def bits (w hi lo : Nat) : Nat := (w / 2 ^ lo) % 2 ^ (hi + 1 - lo)

/-- The fields of RFX.RULE_LO and RFX.RULE_HI (R211). -/
def decodeRule (lo hi : Nat) : RuleWord :=
  { arg := bits lo 63 48, report := lo.testBit 47, dur := bits lo 46 45, action := bits lo 44 41, dir := bits lo 40 39,
    qual := bits lo 38 37, gateMode := bits lo 36 35, gateSrc := bits lo 34 24, trig := bits lo 23 22,
    count := bits lo 21 17, stride := bits lo 16 11, src := bits lo 10 0,
    self := hi.testBit 40, auxMask := bits hi 39 24, chMask := BitVec.ofNat 24 (bits hi 23 0) }

def State.ruleWord (s : State) (r : RuleIx) : RuleWord :=
  decodeRule (s.parN Pid.RFX_RULE_LO r.val) (s.parN Pid.RFX_RULE_HI r.val)

/-- A SET of a rule word refuses reserved codes and bits (R211). -/
def ruleLoOk (w : Nat) : Bool := bits w 46 45 != 3 && bits w 38 37 < 2 && bits w 36 35 != 3 && bits w 44 41 < 8
def ruleHiOk (w : Nat) : Bool := bits w 63 41 == 0

/-- Source number of member `k` (R212). -/
def RuleWord.member (w : RuleWord) (k : Nat) : Nat := w.src + k * w.stride

/-- Members of a rule as a mask. -/
def RuleWord.memMask (w : RuleWord) (p : Nat → Bool) : BitVec 24 :=
  (List.range (min w.count 24)).foldl (fun m k => if p k then m ||| BitVec.ofNat 24 (2 ^ k) else m) 0

/-- Level of each member's source in this fc. -/
def State.srcNow (s : State) (w : RuleWord) : BitVec 24 := w.memMask fun k => s.source (w.member k)

/-- The member's channel is trusted where QUAL asks for it (R212). -/
def State.qualOk (s : State) (w : RuleWord) (k : Nat) : Bool :=
  w.qual != 1 || (w.member k < 864 && !(s.fb ⟨w.member k / 36 % 24, Nat.mod_lt _ (by decide)⟩).suspect)

/-- Members active in this fc under TRIG (R212), given the sources of the previous fc. -/
def State.active (s : State) (w : RuleWord) (prev : BitVec 24) : BitVec 24 :=
  w.memMask fun k =>
    let now := s.source (w.member k)
    let was := prev.getLsbD k
    s.qualOk w k &&
      (match w.trig with
       | 0 => now && !was
       | 1 => !now && was
       | 2 => now
       | _ => !now)

/-- The gate holds (R213). -/
def State.gateOk (s : State) (w : RuleWord) : Bool :=
  match w.gateMode with
  | 1 => s.source w.gateSrc
  | 2 => !s.source w.gateSrc
  | _ => true

/-- The rule's condition holds (R213). -/
def State.condition (s : State) (r : RuleIx) : Bool :=
  let w := s.ruleWord r
  s.active w (s.rule r).srcPrev != 0 && s.gateOk w

/-- Members newly active in this fc (R212). -/
def State.newly (s : State) (r : RuleIx) : BitVec 24 :=
  s.active (s.ruleWord r) (s.rule r).srcPrev &&& ~~~(s.rule r).memPrev

/-- The rule may fire: enabled, and no disable applied in this fc, which governs (R221). -/
def State.mayFire (s : State) (r : RuleIx) : Bool := (s.rule r).enabled && (s.rule r).enableNext != some false

/-- A member is newly active: the rule fires in this fc, or the member joins its firing of this fc, if the gate holds at the
end of it (R213, R221). -/
def State.fires (s : State) (r : RuleIx) : Bool := s.mayFire r && s.newly r != 0

/-- Channels of a set of members (R214, SELF). -/
def RuleWord.memChs (w : RuleWord) (m : BitVec 24) : BitVec 24 :=
  maskWhere fun (c : Ch) => (List.range (min w.count 24)).any fun k => m.getLsbD k && w.member k / 36 == c.val

/-- The DIR qualifier of a target (R214). -/
def State.dirOk (s : State) (w : RuleWord) (c : Ch) : Bool :=
  let v := (s.chan c).motion.velocity
  match w.dir with
  | 0 => true
  | 1 => 0 < v
  | 2 => v < 0
  | _ => v != 0

/-- Targets of a rule, given its qualifying members: present channels whose DIR qualifier holds (R1, R214). -/
def State.targets (s : State) (w : RuleWord) (members : BitVec 24) : BitVec 24 :=
  let all := if w.self then w.chMask ||| w.memChs members else w.chMask
  maskWhere fun c => maskBit all c && s.hasCh c && s.dirOk w c

/-- Actions that the matrix extends to the partner of an energised pair: STOP_RAMP to LIMIT_OVERRIDE (R218). -/
def RuleWord.extends (w : RuleWord) : Bool := 1 ≤ w.action && w.action ≤ 4

def State.extend (s : State) (w : RuleWord) (m : BitVec 24) : BitVec 24 :=
  if w.extends then maskWhere fun c => maskBit m c || (maskBit m (twinOf c) && s.pairEnergised c) else m

/-! ### Held and latched assertions (R216) -/

/-- Channels on which the rule's held or latched action is asserted in this fc (RFX.ASSERTED). -/
def State.asserted (s : State) (r : RuleIx) : BitVec 24 :=
  let w := s.ruleWord r
  if !(s.rule r).enabled || w.dur == 0 || w.action == 0 || w.action == 7 then 0
  else
    let now := if s.condition r then s.targets w (s.active w (s.rule r).srcPrev) else 0
    if w.dur == 1 then s.extend w now
    else if (s.rule r).armed then s.extend w (now ||| (s.rule r).asserted)
    else 0

/-- AUX_SAFE asserted by the rule. -/
def State.auxAsserted (s : State) (r : RuleIx) : Bool :=
  let w := s.ruleWord r
  (s.rule r).enabled && w.action == 7 &&
    (if w.dur == 1 then s.condition r
     else w.dur == 2 && (s.rule r).armed && ((s.rule r).auxAsserted || s.condition r))

/-- Enabled rules in number order. -/
def State.enabledRules (s : State) : List RuleIx := (List.finRange 256).filter fun r => (s.rule r).enabled

/-- Outputs under AUX_SAFE: the union of the masks (R220). -/
def State.auxSafe (s : State) : Nat :=
  s.enabledRules.foldl (fun m r => if s.auxAsserted r then m ||| (s.ruleWord r).auxMask else m) 0

/-- What the matrix asserts on one channel: a stop (immediate beats ramp), the lowest ceiling in microsteps/s, the
override set of the lowest-numbered asserting rule (R63, R220). -/
structure Asserts where
  ramp : Bool
  imm : Bool
  ceiling : Nat
  ovr : Option (Fin 4)
  deriving DecidableEq, Repr

def Asserts.none : Asserts := ⟨false, false, 1310720000, Option.none⟩

def Asserts.add (a : Asserts) (w : RuleWord) : Asserts :=
  match w.action with
  | 1 => { a with ramp := true }
  | 2 => { a with imm := true }
  | 3 => { a with ceiling := min a.ceiling (w.arg * 65536) }
  | 4 => { a with ovr := some (a.ovr.getD ⟨w.arg % 4, Nat.mod_lt _ (by decide)⟩) }
  | _ => a

/-- Assertions of every enabled rule, each with its word and targets: the list that one integration step uses. -/
def State.assertList (s : State) : List (RuleIx × RuleWord × BitVec 24) :=
  (s.enabledRules.map fun r => (r, s.ruleWord r, s.asserted r)).filter fun x => x.2.2 != 0

def assertsOn (l : List (RuleIx × RuleWord × BitVec 24)) (c : Ch) : Asserts :=
  l.foldl (fun a x => if maskBit x.2.2 c then a.add x.2.1 else a) Asserts.none

/-- A held or latched stop is asserted on the channel (R64, R216). -/
def State.heldStop (s : State) (c : Ch) : Bool :=
  let a := assertsOn s.assertList c
  a.ramp || a.imm

/-- The set of the override that governs on a channel: that of the lowest-numbered asserting rule (R220). -/
def governingSet (l : List (RuleIx × RuleWord × BitVec 24)) (c : Ch) : Option Nat :=
  (l.find? fun x => x.2.1.action == 4 && maskBit x.2.2 c).map fun x => x.2.1.arg

/-- RFX.OVERRIDDEN (R220): a pulse that lost, or a held or latched override that names another set than the one that governs
on some target. -/
def State.overridden (s : State) (r : RuleIx) : Bool :=
  (s.rule r).overridden ||
    (let w := s.ruleWord r
     w.action == 4 && w.dur != 0 && (maskChs (s.asserted r)).any fun c => governingSet s.assertList c != some w.arg)

/-! ### Latched assertions and the memory of the previous fc -/

/-- Latched assertions grow while armed and the condition holds (R216). -/
def State.growLatched (s : State) (r : RuleIx) : Rule :=
  let w := s.ruleWord r
  let k := s.rule r
  if k.enabled && w.dur == 2 && k.armed && s.condition r then
    { k with asserted := k.asserted ||| s.targets w (s.active w k.srcPrev), auxAsserted := w.action == 7 }
  else k

/-- The channels of a pair's log entry, one of each pair that a mask names (R115, R218). -/
def pairsOf (m : BitVec 24) : List Ch := (maskChs m).filter fun c => c.val < 12 || !maskBit m (twinOf c)

/-- An action of rule `r` begins on channels: it enters the logs of their pairs; a stop is asked of their engines, and
STOP_IMMEDIATE raises HOLD itself (R215, R218). -/
def State.actionBegins (s : State) (r : RuleIx) (w : RuleWord) (t : BitVec 24) : State :=
  let s := if w.action == 0 || w.action == 7 then s else s.forAll (pairsOf t) fun c s => s.logReflex c r
  match w.action with
  | 1 => s.forAll (maskChs t) fun c s => s.onMotion c fun m => { m with rampReq := some (m.rampReq.getD .reflex) }
  | 2 => (s.forAll (maskChs t) fun c s => s.onMotion c fun m => { m with immReq := some (m.immReq.getD .reflex) }).orderHold t
  | _ => s

/-- Channels on which rule `r`'s held or latched action begins in this fc; one that was asserted before only continues, also
through a firing (R221). -/
def State.begun (s : State) (r : RuleIx) : BitVec 24 :=
  if s.mayFire r then s.asserted r &&& ~~~(s.rule r).assertedPrev else 0

/-- Held and latched actions that have begun by the end of an fc (R215, R218). -/
def State.beginAssertions (s : State) : State :=
  s.forAll s.enabledRules fun r s => if s.begun r == 0 then s else s.actionBegins r (s.ruleWord r) (s.begun r)

/-- An enable, disable or release of the fc that ends takes effect (R10, R223, R224): after an enable every member that is
active counts as newly active; a disable ends every assertion, and a release those of a latched rule. -/
def Rule.settle (k : Rule) (srcNow : BitVec 24) : Rule :=
  let k := if k.releaseNext then { k with armed := false, asserted := 0, auxAsserted := false, releaseNext := false } else k
  match k.enableNext with
  | none => k
  | some on =>
    { k with enabled := on, enableNext := none, armed := false, asserted := 0, auxAsserted := false, assertedPrev := 0,
             memPrev := 0, srcPrev := if on then srcNow else 0 }

/-- A rule at the end of an fc: it remembers its sources, members and assertions (R212). -/
def State.rememberRule (s : State) (r : RuleIx) : Rule :=
  let k := s.growLatched r
  let now := s.srcNow (s.ruleWord r)
  let k := { k with due := false, members := 0, caused := k.caused && k.enableNext.isSome }
  (if k.enabled then
    { k with memPrev := s.active (s.ruleWord r) k.srcPrev, srcPrev := now, assertedPrev := s.asserted r }
  else k).settle now

/-- Every rule at the end of an fc. -/
def State.rememberRules (s : State) : State :=
  { s.beginAssertions with rules := Vector.ofFn fun r => s.rememberRule r }

/-! ### Firing (R213 to R221, R225, R230) -/

/-- RFX_FIRED reports are grouped per millisecond (R230). -/
def State.reportFiring (s : State) (r : RuleIx) : State :=
  let k := s.rule r
  if !(s.ruleWord r).report then s
  else if k.window then
    s.onRule r fun k => { k with gatherTime := if k.gathered == 0 then s.time else k.gatherTime,
                                 gathered := k.gathered + 1, gatherCap := k.capture }
  else
    (s.onRule r fun k => { k with window := true, gathered := 0 }).raise 0x0601 r.val
      (leBytes 4 k.capture.toNat ++ leBytes 4 1)

/-- A firing of one fc: the rule, the members that it captures, the channels that its pulse acts on (R213, R214, R218), and whether
a command still in execution has caused it by enabling its rule (R223, R350). -/
structure Firing where
  rule : RuleIx
  members : BitVec 24
  channels : BitVec 24
  caused : Bool
  deriving DecidableEq, Repr

/-- The firing of rule `r` at the end of the fc: the members that were newly active when it was called, and those that are. -/
def State.firingOf (s : State) (r : RuleIx) : Firing :=
  let w := s.ruleWord r
  let m := (s.rule r).members ||| (if s.condition r then s.newly r else 0)
  ⟨r, m, if w.dur == 0 then s.extend w (s.targets w m) else 0, (s.rule r).caused && s.mbx.waiting.isSome⟩

/-- The firings of this fc in rule order, without those of a rule that a disable applied in it governs, and of one whose gate does
not hold in it (R221). -/
def State.firings (s : State) : List Firing :=
  ((List.finRange 256).filter fun r => (s.rule r).due && s.mayFire r && s.gateOk (s.ruleWord r)).map s.firingOf

/-- SOFT_OFF or PARK, whichever the lowest-numbered of the rules that fire orders for a channel (R220). -/
def State.orderOn (s : State) (fs : List Firing) (c : Ch) : Option Nat :=
  (fs.find? fun x => maskBit x.channels c && ((s.ruleWord x.rule).action == 5 || (s.ruleWord x.rule).action == 6)).map fun x =>
    (s.ruleWord x.rule).action

/-- Channels of a firing on which a lower-numbered rule's conflicting SOFT_OFF or PARK governs (R220). -/
def State.lostTo (s : State) (fs : List Firing) (x : Firing) : BitVec 24 :=
  maskWhere fun c => maskBit x.channels c && s.orderOn fs c != some (s.ruleWord x.rule).action

/-- SOFT_OFF on one target (R217): a fault with cause RFX_OFF in any state but DISABLED. -/
def State.rfxSoftOff (s : State) (r : RuleIx) (c : Ch) : State :=
  if (s.chan c).state == .disabled then s
  else (s.faultOff c fun k => { k with rfxOff := true }).raise 0x0602 c.val [BitVec.ofNat 8 r.val]

/-- Channels of a mask that are not in DISABLED, where SOFT_OFF has an effect (R217). -/
def State.notDisabled (s : State) (m : BitVec 24) : BitVec 24 :=
  maskWhere fun c => maskBit m c && (s.chan c).state != .disabled

/-- Effect of a pulse firing on its targets, of which it has lost some (R215, R220). -/
def State.rfxAct (s : State) (r : RuleIx) (t lost : BitVec 24) : State :=
  let w := s.ruleWord r
  let won := t &&& ~~~lost
  let s := s.actionBegins r w t
  match w.action with
  | 5 => (s.forAll (maskChs won) fun c s => s.rfxSoftOff r c).orderSoftOff (s.notDisabled won)
  | 6 => (s.forAll (maskChs won) fun c s => s.parkCh c 2).orderPark won
  | _ => s

/-- What a firing writes into its rule: capture, count, time, arming, and whether it lost a conflict (R213, R216, R220). -/
def Rule.fire (k : Rule) (members : BitVec 24) (time : Nat) (latched lost : Bool) : Rule :=
  { k with capture := members, fireCount := satAdd (2 ^ 32 - 1) k.fireCount 1, fireTime := time,
           armed := k.armed || latched, overridden := lost }

/-- Channels that a pulse firing loses to another; only SOFT_OFF and PARK conflict as pulses (R220). -/
def State.lostOf (s : State) (fs : List Firing) (x : Firing) : BitVec 24 :=
  if (s.ruleWord x.rule).action == 5 || (s.ruleWord x.rule).action == 6 then s.lostTo fs x else 0

/-- A firing enters its rule (R213, R216, R220). -/
def State.recordFiring (s : State) (fs : List Firing) (x : Firing) : State :=
  s.onRule x.rule fun k => k.fire x.members s.time ((s.ruleWord x.rule).dur == 2) (s.lostOf fs x != 0)

/-- A pulse's action and the report of one firing (R213, R215, R230). A held or latched action begins with the assertions of the
fc. The events of a firing that a command has caused wait for its response (R350). -/
def State.actFiring (s : State) (fs : List Firing) (x : Firing) : State :=
  let held := s.mbx.holding
  (((s.holdEvents (held || x.caused)).rfxAct x.rule x.channels (s.lostOf fs x)).reportFiring x.rule).holdEvents held

/-- The matrix at the end of an fc (R212, R213, R220, R221): the rules that fire in it record it, held and latched actions begin
and every rule remembers what it saw, and only then the pulses act, in rule order, so that what they change is new to the
rules in the next fc. -/
def State.matrix (s : State) : State :=
  if s.hwOn then
    let t := (s.forAll s.firings fun x t => t.recordFiring s.firings x).rememberRules
    t.forAll s.firings fun x t => t.actFiring s.firings x
  else s

/-- A firing is called: it acts at the end of the fc, when every source, disable and other firing of the fc is known (R220, R221,
R225); members that become active later in the fc join it (R213). -/
def State.callFiring (s : State) (r : RuleIx) : State :=
  s.onRule r fun k => { k with due := true, members := k.members ||| s.newly r }

/-- A rule's member becomes newly active, and the rule fires in this fc if its gate holds in it (R213, R221, R225). With no member
newly active, or the matrix not running, nothing happens. -/
def execRfxFiring (r : RuleIx) (s : State) : Host.Outcome State Fault Refusal :=
  .next (if s.hwOn && s.fires r then s.callFiring r else s)

/-- The millisecond after a report ends (R230): the firings gathered in it make one more report, which opens the next
window; with none gathered the window closes. -/
def execRfxReportWindowEnd (r : RuleIx) (s : State) : Host.Outcome State Fault Refusal :=
  let k := s.rule r
  .next
    (if !(s.hwOn && k.window) then s
     else if k.gathered == 0 then s.onRule r fun k => { k with window := false }
     else
       (s.raiseAt k.gatherTime 0x0601 r.val (leBytes 4 k.gatherCap.toNat ++ leBytes 4 k.gathered)).onRule r fun k =>
         { k with gathered := 0 })

/-! ### RFX.ENABLE and RFX.RELEASE (R222 to R224) -/

/-- Largest output index named by a mask lies within the outputs present. -/
def State.auxMaskPresent (s : State) (m : Nat) : Bool := m < 2 ^ s.auxCount

/-- The check of a write of 1 to RFX.ENABLE (R222). -/
def State.ruleCheck (s : State) (w : RuleWord) : Result :=
  if !((maskChs w.chMask).all fun c => s.hasCh c) || !s.auxMaskPresent w.auxMask then .unitAbsent
  else
    let last := w.member (w.count - 1)
    let bad :=
      w.count == 0 || 24 < w.count || (1 < w.count && w.stride == 0) || 1151 < (if w.count == 1 then w.src else last) ||
      (w.gateMode != 0 && 1151 < w.gateSrc) ||
      ((w.action == 3 || w.action == 4 || w.action == 7) && w.dur == 0) ||
      ((w.action == 5 || w.action == 6) && w.dur != 0) ||
      (w.dur == 1 && w.trig < 2) ||
      ((w.qual == 1 || w.self) && 863 < (if w.count == 1 then w.src else last)) ||
      (if w.action == 3 then 20000 < w.arg else if w.action == 4 then 3 < w.arg else w.arg != 0) ||
      (1 ≤ w.action && w.action ≤ 6 && w.chMask == 0 && !w.self) ||
      (w.action == 7 && w.auxMask == 0)
    if bad then .outOfRange else .ok

/-- A write of RFX.ENABLE (R222, R223): checked at once, in effect in the next fc; a later write in the same fc replaces it
(R10). -/
def State.writeRfxEnable (s : State) (r : RuleIx) (v : Int) : State × Result :=
  if v == 0 then
    ((s.onRule r fun k => { k with enableNext := if k.enabled then some false else none }).setPar Pid.RFX_ENABLE r.val 0, .ok)
  else
    match s.ruleCheck (s.ruleWord r) with
    | .ok =>
      ((s.onRule r fun k => { k with enableNext := if k.enabled then none else some true, caused := s.mbx.holding }).setPar Pid.RFX_ENABLE r.val 1, .ok)
    | e => (s, e)

/-- A write of 1 to RFX.RELEASE (R224), in effect in the next fc. -/
def State.writeRfxRelease (s : State) (r : RuleIx) : State × Result :=
  if (s.ruleWord r).dur != 2 || ((s.rule r).enabled && s.condition r) then (s, .wrongState)
  else (s.onRule r fun k => { k with releaseNext := true }, .ok)

end Sys2Proof.Machine
end

