-- ==== Sys2Proof/Machine/AuxPwm.lean ====
section
/-! DEFINITION. The auxiliary PWM unit and its trip inputs (R400 to R414). -/

namespace Sys2Proof.Machine

/-- Outputs that the variant has (R400). -/
def State.auxOuts (s : State) : List AuxIx := (List.finRange 16).filter fun k => k.val < s.auxCount

/-- Outputs in a trip's map (R408). -/
def State.tripMap (s : State) (t : TripIx) : Nat := s.parN Pid.AUX_TRIP_MAP t.val

/-- A trip latch or a raw trip mapped to the output (R407). -/
def State.tripped (s : State) (k : AuxIx) : Bool :=
  (List.finRange 4).any fun t => (s.tripMap t).testBit k.val && ((s.trip t).latch || (s.tripRaw t && (s.trip t).enabled))

/-- Periods run: period 0 has begun and the stop has not taken effect (R405, R414). -/
def AuxOut.periods (o : AuxOut) : Bool := o.run == .running || o.run == .stopping

/-- A period start lies ahead of the output: its armed grid has begun or runs (R405). -/
def AuxOut.onGrid (o : AuxOut) : Bool := o.periods || o.run == .starting || o.run == .withdrawn

/-- Level at a ball. -/
inductive Ball where
  | low | high
  deriving DecidableEq, Repr

def Ball.of (b : Bool) : Ball := if b then .high else .low

/-- The firmware switches the auxiliary PWM domain on before it arms the first output or enables the first trip (R400). -/
def State.auxPower (s : State) (on : Bool) : State := { s with power := { s.power with auxDomain := on } }

/-- An output or a trip needs the auxiliary PWM domain (R400). -/
def State.auxWanted (s : State) : Bool :=
  (s.auxOuts.any fun k => (s.aux k).run != .stopped) ||
    ((List.finRange 4).any fun t => (s.trip t).enabled || (s.trip t).enableNext == some true)

/-- AUX.STATUS (R414). -/
def State.auxStatus (s : State) (k : AuxIx) : Nat :=
  let o := s.aux k
  b2n o.periods + 2 * b2n (o.run == .armed) + 4 * b2n (o.run != .stopped && (o.copy.isSome || o.copyNew.isSome)) +
    8 * b2n (o.force != 0) + 16 * b2n o.rfxSafe + 32 * b2n (s.tripped k || o.tripHeld)

/-! ### Writes -/

/-- What waits for the next fc: on a stopped output a force acts then, elsewhere it waits for the next period start, and the load
register takes a copy for the starts of later fcs; AUX_SAFE acts from the next fc on like a force (R403, R406). -/
def AuxOut.settle (o : AuxOut) (safe : Bool) : AuxOut :=
  let o := { o with copy := o.copyNew.orElse fun _ => o.copy, copyNew := none,
                    forceNext := o.forceNew.orElse fun _ => o.forceNext, forceNew := none }
  if o.run == .stopped then
    { o with force := o.forceNext.getD o.force, forceNext := none, rfxSafe := safe, safeSeen := safe, tripHeld := false }
  else { o with safeSeen := safe }

/-- A write of AUX.RUN: it stops an output at its next period start, one that has not begun at period 0, and a later write before
that start replaces it (R10, R405). An output that leaves `stopped` carries what was written to it while it was stopped, which by
R367 was in an earlier fc. -/
def AuxOut.write (o : AuxOut) (on : Bool) : AuxOut :=
  match on, o.run with
  | true, .stopped => { o.settle o.safeSeen with run := .armed, copy := none }
  | true, .withdrawn => { o with run := .starting }
  | true, .stopping => { o with run := .running }
  | false, .armed => { o with run := .stopped }
  | false, .starting => { o with run := .withdrawn }
  | false, .running => { o with run := .stopping }
  | _, _ => o

/-- The present assertion of AUX_SAFE on an output (R215). -/
def State.auxSafeOn (s : State) (k : AuxIx) : Bool := s.auxSafe.testBit k.val

def State.writeAuxRun (s : State) (k : AuxIx) (v : Int) : State × Result :=
  let t := (s.setPar Pid.AUX_RUN k.val v).onAux k fun o => o.write (v != 0)
  (if v != 0 then t.auxPower true else t, .ok)

/-- Shadow values of an output (R403). -/
def State.auxShadow (s : State) (k : AuxIx) : Nat × Nat := (s.parN Pid.AUX_PERIOD k.val, s.parN Pid.AUX_DUTY k.val)

/-- The check of AUX.LOAD_ALL on one output (R404). -/
def State.loadOk (s : State) (k : AuxIx) : Bool :=
  let sh := s.auxShadow k
  (sh.2 == 0 || sh.2 == 0x1FFFFFF || sh.2 < sh.1) &&
    ((s.aux k).run != .armed || s.parN Pid.AUX_PHASE k.val < sh.1)

/-- The copy of one output into its load register (R403): an armed one begins period 0 at fc F + 1 plus its phase (R405). -/
def AuxOut.load (o : AuxOut) (sh : Nat × Nat) (phase fc : Nat) : AuxOut :=
  let o := { o with copyNew := some sh }
  if o.run == .armed then { o with run := .starting, nextAt := 32 * (fc + 1) + phase } else o

/-- A write of 1 to AUX.LOAD_ALL (R403 to R405). -/
def State.writeLoadAll (s : State) : State × Result :=
  if s.auxOuts.all fun k => s.loadOk k then
    (s.forAll s.auxOuts fun k t => t.onAux k fun o => o.load (s.auxShadow k) (s.parN Pid.AUX_PHASE k.val) s.fc, .ok)
  else (s, .outOfRange)

/-- A write of AUX.FORCE: it acts at the next period start of a later fc, on a stopped output in the next fc (R406). -/
def State.writeAuxForce (s : State) (k : AuxIx) (v : Int) : State × Result :=
  ((s.setPar Pid.AUX_FORCE k.val v).onAux k fun o => { o with forceNew := some v.toNat }, .ok)

/-! ### Period start (R402, R403, R405, R406, R409) -/

/-- Active interval of the period that begins at `start`, in 1/32 fc: from the period start, or centred on the mid-point with its
edges to the nearest 1/32 fc (R401, R402). -/
def AuxOut.pulse (o : AuxOut) (start : Nat) (centred : Bool) : Nat × Nat :=
  if o.dutyAct == 0 then (start, start)
  else if o.dutyAct == 0x1FFFFFF then (start, start + o.periodAct)
  else
    let lead := if centred then (o.periodAct - o.dutyAct + 1) / 2 else 0
    (start + lead, start + lead + o.dutyAct)

/-- What drives the ball since the latest period start. -/
def AuxOut.drive (o : AuxOut) (centred : Bool) : AuxDrive :=
  ⟨o.rfxSafe, o.tripHeld, o.force, if o.periods then o.pulse o.startAt centred else (0, 0)⟩

/-- One output at its period start (R403, R405, R406, R409): the copy and the force of earlier fcs, AUX_SAFE as asserted at the end of
the fc before, and the release of a trip that has been cleared. A stop discards any copy. -/
def AuxOut.period (o : AuxOut) (trip centred : Bool) : AuxOut :=
  let o := { o with before := o.drive centred, startAt := o.nextAt, rfxSafe := o.safeSeen, tripHeld := trip,
                    force := o.forceNext.getD o.force, forceNext := none }
  if o.run == .stopping || o.run == .withdrawn then { o with run := .stopped, copy := none, copyNew := none }
  else
    let act := o.copy.getD (o.periodAct, o.dutyAct)
    { o with run := .running, periodAct := act.1, dutyAct := act.2, copy := none, nextAt := o.nextAt + act.1 }

/-- The period start of an output is due: the fc that holds the next start on its grid has come (R402, R405). -/
def AuxOut.due (o : AuxOut) (fc : Nat) : Bool := o.onGrid && o.nextAt < 32 * (fc + 1)

/-- AUX.ALIGN of an output. -/
def State.auxCentred (s : State) (k : AuxIx) : Bool := s.parB Pid.AUX_ALIGN k.val

/-- One output after a period start. -/
def State.auxStart (s : State) (k : AuxIx) : AuxOut := (s.aux k).period (s.tripped k) (s.auxCentred k)

def execAuxPeriodStart (k : AuxIx) (s : State) : Host.Outcome State Fault Refusal :=
  .next
    (if s.hwOn && (s.aux k).due s.fc then
      let t := s.onAux k fun _ => s.auxStart k
      if k.val % 4 == 0 then t.pulse (1144 + k.val / 4) else t
    else s)

/-- Inactive level of an output (R407). -/
def State.auxRest (s : State) (k : AuxIx) : Ball := Ball.of (s.parB Pid.AUX_POL k.val)

/-- Level that a drive gives at a place on the output's time line, in 1/32 fc (R407, rows 2 to 5). -/
def State.auxDriven (s : State) (k : AuxIx) (d : AuxDrive) (at_ : Nat) : Ball :=
  if d.tripHeld || d.rfxSafe then Ball.of (s.parB Pid.AUX_SAFE_LEVEL k.val)
  else if d.force == 1 then .low
  else if d.force == 2 then .high
  else Ball.of ((d.on.1 ≤ at_ && at_ < d.on.2) != s.parB Pid.AUX_POL k.val)

/-- Level at the ball of an output at tap `tap` of the present fabric cycle (R400, R402, R407): a period start that lies at or before
it has taken effect, whether or not its command has come, and before the latest start the drive of the period before governs. Standby
entry drives every output inactive (R428). -/
def State.auxBallAt (s : State) (k : AuxIx) (tap : Nat) : Ball :=
  let at_ := 32 * s.fc + tap
  let o := if (s.aux k).due s.fc && (s.aux k).nextAt ≤ at_ then s.auxStart k else s.aux k
  if !s.power.auxDomain then .low
  else if s.power.entering == .unitsStopped then s.auxRest k
  else if s.tripped k then Ball.of (s.parB Pid.AUX_SAFE_LEVEL k.val)
  else s.auxDriven k (if at_ < o.startAt then o.before else o.drive (s.auxCentred k)) at_

/-- Level at the ball at the start of the fabric cycle. -/
def State.auxBall (s : State) (k : AuxIx) : Ball := s.auxBallAt k 0

/-! ### Trips (R408, R409, R410) -/

/-- Mapped outputs stay at the safe level until the period start after the clear; a stopped one has none and returns at once
(R409, assumption 57). -/
def State.holdTripped (s : State) (m : Nat) : State :=
  { s with auxs := s.auxs.mapFinIdx fun k o _ => if m.testBit k && o.run != .stopped then { o with tripHeld := true } else o }

/-- The latch sets and the mapped outputs go safe. -/
def State.latchTrip (s : State) (t : TripIx) : State :=
  if (s.trip t).latch then s else (s.onTrip t fun k => { k with latch := true }).holdTripped (s.tripMap t)

/-- The level at a trip input. -/
def State.tripLevel (s : State) (x : TripLevel) : State := s.onTrip x.trip fun k => { k with level := x.mv }

/-- A comparator output becomes active, at a level beyond its threshold; it acts while AUX.TRIP_ENABLE = 1, in a debug halt too (R408,
assumption 117). -/
def execAuxTrip (x : TripLevel) (s : State) : Host.Outcome State Fault Refusal :=
  let t := s.tripLevel x
  .next
    (if !(s.hasTrip && t.tripRaw x.trip) then s
     else if s.phase == .runtime && (s.trip x.trip).enabled then t.latchTrip x.trip
     else t)

/-- A comparator output returns inactive, at a level that is not beyond its threshold. -/
def execTripComparatorInactive (x : TripLevel) (s : State) : Host.Outcome State Fault Refusal :=
  .next (if s.hasTrip && !(s.tripLevel x).tripRaw x.trip then s.tripLevel x else s)

/-- A write of AUX.TRIP_ENABLE: it acts in the next fc (R408). -/
def State.writeTripEnable (s : State) (t : TripIx) (v : Int) : State × Result :=
  let u := (s.setPar Pid.AUX_TRIP_ENABLE t.val v).onTrip t fun k =>
    { k with enableNext := some (v != 0), caused := v != 0 && s.mbx.holding }
  (if v != 0 then u.auxPower true else u, .ok)

/-- A write of 1 to AUX.TRIP_CLEAR: it clears the latch in the next fc (R409). -/
def State.writeTripClear (s : State) (t : TripIx) : State × Result :=
  if s.tripRaw t then (s, .wrongState) else (s.onTrip t fun k => { k with clearNext := true }, .ok)

/-- What the writes of this fc do in the next one: a latch is cleared unless the comparator is active again (R409), and an enable
latches at once on an active comparator (R408). -/
def State.settleTrip (s : State) (t : TripIx) : State :=
  let k := s.trip t
  let on := k.enableNext.getD k.enabled
  let gone := k.latch && k.clearNext && !(s.tripRaw t && on)
  let s1 := (if gone then s.holdTripped (s.tripMap t) else s).onTrip t fun k =>
    { k with enabled := on, enableNext := none, clearNext := false, latch := k.latch && !gone }
  if k.enableNext == some true && s.tripRaw t then s1.latchTrip t else s1

/-- The firmware switches the auxiliary PWM domain off once nothing needs it; not during an Eclipse (R400, R431). -/
def State.settleDomain (s : State) : State := if s.fwOn && !s.auxWanted then s.auxPower false else s

/-- What writes to the auxiliary unit in this fc do in the next one. -/
def State.settleAux (s : State) : State :=
  ({ s with auxs := s.auxs.mapFinIdx fun k o h => o.settle (s.auxSafeOn ⟨k, h⟩) }.forAll (List.finRange 4) fun t s =>
    s.settleTrip t).settleDomain

/-- AUX_TRIP in the fc in which the latched source becomes active; the response of a command that enabled the trip comes before it
(R350, R408). -/
def State.reportTrip (s : State) (t : TripIx) : State :=
  let k := s.trip t
  let held := s.mbx.holding
  let u := (s.onTrip t fun k => { k with time := s.time, caused := false }).holdEvents (held || (k.caused && s.mbx.waiting.isSome))
  (u.raise 0x0A01 t.val (leBytes 2 (s.tripMap t))).holdEvents held

/-- The two-stage synchroniser of one trip input (R408). -/
def State.syncTrip (s : State) (t : TripIx) : State :=
  let k := s.trip t
  let u := s.onTrip t fun k => { k with sync1 := (s.tripRaw t && k.enabled, k.latch), sync2 := k.sync1 }
  if k.sync1.2 && !k.sync2.2 then u.reportTrip t else u

def State.syncTrips (s : State) : State := s.forAll (List.finRange 4) fun t s => s.syncTrip t

/-- Every output inactive and stopped, every copy gone (R428). -/
def State.stopAux (s : State) : State :=
  (s.forAll (List.finRange 16) fun k s => s.setPar Pid.AUX_RUN k.val 0).forAll (List.finRange 16) fun k s =>
    s.onAux k fun o => { o with run := .stopped, copy := none, copyNew := none, force := 0, forceNext := none, forceNew := none,
                                tripHeld := false, rfxSafe := false, safeSeen := false, before := AuxDrive.init }

end Sys2Proof.Machine
end

