-- ==== Sys2Proof/Machine/Motion.lean ====
section
/-! DEFINITION. The motion engines at one integration step (R48 to R80, R88, R495). -/

namespace Sys2Proof.Machine

/-! ### One engine, on its own -/

/-- Ends of the position range with the fraction of R49 (R47). -/
def posMin : Int := -(2 ^ 39) * 2 ^ 24
def posMax : Int := (2 ^ 39 - 1) * 2 ^ 24

/-- The engine at a new position: the angle code advances by one per microstep (R49, R92). -/
def Motion.goto (m : Motion) (pos vel acc carry : Int) : Motion :=
  let p := clamp posMin posMax pos
  { m with pos := p, vel := vel, acc := acc, carry := carry, theta := m.theta + BitVec.ofInt 18 (p / 2 ^ 24 - m.position) }

/-- Sign of a nonzero number; +1 for zero. -/
def dirSign (x : Int) : Int := if x < 0 then -1 else 1

/-- How an integration step of one engine ends. -/
inductive MotEnd where
  | running
  | arrived
  | stopped
  | rangeEnd
  deriving DecidableEq, Repr

/-- The engine's motion on a path that begins at `x` in its direction of travel `d`. -/
def Motion.kin (m : Motion) (x d : Int) : Kin := Kin.of x |m.vel| (d * m.acc) m.carry

/-- One step of deceleration to standstill (R53, R65); `fresh` where a stop begins with it. -/
def Motion.brake (l : Limits) (fresh : Bool) (m : Motion) : Motion :=
  let d := dirSign m.vel
  let k := stepToRest l fresh (m.kin 0 d)
  m.goto (m.pos + d * k.x) (d * k.v) (d * k.a) k.carry

/-- One step towards a target in position or follow mode (R51, R52, R59, R495). -/
def Motion.towards (l : Limits) (m : Motion) (target : Int) : Motion × Bool :=
  let gap := target - m.pos
  let d := if m.vel = 0 then dirSign gap else dirSign m.vel
  if m.vel = 0 ∧ gap = 0 then ({ m with acc := 0, carry := 0 }, true)
  else if m.vel = 0 ∧ l.v = 0 then ({ m with acc := 0, carry := 0 }, false)
  else if d * gap < 0 then (m.brake l false, false)
  else
    let k := stepTarget l (m.kin (d * gap) d)
    if arrived l k then (m.goto target 0 0 0, true)
    else (m.goto (target - d * k.x) (d * k.v) (d * k.a) k.carry, false)

/-- One step of velocity mode towards the velocity in force (R56). -/
def Motion.cruise (l : Limits) (m : Motion) (vt : Int) : Motion :=
  if m.vel = 0 ∧ vt = 0 then { m with acc := 0, carry := 0 }
  else
    let d := if m.vel = 0 then dirSign vt else dirSign m.vel
    if d * vt ≤ 0 then m.brake l false
    else
      let k := stepVelocity l (m.kin 0 d) |vt|
      m.goto (m.pos + d * k.x) (d * k.v) (d * k.a) k.carry

/-- Distance in which a ramp stop that begins now comes to rest, with what its rounding may add (R53). -/
def Motion.stopRoom (l : Limits) (m : Motion) : Int :=
  let v := |m.vel|
  let a := if l.j = 0 then 0 else dirSign m.vel * m.acc
  let ve := min l.vstop l.v
  if v ≤ l.vstop then 0 else stopDistance v a ve l.d l.j + cornerLoss l v a ve + margin l

/-- The engine could no longer stop at or before the end of the range that it moves towards, or moves on at that end (R50). -/
def Motion.pastRange (l : Limits) (m : Motion) : Bool :=
  let room := if 0 ≤ dirSign m.vel then posMax - m.pos else m.pos - posMin
  m.vel != 0 && room < max 1 (m.stopRoom l)

/-- A follow target inside the range is approached without passing an end (R50, R57). -/
def Motion.targetInRange (m : Motion) : Bool := -(2 ^ 39) ≤ m.target && m.target < 2 ^ 39

/-- Velocity in force (R56, R495). -/
def velInForce (l : Limits) (cmd : Int) : Int := clamp (-l.v) l.v (cmd * unitStep)

/-- One integration step of an engine that moves by itself (R48): MOVING by its mode, or STOPPING. -/
def Motion.advance (l : Limits) (stopping : Bool) (m : Motion) : Motion × MotEnd :=
  if stopping then
    let m' := { m.brake l m.stopNew with stopNew := false }
    (m', if m'.vel = 0 then .stopped else .running)
  else
    match m.mode with
    | .velocity =>
      let m' := m.cruise l (velInForce l m.velCmd)
      if m'.pastRange l then (m.brake l true, .rangeEnd)
      else (m', if m.velCmd = 0 ∧ m'.vel = 0 then .stopped else .running)
    | .follow =>
      let m' := (m.towards l (m.target * unitStep)).1
      if !m.targetInRange && m'.pastRange l then (m.brake l true, .rangeEnd) else (m', .running)
    | _ =>
      let r := m.towards l (m.target * unitStep)
      (r.1, if r.2 then .arrived else .running)

/-! ### Limits in force (R60, R63) -/

/-- Limits of a channel with what the matrix asserts on it. -/
def State.limits (s : State) (c : Ch) (a : Asserts) : Limits :=
  let p := fun id => s.par id c.val
  let o := fun id (j : Fin 4) => s.par id j.val
  { v := min (p Pid.CH_VMAX) a.ceiling * unitStep
    a := (match a.ovr with | none => p Pid.CH_AMAX | some j => o Pid.RFX_OVR_AMAX j) * unitStep
    d := (match a.ovr with | none => p Pid.CH_DMAX | some j => o Pid.RFX_OVR_DMAX j) * unitStep
    j := (match a.ovr with | none => p Pid.CH_JMAX | some j => o Pid.RFX_OVR_JMAX j) * unitStep
    vstart := p Pid.CH_VSTART * unitStep
    vstop := p Pid.CH_VSTOP * unitStep }

/-! ### Merging the inputs of one step (R63) -/

/-- Clamp of a relative target to the range (R55). -/
def clampTarget (t : Int) : Int := clamp (-(2 ^ 39)) (2 ^ 39 - 1) t

/-- A motion command takes effect (R55 to R57). -/
def Motion.apply (m : Motion) (mv : Move) (count : BitVec 32) : Motion :=
  let base := { m with velReported := none, velCmd := 0 }
  match mv with
  | .to t rel follow =>
    if follow then { base with mode := .follow, followOffset := t, followPos := 0, followLast := count, target := clampTarget t }
    else if rel then
      { base with mode := .position, target := clampTarget ((if m.mode == .position then m.target else m.position) + t) }
    else { base with mode := .position, target := t }
  | .vel v => { base with mode := .velocity, velCmd := v, target := m.position }

/-- A relative target lies outside the range (R55). -/
def Motion.clamps (m : Motion) (mv : Move) : Bool :=
  match mv with
  | .to t true false =>
    let x := (if m.mode == .position then m.target else m.position) + t
    clampTarget x != x
  | _ => false

/-- A ramp stop begins (R64, R65): target and armed move are discarded. -/
def Channel.beginStop (k : Channel) (cause : StopCause) : Channel :=
  { k with state := .stopping,
           motion := { k.motion with stopCause := cause, mode := .none, target := k.motion.position, armed := none,
                                     velCmd := 0, velReported := none, stopNew := true } }

/-- One held motion command takes effect (R63, order 1). POS_RANGE_END of a relative target that is clamped carries the position
before the step's integration: R88 does not say which (DESIGN CHOICE, assumption 104). -/
def State.applyHeld (s : State) (c : Ch) (mv : Move) : State :=
  let k := s.chan c
  if k.state == .idle || k.state == .holdReduced || k.state.inMotion then
    let clamps := k.motion.clamps mv
    let s := s.onChan c fun k => { k with state := .moving, left := true, motion := k.motion.apply mv (s.fb c).count }
    if clamps then (s.chPulse c 9).raise 0x0106 c.val (posField (s.chan c).motion.position) else s
  else s

/-- End of a stop at standstill (R68, R82): STOP_DONE, then IDLE or FAULT holding, at full current (R104), or the
turn-off of a DISABLE. The standstill that ends a MOVE_VEL of VELOCITY 0 comes here too, and an armed move stays through it:
whether that is a stop that discards one (R73) is not said (DESIGN CHOICE, assumption 88). -/
def State.endStop (s : State) (c : Ch) (cause : StopCause) : State :=
  let s := s.stopDone c cause
  let k := s.chan c
  if k.motion.disablePending then s.turnOffCh c
  else s.onChan c fun k =>
    { k with state := if k.motion.stopFault then .fault else .idle, fetsOff := false,
             coil := { k.coil with reduced := false, rampDone := 0 },
             motion := { k.motion.discard with armed := if k.motion.stopFault then none else k.motion.armed } }

/-- The engine halts in one integration step, with HOLD raised for its channel (R66). -/
def State.halt (s : State) (c : Ch) : State :=
  (s.onMotion c fun m => { m with vel := 0, acc := 0, carry := 0 }).orderHold (chBit c)

/-- The stop of a channel at rest, by a fault that allows motion or by its partner's park (R82, R114): it stops standing and is
at standstill at once, so it passes through STOPPING (R106). -/
def State.restStop (s : State) (c : Ch) : State :=
  (s.onChan c fun k => { k with left := k.left || k.motion.stopFault, policy := false }).endStop c .fault

/-- Stops of one step: faults, reflex actions, limits, host STOP and DISABLE (R63, orders 2 and 3). Any stop beats a motion
that takes effect at the step, and an immediate stop beats a ramp stop. A channel moves towards a limit by its velocity before
the step, so that one starting from rest at the step of the capture is not stopped by it: R70 does not say (DESIGN CHOICE,
assumption 89). -/
def State.mergeStops (s : State) (c : Ch) (a : Asserts) : State :=
  let k := s.chan c
  let m := k.motion
  let hits := (m.capP && 0 < m.vel) || (m.capN && m.vel < 0)
  let hard := s.par Pid.CH_LIMIT_MODE c.val == 1
  let imm : Option StopCause :=
    if m.immReq.isSome then m.immReq else if a.imm then some .reflex else if hits && hard then some .limit else none
  let ramp : Option StopCause :=
    if m.rampReq.isSome then m.rampReq else if a.ramp then some .reflex else if hits then some .limit else none
  let s := s.onMotion c fun m =>
    { m with immReq := none, rampReq := none, vlimitRfx := a.ceiling,
             armed := if imm.isSome || ramp.isSome then none else m.armed }
  match imm, ramp with
  | some cause, _ =>
    if k.state.inMotion then (s.halt c).endStop c cause
    else if k.state.energised && m.immReq == some .fault then (s.halt c).restStop c
    else if k.state.energised && m.stopFault then s.restStop c
    else s
  | none, some cause =>
    if k.state == .moving then s.onChan c fun k => k.beginStop cause
    else if k.state != .stopping && k.state.energised && m.stopFault then s.restStop c
    else s
  | none, none => s

/-- Host-class motion commands in acceptance order (R63, order 1). -/
def State.mergeMoves (s : State) (c : Ch) : State :=
  (s.onMotion c fun m => { m with held := [] }).forAll (s.chan c).motion.held fun mv s => s.applyHeld c mv

/-! ### Reports of one step (R70, R72, R88) -/

/-- Positions of latches set since the last step (R70). -/
def State.captureLimits (s : State) (c : Ch) : State :=
  let m := (s.chan c).motion
  let p := m.position
  let s := if m.capP then
      (s.onMotion c fun m => { m with capP := false, limitPosP := p }).raise 0x0104 c.val (posField p) else s
  if m.capN then
    (s.onMotion c fun m => { m with capN := false, limitPosN := p }).raise 0x0105 c.val (posField p) else s

/-- A latch clears when the channel moves away under a host-class command with the input inactive (R72). -/
def Motion.clearLatches (moving : Bool) (m : Motion) : Motion :=
  { m with latchP := m.latchP && !(moving && m.vel < 0 && !m.limP),
           latchN := m.latchN && !(moving && 0 < m.vel && !m.limN) }

/-- The report of a velocity in force that is no longer in force is forgotten: reaching it again is reported again (R56). -/
def Motion.forgetReport (l : Limits) (m : Motion) : Motion :=
  { m with velReported := m.velReported.filter fun v => v == velInForce l m.velCmd }

/-- VEL_REACHED on first reaching each velocity in force (R56, R495). -/
def State.reportVelocity (s : State) (c : Ch) (l : Limits) : State :=
  let s := s.onMotion c fun m => m.forgetReport l
  let k := s.chan c
  let vt := velInForce l k.motion.velCmd
  if k.state == .moving && k.motion.mode == .velocity && k.motion.vel == vt && k.motion.acc == 0 &&
     k.motion.velReported != some vt then
    ((s.onMotion c fun m => { m with velReported := some vt }).chPulse c 8).raise 0x0102 c.val
      (posField k.motion.position ++ leInt 4 (vt / unitStep))
  else s

/-- MOVE_DONE (R88): the channel enters IDLE (R82). From here, and from the beginning of a ramp stop, CH.MODE reads 0: R90 does not
say what it reads then (DESIGN CHOICE, assumption 91). -/
def State.moveDone (s : State) (c : Ch) : State :=
  let s := s.onChan c fun k =>
    { k with state := .idle,
             motion := { k.motion with mode := .none, velReported := none, vel := 0, acc := 0, carry := 0 } }
  (s.chPulse c 6).raise 0x0101 c.val (posField (s.chan c).motion.position)

/-- Follower position and target of follow mode at this step (R57, R189). -/
def Motion.follow (m : Motion) (count : BitVec 32) (scale : Int) : Motion :=
  if m.mode == .follow then
    let fp := m.followPos + (count - m.followLast).toInt
    { m with followPos := fp, followLast := count, target := m.followOffset + fp * scale }
  else m

/-- Integration of a channel that is in motion and in no group (R48, R51 to R60). At the standstill that ends a MOVE_VEL of
VELOCITY 0 the model reports STOP_DONE alone, and not VEL_REACHED for a velocity in force of 0: R56 does not say that both
are due (DESIGN CHOICE, assumption 74). -/
def State.integrateCh (s : State) (c : Ch) (a : Asserts) : State :=
  let k := s.chan c
  if k.state.inMotion && k.motion.mode != .interp && !(s.groups.any fun g => g.active && g.members.any (·.1 == c)) then
    let l := s.limits c a
    let m := k.motion.follow (s.fb c).count (s.par Pid.FB_STEP_SCALE c.val)
    let r := m.advance l (k.state == .stopping)
    let s := (s.onChan c fun k => { k with motion := r.1.clearLatches (k.state == .moving) }).captureLimits c
    match r.2 with
    | .running => s.reportVelocity c l
    | .arrived => s.moveDone c
    | .stopped => s.endStop c (if k.state == .stopping then k.motion.stopCause else .velZero)
    | .rangeEnd =>
      let s := ((s.onChan c fun k => k.beginStop .limit).chPulse c 9).raise 0x0106 c.val
        (posField (s.chan c).motion.position)
      if (s.chan c).motion.vel = 0 then s.endStop c .limit else s.onMotion c fun m => { m with stopNew := false }
  else s.captureLimits c

/-! ### Interpolation groups (R79, R80) -/

/-- A member's limit scaled to the path coordinate, rounded down. -/
def scaleUp (x : Int) (len : Nat) (delta : Int) : Int := x * len / |delta|

/-- Smallest of a list; `d` for the empty list. -/
def minOf (d : Int) : List Int → Int
  | [] => d
  | x :: xs => xs.foldl min x

/-- Group limits: the smallest over the members that move, jerk over those with nonzero jerk (R79); what the matrix asserts
on a member still in the group acts on the path (R80). -/
def State.groupLimits (s : State) (g : Group) (asserts : Ch → Asserts) : Limits :=
  let on := fun c => if g.members.any fun m => m.1 == c then asserts c else Asserts.none
  let ms := (g.spans.filter fun m => m.2 != 0).map fun m => (s.limits m.1 (on m.1), m.2)
  let js := (ms.filter fun x => x.1.j != 0).map fun x => scaleUp x.1.j g.len x.2
  { v := minOf 0 (ms.map fun x => scaleUp x.1.v g.len x.2)
    a := minOf unitStep (ms.map fun x => scaleUp x.1.a g.len x.2)
    d := minOf unitStep (ms.map fun x => scaleUp x.1.d g.len x.2)
    j := minOf 0 js
    vstart := 0, vstop := 0 }

/-- Place of a member for a path coordinate (R79): start + delta * s / L, rounded towards zero. -/
def State.placeMember (s : State) (g : Group) (m : Ch × Int × Int) : State :=
  s.onMotion m.1 fun k =>
    let k' := k.goto (m.2.1 + (m.2.2 * g.pos).tdiv g.len) ((m.2.2 * g.vel).tdiv g.len) ((m.2.2 * g.acc).tdiv g.len) 0
    ({ k' with target := (m.2.1 + m.2.2) / unitStep }).clearLatches ((s.chan m.1).state == ChState.moving)

/-- The group's members after a merge: a stop of one is a stop of all (R80). -/
def State.mergeGroup (s : State) (g : Group) : State × Group :=
  let inMotion := g.members.filter fun m => (s.chan m.1).state.inMotion
  if inMotion.length < g.members.length then
    -- an immediate stop of any member is an immediate stop of every member
    let s := s.forAll inMotion fun m s =>
      ((s.onMotion m.1 fun k => { k with armed := none }).halt m.1).endStop m.1 .group
    (s, { g with active := false, members := [] })
  else
    let stop := g.stopping || g.members.any fun m => (s.chan m.1).state == .stopping
    let s := if stop then s.forAll g.members fun m s =>
        if (s.chan m.1).state == .moving then s.onChan m.1 fun k => k.beginStop .group else s
      else s
    (s, { g with stopping := stop })

/-- All members of an accepted INTERP_MOVE start at one integration step, from where they are (R78, R79); with every target at
its start no member changes state, and each reports MOVE_DONE. -/
def State.startGroup (s : State) (i : Fin 4) : State :=
  let g := s.groups[i]
  if !g.active || g.started then s
  else
    let ms := g.members.map fun m =>
      (m.1, (s.chan m.1).motion.pos, m.2.2 * unitStep - (s.chan m.1).motion.pos)
    let len : Nat := ms.foldl (fun l m => max l m.2.2.natAbs) 0
    if len = 0 then
      { s with groups := s.groups.set i Group.init }.forAll ms fun m s =>
        (s.chPulse m.1 6).raise 0x0101 m.1.val (posField (s.chan m.1).motion.position)
    else
      let g' : Group := { g with started := true, members := ms, spans := ms.map fun m => (m.1, m.2.2), len := len }
      { s with groups := s.groups.set i g' }.forAll ms fun m s =>
        s.onChan m.1 fun k =>
          { k with state := .moving, left := true, motion := { k.motion with mode := .interp, velReported := none } }

/-- One step of the group's path coordinate (R79, R80, R495). Where a deceleration lowered in motion has put the group's end out of
reach, the coordinate stops at that end in one step: R79 keeps the members between start and target, and R59 would have them pass
it (DESIGN CHOICE, assumption 103). -/
def Group.advance (g : Group) (l : Limits) : Group :=
  let goal : Int := g.len
  let k :=
    if g.stopping then stepToRest l false (Kin.of g.pos g.vel g.acc g.carry)
    else if g.vel = 0 ∧ l.v = 0 then Kin.rest g.pos
    else
      let k := stepTarget l (Kin.of (goal - g.pos) g.vel g.acc g.carry)
      if arrived l k then Kin.rest goal else { k with x := goal - k.x }
  { g with pos := clamp 0 goal k.x, vel := k.v, acc := k.a, carry := k.carry }

/-- One step of a group in motion (R79, R80). -/
def State.integrateGroup (s : State) (i : Fin 4) (asserts : Ch → Asserts) : State :=
  if !(s.groups[i].active && s.groups[i].started) then s
  else
    let r := s.mergeGroup s.groups[i]
    let s := r.1
    if r.2.members.isEmpty then { s with groups := s.groups.set i Group.init }
    else
      let g := r.2.advance (s.groupLimits r.2 asserts)
      let s := s.forAll g.members fun m s => (s.placeMember g m).captureLimits m.1
      if g.stopping && g.vel = 0 then
        { s with groups := s.groups.set i Group.init }.forAll g.members fun m s =>
          s.endStop m.1 (s.chan m.1).motion.stopCause
      else if !g.stopping && g.pos = g.len then
        { s with groups := s.groups.set i Group.init }.forAll g.members fun m s => s.moveDone m.1
      else { s with groups := s.groups.set i g }

/-! ### Pair records (R115, R116) -/

/-- Both twins of a pair stand, and one is energised. -/
def State.pairStands (s : State) (x : Ch) : Bool :=
  let y := twinOf x
  !(s.chan x).state.inMotion && !(s.chan y).state.inMotion && (s.energised x || s.energised y)

/-- The recorded trajectory rests: no motion is in progress. -/
def PairRecord.rests (r : PairRecord) : Bool := r.shadow.vel == 0 && r.shadow.mode == .none

/-- The record as one channel alone carries it on: an interpolated move goes on to its target on the channel's own limits
(assumption 17). -/
def PairRecord.alone (r : PairRecord) : PairRecord :=
  if r.shadow.mode == .interp then { r with shadow := { r.shadow with mode := .position } } else r

/-- What acts on the recorded trajectory at one step: motions released and stops asked for since the last step, and reflex
actions (R63, R116). -/
def PairRecord.merge (r : PairRecord) (count : BitVec 32) (imm ramp : Bool) : PairRecord :=
  let m := r.alone.shadow.held.foldl (fun k mv => k.apply mv count) { r.alone.shadow with held := [], rampReq := none }
  let q := { r with shadow := m, stopping := r.stopping && r.shadow.held.isEmpty }
  if imm then { q with shadow := m.discard, stopping := false }
  else if (r.shadow.rampReq.isSome || ramp) && !q.rests && !q.stopping then
    { q with shadow := { m with mode := .none, velCmd := 0, stopNew := true }, stopping := true }
  else q

/-- One step of the recorded trajectory. -/
def PairRecord.advance (r : PairRecord) (l : Limits) : PairRecord :=
  let q := r.shadow.advance l r.stopping
  let done := q.2 == .arrived || q.2 == .stopped
  { r with shadow := if done then q.1.discard else q.1, stopping := (r.stopping || q.2 == .rangeEnd) && !done }

/-- The trajectory of a pair, carried to the present step: the energised twin's engine while there is one, the
recorded plan after that (R116). At a standstill of the pair its record begins anew (R115). -/
def State.carryPair (s : State) (p : Fin 12) (a : Ch → Asserts) : State :=
  let x : Ch := ⟨p.val, by omega⟩
  let y : Ch := twinOf x
  let live := if s.energised x then some x else if s.energised y then some y else none
  match live with
  | some c =>
    let carried := upd s.pairs p fun r => { r with shadow := (s.chan c).motion, stopping := (s.chan c).state == .stopping }
    let s := { s with pairs := carried }
    if s.pairStands x then s.sharedStart c else s
  | none =>
    let r := s.pairs[p].merge (s.fb x).count ((a x).imm || (a y).imm) ((a x).ramp || (a y).ramp)
    { s with pairs := s.pairs.set p (if r.rests then r else r.advance (s.limits x (a x))) }

/-- Every twinned pair has a record to carry. -/
def State.carryPairs (s : State) (a : Ch → Asserts) : State :=
  s.forAll (List.finRange 12) fun p s => if s.paired ⟨p.val, by omega⟩ then s.carryPair p a else s

/-! ### The step -/

/-- One integration step of every motion engine (R48, R63): host-class commands and the groups that start, then stops, then
the profiles. -/
def State.integrate (s : State) : State :=
  let list := s.assertList
  let a := fun c => assertsOn list c
  let s := { s with istep := s.istep + 1 }
  let s := s.forAll allCh fun c s => s.mergeMoves c
  let s := s.forAll (List.finRange 4) fun i s => s.startGroup i
  let s := s.forAll allCh fun c s => s.mergeStops c (a c)
  let s := s.forAll (List.finRange 4) fun i s => s.integrateGroup i a
  let s := s.forAll allCh fun c s => s.integrateCh c (a c)
  s.carryPairs a

/-- Every 1,200 fc each motion engine merges its inputs and integrates its profile (R48). -/
def execIntegrationStep (s : State) : Host.Outcome State Fault Refusal := .next (if s.hwOn then s.integrate else s)

end Sys2Proof.Machine
end

