-- ==== Sys2Proof/Machine/CoilDrive.lean ====
section
/-! DEFINITION. Current at standstill, the bank coil policy and the saturation count (R103 to R106). -/

namespace Sys2Proof.Machine

/-! ### Standstill (R104 to R106) -/

/-- CH.STANDSTILL_DELAY expires (R104): IDLE becomes HOLD_REDUCED, FAULT holding reduces its current. -/
def execStandstillDelayExpiry (ch : Ch) (s : State) : Host.Outcome State Fault Refusal :=
  let k := s.chan ch
  .next
    (if !s.hwOn then s
     else match k.state with
       | .idle => s.onChan ch fun k =>
         { k with state := .holdReduced, policy := (s.bank (bankOf ch)).policyActive,
                  coil := { k.coil with rampDone := 0 } }
       | .fault =>
         if k.fetsOff || k.coil.reduced then s
         else s.onCoil ch fun w => { w with reduced := true, rampDone := 0 }
       | _ => s)

/-- Every channel of the bank is standing (R105). -/
def State.allStanding (s : State) (b : BankIx) : Bool := (s.presentChs b).all fun c => (s.chan c).state.standing

/-- BANK.IDLE_DELAY has passed with every channel of the bank standing: the bank coil policy applies to each channel
in HOLD_REDUCED (R105). -/
def execIdleDelayExpiry (b : BankIx) (s : State) : Host.Outcome State Fault Refusal :=
  .next
    (if s.hwOn && s.allStanding b then
      (s.onBank b fun k => { k with policyActive := true }).forAll (bankChs b) fun c s =>
        s.onChan c fun k => { k with policy := k.state == .holdReduced, left := false }
    else s)

/-- A channel of the bank has stopped standing since the last set-point, be it that it stands again (R106). -/
def State.hasMoved (s : State) (b : BankIx) : Bool := !s.allStanding b || (s.presentChs b).any fun c => (s.chan c).left

/-- The policy ends for the whole bank at the first set-point after a channel stops standing (R106). -/
def State.endPolicy (s : State) (b : BankIx) : State :=
  let t := if (s.bank b).policyActive && s.hasMoved b then
      (s.onBank b fun k => { k with policyActive := false }).forAll (bankChs b) fun c s =>
        s.onChan c fun k => { k with policy := false }
    else s
  t.forAll (bankChs b) fun c s => s.onChan c fun k => { k with left := false }

/-- GATE_EN = 0 from the next period start (R68, R126). -/
def State.retract (s : State) (c : Ch) : State := s.onCoil c Coil.retract

/-! ### Saturation count (R103) -/

/-- A coil's measured sum lies below 25 % of its set-point sum. -/
def deficit (meas set : Nat) : Bool := 4 * meas < set

/-- COIL_OPEN of one coil (R103). -/
def State.coilOpen (s : State) (c : Ch) (coil : Nat) : State :=
  let s := (s.chPulse c 16).raise 0x0202 c.val [BitVec.ofNat 8 coil]
  (s.faultOff c fun k => { k with coilOpen := true }).retract c

/-- CH.SAT_STATUS (R103, R118). -/
def Coil.status (w : Coil) : Nat := b2n w.sat + 2 * b2n w.deficit1 + 4 * b2n w.deficit2

/-- The saturation count reaches CH.SAT_PERIODS: COIL_SAT, unless it is still to be re-armed, and the check of each coil over
this count (R103). The deficit bits of CH.SAT_STATUS stand until the next such check: R118 names no clear (DESIGN CHOICE,
assumption 93). -/
def State.satReached (s : State) (c : Ch) : State :=
  let q := (s.chan c).coil.count
  let o1 := deficit q.meas1 q.set1
  let o2 := deficit q.meas2 q.set2
  let s := s.onCoil c fun w =>
    { w with count := { w.count with reported := true, checked := true }, deficit1 := o1, deficit2 := o2 }
  let s := if q.reported then s else (s.chPulse c 15).raise 0x0201 c.val [BitVec.ofNat 8 (s.chan c).coil.status]
  let s := if o1 then s.coilOpen c 1 else s
  if o2 then s.coilOpen c 2 else s

def execSatPeriodsCount (ch : Ch) (s : State) : Host.Outcome State Fault Refusal :=
  let q := (s.chan ch).coil.count
  .next (if s.hwOn && s.par Pid.CH_SAT_PERIODS ch.val ≤ q.run && !q.checked then s.satReached ch else s)

end Sys2Proof.Machine
end

