-- ==== Sys2Proof/Machine/MotionCmd.lean ====
section
/-! DEFINITION. The motion and channel commands as the firmware judges and applies them (R54 to R87, R107, R112, R115,
R161, R361, R496, R497). -/

namespace Sys2Proof.Machine

/-- What a command comes to: result, DETAIL, response data, tags it waits for, and channels that enter DISABLED or ROLLCALL
once those tags are echoed (R25, R161, R354, R496). -/
structure Done where
  state : State
  result : Result
  detail : Nat
  data : List Byte
  tags : List Byte
  clears : List Ch
  starts : List Ch
  deriving DecidableEq, Repr

def Done.of (s : State) (r : Result) : Done := ⟨s, r, 0, [], [], [], []⟩

/-- First of a list of codes that applies; OK where none does (R497). -/
def firstCode : List (Bool × Result) → Result
  | [] => .ok
  | (b, r) :: rest => if b then r else firstCode rest

/-! ### MOVE_TO and MOVE_VEL -/

/-- The channel is a member of a group in motion (R78). -/
def State.inGroup (s : State) (c : Ch) : Bool := s.groups.any fun g => g.active && g.members.any fun m => m.1 == c

/-- Parameters that twins must share (R76, R112). -/
def twinParams : List Nat :=
  [Pid.CH_VMAX, Pid.CH_AMAX, Pid.CH_DMAX, Pid.CH_JMAX, Pid.CH_VSTART, Pid.CH_VSTOP, Pid.CH_CMD_SOURCE,
   Pid.CH_INTERP_GROUP, Pid.CH_LIMIT_MODE] ++
  [Pid.CH_LADDER_T1, Pid.CH_LADDER_T2, Pid.CH_LADDER_T3, Pid.CH_LADDER_T4, Pid.CH_LADDER_T5, Pid.CH_LADDER_T6,
   Pid.CH_LADDER_HYST, Pid.CH_LADDER_MAX, Pid.CH_I_RUN, Pid.CH_HOLD_PCT, Pid.CH_HOLD_RAMP, Pid.CH_STANDSTILL_DELAY,
   Pid.CH_COIL_POLICY, Pid.CH_TWIN_SOLO_PCT, Pid.CH_REJOIN_RAMP, Pid.CH_START_MODE]

/-- The compared parameters agree between the twins (R76, R112). -/
def State.twinsAgree (s : State) (c : Ch) : Bool :=
  s.isTwin (twinOf c) && (twinParams.all fun id => s.par id c.val == s.par id (twinOf c).val) &&
    s.par Pid.BANK_PWM_FREQ 0 == s.par Pid.BANK_PWM_FREQ 1

/-- A write to one energised twin has not been matched on the other (R76); one of CH.TWIN itself leaves one twin with 0 (R112). -/
def State.unmatched (s : State) (c : Ch) : Bool :=
  (s.isTwin c || s.isTwin (twinOf c)) && s.energised c && s.energised (twinOf c) && !(s.pairs[pairOf c]).unmatched.isEmpty

/-- A write to the channel is compared with its partner's: of a listed parameter while both twins are energised, and of CH.TWIN
while both channels are, which it makes or unmakes twins (R76, R112). -/
def State.comparesWrite (s : State) (id : Nat) (c : Ch) : Bool :=
  s.pairEnergised c || (id == Pid.CH_TWIN && s.energised c && s.energised (twinOf c))

/-- An accepted write of `v` to a parameter of R76 on the bank `onB` twin: it stands until the other twin gets the same
value, and a later write to the same twin takes its place. -/
def PairRecord.noteWrite (r : PairRecord) (id : Nat) (onB : Bool) (v : Int) : PairRecord :=
  let others := r.unmatched.filter fun w => !(w.1 == id && w.2.1 == onB)
  if others.contains (id, !onB, v) then { r with unmatched := others.filter fun w => w.1 != id }
  else { r with unmatched := others ++ [(id, onB, v)] }

/-- An accepted write to a twin: it enters the pair's record, and, where it is one that is compared, the pair is unmatched by it
(R76, R112, R115). -/
def State.notePairWrite (s : State) (compared : Bool) (id : Nat) (c : Ch) (v : Int) : State :=
  let s := s.noteChange c (.write id v)
  if compared then { s with pairs := upd s.pairs (pairOf c) fun r => r.noteWrite id (12 ≤ c.val) v } else s

/-- A move that a latched limit forbids (R71). -/
def Motion.againstLimit (m : Motion) (mv : Move) : Bool :=
  let towards := fun d : Int => (m.latchP && 0 < d) || (m.latchN && d < 0)
  match mv with
  | .to _ _ true => m.latchP || m.latchN
  | .to t true false => towards ((if m.mode == .position then m.target else m.position) + t - m.position)
  | .to t false false => towards (t - m.position)
  | .vel v => towards v

/-- Field checks of MOVE_TO and MOVE_VEL (R50, R54, R56, R57). -/
def moveFieldsOk (mv : Move) : Bool :=
  match mv with
  | .to t rel follow => !(rel && follow) && -(2 ^ 39) ≤ t && t < 2 ^ 39
  | .vel v => -1310720000 ≤ v && v ≤ 1310720000

def Move.isFollow : Move → Bool
  | .to _ _ f => f
  | .vel _ => false

/-- The interface runs in STEPDIR mode (R57, R189). -/
def State.stepdir (s : State) (c : Ch) : Bool := (s.fb c).running && s.par Pid.FB_MODE c.val == 5

/-- State and coordination rules of a motion command that would take effect now (R64, R68, R71, R75, R78, R84). -/
def State.moveBlocked (s : State) (c : Ch) (mv : Move) : Bool :=
  let k := s.chan c
  k.motion.disablePending || s.heldStop c || s.inGroup c || k.motion.againstLimit mv || (mv.isFollow && !s.stepdir c)

/-- MOVE_TO and MOVE_VEL (R55, R56, R73, R84, R497). -/
def State.cmdMove (s : State) (c : Ch) (mv : Move) (armed : Bool) : Done :=
  let k := s.chan c
  let code := firstCode
    [(!moveFieldsOk mv, .outOfRange),
     (k.state == .disabled || (k.state == .rollcall && !armed) || (s.paired c && !armed) ||
        (armed && s.unmatched c) || s.moveBlocked c mv, .wrongState),
     (k.state == .parked || k.state == .fault || k.motion.stopFault, .faultLatched)]
  if code = .ok then
    .of (s.onMotion c fun m => if armed then { m with armed := some mv } else { m with held := m.held ++ [mv] }) .ok
  else .of s code

/-! ### STOP and DISABLE -/

/-- A ramp stop is asked of the engine at the next integration step, where it beats every motion command of the same
interval (R63); the armed move is discarded (R73). -/
def Motion.askStop (m : Motion) (cause : StopCause) : Motion :=
  { m with armed := none, rampReq := some (m.rampReq.getD cause) }

/-- STOP on one channel (R65, R73, R84). -/
def State.stopOne (s : State) (c : Ch) : State :=
  let k := s.chan c
  if k.state == .rollcall then s.onMotion c fun m => { m with armed := none }
  else if k.state.energised then s.onMotion c fun m => m.askStop .stop
  else s

/-- A ramp stop of a twin by the host enters the pair's record, and waits for the recorded trajectory as for the engine (R115,
R116). -/
def State.noteStop (s : State) (c : Ch) (x : PairChange) (cause : StopCause) : State :=
  if s.energised c then (s.noteChange c x).onShadow c fun m => m.askStop cause else s

/-- STOP: both twins of an energised pair at the same integration step (R75). -/
def State.cmdStop (s : State) (c : Ch) : Done :=
  let s := s.noteStop c .stop .stop
  if s.pairEnergised c then .of ((s.stopOne c).stopOne (twinOf c)) .ok else .of (s.stopOne c) .ok

/-- DISABLE (R68, R84). -/
def State.cmdDisable (s : State) (c : Ch) : Done :=
  match (s.chan c).state with
  | .parked | .fault => .of s .faultLatched
  | .disabled => .of s .ok
  | .moving | .stopping =>
    if s.pairEnergised c then .of ((s.onChan c fun k => k.freeze).turnOffCh c) .ok
    else .of ((s.noteStop c .disable .disable).onMotion c fun m => { m.askStop .disable with disablePending := true }) .ok
  | _ => .of (s.turnOffCh c) .ok

/-! ### GROUP_START and INTERP_MOVE -/

/-- A channel of a GROUP_START mask that fails (R74, R75, R76, R84). -/
def State.startFails (s : State) (mask : BitVec 24) (c : Ch) : Bool :=
  let k := s.chan c
  let p := s.chan (twinOf c)
  let partnerOk := !s.paired c || maskBit mask (twinOf c) || p.state == .disabled || p.state == .fault || p.state == .parked
  match k.motion.armed with
  | none => true
  | some mv => !(k.state.energised && !k.motion.stopFault) || s.moveBlocked c mv || !partnerOk || s.unmatched c

/-- GROUP_START after its mask, presence and owners have been judged (R74): all or nothing. -/
def State.cmdGroupStart (s : State) (mask : BitVec 24) : Done :=
  match (maskChs mask).find? fun c => s.startFails mask c with
  | some c => { Done.of s .wrongState with detail := c.val }
  | none =>
    .of (s.forAll (maskChs mask) fun c s =>
      let s := s.onMotion c fun m => { m with held := m.held ++ m.armed.toList, armed := none }
      if s.paired c then s.sharedStart c else s) .ok

/-- Channels that belong to a group (R77). -/
def State.groupMembers (s : State) (g : Nat) : List Ch := allCh.filter fun c => s.par Pid.CH_INTERP_GROUP c.val == g

/-- An axis of INTERP_MOVE that fails (R64, R71, R77, R78). -/
def State.axisFails (s : State) (axes : List (Ch × Int)) (ax : Ch × Int) : Bool :=
  let k := s.chan ax.1
  !(k.state == .idle || k.state == .holdReduced) || k.motion.stopFault || s.moveBlocked ax.1 (.to ax.2 false false) ||
    (s.paired ax.1 && !(axes.contains (twinOf ax.1, ax.2)))

/-- An INTERP_MOVE on a pair enters its record once, with the target of both twins (R115). -/
def State.noteInterp (s : State) (c : Ch) (target : Int) : State :=
  if c.val < 12 then s.noteChange c (.interp target) else s

/-- INTERP_MOVE after its fields, presence and owners have been judged (R78): the group starts at the next integration step,
in place of any motion command that a member still holds (R63). DETAIL names the first axis, else the first member, that fails
(R354); for a group that is still in motion, its first member. -/
def State.cmdInterp (s : State) (g : Fin 4) (axes : List (Ch × Int)) : Done :=
  let members := s.groupMembers g.val
  let once := fun c => (axes.filter fun a => a.1 == c).length == 1
  let listed := members.all once
  match axes.find? fun a => !members.contains a.1 || s.axisFails axes a with
  | some a => { Done.of s .wrongState with detail := a.1.val }
  | none =>
    if !listed || axes.length != members.length || s.groups[g].active then
      { Done.of s .wrongState with detail := ((members.find? fun c => !once c).orElse fun _ => members.head?).elim 0 (·.val) }
    else
      let grp : Group := { Group.init with active := true, members := axes.map fun a => (a.1, 0, a.2) }
      .of ({ s with groups := s.groups.set g grp }.forAll axes fun a s =>
        (s.noteInterp a.1 a.2).onMotion a.1 fun m => { m with held := [] }) .ok

/-! ### ENABLE and ROLL_CALL -/

/-- VM lies within the window of R161. -/
def State.vmInWindow (s : State) (b : BankIx) : Bool :=
  let vm : Int := (s.bank b).vm
  s.par Pid.BANK_UV_TRIP b.val + 500 ≤ vm && vm ≤ s.par Pid.BANK_OV_TRIP b.val - 500

/-- The two-step turn-off of the channel has begun and completed: no FET counts as commanded on (R151, R161, R217). -/
def State.turnedOff (s : State) (c : Ch) : Bool := !(s.pdChan c).commandedOn

/-- A short or a gate fault is latched for a channel (R158, R161). -/
def State.tripLatched (s : State) (c : Ch) : Bool := (s.pdChan c).sc != 0 || (s.pdChan c).gate

/-- Latches that the power die holds for a channel (R158, R496). -/
def State.pdLatched (s : State) (c : Ch) : Bool := s.tripLatched c || (s.pdChan c).bankOff

/-- A partner in a state in which a twin may be enabled alone (R75, R76, R111). -/
def State.partnerOut (s : State) (c : Ch) : Bool :=
  let p := (s.chan (twinOf c)).state
  p == .disabled || p == .fault || p == .parked

/-- Twin comparisons of an ENABLE (R76, R112); `together` when the partner is enabled by the same ROLL_CALL. -/
def State.twinEnableOk (s : State) (c : Ch) (together : Bool) : Bool :=
  s.par Pid.CH_LIMIT_MODE c.val == 0 && s.twinsAgree c &&
    ((s.partnerOut c && !together) || s.energised (twinOf c) ||
      (s.chan c).motion.position == (s.chan (twinOf c)).motion.position)

/-- The ENABLE is a twin rejoin (R115). -/
def State.isRejoin (s : State) (c : Ch) : Bool := s.isTwin c && s.energised (twinOf c)

/-- A rejoin's own conditions (R115). -/
def State.rejoinOk (s : State) (c : Ch) : Bool := (s.chan c).est.rcPassed && !(s.pairs[pairOf c]).overflow

/-- The codes of ENABLE in the order of R497; `rc` for a channel named by ROLL_CALL, whose mask says which partner is
enabled with it (R361). -/
def State.judgeEnable (s : State) (c : Ch) (rc : Bool) (mask : BitVec 24) : Result :=
  let k := s.chan c
  let together := rc && maskBit mask (twinOf c)
  firstCode
    [(!(k.state == .disabled || k.state == .fault || k.state == .parked) || s.par Pid.CH_I_RUN c.val == 0 ||
        (s.isTwin c && !s.twinEnableOk c together) || (s.isRejoin c && (rc || !s.rejoinOk c)), .wrongState),
     (k.state == .disabled && s.tripLatched c && !s.turnedOff c, .wrongState),
     (k.state == .fault || k.state == .parked || !s.link.answers || !s.vmInWindow (bankOf c), .faultLatched)]

/-- An accepted ENABLE of a channel begins with those of `cs` (R68, R102, R107, R115, R132, R361): ROLLCALL with the trim at zero; the comparisons have shown the
pair to be matched (R76). -/
def State.beginEnable (s : State) (cs : List Ch) (c : Ch) : State :=
  let rejoin := s.isRejoin c
  let listen := !rejoin && s.par Pid.CH_START_MODE c.val == 1
  { s with pairs := upd s.pairs (pairOf c) fun r => { r with unmatched := [] } }.onChan c fun k =>
    { k with state := .rollcall, fetsOff := true, solo := false, policy := false, powered := true, slice := true,
             rejoin := if rejoin then .loading else .none,
             motion := k.motion.discard,
             left := true,
             coil := { k.coil with td := 0, tq := 0, reduced := false, rampDone := 0, cur := 0, count := SatCount.init },
             est := { k.est with listening := listen, samples := [], rc := RcRun.init, rcMates := maskWhere cs.contains, rcWait := none, hist := [],
                                 valid := false,
                                 rcTwin := (s.chan (twinOf c)).state == ChState.disabled || (s.chan (twinOf c)).state == ChState.rollcall,
                                 feSuspended := false, feCount := 0 } }

/-- An ENABLE that waited for the latches of its channel to be cleared begins, unless the channel has left DISABLED since
(R496). -/
def State.lateEnable (s : State) (cs : List Ch) (c : Ch) : State :=
  if (s.chan c).state == .disabled then s.beginEnable cs c else s

/-- The configuration writes that prepare the channels of an accepted ENABLE or ROLL_CALL (R430, R431). -/
def State.prepareAll (s : State) (cs : List Ch) : State × List Byte :=
  cs.foldl (fun (acc : State × List Byte) c => ((acc.1.configWrite (.prepare c)).1, acc.2 ++ (acc.1.configWrite (.prepare c)).2))
    (s, [])

/-- The domains of a channel are on from the acceptance of its ENABLE (R430). -/
def State.powerSlice (s : State) (c : Ch) : State := s.onChan c fun k => { k with powered := true, slice := true }

/-- ENABLE of accepted channels: they begin at once, or, where a channel's latches are to be released first, once the
writes that clear them are echoed (R82, R496). -/
def State.enableAll (s : State) (cs : List Ch) : Done :=
  if cs.any fun c => s.pdLatched c then
    let r := (s.forAll cs fun c s => s.powerSlice c).prepareAll cs
    { Done.of r.1 .ok with tags := r.2, starts := cs }
  else .of (s.forAll cs fun c s => (s.beginEnable cs c).sendWrite (.prepare c)) .ok

/-- ENABLE (R82, R107, R115, R132). -/
def State.cmdEnable (s : State) (c : Ch) : Done :=
  match s.judgeEnable c false 0 with
  | .ok => s.enableAll [c]
  | e => .of s e

/-- ROLL_CALL after its mask, presence and owners have been judged (R361): all or nothing. -/
def State.cmdRollCall (s : State) (mask : BitVec 24) : Done :=
  match (maskChs mask).find? fun c => s.judgeEnable c true mask != .ok with
  | some c => { Done.of s (s.judgeEnable c true mask) with detail := c.val }
  | none => s.enableAll (maskChs mask)

/-! ### CLEAR_FAULT -/

/-- The last 64 superframes each way arrived good (R161). -/
def State.linkGood64 (s : State) : Bool := 64 ≤ s.link.goodDown && 64 ≤ s.link.goodUp

/-- The codes of CLEAR_FAULT on a channel in FAULT with FETs off or in PARKED: each latched cause against its
condition, WRONG_STATE first (R85, R161, R217); no channel leaves park while its bank's safe input is asserted (R169) or
over-temperature stands, whatever the cause of its park (R171, assumption 41).
Where every condition is met and the power die answers no configuration write, the write that clears cannot be made: the
code of R493 (assumption 58). -/
def State.judgeClear (s : State) (c : Ch) : Result :=
  let k := s.chan c
  let w := k.causes
  let parked := k.state == .parked
  firstCode
    [((w.short || w.gate || w.rfxOff) && !s.turnedOff c, .wrongState),
     ((w.stallOff || w.followOff || w.coilOpen) && (s.pdChan c).entry.gateEn && s.pd.running, .wrongState),
     (parked && !k.fetsOff, .wrongState),
     ((w.bank || (s.pdChan c).bankOff) && !s.vmInWindow (bankOf c), .faultLatched),
     (parked && (s.bank (bankOf c)).status.getLsbD 7, .faultLatched),
     (parked && k.parkCause == 1 && !s.linkGood64, .faultLatched),
     (parked && k.parkCause == 4 && 1200 ≤ s.power.temp, .faultLatched),
     (parked && (s.bank (bankOf c)).status.getLsbD 3, .faultLatched),
     (!s.link.answers, .wrongState)]

/-- A cleared following-error fault sets fe_offset anew (R85, R130). -/
def Channel.clearCauses (k : Channel) : Channel :=
  { k with causes := Causes.init,
           est := { k.est with feZero := if k.causes.follow || k.causes.followOff then max 1 k.est.feZero else k.est.feZero } }

/-- The channel enters DISABLED once its latches are cleared (R82, R161). -/
def State.finishClear (s : State) (c : Ch) : State :=
  s.onChan c fun k => { k.clearCauses with state := .disabled, fetsOff := true, parkCause := 0, powered := false }

/-- A twin energised beside an energised partner: both share at 50 % (R111). -/
def State.shareAgain (s : State) (c : Ch) : State :=
  if s.pairEnergised c then
    (s.onChan c fun k => { k with solo := false }).onChan (twinOf c) fun k => { k with solo := false }
  else s

/-- CLEAR_FAULT (R84, R85, R161). In STOPPING the stop's own beginning counts: a fault that arises in a ramp stop that a STOP or a
DISABLE began is taken to cause it from there on, and the code is WRONG_STATE (DESIGN CHOICE, assumption 90). A twin that leaves
FAULT while its partner is itself in FAULT with its FETs on keeps its 50 % share beside it: whether R111 means it to become
energised alone there is not said (DESIGN CHOICE, assumption 105). -/
def State.cmdClear (s : State) (c : Ch) : Done :=
  let k := s.chan c
  match k.state with
  | .stopping => .of s (if k.motion.stopFault then .wrongState else .ok)
  | .fault =>
    if !k.fetsOff then
      .of ((s.onChan c fun k => { k.clearCauses with state := .idle, coil := { k.coil with reduced := false } }).shareAgain c) .ok
    else
      match s.judgeClear c with
      | .ok =>
        let r := s.configWrite (.clear c)
        { Done.of r.1 .ok with tags := r.2, clears := [c] }
      | e => .of s e
  | .parked =>
    match s.judgeClear c with
    | .ok =>
      let r := s.configWrite (.clear c)
      { Done.of r.1 .ok with tags := r.2, clears := [c] }
    | e => .of s e
  | _ => .of s .ok

/-! ### Writes of CH.POSITION and CH.LIMIT_LATCH -/

/-- Positions of the set-points in work follow a shift of the reference, so that the following-error check of the next period
compares in the new one (R90, R130). -/
def Coil.shift (w : Coil) (d : Int) : Coil :=
  let move := fun p : SetPoint => { p with pos := p.pos + d }
  { w with lastPos := w.lastPos + d, next := move w.next, now := move w.now, prev := move w.prev, prev2 := move w.prev2 }

/-- The position is re-referenced without moving the rotor; the angle code stays, and the check sets fe_offset anew
(R90, R92, R130). -/
def State.writePosition (s : State) (c : Ch) (v : Int) : State :=
  s.onChan c fun k =>
    { k with motion := { k.motion with pos := v * unitStep, carry := 0, target := v },
             coil := { k.coil.shift (v * unitStep - k.motion.pos) with lastPos := v * unitStep },
             est := { k.est with feZero := max 1 k.est.feZero } }

/-- Both limit latches are cleared (R72); a latch set since the last integration step still captures and reports there
(R70). -/
def State.clearLimits (s : State) (c : Ch) : State :=
  s.onMotion c fun m => { m with latchP := false, latchN := false }

/-! ### Limit inputs (R69 to R72) -/

/-- LIM_P or LIM_N counts as active after its debounce (R69, R70). An input that becomes active again while its latch is still
set captures and reports again: the rule does not say (DESIGN CHOICE, assumption 75). -/
def State.limitActive (s : State) (c : Ch) (side : Side) : State :=
  let latches := s.par Pid.CH_LIMIT_MODE c.val != 0
  match side with
  | .p => s.onMotion c fun m => { m with limP := true, latchP := m.latchP || latches, capP := m.capP || latches }
  | .n => s.onMotion c fun m => { m with limN := true, latchN := m.latchN || latches, capN := m.capN || latches }

def execLimitInputActive (ch : Ch) (side : Side) (s : State) : Host.Outcome State Fault Refusal :=
  let now := match side with
    | .p => (s.chan ch).motion.limP
    | .n => (s.chan ch).motion.limN
  .next (if s.hwOn && s.hasCh ch && !now then s.limitActive ch side else s)

/-- LIM_P or LIM_N counts as inactive after its debounce (R69). -/
def execLimitInputInactive (ch : Ch) (side : Side) (s : State) : Host.Outcome State Fault Refusal :=
  .next (if s.hwOn && s.hasCh ch then
      s.onMotion ch fun m => match side with
        | .p => { m with limP := false }
        | .n => { m with limN := false }
    else s)

end Sys2Proof.Machine
end

