-- ==== Sys2Proof/Machine/Estimator.lean ====
section
/-! DEFINITION. Load angle, stall, following error and Ke collection of one channel (R120 to R131, R139). Voltages are
in nV, currents in uA (assumption 11). -/

namespace Sys2Proof.Machine

/-! ### Back-EMF estimate (R120 to R123) -/

/-- L_eff in uH times 1,000 (R120). -/
def State.effectiveL (s : State) (c : Ch) : Int :=
  let l := s.par Pid.CH_MOTOR_L c.val
  if s.twinState c == 1 then l * (1000 + (s.chan c).est.twinK) else l * 1000

/-- The estimate **e** for the centre of the last period, in nV (R120). -/
def State.backEmf (s : State) (c : Ch) : Int × Int :=
  let k := s.chan c
  let period : Int := (s.bank (bankOf c)).period
  let vm : Int := (s.bank (bankOf c)).vm
  let sgn := s.coilSign c
  let va := entryVoltage k.coil.now.entry vm sgn period
  let vb := entryVoltage k.coil.prev.entry vm sgn period
  let r := s.par Pid.CH_MOTOR_R c.val
  let l := s.effectiveL c
  let i := s.measured c
  let one := fun (va vb i i' : Int) => (va + vb) / 2 - r * i - l * (i - i') * 240 / period
  (one va.1 vb.1 i.1 k.est.lastI.1, one va.2 vb.2 i.2 k.est.lastI.2)

/-- The estimate is valid at this set-point (R122). -/
def State.estimateValid (s : State) (c : Ch) : Bool :=
  let k := s.chan c
  k.state.inMotion && s.par Pid.CH_MOTOR_R c.val != 0 && s.par Pid.CH_MOTOR_L c.val != 0 && !k.est.missedNow &&
    !k.est.missedPrev && s.par Pid.CH_STALL_BLANK c.val ≤ k.est.blank && s.twinState c != 3

/-- Sum of the kept estimates and currents: (e1, e2, i1, i2). -/
def histSum (h : List (Int × Int × Int × Int)) : Int × Int × Int × Int :=
  h.foldl (fun a x => (a.1 + x.1, a.2.1 + x.2.1, a.2.2.1 + x.2.2.1, a.2.2.2 + x.2.2.2)) (0, 0, 0, 0)

/-- Load angle in 0.01 degree from the averaged vectors and the sign of the velocity (R123). -/
def loadAngle (e1 e2 i1 i2 vel : Int) : Int :=
  let turn := wrap24 (2 ^ 22 - vel.sign * wrap24 (atan2 e2 e1 - atan2 i2 i1))
  divNear (turn * 36000) (2 ^ 24)

/-! ### Stall counts (R124) -/

/-- Travel of the commanded angle between the last two set-points computed, in codes: the one being computed is not among them,
and which travel belongs to a set-point R124 does not say (DESIGN CHOICE, assumption 111). -/
def Coil.travel (w : Coil) : Nat := (sint 18 (uint 18 ((w.next.angle : Int) - w.now.angle))).natAbs

/-- The speed is at or above CH.STALL_VMIN (R124). -/
def State.aboveFloor (s : State) (c : Ch) : Bool :=
  s.par Pid.CH_STALL_VMIN c.val * 65536 * unitStep ≤ ((s.chan c).motion.vel.natAbs : Int)

/-- Back-EMF collapse (R124): |e| in nV against CH.STALL_EMF_PCT of Ke times |omega|. -/
def State.collapsed (s : State) (c : Ch) (emf : Nat) : Bool :=
  let ke := s.par Pid.CH_MOTOR_KE c.val
  let pct := s.par Pid.CH_STALL_EMF_PCT c.val
  ke != 0 && pct != 0 && (emf : Int) * 100 < pct * (ke * |omega6 (s.chan c).motion.vel| / 1000)

/-! ### Ke collection (R139) -/

/-- The collected set-points span 0.5 s. -/
def State.keFull (s : State) (c : Ch) : Bool :=
  120000000 ≤ (s.chan c).est.keSeen * (s.bank (bankOf c)).period

/-- The last set-point qualifies (R139): its estimate is valid, it is fast enough, and it is not saturated. -/
def State.keQualifies (s : State) (c : Ch) : Bool :=
  (s.chan c).est.valid && s.aboveFloor c && !(s.chan c).coil.satV && (s.chan c).motion.vel != 0

/-- Length in nV of the set-point's own estimate, which R121 does not average for Ke (R139). -/
def Estim.ownEmf (e : Estim) : Nat :=
  match e.hist with
  | x :: _ => norm x.1 x.2.1
  | [] => 0

/-- The set-point just computed enters the collection (R139), which pauses without the firmware (R117, R140); a full run
waits for it. -/
def State.collectKe (s : State) (c : Ch) : State :=
  let k := s.chan c
  if !s.fwOn || s.keFull c then s
  else s.onEst c fun e =>
    if !k.state.inMotion || !s.parB Pid.CH_KE_LEARN c.val then { e with keSeen := 0, keGood := 0, keSum := 0 }
    else if s.keQualifies c then
      { e with keSeen := e.keSeen + 1, keGood := e.keGood + 1,
               keSum := e.keSum + e.ownEmf * 10 ^ 6 / (omega6 k.motion.vel).natAbs }
    else { e with keSeen := e.keSeen + 1 }

/-! ### One set-point of the estimator -/

/-- The estimator of one channel at a period start, before the regulator (R121 to R124). While the estimate is invalid CH.EMF
keeps its last valid value as CH.LOAD_ANGLE does: R123 says so of the angle only (DESIGN CHOICE, assumption 95). -/
def State.estimate (s : State) (c : Ch) : State :=
  let k := s.chan c
  let i := s.measured c
  let e := s.backEmf c
  let valid := s.estimateValid c
  let hist := if valid then ((e.1, e.2, i.1, i.2) :: k.est.hist).take (s.parN Pid.CH_EST_AVG c.val) else []
  let n : Int := max 1 hist.length
  let sum := histSum hist
  let e1 := sum.1 / n
  let e2 := sum.2.1 / n
  let emf := norm e1 e2
  let la := if valid then loadAngle e1 e2 (sum.2.2.1 / n) (sum.2.2.2 / n) k.motion.vel else k.est.loadAngle
  let counts := valid && s.aboveFloor c
  let byAngle := counts && s.par Pid.CH_STALL_ANGLE c.val * 100 < |la|
  let byEmf := counts && s.collapsed c emf
  s.onEst c fun e =>
    { e with
      hist := hist, lastI := i, valid := valid, missedPrev := k.est.missedNow, missedNow := false,
      loadAngle := la, emf := if valid then (fitField 0x2221 0 65535 (emf / 10 ^ 6)).toNat else k.est.emf,
      angleCount := if byAngle then k.est.angleCount + k.coil.travel else 0,
      emfCount := if byEmf then k.est.emfCount + k.coil.travel else 0, joint := false }

/-! ### Following error (R129 to R131) -/

/-- The check is due: enabled, in a state of R130. -/
def State.feDue (s : State) (c : Ch) : Bool := s.parB Pid.CH_FE_ENABLE c.val && (s.chan c).state.energised

/-- The following-error check of one set-point (R129 to R131). A stretch of suspension leaves fe_offset to be set anew. -/
def State.followCheck (s : State) (c : Ch) : State :=
  let k := s.chan c
  let e := k.est
  let f := s.fb c
  if !s.feDue c then s.onEst c fun e => { e with feSuspended := false, feCount := 0 }
  else if f.suspect || !f.running then
    let s' := s.onEst c fun e => { e with feSuspended := true, feCount := 0, feZero := max 1 e.feZero }
    if e.feSuspended then s' else s'.raise 0x0303 c.val []
  else
    let acc := sint 64 (uint 64 (e.feAcc + (f.latched - e.feLast).toInt))
    let scaled := (acc * s.par Pid.CH_FE_NUM c.val).tdiv (s.par Pid.CH_FE_DEN c.val)
    let pos := k.coil.now.pos / 2 ^ 24
    let offset := if 0 < e.feZero then pos - scaled else e.feOffset
    let fe := pos - scaled - offset
    s.onEst c fun e =>
      { e with feAcc := acc, feLast := f.latched, feOffset := offset, fe := fe, feZero := e.feZero - 1, feSuspended := false,
               feCount := if s.par Pid.CH_FE_LIMIT c.val < |fe| then e.feCount + 1 else 0 }

/-! ### Actions (R126 to R128, R131) -/

/-- Causes that a stall or a following error latches under an action. -/
def stallCause (off : Bool) (k : Causes) : Causes := if off then { k with stallOff := true } else { k with stall := true }
def followCause (off : Bool) (k : Causes) : Causes :=
  if off then { k with followOff := true } else { k with follow := true }

/-- OFF on one channel: FETs off from the next period start, without a takeover by the partner (R126, R127). -/
def State.jamOff (s : State) (c : Ch) (set : Causes → Causes) : State :=
  ((s.leaveGroup c).onChan c fun k =>
    { k.endMotion with state := .fault, fetsOff := true, causes := set k.causes, solo := false, policy := false }).retract c

/-- Action 1 RAMP or 2 OFF, on both twins of an energised pair (R126, R127). The FETs of a twin that turn off beside a partner that
is not energised, but holds in FAULT, set SOLO there (R113). -/
def State.jamAct (s : State) (c : Ch) (action : Nat) (set : Bool → Causes → Causes) : State :=
  match action with
  | 1 => s.faultMotion c (set false)
  | 2 => if s.pairEnergised c then (s.jamOff c (set true)).jamOff (twinOf c) (set true) else (s.jamOff c (set true)).partnerOff c 1
  | _ => s

/-- A count of R124 has reached CH.STALL_STEPS. -/
def State.stallCounts (s : State) (c : Ch) : Bool × Bool :=
  let n := s.parN Pid.CH_STALL_STEPS c.val * 65536
  (n ≤ (s.chan c).est.angleCount, n ≤ (s.chan c).est.emfCount)

/-- A following error has lasted CH.FE_TIME set-points (R131). -/
def State.feReached (s : State) (c : Ch) : Bool := s.parN Pid.CH_FE_TIME c.val ≤ (s.chan c).est.feCount

/-- A stall, or a following error, is latched. -/
def Causes.stalled (k : Causes) : Bool := k.stall || k.stallOff
def Causes.followed (k : Causes) : Bool := k.follow || k.followOff

/-- A stall flagged (R124, R126, R128). -/
def State.flagStall (s : State) (c : Ch) : State :=
  let k := s.chan c
  let r := s.stallCounts c
  let crit := b2n r.1 + 2 * b2n r.2
  let action := s.parN Pid.CH_STALL_ACTION c.val
  let feAction := s.parN Pid.CH_FE_ACTION c.val
  let both := s.feReached c && !k.causes.followed && !k.causes.stalled && !k.est.joint
  let s1 := (s.onEst c fun e => { e with angleCount := 0, emfCount := 0, joint := both }).chPulse c 10
  let s2 := s1.raise 0x0301 c.val
    ([BitVec.ofNat 8 crit, BitVec.ofNat 8 action] ++ leInt 2 k.est.loadAngle ++ leBytes 2 k.est.emf ++ [0, 0] ++
      posField k.motion.position)
  if k.est.joint then s2
  else if k.causes.stalled then s1
  else
    if both && action < feAction then s2.jamAct c feAction followCause
    else s2.jamAct c action stallCause

/-- A stall count reaches CH.STALL_STEPS while the estimate is valid (R124, R126, R127). -/
def execStall (ch : Ch) (s : State) : Host.Outcome State Fault Refusal :=
  .next (if s.hwOn && (s.chan ch).est.valid && ((s.stallCounts ch).1 || (s.stallCounts ch).2) then s.flagStall ch else s)

/-- A following error flagged (R128, R131). -/
def State.flagFollow (s : State) (c : Ch) : State :=
  let k := s.chan c
  let action := s.parN Pid.CH_FE_ACTION c.val
  let stallAction := s.parN Pid.CH_STALL_ACTION c.val
  let both := k.est.valid && ((s.stallCounts c).1 || (s.stallCounts c).2) && !k.causes.stalled && !k.causes.followed && !k.est.joint
  let s1 := (s.onEst c fun e => { e with feCount := 0, joint := both }).chPulse c 12
  let s2 := s1.raise 0x0302 c.val (posField k.est.fe ++ [BitVec.ofNat 8 action])
  if k.est.joint then s2
  else if k.causes.followed then s1
  else
    if both && action ≤ stallAction then s2.jamAct c stallAction stallCause
    else s2.jamAct c action followCause

/-- The following error exceeds CH.FE_LIMIT at CH.FE_TIME consecutive set-points (R131). -/
def execFollowErr (ch : Ch) (s : State) : Host.Outcome State Fault Refusal :=
  .next (if s.hwOn && s.feReached ch then s.flagFollow ch else s)

/-- 0.5 s of motion has been collected: Ke is written where at least 90 % of the set-points qualified (R139). A mean above the
range of CH.MOTOR_KE, of which the rule says nothing, is written as its upper end (DESIGN CHOICE, assumption 76). -/
def execKeLearnUpdate (ch : Ch) (s : State) : Host.Outcome State Fault Refusal :=
  let e := (s.chan ch).est
  .next
    (if s.fwOn && s.parB Pid.CH_KE_LEARN ch.val && s.keFull ch then
      let s' := s.onEst ch fun e => { e with keSeen := 0, keGood := 0, keSum := 0 }
      if 9 * e.keSeen ≤ 10 * e.keGood then
        s'.ownWrite Pid.CH_MOTOR_KE ch.val (min 1000000 (divNear e.keSum (1000 * (max 1 e.keGood : Nat))))
      else s'
    else s)

end Sys2Proof.Machine
end

