-- ==== Sys2Proof/Machine/RollCall.lean ====
section
/-! DEFINITION. Roll Call evaluation, catch on the fly and twin rejoin (R107 to R117, R132 to R138). -/

namespace Sys2Proof.Machine

/-! ### Becoming energised -/

/-- A twin becomes energised while its partner is out: SOLO with the cause given (R111, R116). -/
def State.soloIfAlone (s : State) (c : Ch) (cause : Nat) : State :=
  if s.isTwin c && s.partnerOut c then
    (s.onChan c fun k => { k with solo := true }).raise 0x0205 c.val [BitVec.ofNat 8 cause]
  else s

/-- The channel becomes energised in a state, at full current (R82, R104). -/
def State.energise (s : State) (c : Ch) (st : ChState) : State :=
  s.onChan c fun k => { k with state := st, fetsOff := false, coil := { k.coil with reduced := false, rampDone := 0 } }

/-! ### Roll Call (R107 to R109) -/

/-- Resistance in mOhm and inductance in uH of one coil, as fractions with denominators (R108). -/
def rcRNum (k : RcCoil) : Int := k.voltage * 1000
def rcRDen (k : RcCoil) : Int := k.current
def rcLNum (k : RcCoil) : Int := k.voltage * (k.crossing.getD 0)
def rcLDen (k : RcCoil) : Int := k.current * 1000

/-- A fraction lies outside a range. -/
def outside (num den lo hi : Int) : Bool := num < lo * den || hi * den < num || den == 0

/-- A fraction deviates from a nonzero expected value by more than a percentage (R109). -/
def deviates (num den want tol : Int) : Bool := want != 0 && tol * want * den < |num - want * den| * 100

/-- Mean of two fractions, nearest; 0 where one is not measured. -/
def meanFrac (n1 d1 n2 d2 : Int) : Int := if d1 ≤ 0 ∨ d2 ≤ 0 then 0 else divNear (n1 * d2 + n2 * d1) (2 * d1 * d2)

/-- CH.RC_RESULT of a measurement (R109): the first failing check, or the pass code. -/
def State.rcCode (s : State) (c : Ch) (k1 k2 : RcCoil) : Nat :=
  let p := fun id => s.par id c.val
  let test := s.testCurrent c
  let short := fun k : RcCoil => (k.apparentL : Int) < p Pid.CH_RC_L_MIN
  let isOpen := fun k : RcCoil => (k.endCurrent : Int) * 10 < test
  let noTwin := fun k : RcCoil => 2 * k.induced < k.applied
  let badR := fun k : RcCoil => outside (rcRNum k) (rcRDen k) 100 100000
  let badL := fun k : RcCoil => k.crossing.isNone || outside (rcLNum k) (rcLDen k) 100 200000
  let odd := fun k : RcCoil =>
    deviates (rcRNum k) (rcRDen k) (p Pid.CH_RC_EXPECT_R) (p Pid.CH_RC_TOL_PCT) ||
      deviates (rcLNum k) (rcLDen k) (p Pid.CH_RC_EXPECT_L) (p Pid.CH_RC_TOL_PCT)
  if short k1 then 0x12 else if short k2 then 0x13
  else if isOpen k1 then 0x10 else if isOpen k2 then 0x11
  else if s.isTwin c && (s.chan c).est.rcTwin && (noTwin k1 || noTwin k2) then 0x14
  else if badR k1 || badR k2 then 0x15
  else if badL k1 || badL k2 then 0x16
  else if odd k1 || odd k2 then 0x18
  else if s.isTwin c && !(s.chan c).est.rcTwin then 0x03
  else 0x01

/-- CH.TWIN_K of a measurement (R120), in parts per thousand. -/
def twinRatio (k1 k2 : RcCoil) : Nat := (meanFrac (k1.induced * 1000) k1.applied (k2.induced * 1000) k2.applied).toNat

/-- Payload of ROLLCALL_DONE and ROLLCALL_FAIL (R371). -/
def rcPayload (code : Nat) (r l : Int) (k : Nat) : List Byte :=
  [BitVec.ofNat 8 code, 0, 0, 0] ++ leInt 4 (fitField 0x2120 0 (2 ^ 32 - 1) r) ++ leInt 4 (fitField 0x2121 0 (2 ^ 32 - 1) l) ++
    leInt 2 (fitField 0x2223 0 65535 k)

/-- Evaluation of a Roll Call (R109): results written one after the other, IDLE on a pass, FAULT with FETs off on a failure. -/
def State.evaluateRollCall (s : State) (c : Ch) (k1 k2 : RcCoil) : State :=
  let code := s.rcCode c k1 k2
  let r := meanFrac (rcRNum k1) (rcRDen k1) (rcRNum k2) (rcRDen k2)
  let l := if k1.crossing.isNone || k2.crossing.isNone then 0 else meanFrac (rcLNum k1) (rcLDen k1) (rcLNum k2) (rcLDen k2)
  let partner := s.chan (twinOf c)
  let cause := if partner.state == .fault && s.rcTogether c then 1 else 3
  let s1 := s.onEst c fun e =>
    { e with rcResult := code, rcWait := none, twinK := if code == 0x01 && s.isTwin c then twinRatio k1 k2 else e.twinK }
  let k := if s.isTwin c then (s1.chan c).est.twinK else 0
  if code == 0x01 || code == 0x03 then
    let s2 := (s1.ownWrite Pid.CH_MOTOR_R c.val r).ownWrite Pid.CH_MOTOR_L c.val l
    let s3 := (s2.energise c .idle).onEst c fun e => { e with rcPassed := true, feZero := max 1 e.feZero }
    (s3.raise 0x0203 c.val (rcPayload code r l k)).soloIfAlone c cause
  else
    let s2 := (s1.chPulse c 17).raise 0x0204 c.val (rcPayload code r l k)
    s2.faultOff c fun k => { k with rollCall := true }

/-- A channel whose Roll Call measurement is under way (R107, R116, R132). -/
def State.measuring (s : State) (c : Ch) : Bool :=
  let k := s.chan c
  k.state == .rollcall && k.rejoin == .none && !k.est.listening && k.est.rcWait.isNone

/-- The measurement ends with the values of both coils: evaluated, or kept for the firmware while it does not run (R108, R109,
R117). Values that the samples do not give are none it can end with. -/
def execRollcallComplete (ch : Ch) (coil1 coil2 : RcCoil) (s : State) : Host.Outcome State Fault Refusal :=
  .next
    (if !(s.hwOn && s.measuring ch && s.rcDone ch && s.rcMeasured ch == (coil1, coil2)) then s
     else if s.fwOn then s.evaluateRollCall ch coil1 coil2
     else s.onEst ch fun e => { e with rcWait := some (coil1, coil2) })

/-! ### Catch on the fly (R132 to R138) -/

/-- Samples of the window that the fit uses: the first 0.2 ms discarded, then 900 (R133); with s of R93 and in uV. -/
def State.window (s : State) (c : Ch) : List (Int × Int) :=
  (((s.chan c).est.samples.drop 100).take 900).map fun u =>
    (Config.listenMicrovolts u.1, s.coilSign c * Config.listenMicrovolts u.2)

/-- Angles of the samples, unwrapped, in 2^-24 turns. -/
def unwrapGo : Int → List Int → List Int
  | _, [] => []
  | p, x :: xs => let y := p + wrap24 (x - p); y :: unwrapGo y xs

def unwrap : List Int → List Int
  | [] => []
  | x :: xs => x :: unwrapGo x xs

/-- Sums of the least-squares fit over sample numbers: n, N = n Sxy, D = n Sxx, Q = n Syy, each times n. -/
structure Fit where
  n : Int
  num : Int
  den : Int
  var : Int
  sumJ : Int
  sumY : Int
  amp : Int
  deriving DecidableEq, Repr

def fitOf (u : List (Int × Int)) : Fit :=
  let ys := unwrap (u.map fun p => atan2 p.2 p.1)
  let n : Int := ys.length
  let js : List Int := (List.range ys.length).map fun (j : Nat) => (j : Int)
  let sum := fun xs : List Int => xs.foldl (· + ·) 0
  let sj := sum js
  let sy := sum ys
  { n := n
    num := n * sum (List.zipWith (· * ·) js ys) - sj * sy
    den := max 1 (n * sum (js.map fun j => j * j) - sj * sj)
    var := n * sum (ys.map fun y => y * y) - sy * sy
    sumJ := sj, sumY := sy
    amp := sum (u.map fun p => (norm p.1 p.2 : Int)) / max 1 n }

/-- Speed of the fit in codes, or microsteps, per second: one sample every 2 us. -/
def Fit.speed (f : Fit) : Int := divNear (f.num * 500000) (64 * f.den)

/-- RMS residual at most 10 degrees (R134). -/
def Fit.steady (f : Fit) : Bool := 1296 * (f.var * f.den - f.num * f.num) ≤ 2 ^ 48 * f.n * f.n * f.den

/-- Code c at the period start of R133, step 4 (R135): extrapolated to the first period start at or after 2.3 ms. Sample j of the
window counts as taken at 480 * j fc from the window's first period start, by its number of arrival, so that one lost with a
superframe moves the later ones: R133 names no instant inside a superframe and no lost one (DESIGN CHOICE, assumption 110). -/
def Fit.code (f : Fit) (period : Nat) : Nat :=
  let lockFc : Int := (552000 + period - 1) / period * period
  let at480 := lockFc - 100 * 480
  let psi := (480 * (f.sumY * f.den - f.num * f.sumJ) + f.num * at480 * f.n) / (480 * f.n * f.den)
  uint 18 (divNear (psi - f.num.sign * 2 ^ 22) 64 - 32768)

/-- CH.CATCH_RESULT of one window on its own (R134), without the twin condition. -/
def State.catchResult (s : State) (c : Ch) (f : Fit) : Nat :=
  let ke := s.par Pid.CH_MOTOR_KE c.val
  let w := |omega6 (f.speed * unitStep)|
  let inBand := ke == 0 || (ke * w ≤ 2 * 10 ^ 6 * f.amp && 2 * 10 ^ 6 * f.amp ≤ 3 * ke * w)
  if s.par Pid.CH_MOTOR_R c.val == 0 || s.par Pid.CH_MOTOR_L c.val == 0 then 6
  else if f.amp < s.par Pid.CH_CATCH_EMF_MIN c.val * 1000 then 3
  else if !(f.steady && inBand) then 4
  else if |f.speed| < s.par Pid.CH_CATCH_MIN c.val * 65536 then 2
  else 1

/-- Without a lock the channel goes on to Roll Call (R137). -/
def State.catchNone (s : State) (c : Ch) (result : Nat) (v : Int) : State :=
  let speed := fitField 0x2204 (-(2 ^ 31)) (2 ^ 31 - 1) v
  (s.onEst c fun e =>
    { e with listening := false, samples := [], rc := RcRun.init, rcMates := 0, catchResult := result, catchSpeed := speed }).raise 0x0305
    c.val ([BitVec.ofNat 8 result, 0, 0, 0] ++ leInt 4 speed)

/-- The lock (R110, R135): angle, position and speed taken, the armed move released or a ramp stop begun. The set-points
still on their way are from before the lock, so that the following-error check sets fe_offset until they have passed
(R130). The ramp stop of a lock without an armed move reports cause 1 (STOP) at its end: R371 names none for it (DESIGN
CHOICE, assumption 78). -/
def State.catchLock (s : State) (c : Ch) (code : Nat) (speed : Int) : State :=
  let k := s.chan c
  let v := clamp (-1310720000) 1310720000 speed
  let shift := sint 18 (uint 18 ((code : Int) - k.motion.theta.toNat))
  let s1 := s.onChan c fun k =>
    { k with
      motion := { k.motion with pos := k.motion.pos + shift * unitStep, theta := BitVec.ofNat 18 code,
                                vel := v * unitStep, acc := 0, mode := .none,
                                carry := 0, held := k.motion.armed.toList, armed := none,
                                rampReq := if k.motion.armed.isSome then none else some .stop }
      coil := { k.coil.shift (shift * unitStep) with td := 0, tq := 0, lastPos := k.motion.pos + shift * unitStep }
      est := { k.est with listening := false, samples := [], catchResult := 1, catchSpeed := v, catchAngle := code,
                          rcResult := 0x02, rcPassed := true, feZero := 3, blank := 0 } }
  let s2 := (s1.energise c .moving).chPulse c 13
  let s3 := s2.raise 0x0304 c.val (leInt 4 v ++ leBytes 4 code)
  let s4 := s3.raise 0x0203 c.val (rcPayload 2 0 0 (if s.isTwin c then k.est.twinK else 0))
  s4.soloIfAlone c 3

/-- The two fits of a pair agree (R138). The 1 % within which their speeds agree is taken of the smaller magnitude: the rule
names no base (DESIGN CHOICE, assumption 79). -/
def fitsAgree (c1 c2 : Nat) (v1 v2 : Int) : Bool :=
  (sint 18 (uint 18 ((c1 : Int) - c2))).natAbs ≤ 1024 && |v1 - v2| * 100 ≤ min |v1| |v2|

/-- Decision of one window (R134, R138). Where the twins do not lock together, both report 5 and both start Roll Call now. At a
pair lock both twins report the loaded speed, bank A's, in CH.CATCH_SPEED and CATCH_LOCK: the spec does not say whether bank B's
twin reports its own (DESIGN CHOICE, assumption 96). -/
def State.catchDecide (s : State) (c : Ch) : State :=
  let p := twinOf c
  let fit := fun d => fitOf (s.window d)
  let period := (s.bank (bankOf c)).period
  let f := fit c
  let own := s.catchResult c f
  let q := s.chan p
  let pairUp := s.isTwin c && (q.state == .disabled || q.state == .rollcall)
  if !pairUp then
    if own == 1 then s.catchLock c (f.code period) f.speed else s.catchNone c own f.speed
  else
    let g := fit p
    let together := q.est.listening && q.est.samples.length == (s.chan c).est.samples.length
    let agree := together && own == 1 && s.catchResult p g == 1 && fitsAgree (f.code period) (g.code period) f.speed g.speed
    if agree && s.fwOn then
      let lead := if c.val < 12 then f else g
      (s.catchLock c (lead.code period) lead.speed).catchLock p (lead.code period) lead.speed
    else
      let s := s.catchNone c 5 f.speed
      if q.est.listening then s.catchNone p 5 g.speed else s

/-- The window's fit decides at the period start after it (R133, R134): 1,000 samples are in. -/
def execCatchDecision (ch : Ch) (s : State) : Host.Outcome State Fault Refusal :=
  let k := s.chan ch
  .next (if s.hwOn && k.state == .rollcall && k.est.listening && 1000 ≤ k.est.samples.length then s.catchDecide ch else s)

/-! ### Rejoin (R115, R116) -/

/-- A recorded trajectory taken up by a channel whose own limit inputs and latches stay. -/
def Motion.takeUp (m r : Motion) : Motion :=
  { r with limP := m.limP, limN := m.limN, latchP := m.latchP, latchN := m.latchN, capP := m.capP, capN := m.capN,
           limitPosP := m.limitPosP, limitPosN := m.limitPosN, disablePending := false, stopFault := false, armed := none }

/-- State that a recorded trajectory gives (R116). -/
def PairRecord.state (r : PairRecord) : ChState :=
  if r.shadow.vel = 0 ∧ r.shadow.mode == .none then .idle else if r.stopping then .stopping else .moving

/-- A channel joins its partner's interpolation group, on the same line (R80, R116). -/
def State.joinGroup (s : State) (c : Ch) : State :=
  { s with groups := s.groups.map fun g =>
      match g.members.find? fun m => m.1 == twinOf c with
      | some m => { g with members := g.members ++ [(c, m.2)] }
      | none => g }

/-- Positions of the set-points in work as the partner's (R116, R129). -/
def Coil.takePositions (w p : Coil) : Coil :=
  { w with lastPos := p.lastPos, next := { w.next with pos := p.next.pos }, now := { w.now with pos := p.now.pos },
           prev := { w.prev with pos := p.prev.pos }, prev2 := { w.prev2 with pos := p.prev2.pos } }

/-- Step 3 of a rejoin (R116): beside an energised partner the channel takes up the partner's trajectory, with the commands and
stops that wait in it and its place in a group; otherwise the trajectory of the pair's record, alone. A partner in FAULT, be
it that it still holds, counts as one that has turned off: the rule names only a partner off or parked (DESIGN CHOICE,
assumption 80). -/
def State.rejoinTake (s : State) (c : Ch) : State :=
  let r := (s.pairs[pairOf c]).alone
  let p := s.chan (twinOf c)
  if p.state.energised then
    (s.onChan c fun k =>
      { k with state := p.state, fetsOff := false, rejoin := .ramp 0,
               policy := (s.bank (bankOf c)).policyActive && p.state == .holdReduced,
               motion := k.motion.takeUp p.motion,
               coil := { k.coil.takePositions p.coil with rung := p.coil.rung, prevAngle := p.coil.prevAngle,
                                                          reduced := p.coil.reduced, rampDone := p.coil.rampDone } }).joinGroup c
  else
    let s1 := s.onChan c fun k =>
      { k with state := r.state, fetsOff := false, rejoin := .none, solo := true,
               motion := { k.motion.takeUp r.shadow with immReq := if p.state == .parked then some .fault else none },
               coil := { k.coil with lastPos := r.shadow.pos }
               est := { k.est with feZero := 3 } }
    s1.raise 0x0205 c.val [3]

/-- The rejoining engine takes up the pair's trajectory at the bank period start after the firmware has loaded the
pair record and the slice of the channel is powered (R116, R117, R431). -/
def execRejoinTakeUp (ch : Ch) (s : State) : Host.Outcome State Fault Refusal :=
  let k := s.chan ch
  .next (if s.fwOn && k.state == .rollcall && k.rejoin == .loading && !s.preparing ch then s.rejoinTake ch else s)

/-- The rejoin ramp has ended: SOLO clears on the partner and both share (R116, R130). -/
def execTwinRejoined (ch : Ch) (s : State) : Host.Outcome State Fault Refusal :=
  match (s.chan ch).rejoin with
  | .ramp done =>
    .next
      (if s.hwOn && s.rampTotal ch ≤ done then
        let s := s.onChan ch fun k => { k with rejoin := .none, est := { k.est with feZero := max 1 k.est.feZero } }
        (s.onChan (twinOf ch) fun k => { k with solo := false }).raise 0x0206 ch.val []
      else s)
  | _ => .next s

end Sys2Proof.Machine
end

