-- ==== Sys2Proof/Machine/Filter.lean ====
section
/-! DEFINITION. The filter engine (R265 to R294): slots, resampler, stages, starvation, pages and swaps, presets,
thresholds and delays. A slot is taken at the fc of its write, 720 fc after it starts (R266). -/

namespace Sys2Proof.Machine

/-! ### Pages (R272, R278, R281, R288) -/

/-- Place of a page's parameters after those of page 0. -/
def pageOff (page1 : Bool) : Nat := if page1 then 0x10 else 0

/-- A coefficient page: type, length, preset number, 64 coefficients. -/
structure Page where
  ty : Nat
  len : Nat
  preset : Nat
  coef : List Int
  deriving DecidableEq, Repr

def State.page (s : State) (f : FltIx) (page1 : Bool) : Page :=
  { ty := s.parN (Pid.FLT_P0_TYPE + pageOff page1) f.val
    len := s.parN (Pid.FLT_P0_LEN + pageOff page1) f.val
    preset := s.parN (Pid.FLT_P0_PRESET + pageOff page1) f.val
    coef := (List.range 64).map fun i => s.par ((if page1 then Pid.FLT_P1_C0 else Pid.FLT_P0_C0) + i) f.val }

def Page.c (p : Page) (i : Nat) : Int := p.coef.getD i 0

/-- One in Q2.22. -/
def oneQ : Int := 4194304

/-- The check of R281. -/
def Page.ok (p : Page) : Bool :=
  match p.ty with
  | 0 => true
  | 1 => 1 ≤ p.len && p.len ≤ 8 && (List.range p.len).all fun i =>
      let a1 := p.c (5 * i + 3)
      let a2 := p.c (5 * i + 4)
      |a2| < oneQ && |a1| < oneQ + a2
  | 2 => 1 ≤ p.len && p.len ≤ 64
  | _ => false

/-- Type and length of a preset (R288). -/
def presetShape (n : Nat) : Nat × Nat :=
  match n with
  | 2 => (2, 4)
  | 3 => (2, 16)
  | 4 => (2, 64)
  | 5 => (2, 15)
  | 6 => (2, 31)
  | 7 => (2, 63)
  | 8 | 9 | 10 => (1, 1)
  | 11 | 12 | 13 => (1, 2)
  | 14 | 15 | 16 => (1, 1)
  | _ => (0, 1)

/-- First half and middle of the Hamming-windowed ideal low-pass of a preset, tap t in 2^-30:
(0.54 - 0.46 cos(2 pi t / (len - 1))) * sin(2 pi fc (t - D)) / (pi (t - D)), with the cut-off fc of R288. -/
def hammingHalf (n : Nat) : List Int :=
  match n with
  | 5 => [2295941, 6802002, 0, -35564254, -43015568, 83050441, 310246963, 429496730]
  | 6 => [0, 1292214, 2994730, 4546760, 4240705, 0, -8880715, -19987482, -27308445, -22839991, 0, 42579656, 98832616,
      156063740, 198875379, 214748365]
  | 7 => [-272559, 0, 325650, 725345, 1201063, 1722796, 2220887, 2586504, 2681829, 2359886, 1492094, 0, -2113665, -4739999,
      -7650214, -10497260, -12835046, -14155124, -13938132, -11714852, -7129904] ++
      [0, 9641259, 21518966, 35117646, 49709040, 64405482, 78234191, 90224922, 99501561, 105367376, 107374182]
  | _ => []

/-- A windowed preset (R288): symmetric, its taps in the ratio of the design, at a free scale within 1/64 of one, to the nearest
2^-22. -/
def windowed (n : Nat) : List Int :=
  let scale : Int := 2 ^ 30 - 2 ^ 24 + (Config.presetScale n).toNat
  let half := (hammingHalf n).map fun w => divNear (w * scale) (2 ^ 38)
  half ++ half.reverse.tail

/-- a1 and a2 of the two sections of a fourth-order Butterworth preset, the pole pairs of the bilinear design with pre-warping,
and the product of their gains in 2^-44 (R288). -/
def fourthPoles (n : Nat) : (Int × Int) × (Int × Int) × Int :=
  match n with
  | 11 => ((-4398145, 1242103), (-5540312, 2653899), 84870745891)
  | 12 => ((-7458787, 3323766), (-7941561, 3810376), 233865752)
  | _ => ((-8148015, 3957734), (-8284881, 4094667), 1028288)

/-- A fourth-order preset (R288): each section has one of the pole pairs and a double zero at half the output rate; the order of
the pairs and the first section's gain, between half and one and a half times the root of the product, are free, and the second's makes
the gain at 0 Hz one to the nearest 2^-22 of it. -/
def fourthOrder (n : Nat) : List Int :=
  let p := fourthPoles n
  let q := Config.presetSections n
  let first := if q.1 then p.2.1 else p.1
  let second := if q.1 then p.1 else p.2.1
  let mean : Int := isqrt p.2.2.toNat
  let g := mean / 2 + mean * q.2.toNat / 2 ^ 17
  let h := divNear p.2.2 g
  [g, 2 * g, g, first.1, first.2, h, 2 * h, h, second.1, second.2]

/-- Coefficients of a preset (R272, R288): moving averages exactly; the sections that the table determines by their
bilinear design, to the nearest 2^-22; windowed designs and fourth orders up to what is not given (assumption 3). -/
def presetCoefs (n : Nat) : List Int :=
  match n with
  | 2 => List.replicate 4 1048576
  | 3 => List.replicate 16 262144
  | 4 => List.replicate 64 65536
  | 8 => [282928, 565856, 282928, -4794008, 1731415]
  | 9 => [15190, 30381, 15190, -7644937, 3511394]
  | 10 => [1012, 2025, 1012, -8202290, 4012035]
  | 14 => [3656931, -5917039, 3656931, -5917039, 3119559]
  | 15 => [127795, 127795, 0, -3938714, 0]
  | 16 => [13136, 13136, 0, -4168033, 0]
  | 5 | 6 | 7 => windowed n
  | 11 | 12 | 13 => fourthOrder n
  | _ => []

/-- D of a preset in 1/10,000 sample (R288). -/
def presetDelay (n : Nat) : Int :=
  [0, 0, 15000, 75000, 315000, 70000, 150000, 310000, 21763, 112391, 450120, 40212, 207672, 831713, 7694, 159102,
   1591540].getD n 0

/-- Settle outputs of a preset (R288). -/
def presetSettle (n : Nat) : Nat :=
  [0, 0, 3, 15, 63, 14, 30, 62, 25, 125, 500, 45, 231, 923, 69, 177, 1766].getD n 0

/-- A preset number written to a page loads its type, length and coefficients in one write (R281). -/
def State.loadPreset (s : State) (f : FltIx) (page1 : Bool) (n : Nat) : State :=
  let s := s.setPar (Pid.FLT_P0_PRESET + pageOff page1) f.val n
  if n == 0 then s
  else
    let s := (s.setPar (Pid.FLT_P0_TYPE + pageOff page1) f.val (presetShape n).1).setPar (Pid.FLT_P0_LEN + pageOff page1)
      f.val (presetShape n).2
    let base := if page1 then Pid.FLT_P1_C0 else Pid.FLT_P0_C0
    s.forAll ((List.range (presetCoefs n).length).zip (presetCoefs n)) fun p s => s.setPar (base + p.1) f.val p.2

/-! ### Delay and settling (R275, R286, R287) -/

/-- D of a page as a fraction; denominator 0 where there is none (R287). -/
def Page.delay (p : Page) : Int × Int :=
  if p.preset != 0 then (presetDelay p.preset, 10000)
  else
    match p.ty with
    | 1 => (List.range p.len).foldl (fun acc i =>
        let c := fun j => p.c (5 * i + j)
        let n1 := c 1 + 2 * c 2
        let d1 := c 0 + c 1 + c 2
        let n2 := c 3 + 2 * c 4
        let d2 := oneQ + c 3 + c 4
        (acc.1 * (d1 * d2) + acc.2 * (n1 * d2 - n2 * d1), acc.2 * (d1 * d2))) (0, 1)
    | 2 => ((List.range p.len).foldl (fun a t => a + t * p.c t) 0, (List.range p.len).foldl (fun a t => a + p.c t) 0)
    | _ => (0, 1)

/-- One section on one value of the impulse response (R275). -/
def sectionExact (c : Nat → Int) (x : Int) (z : Int × Int × Int × Int) : Int × (Int × Int × Int × Int) :=
  let y := (c 0 * x + c 1 * z.1 + c 2 * z.2.1 - c 3 * z.2.2.1 - c 4 * z.2.2.2) / oneQ
  (y, (x, z.1, y, z.2.2.1))

/-- Magnitudes of the impulse response of a cascade over `n` outputs, newest first, kept to 2^-80. -/
def impulseGo (p : Page) : Nat → Int → List (Int × Int × Int × Int) → List Int → List Int
  | 0, _, _, acc => acc
  | n + 1, x, zs, acc =>
    let r := zs.foldl (fun (a : Int × List (Int × Int × Int × Int) × Nat) z =>
      let q := sectionExact (fun j => p.c (5 * a.2.2 + j)) a.1 z
      (q.1, a.2.1 ++ [q.2], a.2.2 + 1)) (x, [], 0)
    impulseGo p n 0 r.2.1 (|r.1| :: acc)

/-- Outputs after which the impulse response of a custom cascade stays below 2^-16 of its peak, at most 65,534 (R275). -/
def Page.cascadeSettle (p : Page) : Nat :=
  let h := impulseGo p 65536 (2 ^ 80) (List.replicate p.len (0, 0, 0, 0)) []
  let peak := h.foldl max 0
  min 65534 (h.dropWhile fun v => v * 65536 < peak).length

/-- FLT.SETTLE_IN_FORCE (R275). -/
def State.settleFor (s : State) (f : FltIx) (p : Page) : Nat :=
  let w := s.parN Pid.FLT_SETTLE f.val
  if w != 65535 then w
  else if p.preset != 0 then presetSettle p.preset
  else match p.ty with
    | 1 => p.cascadeSettle
    | 2 => p.len - 1
    | _ => 0

/-- The firmware's figures for the running page (R275, R287). -/
def State.retime (s : State) (f : FltIx) : State :=
  let p := s.page f (s.flt f).page1
  let d := p.delay
  s.onFlt f fun k => { k with settleInForce := s.settleFor f p, delayNum := d.1, delayDen := d.2, timed := true, retimeDue := false }

/-- A fraction rounded to nearest, as an unsigned field; all ones where there is none, a free value out of range. -/
def delayField (which width : Nat) (num den : Int) : BitVec 64 :=
  if den = 0 then BitVec.ofNat 64 (2 ^ width - 1)
  else
    let v := if 0 < den then divNear num den else divNear (-num) (-den)
    if 0 ≤ v ∧ v < 2 ^ width then BitVec.ofInt 64 v else Config.unstatedDelay which num den

/-- FLT.STAGE_DELAY in 1/65,536 sample (R286). -/
def State.stageDelay (s : State) (f : FltIx) : BitVec 64 :=
  let k := s.flt f
  if k.timed then delayField 0 32 (k.delayNum * 65536) k.delayDen else 0

/-- FLT.GROUP_DELAY in ns (R286). -/
def State.filterDelay (s : State) (f : FltIx) : BitVec 64 :=
  let k := s.flt f
  let feeder : EntryIx := ⟨s.parN Pid.FLT_SOURCE f.val % 256, Nat.mod_lt _ (by decide)⟩
  -- in sixths of a ns: 1 fc is 25 / 6 ns
  let base : Int :=
    if s.parN Pid.FLT_INPUT_MODE f.val == 1 then 25 * k.rsLag else 6 * s.groupDelayNs feeder + 25 * k.lastWait
  let period : Int := s.par Pid.FLT_DIVIDE f.val * 100000
  if k.timed then delayField 1 64 (base * k.delayDen + 6 * period * k.delayNum) (6 * k.delayDen) else 0

/-! ### Arithmetic (R272, R273) -/

/-- A value between stages, and whether it was saturated. -/
def sat32 (x : Int) : Int × Bool := (clamp (-(2 ^ 31 - 1)) (2 ^ 31 - 1) x, x < -(2 ^ 31 - 1) || 2 ^ 31 - 1 < x)

/-- One biquad section: output, new delays, saturation. -/
def biquadStep (c : Nat → Int) (x : Int) (z : Int × Int × Int × Int) : Int × (Int × Int × Int × Int) × Bool :=
  let y := sat32 (roundEven (c 0 * x + c 1 * z.1 + c 2 * z.2.1 - c 3 * z.2.2.1 - c 4 * z.2.2.2) 22)
  (y.1, (x, z.1, y.1, z.2.2.1), y.2)

/-- The cascade: output, delays, number of saturations. -/
def cascade (p : Page) : Nat → Int → List (Int × Int × Int × Int) → Int × List (Int × Int × Int × Int) × Nat
  | _, x, [] => (x, [], 0)
  | i, x, z :: zs =>
    let a := biquadStep (fun j => p.c (5 * i + j)) x z
    let b := cascade p (i + 1) a.1 zs
    (b.1, a.2.1 :: b.2.1, b.2.2 + b2n a.2.2)

/-- Delays of a cascade after a constant input (R275): each section's output is its gain at 0 Hz times its input. -/
def cascadeSteady (p : Page) : Nat → Nat → Int → List (Int × Int × Int × Int)
  | 0, _, _ => []
  | n + 1, i, x =>
    let c := fun j => p.c (5 * i + j)
    let den := oneQ + c 3 + c 4
    let num := x * (c 0 + c 1 + c 2)
    let y := (sat32 (if den ≤ 0 then x else divNear num den)).1
    (x, x, y, y) :: cascadeSteady p n (i + 1) y

/-- Delay elements set for a first input (R275). -/
def Flt.prime (k : Flt) (p : Page) (x : Int) : Flt :=
  { k with biquad := if p.ty == 1 then cascadeSteady p p.len 0 x else [],
           fir := List.replicate 64 x, primed := true, settleLeft := k.settleInForce, heldRun := 0, starved := false,
           written := [] }

/-- The stages on one input: channel with new delays, final code, saturations and clamps. -/
def Flt.stages (k : Flt) (p : Page) (x : Int) : Flt × Int × Nat :=
  match p.ty with
  | 1 =>
    let r := cascade p 0 x (k.biquad ++ List.replicate (p.len - k.biquad.length) (0, 0, 0, 0))
    let c := roundEven r.1 8
    ({ k with biquad := r.2.1 }, clamp (-fullScale) fullScale c, r.2.2 + b2n (decide (fullScale < |c|)))
  | 2 =>
    let line := (x :: k.fir).take 64
    let sum := (List.zipWith (· * ·) (p.coef.take p.len) line).foldl (· + ·) 0
    let y := sat32 (roundEven sum 22)
    let c := roundEven y.1 8
    ({ k with fir := line }, clamp (-fullScale) fullScale c, b2n y.2 + b2n (decide (fullScale < |c|)))
  | _ =>
    let c := roundEven x 8
    (k, clamp (-fullScale) fullScale c, b2n (decide (fullScale < |c|)))

/-! ### Input (R268 to R271, R274, R276) -/

/-- Input of one slot. -/
inductive SlotIn where
  /-- no value yet: the channel waits for its first good input -/
  | none
  /-- starved: no output -/
  | starved
  /-- value with 8 fraction bits, over-range, lost, held, saturations of the resampler -/
  | value (x : Int) (ovr lost held : Bool) (sats : Nat)
  deriving DecidableEq, Repr

/-- DIRECT input at the write fc `w` (R269): the channel after taking it, and the input. -/
def Flt.direct (k : Flt) (w : Nat) : Flt × SlotIn :=
  let late := ((k.inputs.take k.fresh).filter fun r => w ≤ r.fc + 720).length
  let avail := (k.inputs.take k.fresh).filter fun r => r.fc + 720 < w
  match avail with
  | [] =>
    let k := { k with underrun := satAdd (2 ^ 32 - 1) k.underrun 1 }
    if !k.primed then (k, .none)
    else if 16 ≤ k.heldRun then ({ k with starved := true }, .starved)
    else
      let wait := w - k.lastInFc
      ({ k with heldRun := k.heldRun + 1, waitVaries := k.lastWait != 0 && k.lastWait != wait, lastWait := wait },
       .value (k.lastIn * 256) k.lastOver false true 0)
  | r :: _ =>
    let wait := w - r.fc
    let k := { k with fresh := late, dropped := satAdd (2 ^ 32 - 1) k.dropped (k.fresh - late - 1) }
    if r.lost && !k.primed then (k, .none)
    else
      let value := if r.lost then k.lastIn else r.code
      let ovr := if r.lost then k.lastOver else r.ovr
      ({ k with heldRun := 0, lastIn := value, lastOver := ovr, lastInFc := r.fc,
                waitVaries := k.lastWait != 0 && k.lastWait != wait, lastWait := wait },
       .value (value * 256) ovr r.lost false 0)

/-- A windowed sinc about the target instant (R271): sin(2 pi c n / 64) w(|n|) / n for the cut-off `cut` / 2^16 of the input rate and
a window of even symmetry, `n` in 64ths of a result interval, up to a scale. -/
def sincRaw (cut : Nat) (window : Nat → Int) (n : Int) : Int :=
  if n = 0 then twoPi18 * (4 * cut) * window 0 * 2 ^ 60 / (10 ^ 18 * 2 ^ 24)
  else (cosSin24 (cut * n * 4)).2 * window n.natAbs / n

/-- Place of the coefficient of `tap` (0 for result j - 7, 15 for j + 8) at `phase`, from the target instant in 64ths of a result
interval. -/
def tapAt (phase tap : Nat) : Int := 64 * ((tap : Int) - 7) - phase

/-- Coefficients of the prototype with unity gain at 0 Hz in every phase: each is its share of the phase's sum in Q2.22, and the one
nearest the target instant is what the other 15 leave of one (R271). -/
def prototypeTap (raw : Int → Int) (phase tap : Nat) : Int :=
  let sum := (List.range 16).foldl (fun a t => a + raw (tapAt phase t)) 0
  let share := fun t : Nat => divNear (raw (tapAt phase t) * oneQ) sum
  let near := if phase ≤ 32 then 7 else 8
  if tap == near then oneQ - (((List.range 16).filter (· != near)).map share).foldl (· + ·) 0 else share tap

/-- Response of the prototype of 64 x 16 coefficients at f / 512 of the input rate, real and imaginary, in 2^-60 of a coefficient. -/
def prototypeAt (h : Nat → Nat → Int) (f : Nat) : Int × Int :=
  ((List.range 64).flatMap fun p => (List.range 16).map fun t => (p, t)).foldl (fun acc q =>
    let cs := cosSin24 (f * 512 * tapAt q.1 q.2)
    let c := h q.1 q.2
    (acc.1 + c * cs.1, acc.2 + c * cs.2)) (0, 0)

/-- The pass-band reaches 0.4 of the input rate with less than 0.01 dB of ripple: the square of the gain lies within the factor of
0.01 dB of one, at every 512th of the rate (R271). -/
def flatBand (h : Nat → Nat → Int) : Bool :=
  let one : Int := (64 * oneQ * 2 ^ 60) ^ 2
  (List.range 205).all fun f =>
    let r := prototypeAt h f
    let g := r.1 ^ 2 + r.2 ^ 2
    997701 * one < 1000000 * g && 1000000 * g < 1002305 * one

/-- The prototype of the free cut-off and window (R271); the window is 0 at its end, 8 result intervals from the middle. -/
def freeTap (phase tap : Nat) : Int :=
  prototypeTap (sincRaw Config.resampleCutoff.toNat fun n => if n < 512 then (Config.resampleWindow n).toNat else 0) phase tap

/-- A windowed sinc that meets R271: cut-off 73/128 of the input rate, window 13/32 + 1/2 cos + 3/32 cos of twice the angle. -/
def sincTap (phase tap : Nat) : Int :=
  prototypeTap (sincRaw 37376 fun n =>
    (13 * 2 ^ 60 + 16 * (cosSin24 (n * 16384)).1 + 3 * (cosSin24 (n * 32768)).1) / 2 ^ 45) phase tap

/-- The free prototype meets R271. -/
def freeFlat : Bool := flatBand freeTap

/-- A coefficient of the resampler: of the free prototype where it meets R271, else of one that does (assumption 4). -/
def resampleTap (phase tap : Nat) : Int := if freeFlat then freeTap phase tap else sincTap phase tap

/-- 16 results have arrived at intervals of exactly FLT.RS_RATIO, the newest first (R276). -/
def regularRun (ratio : Nat) (arrived : List ResultIn) : Bool :=
  let l := arrived.take 16
  l.length == 16 && (l.zip l.tail).all fun p => p.1.fc == p.2.fc + ratio

/-- RESAMPLE input at the write fc `w` (R270, R276). -/
def Flt.resample (k : Flt) (w : Nat) : Flt × SlotIn :=
  let avail := k.inputs.filter fun r => r.fc + 720 < w
  let x : Int := (w : Int) - 720 - 8 * k.rsRatio
  let newer := (avail.takeWhile fun r => x < r.fc).length
  let starve := ({ k with underrun := satAdd (2 ^ 32 - 1) k.underrun 1, starved := true }, SlotIn.starved)
  match avail[newer]? with
  | none => starve
  | some rj =>
    if newer < 8 || k.rsRatio == 0 || (k.starved && !regularRun k.rsRatio avail) || avail.length < newer + 8 then starve
    else
      let num := (x - rj.fc) * 64
      let q := num / k.rsRatio
      let r := num % k.rsRatio
      let ph := if 2 * r < k.rsRatio then q else if 2 * r = k.rsRatio then q + q % 2 else q + 1
      let m := if ph = 64 then newer - 1 else newer
      let phase := if ph = 64 then 0 else ph.toNat
      -- tap t is result j - 7 + t, which stands at index m + 7 - t
      let taps := (List.range 16).filterMap fun t => if m + 7 < t then none else (avail[m + 7 - t]?).map fun v => (t, v)
      let sum := taps.foldl (fun a p => a + p.2.code * 256 * resampleTap phase p.1) 0
      -- the rounding to j + 1 can need a result that has not left (assumption 67)
      let y := if taps.length < 16 then sat32 (Config.lateResample w).toInt else sat32 (roundEven sum 22)
      ({ k with fresh := 0 },
       .value y.1 (y.2 || taps.any fun p => p.2.ovr) (taps.any fun p => p.2.lost) false (b2n y.2))

/-! ### Thresholds (R282 to R285) -/

/-- Comparator `c` of F`f`. -/
def cmpIx (f : FltIx) (c : Nat) : Fin 128 := ⟨(f.val * 4 + c) % 128, Nat.mod_lt _ (by decide)⟩

/-- Set and clear conditions on a value (R282). -/
def thCond (mode : Nat) (hi lo hyst y : Int) : Bool × Bool :=
  match mode with
  | 1 => (hi < y, y < hi - hyst)
  | 2 => (y < lo, lo + hyst < y)
  | 3 | 4 => (hi < y || y < lo, lo + hyst < y && y < hi - hyst)
  | _ => (false, true)

/-- What an evaluation makes of a comparator whose condition to change holds or not (R283): `confirm` times in a row change it, and with
`report` it tells the output. -/
def Cmp.judge (k : Cmp) (want : Bool) (confirm : Int) (report : Bool) (y : Int) : CmpStep :=
  if !want then ⟨k.set, 0, none⟩
  else if (k.run + 1 : Int) < confirm then ⟨k.set, k.run + 1, none⟩
  else ⟨!k.set, 0, if report then some y else none⟩

/-- One comparator is given a written output, with the settings then in force; its evaluation falls in the next fc (R282, R283, R284).
`written` starts with that output. -/
def State.evalCmp (s : State) (f : FltIx) (c : Nat) (written : List Int) : State :=
  let i := cmpIx f c
  let p := fun id => s.par id i.val
  let mode := (p Pid.FLT_TH_MODE).toNat
  let y := written.headD 0
  let span := (p Pid.FLT_TH_SPAN).toNat
  let value := if mode == 4 then written[span]?.map fun old => y - old else some y
  match value with
  | none => s
  | some v =>
    let cond := thCond mode (p Pid.FLT_TH_HI) (p Pid.FLT_TH_LO) (p Pid.FLT_TH_HYST) v
    { s with cmps := upd s.cmps i fun k =>
        { k with next := some (k.judge (if k.set then cond.2 else cond.1) (p Pid.FLT_TH_CONFIRM) (p Pid.FLT_TH_REPORT == 1) y) } }

/-- The evaluation of a comparator in the fc after the write: its state changes and is reported (R282, R283). -/
def State.settleCmp (s : State) (i : Fin 128) : State :=
  match s.cmps[i].next with
  | none => s
  | some n =>
    let s := { s with cmps := s.cmps.set i ⟨n.set, n.run, none⟩ }
    match n.report with
    | some y => s.raise 0x0803 (i.val / 4) ([BitVec.ofNat 8 (i.val % 4), BitVec.ofNat 8 (b2n n.set), 0, 0] ++ leInt 4 y)
    | none => s

/-- The evaluations of the fc (R282). -/
def State.settleCmps (s : State) : State :=
  s.forAll ((List.finRange 128).filter fun i => s.cmps[i].next.isSome) fun i s => s.settleCmp i

/-- The Gradebook gate (R285). -/
def State.gbGate (s : State) (f : FltIx) : Bool :=
  let g := s.parN Pid.FLT_GB_GATE f.val
  if g == 0 then true else if g ≤ 4 then (s.cmps[cmpIx f (g - 1)]).set else !(s.cmps[cmpIx f (g - 5)]).set

/-! ### Swaps (R279, R280) -/

/-- The page swap takes place, at the start of the present slot or now; FLT_SWAPPED carries the device time of the boundary. In an
Eclipse the figures of the new page wait for the restart (R287, R290). -/
def State.swapNow (s : State) (f : FltIx) (atSlot : Bool) : State :=
  let s := s.onFlt f fun k => { k with page1 := !k.page1, swapPending := none }
  let s := if s.fwOn then s.retime f else s.onFlt f fun k => { k with retimeDue := true }
  s.raiseAt (if atSlot then s.slotTime else s.time) 0x0801 f.val [BitVec.ofNat 8 (b2n (s.flt f).page1)]

/-- The pending swap's boundary is this slot: it starts at least 750 fc after the firmware applied the swap (R279). -/
def State.swapDue (s : State) (f : FltIx) : Bool :=
  match (s.flt f).swapPending with
  | some t => t + 750 + 720 ≤ s.fc
  | none => false

/-- Filter channels of a MASK32, in instance order. -/
def maskFlts (mask : BitVec 32) : List FltIx := (List.finRange 32).filter fun f => mask.getLsbD f.val

/-- A channel whose present state refuses a swap (R279). -/
def State.swapBlocked (s : State) (f : FltIx) : Bool :=
  let k := s.flt f
  let a := s.page f k.page1
  let b := s.page f (!k.page1)
  k.swapPending.isSome || (k.running && (a.ty != b.ty || a.len != b.len))

/-- FLT_SWAP (R279): the first code that applies, with the first instance that failed. -/
def State.judgeSwap (s : State) (mask : BitVec 32) : Result × Nat :=
  let fs := maskFlts mask
  let at0 := fun (o : Option FltIx) => o.elim 0 (·.val)
  let bad := fs.find? fun f => !(s.page f (!(s.flt f).page1)).ok
  let blocked := fs.find? fun f => s.swapBlocked f
  if !s.hasFlt then (.unitAbsent, at0 fs.head?)
  else if mask == 0 || bad.isSome then (.outOfRange, at0 bad)
  else if blocked.isSome then (.wrongState, at0 blocked)
  else (.queued, 0)

/-- An accepted FLT_SWAP: a stopped channel swaps at once (R279). -/
def State.startSwap (s : State) (mask : BitVec 32) : State :=
  s.forAll (maskFlts mask) fun f s =>
    if (s.flt f).running then s.onFlt f fun k => { k with swapPending := some s.fc } else s.swapNow f false

/-! ### The slot (R266 to R276) -/

/-- An output is written, marked, handed on and given to the comparators (R267, R273, R274, R282). -/
def State.writeOutput (s : State) (f : FltIx) (y : Int) (ovr lost held : Bool) : State :=
  let s := s.onFlt f fun k =>
    { k with output := y, lostOut := lost, heldOut := held, written := (y :: k.written).take 256 }
  let s := if s.gbGate f then s.feedGb 2 f.val y ovr lost else s
  if lost then s else s.forAll (List.range 4) fun c s => s.evalCmp f c (s.flt f).written

/-- The stages run on an input; suppressed outputs are not written (R274, R275). -/
def State.runSlot (s : State) (f : FltIx) (x : Int) (ovr lost held : Bool) (sats : Nat) : State :=
  let p := s.page f (s.flt f).page1
  let r := (s.flt f).stages p x
  let n := sats + r.2.2
  let k : Flt := { r.1 with saturations := satAdd (2 ^ 32 - 1) r.1.saturations n }
  let marked := lost || 0 < k.lostLeft
  let k : Flt := { k with lostLeft := if lost then k.settleInForce else k.lostLeft - 1 }
  if 0 < k.settleLeft then s.onFlt f fun _ => { k with settleLeft := k.settleLeft - 1 }
  else (s.onFlt f fun _ => k).writeOutput f r.2.1 (ovr || 0 < n) marked held

/-- Settings of the feeder that RESAMPLE uses (R270): ratio and lag in fc. -/
def State.rsFigures (s : State) (f : FltIx) : Nat × Nat :=
  let i : EntryIx := ⟨s.parN Pid.FLT_SOURCE f.val % 256, Nat.mod_lt _ (by decide)⟩
  let m : ModIx := ⟨i.val / 16 % 16, Nat.mod_lt _ (by decide)⟩
  let n := s.parN Pid.ADC_E_RATIO i.val
  let ratio := if s.interleaves m then n * 12 else n * 24
  (ratio, s.parN Pid.ADC_E_ORDER i.val * (n - 1) * 12 + 288 + 8 * ratio + 720)

/-- The resampler's figures from the feeder's settings (R270). -/
def State.setFigures (s : State) (f : FltIx) : State :=
  let q := s.rsFigures f
  s.onFlt f fun k => { k with rsRatio := q.1, rsLag := q.2, figures := none }

/-- A starved channel takes the figures of its feeder's latest start (R277). -/
def Flt.takeFigures (k : Flt) : Flt :=
  match k.figures with
  | some q => if k.starved then { k with rsRatio := q.1, rsLag := q.2, figures := none } else k
  | none => k

/-- The firmware gives the starved channels their figures; not during an Eclipse (R277). -/
def State.applyFigures (s : State) : State := if s.fwOn then { s with flts := s.flts.map Flt.takeFigures } else s

/-- A modulator starts again: its settings give the figures of the RESAMPLE channels that it feeds (R277). -/
def State.markFigures (s : State) (m : ModIx) : State :=
  ({ s with flts := s.flts.mapFinIdx fun f k h =>
      if s.feeds m f k then
        { k with figures := some (s.rsFigures ⟨f, h⟩) }
      else k } : State).applyFigures

/-- One active slot of a running channel. -/
def State.slot (s : State) (f : FltIx) : State :=
  let s := if s.swapDue f then s.swapNow f true else s
  let resamples := s.parN Pid.FLT_INPUT_MODE f.val == 1
  let was := (s.flt f).starved
  let fresh := !(s.flt f).primed
  let r := if resamples then (s.flt f).resample s.fc else (s.flt f).direct s.fc
  let s := s.onFlt f fun _ => r.1
  match r.2 with
  | .none => s
  | .starved => s.applyFigures
  | .value x ovr lost held sats =>
    if was || fresh then
      let p := s.page f (s.flt f).page1
      let s := s.onFlt f fun k => k.prime p x
      let s := if was then s.raise 0x0802 f.val [] else s
      s.runSlot f x ovr lost held sats
    else s.runSlot f x ovr lost held sats

/-! ### Frames (R266, R267) -/

/-- First start of slot `f` at or after a fabric cycle: frames of 24,000 fc from the runtime start, slots of 750 fc (R266). -/
def State.slotFrom (s : State) (f : FltIx) (fc : Nat) : Nat :=
  let base := s.runFc + 750 * f.val
  base + (fc - base + 23999) / 24000 * 24000

/-- This is the write fc of the channel's slot: 720 fc after the slot's start (R266). -/
def State.atWrite (s : State) (f : FltIx) : Bool := 720 ≤ s.fc && s.slotFrom f (s.fc - 720) == s.fc - 720

/-- The slot lies in an active frame: every FLT.DIVIDE-th from the first (R267). -/
def State.frameActive (s : State) (f : FltIx) : Bool :=
  let first := (s.flt f).firstSlot
  first ≤ s.fc - 720 && (s.fc - 720 - first) % (24000 * s.parN Pid.FLT_DIVIDE f.val) == 0

/-- The run begins for a write of 1 applied in fabric cycle `fc` (R267, R270, R275, R283). -/
def State.beginRun (s : State) (f : FltIx) (fc : Nat) : State :=
  let s := s.onFlt f fun k =>
    { k with running := true, stopReq := none, firstSlot := s.slotFrom f (fc + 750), inputs := [], fresh := 0,
             lastIn := 0, lastOver := false, lastInFc := 0, biquad := [], fir := [], primed := false, settleLeft := 0
             lostLeft := 0, heldRun := 0, starved := false, figures := none, lastWait := 0, waitVaries := false
             lostOut := false, heldOut := false, written := [] }
  let s := if s.parN Pid.FLT_INPUT_MODE f.val == 1 then s.setFigures f else s
  (s.forAll (List.range 4) fun c s => { s with cmps := s.cmps.set (cmpIx f c) Cmp.init }).retime f

/-- The channel is stopped. -/
def Flt.stop (k : Flt) : Flt := { k with running := false, stopReq := none, starved := false, settleLeft := 0 }

/-- A stop applied before the slot takes effect at its start (R291), with a pending swap made (R280). -/
def State.stopAtSlot (s : State) (f : FltIx) : State :=
  let s := if (s.flt f).swapPending.isSome then s.swapNow f true else s
  s.onFlt f Flt.stop

/-- A stop was applied before this slot's start. -/
def State.stopDue (s : State) (f : FltIx) : Bool :=
  match (s.flt f).stopReq with
  | some t => t + 720 ≤ s.fc
  | none => false

/-- The slot of a filter channel (R266): a stop takes effect, and a running channel in an active frame runs (R267). -/
def execFilterSlot (f : FltIx) (s : State) : Host.Outcome State Fault Refusal :=
  .next
    (if !(s.hwOn && s.hasFlt && (s.flt f).running && s.atWrite f) then s
     else
      let s := if s.stopDue f then s.stopAtSlot f else s
      if (s.flt f).running && s.frameActive f then s.slot f else s)

/-! ### FLT.RUN (R267, R268, R270, R281) -/

/-- The feeder of a RESAMPLE channel is continuous (R270). -/
def State.feederContinuous (s : State) (f : FltIx) : Bool :=
  let i := s.parN Pid.FLT_SOURCE f.val % 256
  let m : ModIx := ⟨i / 16 % 16, Nat.mod_lt _ (by decide)⟩
  i % 16 == 0 &&
    ((s.parN Pid.ADC_TABLE_LEN m.val == 1 && s.par Pid.ADC_E_COUNT i == 0) || (s.interleaves m && m.val % 2 == 0))

/-- The checks at a write of 1 to FLT.RUN (R268, R270, R281): of the page that the run will use. -/
def State.fltRunCode (s : State) (f : FltIx) : Result :=
  let k := s.flt f
  let m : ModIx := ⟨s.parN Pid.FLT_SOURCE f.val / 16 % 16, Nat.mod_lt _ (by decide)⟩
  if !s.hasMod m then .unitAbsent
  else if !(s.page f (k.page1 != k.swapPending.isSome)).ok then .outOfRange
  else if s.parN Pid.FLT_INPUT_MODE f.val == 1 && !s.feederContinuous f then .wrongState
  else .ok

/-- The slot start at which a stop takes effect lies behind (R291). -/
def State.stopPassed (s : State) (f : FltIx) : Bool :=
  match (s.flt f).stopReq with
  | some t => s.slotFrom f t < s.fc
  | none => false

/-- A write of 1 to FLT.RUN before the slot start at which a stop would take effect replaces the write of 0, and the run goes on, with
what was written while FLT.RUN read 0 (R10, R291, assumption 100). -/
def State.withdrawStop (s : State) (f : FltIx) : State :=
  let t := s.onFlt f fun k => { k with stopReq := none, figures := some (s.rsFigures f) }
  if s.fwOn then t.retime f else t

/-- A write of FLT.RUN (R267, R291). -/
def State.writeFltRun (s : State) (f : FltIx) (v : Int) : State × Result :=
  let k := s.flt f
  let t := s.setPar Pid.FLT_RUN f.val v
  if v == 0 then (if k.running then t.onFlt f fun k => { k with stopReq := some (k.stopReq.getD s.fc) } else t, .ok)
  else if k.running && k.stopReq.isNone then (t, .ok)
  else if s.fltRunCode f != .ok then (s, s.fltRunCode f)
  else if !k.running then (t.beginRun f s.fc, .ok)
  else if s.stopPassed f then ((t.stopAtSlot f).beginRun f s.fc, .ok)
  else (t.withdrawStop f, .ok)

/-- FLT.STATUS (R294). -/
def Flt.status (k : Flt) : Nat :=
  b2n k.running + 2 * b2n k.page1 + 4 * b2n k.heldOut + 8 * b2n k.lostOut +
    16 * b2n (k.running && k.primed && !k.starved && 0 < k.settleLeft) + 32 * b2n k.swapPending.isSome + 64 * b2n k.starved +
    128 * b2n k.waitVaries

end Sys2Proof.Machine
end

