-- ==== Sys2Proof/Machine/Frames.lean ====
section
/-! DEFINITION. The characters of the two superframes of the Shonak link, laid out and read back (R22 to R26). Multi-byte
fields are little-endian. -/

namespace Sys2Proof.Machine

/-- A character of the link: a data byte, or one of the three control characters in use (R22, R30). -/
inductive LinkChar where
  | data (b : Byte)
  | k28x5 | k28x0 | k28x1
  deriving DecidableEq, Repr

/-- Bytes as a receiver reads them: byte `i` travels as character `place i`, and the noise names characters whose listed
bits arrive inverted. -/
def noisy (place : Nat → Nat) (noise : List (Nat × Byte)) (bs : List Byte) : List Byte :=
  bs.mapIdx fun i b => (noise.filter fun p => p.1 == place i).foldl (fun b p => b ^^^ p.2) b

/-- A field of bytes is followed by its CRC-32C (R23, R26). -/
def sealed (bs : List Byte) : List Byte := bs ++ leBytes 4 (crc32c bs).toNat

/-- The last four of `n + 4` bytes are the CRC-32C of the first `n`. -/
def sealOk (n : Nat) (bs : List Byte) : Bool := (crc32c (bs.take n)).toNat == field bs n 4

/-! ### Downlink (R23 to R25) -/

/-- The 13 characters of a duty entry (R24). -/
def DutyEntry.bytes (e : DutyEntry) : List Byte := leBytes 13 e.pack.toNat

/-- The duty entry that 13 characters spell. -/
def DutyEntry.ofBytes (bs : List Byte) : DutyEntry := DutyEntry.unpack (BitVec.ofNat 104 (leNat bs))

/-- What a configuration write says, as numbers: kind, the parameter or unit addressed, and the value. -/
def CfgKind.code : CfgKind → Nat × Nat × Nat × Int
  | .param id inst v => (0, id, inst, v)
  | .clear c => (1, 0, c.val, 0)
  | .prepare c => (2, 0, c.val, 0)
  | .startUp => (3, 0, 0, 0)
  | .adcRun m on => (4, 0, m.val, b2n on)
  | .standby => (5, 0, 0, 0)
  | .vexc b on => (6, 0, b.val, b2n on)
  | .sliceOff c => (7, 0, c.val, 0)

/-- The 8 characters of a configuration slot: address (2), data (4), tag, flags with [0] valid (R23). Addresses and data
of the power die's registers are not given: a free value (assumption 70). -/
def CfgWrite.bytes (w : CfgWrite) : List Byte :=
  let k := w.kind.code
  leBytes 6 (Config.slotWord k.1 k.2.1 k.2.2.1 k.2.2.2).toNat ++ [w.tag, 1]

/-- An unused slot: tag 0, not valid (R493). -/
def unusedSlot : List Byte := List.replicate 8 0

/-- What the control die puts into one downlink superframe. -/
structure DownFrame where
  seq : Byte
  loadA : Bool
  loadB : Bool
  frameA : Byte
  frameB : Byte
  /-- 24 duty entries in channel-instance order -/
  entries : List DutyEntry
  /-- at most four configuration writes -/
  slots : List CfgWrite
  deriving DecidableEq, Repr

/-- Characters 4 to 351. -/
def DownFrame.body (f : DownFrame) : List Byte :=
  [f.seq, BitVec.ofNat 8 (b2n f.loadA + 2 * b2n f.loadB), f.frameA, f.frameB] ++ f.entries.flatMap DutyEntry.bytes ++
    padTo 32 (f.slots.flatMap CfgWrite.bytes)

/-- The 384 characters: four commas, the body with its CRC, 28 fill characters (R22, R23). Character n travels on lane
n mod 4. -/
def DownFrame.chars (f : DownFrame) : List LinkChar :=
  List.replicate 4 .k28x5 ++ (sealed f.body).map .data ++ List.replicate 28 .k28x0

/-- Duty entry of a channel, and slot `i`, in a received body. -/
def entryAt (bs : List Byte) (c : Ch) : DutyEntry := DutyEntry.ofBytes (slice bs (4 + 13 * c.val) 13)
def slotAt (bs : List Byte) (i : Nat) : List Byte := slice bs (316 + 8 * i) 8

/-- Tag of a received slot; 0 where the slot is not valid. -/
def slotTag (slot : List Byte) : Byte := if (byteAt slot 7).getLsbD 0 then byteAt slot 6 else 0

/-! ### Uplink (R26) -/

/-- The content of one uplink superframe. -/
structure UpFrame where
  seq : Byte
  timeA : BitVec 16
  timeB : BitVec 16
  tagA : Byte
  tagB : Byte
  /-- codes of coils 1 and 2 of the 24 channels -/
  current : List (Int × Int)
  /-- flag characters of the 24 channels (R158) -/
  flags : List Byte
  vmA : BitVec 16
  vmB : BitVec 16
  bankA : Byte
  bankB : Byte
  temp : BitVec 16
  /-- tags of the four slots (R25) -/
  ack : List Byte
  deriving DecidableEq, Repr

/-- Two signed 12-bit codes in 3 characters. -/
def codeBytes (p : Int × Int) : List Byte := leBytes 3 (uint 12 p.1 + 4096 * uint 12 p.2)
def codesOf (bs : List Byte) : Int × Int := (sint 12 (leNat bs), sint 12 (leNat bs / 4096))

/-- Content characters 0 to 114. -/
def UpFrame.body (f : UpFrame) : List Byte :=
  [f.seq] ++ leBytes 2 f.timeA.toNat ++ leBytes 2 f.timeB.toNat ++ [f.tagA, f.tagB] ++ f.current.flatMap codeBytes ++ f.flags ++
    leBytes 2 f.vmA.toNat ++ leBytes 2 f.vmB.toNat ++ [f.bankA, f.bankB] ++ leBytes 2 f.temp.toNat ++ f.ack

/-- Content characters with the CRC and 27 fill characters. -/
def UpFrame.content (f : UpFrame) : List LinkChar := (sealed f.body).map .data ++ List.replicate 27 .k28x0

/-- Character of the superframe that carries content character `n`: two commas, then four stretches of 37 content
characters, each behind the 11 of a modulator slot; the last holds 35. -/
def contentChar (n : Nat) : Nat := 2 + 11 * (n / 37 + 1) + n

/-- The content that received characters spell. -/
def UpFrame.ofBytes (bs : List Byte) : UpFrame :=
  { seq := byteAt bs 0, timeA := BitVec.ofNat 16 (field bs 1 2), timeB := BitVec.ofNat 16 (field bs 3 2), tagA := byteAt bs 5,
    tagB := byteAt bs 6, current := (List.range 24).map fun i => codesOf (slice bs (7 + 3 * i) 3), flags := slice bs 79 24,
    vmA := BitVec.ofNat 16 (field bs 103 2), vmB := BitVec.ofNat 16 (field bs 105 2), bankA := byteAt bs 107,
    bankB := byteAt bs 108, temp := BitVec.ofNat 16 (field bs 109 2), ack := slice bs 111 4 }

def UpFrame.vm (f : UpFrame) (b : BankIx) : BitVec 16 := if b == 0 then f.vmA else f.vmB
def UpFrame.bank (f : UpFrame) (b : BankIx) : Byte := if b == 0 then f.bankA else f.bankB
def UpFrame.time (f : UpFrame) (b : BankIx) : BitVec 16 := if b == 0 then f.timeA else f.timeB
def UpFrame.tag (f : UpFrame) (b : BankIx) : Byte := if b == 0 then f.tagA else f.tagB
def UpFrame.codes (f : UpFrame) (c : Ch) : Int × Int := f.current.getD c.val (0, 0)
def UpFrame.flag (f : UpFrame) (c : Ch) : Byte := f.flags.getD c.val 0

end Sys2Proof.Machine
end

