-- ==== Sys2Proof/Machine/Can.lean ====
section
/-! DEFINITION. The CAN controllers (R373 to R399): bit timing, running, detection, filters, RX ring, TX buffers, timed
frames, fault confinement and the gateway's queue. What the firmware does with a gateway command stands in Mailbox. -/

namespace Sys2Proof.Machine

/-- Pulse of a controller's local source (R210). -/
def State.canPulse (s : State) (c : CanIx) (n : Nat) : State := s.pulse (1104 + 16 * c.val + n)

/-- A setting of a controller. -/
def State.canB (s : State) (c : CanIx) (id : Nat) : Bool := s.parB id c.val

/-! ### Bit timing (R374) -/

/-- Quanta of a bit, clocks of a bit at 80 MHz, and SJW no greater than TSEG2. -/
structure BitTime where
  quanta : Nat
  clocks : Nat
  sjwOk : Bool
  deriving DecidableEq, Repr

def bitTime (sjw tseg1 tseg2 brp : Nat) : BitTime :=
  { quanta := 1 + (tseg1 + 1) + (tseg2 + 1), clocks := (1 + (tseg1 + 1) + (tseg2 + 1)) * (brp + 1), sjwOk := sjw ≤ tseg2 }

def nominalTime (w : Nat) : BitTime := bitTime (bits w 31 25) (bits w 24 16) (bits w 15 9) (bits w 8 0)
def dataTime (w : Nat) : BitTime := bitTime (bits w 31 28) (bits w 27 23) (bits w 22 19) (bits w 18 14)

/-- CAN.NOMINAL and CAN.DATA hold values of their bit maps. -/
def nominalMapOk (w : Nat) : Bool :=
  bits w 31 25 < 128 && 1 ≤ bits w 24 16 && bits w 24 16 < 256 && 1 ≤ bits w 15 9 && bits w 15 9 < 128
def dataMapOk (w : Nat) : Bool := bits w 5 0 == 0

/-- The timing rules that a write of 1 to CAN.RUN checks. -/
def State.timingOk (s : State) (c : CanIx) : Bool :=
  let n := nominalTime (s.parN Pid.CAN_NOMINAL c.val)
  let d := dataTime (s.parN Pid.CAN_DATA c.val)
  80 ≤ n.clocks && 8 ≤ n.quanta && n.sjwOk && d.sjwOk &&
    (!s.canB c Pid.CAN_FD_ENABLE || (10 ≤ d.clocks && d.clocks ≤ n.clocks && 5 ≤ d.quanta))

/-- Candidate words of bit-rate detection (R378). -/
def candidateWord : Nat → Nat
  | 0 => 0x3E7E3E03
  | 1 => 0x3E7E3E01
  | 2 => 0x3E7E3E00
  | _ => 0x1E3E1E00

/-- First candidate of CAN.DETECT_SET after `k` in ascending rate, then the first again (R378). -/
def nextCandidate (set k : Nat) : Nat :=
  ((List.range 4).map fun i => (k + 1 + i) % 4).find? (fun i => set.testBit i) |>.getD k

/-! ### Running (R376 to R378) -/

/-- The controller takes part in bus traffic. -/
def Can.active (k : Can) : Bool := (k.phase == .onBus || k.phase == .leaving) && !k.busOff

/-- Start of a controller (R376, R378). -/
def State.startCan (s : State) (c : CanIx) : State :=
  let detect := s.canB c Pid.CAN_DETECT_ENABLE
  let first := nextCandidate (s.parN Pid.CAN_DETECT_SET c.val) 3
  let wasOff := (s.can c).busOff
  let s := (s.setPar Pid.CAN_RUN c.val 1).onCan c fun k =>
    { k with phase := .integrating, restricted := detect || s.canB c Pid.CAN_MODE, changePending := false, tec := 0,
             recv := 0, busOff := false, recovering := false, nextRxSeq := 1, detecting := detect, lockDue := false, dwellDue := false,
             candidate := if detect then first else k.candidate, validRun := 0,
             detectResult := if detect then 1 else k.detectResult,
             timing := BitVec.ofNat 32 (if detect then candidateWord first else s.parN Pid.CAN_NOMINAL c.val) }
  if wasOff then s.raise 0x0903 c.val [0] else s

/-- The controller has left the bus (R376). -/
def Can.stop (k : Can) : Can :=
  { k with phase := .stopped, detecting := false, recovering := false, changePending := false, lockDue := false, dwellDue := false,
           detectResult := if k.detecting then 0 else k.detectResult }

/-- A frame is in progress on the controller's bus: its own, or another node's, which the environment knows (R376, assumption 102). -/
def Can.inFrame (k : Can) (c fc : Nat) : Bool := k.sending.isSome || (k.active && Config.busBusy c fc)

/-- CAN.RUN = 0 takes the controller off the bus, at the end of the frame in progress, or at once if the bus is idle (R376). -/
def State.leaveBus (s : State) (c : CanIx) : State :=
  (s.setPar Pid.CAN_RUN c.val 0).onCan c fun k =>
    if k.phase == .stopped || k.phase == .leaving then k
    else if k.inFrame c.val s.fc then { k with phase := .leaving } else k.stop

/-- The frame in progress ends: a leaving controller has left the bus (R376). -/
def Can.frameEnd (k : Can) : Can := if k.phase == .leaving then k.stop else k

/-- A write of 1 to CAN.RUN on a controller that is still on the bus: it clears the error counters, and replaces a 0 that has not taken
effect (R10, R376, assumption 35). -/
def Can.runAgain (k : Can) : Can :=
  { k with tec := 0, recv := 0, phase := if k.phase == .leaving then .onBus else k.phase }

/-- A write of CAN.RUN (R374, R376). -/
def State.writeCanRun (s : State) (c : CanIx) (v : Int) : State × Result :=
  if v == 0 then (s.leaveBus c, .ok)
  else if !s.timingOk c then (s, .outOfRange)
  else if (s.can c).phase == .stopped then (s.startCan c, .ok)
  else ((s.setPar Pid.CAN_RUN c.val 1).onCan c Can.runAgain, .ok)

/-- A write of CAN.MODE (R377): it takes effect at the next bus idle. -/
def State.writeCanMode (s : State) (c : CanIx) (v : Int) : State × Result :=
  ((s.setPar Pid.CAN_MODE c.val v).onCan c fun k => { k with changePending := k.phase != .stopped }, .ok)

/-- Bus idle after a change of mode or of the candidate's timing (R377, R378); a leaving controller has left (R376). -/
def execCanModeChangeAtIdle (c : CanIx) (s : State) : Host.Outcome State Fault Refusal :=
  .next
    (if s.hwOn && (s.can c).phase == .leaving && (s.can c).sending.isNone then s.onCan c Can.frameEnd
     else if s.hwOn && (s.can c).changePending && (s.can c).phase != .stopped then
      s.onCan c fun k =>
        { k with changePending := false, restricted := k.detecting || s.canB c Pid.CAN_MODE,
                 timing := BitVec.ofNat 32
                   (if k.detecting then candidateWord k.candidate else s.parN Pid.CAN_NOMINAL c.val) }
    else s)

/-- 11 consecutive recessive bits after a start (R376). -/
def execCanIntegrated (c : CanIx) (s : State) : Host.Outcome State Fault Refusal :=
  .next
    (if s.hwOn && (s.can c).phase == .integrating then s.onCan c fun k => { k with phase := .onBus } else s)

/-- The candidate is in use: its bit timing has been taken up at a bus idle (R378). -/
def Can.onCandidate (k : Can) : Bool := k.detecting && k.timing.toNat == candidateWord k.candidate

/-- The firmware locks the candidate: its word is the nominal bit timing from here on (R378). -/
def State.lockCandidate (s : State) (c : CanIx) : State :=
  let s := (s.setPar Pid.CAN_NOMINAL c.val (candidateWord (s.can c).candidate)).onCan c fun k =>
    { k with detecting := false, validRun := 0, lockDue := false, dwellDue := false, detectResult := k.candidate + 2 }
  if s.canB c Pid.CAN_DETECT_TO_NORMAL then
    (s.setPar Pid.CAN_MODE c.val 0).onCan c fun k => { k with changePending := true }
  else s

/-- The firmware tries the next candidate of the search (R378). -/
def State.nextStep (s : State) (c : CanIx) : State :=
  s.onCan c fun k =>
    { k with candidate := nextCandidate (s.parN Pid.CAN_DETECT_SET c.val) k.candidate, validRun := 0, dwellDue := false
             changePending := true }

/-- The step of a search that is due, as soon as the firmware runs: a lock, or the next candidate (R378, R397). -/
def State.settleSearch (s : State) (c : CanIx) : State :=
  let k := s.can c
  if !(s.fwOn && k.detecting) then s
  else if k.lockDue then s.lockCandidate c
  else if k.dwellDue then s.nextStep c
  else s

/-- CAN.DETECT_DWELL expires: the firmware tries the next candidate; in an Eclipse the step waits for the restart (R378, R397). -/
def execDetectDwellExpiry (c : CanIx) (s : State) : Host.Outcome State Fault Refusal :=
  .next
    (if s.hwOn && (s.can c).detecting then (s.onCan c fun k => { k with dwellDue := true }).settleSearch c
    else s)

/-- One valid frame: in a search it counts for the candidate whose bit timing is in use, and CAN.DETECT_FRAMES in a row lock it
(R378). -/
def Can.countValid (k : Can) (frames : Nat) : Can :=
  if k.onCandidate then { k with validRun := k.validRun + 1, lockDue := k.lockDue || frames ≤ k.validRun + 1 } else k

def State.detectFrame (s : State) (c : CanIx) : State :=
  (s.onCan c fun k => k.countValid (s.parN Pid.CAN_DETECT_FRAMES c.val)).settleSearch c

/-! ### Acceptance filters (R379) -/

/-- Instance of filter `f` of a controller. -/
def filterIx (c : CanIx) (f : Nat) : Nat := c.val * 128 + f

/-- A filter word matches a frame. -/
def filterMatches (w : Nat) (f : CanFrame) : Bool :=
  let format := bits w 30 29
  let mask := bits w 60 32
  let id := bits w 28 0
  let width := if f.ext then 2 ^ 29 else 2 ^ 11
  (if f.ext then format == 1 || format == 2 else format == 0 || format == 2) &&
    ((f.ident.toNat ^^^ id) &&& mask) % width == 0

/-- Filters of a controller in use that match, in number order. -/
def State.matching (s : State) (c : CanIx) (f : CanFrame) : List (Fin 128) :=
  (List.finRange 128).filter fun i =>
    s.parN Pid.CAN_FLT_ACTION (filterIx c i.val) % 4 != 0 && filterMatches (s.parN Pid.CAN_FLT_MATCH (filterIx c i.val)) f

/-! ### The RX ring (R380 to R382) -/

/-- RX_OVERRUN with the count since the previous report (R380). -/
def State.reportRxOverrun (s : State) (c : CanIx) : State :=
  (s.onCan c fun k => { k with overrunNew := 0, ovrLimited := true }).raise 0x0906 c.val
    (leBytes 4 (s.can c).overrunNew)

/-- One frame lost to a full ring (R380). -/
def State.rxOverrun (s : State) (c : CanIx) : State :=
  let s := (s.onCan c fun k =>
    { k with overruns := satAdd (2 ^ 32 - 1) k.overruns 1, overrunNew := k.overrunNew + 1 }).canPulse c 8
  if (s.can c).ovrLimited then s else s.reportRxOverrun c

/-- The ring takes a frame; RX_SEQ runs from 1 to 65,535 and then from 1 again (R381). -/
def Can.push (k : Can) (filter : Nat) (dflt : Bool) (f : CanFrame) (time : Nat) : Can :=
  { k with ring := k.ring ++ [⟨k.nextRxSeq, filter, dflt, f, time⟩],
           nextRxSeq := if k.nextRxSeq == 65535 then 1 else k.nextRxSeq + 1 }

/-- A frame is to be stored (R380). -/
def State.storeRx (s : State) (c : CanIx) (filter : Nat) (dflt : Bool) (f : CanFrame) (stamp : Nat) : State :=
  if (s.can c).ring.length < 64 then (s.onCan c fun k => k.push filter dflt f stamp).canPulse c 0
  else if s.canB c Pid.CAN_RX_OVERWRITE then
    (((s.onCan c fun k => { k with ring := k.ring.drop 1 }).onCan c fun k => k.push filter dflt f stamp).canPulse c 0).rxOverrun c
  else s.rxOverrun c

/-- A write of CAN.RX_POP (R381). -/
def State.writeRxPop (s : State) (c : CanIx) (v : Int) : State × Result :=
  match (s.can c).ring with
  | [] => (s, .wrongState)
  | h :: rest => if (h.seq : Int) == v then (s.onCan c fun k => { k with ring := rest }, .ok) else (s, .wrongState)

/-- CAN.RX_HEAD of a stored frame (R381). -/
def RxFrame.head (r : RxFrame) : Nat :=
  r.seq * 2 ^ 48 + r.filter * 2 ^ 41 + b2n r.default * 2 ^ 40 + r.frame.data.length * 2 ^ 33 + b2n r.frame.esi * 2 ^ 32 +
    b2n r.frame.fd * 2 ^ 31 + b2n r.frame.brs * 2 ^ 30 + b2n r.frame.ext * 2 ^ 29 + r.frame.ident.toNat

/-! ### Reception (R379, R388, R391, R392) -/

/-- A frame refused by the gateway. -/
def State.gwRefuse (s : State) (c : CanIx) : State :=
  s.onCan c fun k => { k with gwRefused := satAdd (2 ^ 32 - 1) k.gwRefused 1 }

/-- A frame governed by a filter with ACTION 2 while the gateway is enabled (R391, R392, R395). -/
def State.gwReceive (s : State) (c : CanIx) (f : CanFrame) : State :=
  let k := s.can c
  if !f.fd || f.data.length < 8 || k.restricted || 8 ≤ k.gwQueue.length then s.gwRefuse c
  else s.onCan c fun k => { k with gwQueue := k.gwQueue ++ [(f.data, s.boot.eclipse || s.boot.halted)] }

/-- What becomes of a frame under its governing filter, or under CAN.RX_DEFAULT; a remote frame is not stored, and one for the
gateway is refused as every classic frame (R373, R379, R391). -/
def State.govern (s : State) (c : CanIx) (f : CanFrame) (stamp : Nat) (g : Option (Fin 128)) : State :=
  match g with
  | none => if s.canB c Pid.CAN_RX_DEFAULT && !f.rtr then s.storeRx c 0 true f stamp else s
  | some i =>
    let a := s.parN Pid.CAN_FLT_ACTION (filterIx c i.val)
    let tag := a / 4 % 8
    let s := if 1 ≤ tag && tag ≤ 4 then s.canPulse c (10 + tag) else s
    if a % 4 == 2 && s.canB c Pid.CAN_GW_ENABLE then s.gwReceive c f
    else if f.rtr || a % 4 == 3 || a % 4 == 0 then s
    else s.storeRx c i.val false f stamp

/-- The receive error counter after a good frame (R388, ISO 11898-1). -/
def Can.goodRx (c : Nat) (k : Can) : Can :=
  if k.restricted || k.recv == 0 then k
  else { k with recv := if k.recv ≤ 127 then k.recv - 1 else 119 + (Config.recAfterPassive c k.recv).val }

/-- A frame is valid on the bus (R378 to R380). -/
def State.receiveCan (s : State) (c : CanIx) (f : CanFrame) (stamp : Nat) : State :=
  let ms := s.matching c f
  let s := s.onCan c fun k =>
    { k.goodRx c.val with hits := ms.foldl (fun h i => upd h i fun n => satAdd (2 ^ 32 - 1) n 1) k.hits }
  (s.govern c f stamp ms.head?).detectFrame c

/-- A frame of another node becomes valid, `sofTicks` after the sample point of its SOF (R376, R382). -/
def execCanFrameReceived (c : CanIx) (f : CanFrame) (sofTicks : Nat) (s : State) : Host.Outcome State Fault Refusal :=
  .next
    (if s.hwOn && (s.can c).active && (!f.fd || s.canB c Pid.CAN_FD_ENABLE) then
      (s.receiveCan c f (s.time - sofTicks)).onCan c Can.frameEnd
     else s)

/-! ### TX buffers (R362, R383 to R387) -/

/-- Buffer 31 carries gateway answers only while the gateway is enabled (R383). -/
def State.openToTx (s : State) (c : CanIx) (b : Fin 32) : Bool := !(s.canB c Pid.CAN_GW_ENABLE && b.val == 31)

/-- Free buffers open to CAN_TX (CAN.TX_FREE). -/
def State.txFree (s : State) (c : CanIx) : List (Fin 32) :=
  (List.finRange 32).filter fun b => s.openToTx c b && ((s.can c).tx[b]).isNone

/-- A buffer is filled under its next generation (R383, R384). -/
def State.fillTx (s : State) (c : CanIx) (b : Fin 32) (f : CanFrame) (timed : Bool) (t : Nat) : State × Nat :=
  let gen := ((s.can c).gens[b] + 1) % 2048
  let handle := gen * 32 + b.val
  (s.onCan c fun k =>
    { k with gens := k.gens.set b gen, txOrder := k.txOrder + 1,
             tx := k.tx.set b (some { frame := f, handle := handle, timed := timed, txTime := t,
                                      pending := !timed || t ≤ s.time, begun := false, late := false,
                                      order := k.txOrder, sof := 0 }) }, handle)

/-- Place of a frame in arbitration: the lower wins (ISO 11898-1). -/
def arbitration (f : CanFrame) : Nat :=
  if f.ext then f.ident.toNat / 2 ^ 18 * 2 ^ 20 + 2 ^ 19 + f.ident.toNat % 2 ^ 18 else f.ident.toNat % 2 ^ 11 * 2 ^ 20

/-- One frame is offered before another (R384). -/
def TxFrame.before (a b : TxFrame) : Bool :=
  arbitration a.frame < arbitration b.frame || (arbitration a.frame == arbitration b.frame && a.order ≤ b.order)

/-- The pending frame in a buffer, if any. -/
def Can.pendingIn (k : Can) (b : Fin 32) : Option TxFrame := k.tx[b].filter fun f => f.pending

/-- The frame in buffer `b` is the one offered (R384). -/
def Can.offered (k : Can) (b : Fin 32) : Bool :=
  match k.pendingIn b with
  | none => false
  | some f => (List.finRange 32).all fun d => (k.pendingIn d).all fun g => f.before g

/-- One buffer's frame changed. -/
def State.onTx (s : State) (c : CanIx) (b : Fin 32) (g : TxFrame → TxFrame) : State :=
  s.onCan c fun k => { k with tx := k.tx.set b (k.tx[b].map g) }

/-- A withdrawal (R386). -/
def State.withdraw (s : State) (c : CanIx) (b : Fin 32) : State :=
  match (s.can c).tx[b] with
  | none => s
  | some f =>
    ((s.onCan c fun k => { k with tx := k.tx.set b none }).canPulse c 2).raise 0x0902 c.val (leBytes 2 f.handle)

/-- A timed frame becomes pending once device time has reached its TX_TIME (R384). -/
def State.reachTx (s : State) (c : CanIx) (buf : Fin 32) : State :=
  match (s.can c).tx[buf] with
  | some f => if s.hwOn && f.timed && f.txTime ≤ s.time then s.onTx c buf fun f => { f with pending := true } else s
  | none => s

/-- Device time reaches TX_TIME (R384). -/
def execTxTimeReached (c : CanIx) (buf : Fin 32) (s : State) : Host.Outcome State Fault Refusal := .next (s.reachTx c buf)

/-- Fabric cycles from the start of a nominal bit to its sample point, at the bit timing in use (R374): 3 to a clock of 80 MHz. -/
def Can.sampleFc (k : Can) : Nat := (2 + bits k.timing.toNat 24 16) * (bits k.timing.toNat 8 0 + 1) * 3

/-- The controller is error-passive (R388). -/
def Can.passive (k : Can) : Bool := 128 ≤ k.tec || 128 ≤ k.recv

/-- The SOF of the offered frame is driven; the error-state indicator of an FD frame says whether the controller is
error-passive (R373, R382, R384, R385). -/
def State.beginTx (s : State) (c : CanIx) (b : Fin 32) : State :=
  let timed := ((s.can c).tx[b].map fun f => f.timed).getD false
  let esi := (s.can c).passive
  let s := (s.onTx c b fun f => { f with begun := true, frame := { f.frame with esi := f.frame.fd && esi } }).onCan c fun k =>
    { k with sending := some b, sofAt := some (s.fc + k.sampleFc) }
  if timed then s.canPulse c 3 else s

/-- The sample point of a SOF lies in fabric cycle `fc`: its device time stamps the attempt (R382). -/
def Can.stampSof (k : Can) (fc time : Nat) : Can :=
  match k.sofAt, k.sending with
  | some a, some b =>
    if a ≤ fc then { k with sofAt := none, tx := k.tx.set b (k.tx[b].map fun f => { f with sof := time }) } else k
  | _, _ => k

/-- The frame of a buffer can begin (R376, R377, R384, R388). -/
def State.canBegin (s : State) (c : CanIx) (buf : Fin 32) : Bool :=
  let k := s.can c
  s.hwOn && k.phase == .onBus && !k.busOff && !k.restricted && k.sending.isNone && k.offered buf

def execTxTimedStart (c : CanIx) (buf : Fin 32) (s : State) : Host.Outcome State Fault Refusal :=
  .next (if s.canBegin c buf then s.beginTx c buf else s)

/-- The state in which a start that waits finds the frames: every TX_TIME_REACHED that waits before it has come (R384, R396). -/
def State.atStart (s : State) (c : CanIx) (buf : Fin 32) : State :=
  s.forAll (s.pending.takeWhile (· != .txTimedStart c buf)) fun i s =>
    match i with
    | .txTimeReached d b => s.reachTx d b
    | _ => s

/-- The frame has begun, or begins in this fabric cycle: commands that wait are of the same one (R396, assumption 7). -/
def State.begins (s : State) (c : CanIx) (buf : Fin 32) (f : TxFrame) : Bool :=
  f.begun || (s.pending.contains (.txTimedStart c buf) && (s.atStart c buf).canBegin c buf)

/-- A success frees the buffer and is reported as CAN.TX_REPORT selects, with the time stamp of this attempt (R382,
R385); TEC falls by one (R388). -/
def State.txSuccess (s : State) (c : CanIx) (b : Fin 32) (f : TxFrame) : State :=
  let report := s.parN Pid.CAN_TX_REPORT c.val
  let s := (s.onCan c fun k => { k with tx := k.tx.set b none, tec := k.tec - 1 }).canPulse c 1
  if report == 2 || (report == 1 && f.timed) then s.raiseAt f.sof 0x0901 c.val (leBytes 2 f.handle) else s

/-- End of an attempt (R376, R385, R386): after lost arbitration the winner's frame is in progress. -/
def State.endTx (s : State) (c : CanIx) (b : Fin 32) (f : TxFrame) (e : TxEnd) : State :=
  let s := s.onCan c fun k => { k with sending := none, sofAt := none }
  let s := match e with
    | .success => s.txSuccess c b f
    | _ => if f.late then s.withdraw c b else s.onTx c b fun f => { f with begun := false }
  if e == .lostArbitration then s else s.onCan c Can.frameEnd

def execTxAttemptEnd (c : CanIx) (e : TxEnd) (s : State) : Host.Outcome State Fault Refusal :=
  .next
    (match (s.can c).sending with
     | some b =>
       match (s.can c).tx[b] with
       | some f => if s.hwOn then s.endTx c b f e else s
       | none => s
     | none => s)

/-- Device time has reached TX_TIME plus CAN.LATE_LIMIT; the largest limit withdraws nothing (R386). -/
def State.tooLate (s : State) (c : CanIx) (t : Nat) : Bool :=
  let limit := s.parN Pid.CAN_LATE_LIMIT c.val
  limit != 4294967295 && t + limit ≤ s.time

def execTxLateDropped (c : CanIx) (buf : Fin 32) (s : State) : Host.Outcome State Fault Refusal :=
  .next
    (match (s.can c).tx[buf] with
     | some f =>
       if s.hwOn && f.timed && s.tooLate c f.txTime then
         if s.begins c buf f then s.onTx c buf fun f => { f with late := true } else s.withdraw c buf
       else s
     | none => s)

/-- The checks and the effect of CAN_TX after those of R362 on its fields (R383, R497): a result and the handle. It fills the
lowest free buffer: the rule says a free one (DESIGN CHOICE, assumption 98). -/
def State.canTx (s : State) (c : CanIx) (f : CanFrame) (timed : Bool) (t : Nat) : State × Result × Nat :=
  let k := s.can c
  if k.phase == .stopped || k.restricted || k.busOff ||
      (f.fd && !s.canB c Pid.CAN_FD_ENABLE) ||
      (timed && t + s.parN Pid.CAN_LATE_LIMIT c.val < s.time) then
    (s, .wrongState, 0)
  else
    match s.txFree c with
    | [] => (s, .noCredit, 0)
    | b :: _ => ((s.fillTx c b f timed t).1, .ok, (s.fillTx c b f timed t).2)

/-- CAN_CANCEL on a handle (R387): the OUTCOME. -/
def State.canCancel (s : State) (c : CanIx) (handle : Nat) : State × Nat :=
  let b : Fin 32 := ⟨handle % 32, Nat.mod_lt _ (by decide)⟩
  match (s.can c).tx[b] with
  | some f =>
    if f.handle != handle then (s, 2)
    else if s.begins c b f then (s, 1)
    else (s.onCan c fun k => { k with tx := k.tx.set b none }, 0)
  | none => (s, 2)

/-! ### Fault confinement (R377, R388 to R390) -/

/-- Error counters after an error (ISO 11898-1). -/
def Can.countError (k : Can) (e : CanErr) : Can :=
  match e with
  | .receiver => { k with recv := satAdd 65535 k.recv 1 }
  | .receiverPrimary => { k with recv := satAdd 65535 k.recv 8 }
  | .transmitter => { k with tec := satAdd 65535 k.tec 8 }

/-- A bus error (R377, R378, R388, R389). -/
def State.canError (s : State) (c : CanIx) (e : CanErr) : State :=
  let s := s.onCan c fun k => { k with validRun := 0 }
  if (s.can c).restricted then s.onCan c fun k => { k with phase := if k.phase == .onBus then .integrating else k.phase }
  else
    let s := s.onCan c fun k => k.countError e
    if 255 < (s.can c).tec then
      (s.onCan c fun k => { k with busOff := true, recovering := s.canB c Pid.CAN_BUSOFF_AUTO }).raise 0x0903 c.val [1]
    else s

def execCanBusError (c : CanIx) (e : CanErr) (s : State) : Host.Outcome State Fault Refusal :=
  .next (if s.hwOn && (s.can c).active then (s.canError c e).onCan c Can.frameEnd else s)

/-- A write of 1 to CAN.RECOVER (R389). -/
def State.writeCanRecover (s : State) (c : CanIx) : State × Result :=
  if (s.can c).busOff then (s.onCan c fun k => { k with recovering := true }, .ok) else (s, .wrongState)

/-- Recovery ends (R388, R389). -/
def State.reintegrate (s : State) (c : CanIx) : State :=
  let keep := s.canB c Pid.CAN_KEEP_TX_ON_REJOIN
  let s := (s.onCan c fun k =>
    { k with tec := 0, recv := 0, busOff := false, recovering := false,
             sending := if keep then k.sending else none, sofAt := if keep then k.sofAt else none,
             tx := if keep then k.tx else Vector.replicate 32 none }).canPulse c 10
  (s.raise 0x0903 c.val [0]).raise 0x0905 c.val [BitVec.ofNat 8 (b2n keep)]

def execReintegrated (c : CanIx) (s : State) : Host.Outcome State Fault Refusal :=
  .next (if s.hwOn && (s.can c).busOff && (s.can c).recovering then s.reintegrate c else s)

/-- BUS_STUCK sets or clears (R390). -/
def execBusStuck (c : CanIx) (on : Bool) (s : State) : Host.Outcome State Fault Refusal :=
  .next
    (if s.hwOn && s.hasCan c && (s.can c).stuck != on then
      (s.onCan c fun k => { k with stuck := on }).raise 0x0904 c.val [BitVec.ofNat 8 (b2n on)]
    else s)

/-! ### CAN.STATUS (R399) -/

def Can.status (k : Can) : Nat :=
  let running := k.phase != .stopped
  b2n running + 2 * b2n k.active + 4 * b2n (k.restricted && running) + 8 * b2n (96 ≤ k.tec || 96 ≤ k.recv) +
    16 * b2n k.passive + 32 * b2n k.busOff + 64 * b2n k.stuck + 128 * b2n k.recovering +
    256 * b2n k.detecting

end Sys2Proof.Machine
end

