-- ==== Sys2Proof/Machine/Respond.lean ====
section
/-! DEFINITION. Answers to commands: response records, gateway answers, and the completion of a command that waited for
tag echoes (R349 to R354, R393, R394, R493). -/

namespace Sys2Proof.Machine

/-! ### Fields of a command record (R345) -/

def recOp (r : List Byte) : Nat := (byteAt r 0).toNat
def recInst (r : List Byte) : Nat := (byteAt r 1).toNat
def recLen (r : List Byte) : Nat := field r 2 2
def recTag (r : List Byte) : Nat := field r 4 2

/-- Data padded with 0 to a multiple of 4. -/
def pad4 (bs : List Byte) : List Byte := bs ++ List.replicate ((4 - bs.length % 4) % 4) 0

/-- A response record (R354). -/
def respRecord (record : List Byte) (seq : Nat) (r : Result) (detail : Nat) (data : List Byte) : List Byte :=
  let d := pad4 data
  [byteAt record 0, r.code] ++ leBytes 2 (16 + d.length) ++ leBytes 2 (recTag record) ++ [byteAt record 1, 0] ++
    leBytes 4 seq ++ leBytes 4 detail ++ d

/-- The smallest FD length that holds `n` bytes (R393). -/
def fdLength (n : Nat) : Nat := ([0, 1, 2, 3, 4, 5, 6, 7, 8, 12, 16, 20, 24, 32, 48, 64].find? fun l => n ≤ l).getD 64

/-- A gateway answer leaves from buffer 31 (R393). -/
def State.gwSend (s : State) (c : CanIx) (answer : List Byte) : State :=
  let ident := s.parN Pid.CAN_GW_TX_IDENT c.val
  (s.fillTx c 31
    { ident := BitVec.ofNat 29 ident, ext := ident.testBit 29, rtr := false, fd := true, brs := s.canB c Pid.CAN_GW_BRS, esi := false,
      data := padTo (fdLength answer.length) answer } false 0).1

/-- The answer to an accepted command: in window 2 for the host, on the bus for the gateway, which also records it
against a repeat (R350, R353, R393, R394). -/
def State.answer (s : State) (via : Option CanIx) (record : List Byte) (seq : Nat) (r : Result) (detail : Nat)
    (data : List Byte) : State :=
  let a := respRecord record seq r detail data
  let s := { s with mbx := { s.mbx with doneSeq := seq } }
  match via with
  | none => { s with mbx := { s.mbx with responses := s.mbx.responses ++ [a] } }
  | some c => (s.onCan c fun k => { k with gwLast := some (record.take (recLen record), a) }).gwSend c a

/-- Who issued a command. -/
def sourceOf (via : Option CanIx) : Source := if via.isSome then .cangw else .host

/-! ### Eclipse (R309, R310, R316) -/

/-- Restart attempts made once the next one begins: within one Eclipse, or within 10 s of the end of the previous one,
they add up. -/
def State.nextAttempt (s : State) : Nat :=
  let shared := s.boot.eclipse || s.boot.lastEnd.any fun e => s.fc < e + 2400000000
  if shared then s.boot.attempts + 1 else 1

/-- A cause of R309 arises: the processor is halted and the restart begins, from its second step where one runs
already; with the three attempts used up it stays halted. Collecting calibration steps end (R261). -/
def State.eclipseStart (s : State) (cause : Nat) : State :=
  let fresh := !s.boot.eclipse
  let used := 3 < s.nextAttempt
  let b := { s.boot with eclipse := !used, halted := used, cause := cause, attempts := min 3 s.nextAttempt,
                         result := if used then 3 else 0, elapsed := if fresh then 0 else s.boot.elapsed,
                         count := satAdd (2 ^ 32 - 1) s.boot.count (b2n fresh),
                         expired := s.boot.expired && !fresh, testPending := s.boot.testPending && cause != 6 }
  ({ s with boot := b } : State).interruptCals

/-- The restart that DEV.ECLIPSE_TEST asked for begins once the response is written (R309, R317). -/
def State.testEclipse (s : State) : State := if s.boot.testPending && s.fwOn then s.eclipseStart 6 else s

/-- The entry that DEV.STANDBY asked for begins once the response is written: the wake latch is cleared (R427, R428). -/
def State.armEntry (s : State) : State :=
  if s.power.entering == .asked then { s with power := { s.power with entering := .armed, wakeLatch := false } } else s

/-- What begins when a response has been written. -/
def State.afterResponse (s : State) : State := s.testEclipse.armEntry

/-! ### Waiting for tag echoes (R25, R161, R493) -/

/-- A tag has been echoed: its write is done, and the tag rests (R493). -/
def Link.echoed (l : Link) (t : Byte) : Link :=
  if l.cfg.any fun w => w.tag == t then
    { l with cfg := l.cfg.filter (fun w => w.tag != t), cooling := l.cooling ++ [(t, 0)] }
  else l

/-- Writes that waited for a tag take one while any is free; answers the tags that the waiting command waits for. -/
def Link.promote : Nat → Link → List Byte → Link × List Byte
  | 0, l, ts => (l, ts)
  | n + 1, l, ts =>
    match l.backlog with
    | [] => (l, ts)
    | (k, waited) :: rest =>
      if l.freeTag == 0 then (l, ts)
      else Link.promote n ({ l with backlog := rest }.issue k waited) (if waited then ts ++ [l.freeTag] else ts)

/-- The events that a command has caused are posted after its response (R350). -/
def State.postHeld (s : State) : State :=
  { s with mbx := { s.mbx with held := [] } }.forAll s.mbx.held fun e s => s.ringUp e

/-- The command that waits completes: latches of CLEAR_FAULT are gone, an ENABLE that waited begins, and its answer is
written (R161, R496). -/
def State.complete (s : State) (w : Waiting) : State :=
  let s := { s with mbx := { s.mbx with waiting := none } }
  (((s.forAll w.clears fun c s => s.finishClear c).forAll w.starts fun c s => s.lateEnable w.starts c).answer w.via w.record w.seq w.result
    w.detail w.data).postHeld.afterResponse

/-- The waiting command completes once no write of it is left (R493); the firmware writes the answer (R350). -/
def State.tryComplete (s : State) : State :=
  match s.mbx.waiting with
  | some w => if w.tags.isEmpty && !(s.link.backlog.any (·.2)) && s.sec.otpOp == 0 && s.fwOn then s.complete w else s
  | none => s

/-- Echo of one tag (R493). -/
def State.echo (s : State) (t : Byte) : State :=
  let r := (s.link.echoed t).promote 255 []
  let w := s.mbx.waiting.map fun w => { w with tags := w.tags.filter (· != t) ++ r.2 }
  ({ s with link := r.1, mbx := { s.mbx with waiting := w } } : State).tryComplete

/-- The command that waited when R36 or R306 ended its writes (R493): a SET stands, anything else has no effect. -/
def Waiting.abandon (w : Waiting) : Waiting :=
  if recOp w.record == 2 then { w with tags := [], clears := [], starts := [] }
  else { w with tags := [], result := .wrongState, detail := 0, data := [], clears := [], starts := [] }

def State.abandonWaiting (s : State) : State :=
  ({ s with mbx := { s.mbx with waiting := s.mbx.waiting.map Waiting.abandon } } : State).tryComplete

/-- No configuration write is sent any more (R493). -/
def State.dropWrites (s : State) : State :=
  { s with link := { s.link with cfg := [], backlog := [], answers := false } }.abandonWaiting

end Sys2Proof.Machine
end

