-- ==== Sys2Proof/Machine/Link.lean ====
section
/-! DEFINITION. The Shonak link (R21 to R41, R493, R494): superframes both ways, urgent symbols, silence, and what the
control die does with the reports of the power die (R158 to R161). -/

namespace Sys2Proof.Machine

/-! ### Downlink (R23 to R25, R30 to R35) -/

/-- Configuration slots of the next downlink superframe: the oldest four writes (R23, R493). -/
def Link.slots (l : Link) : List CfgWrite := l.cfg.take 4

/-- Every latch of a channel is cleared; a safe input or over-temperature keeps it in park (R161, R169, R171). -/
def State.pdClear (s : State) (c : Ch) : State := s.onPdChan c fun k => k.clear ((s.pdBank (bankOf c)).safe || s.pd.ot)

/-- The write that prepares a channel: its slice is powered and the latches of trips are cleared; a park latch stays (R161,
R171, R430, R496). -/
def State.pdPrepare (s : State) (c : Ch) : State := s.onPdChan c fun k => { k.clearTrips with slice := true }

/-- The power die's start-up state is cleared (R305): latches gone, charge pumps, monitors, park logic and timebases on
(R430). A pump runs only while its bank's VM stands above 6 V (R417). A safe input or over-temperature parks at once. -/
def State.pdStartUp (s : State) : State :=
  let s := s.forAll allCh fun c s => s.onPdChan c fun k => k.clear false
  let s := (s.onPdBank 0 fun k => { k with pump := true }).onPdBank 1 fun k => { k with pump := true }
  let s : State := { s with pd := { s.pd with units := true } }
  let s := if (s.pdBank 0).safe then s.pdPark (bankMask 0) else s
  let s := if (s.pdBank 1).safe then s.pdPark (bankMask 1) else s
  if s.pd.ot then s.pdPark allMask else s

/-- A setting reaches the power die (R175); a disabled chopper stays at 0 V (R164). -/
def State.pdSet (s : State) (id inst : Nat) (v : Int) : State :=
  let s := { s with pd := { s.pd with config := Sparse.put (resetOf id) s.pd.config (pkey id inst) v } }
  if id == Pid.BANK_CHOP_ENABLE && v == 0 then
    { s with pd := { s.pd with banks := s.pd.banks.mapFinIdx fun b k _ => if b == inst then { k with chop := false } else k } }
  else s

/-- Deep standby of the power die: gates held off, pumps, park logic and watchdog off (R428). -/
def State.pdStandby (s : State) : State :=
  { s with pd := { s.pd with standby := true, units := false, chans := Vector.replicate 24 PdChan.init,
                             banks := s.pd.banks.map fun b => { b with pump := false, chop := false } } }

/-- One configuration slot applied (R25). -/
def State.applyCfg (s : State) (k : CfgKind) : State :=
  match k with
  | .param id inst v => s.pdSet id inst v
  | .clear c => s.pdClear c
  | .prepare c => s.pdPrepare c
  | .sliceOff c => s.onPdChan c fun k => { k with slice := false }
  | .startUp => s.pdStartUp
  | .adcRun m on => if on && !s.runs m then (s.applyRun m on).markFigures m else s.applyRun m on
  | .standby => s.pdStandby
  | .vexc b on => s.onPdBank b fun x => { x with vexc := on }

/-- A received slot is applied unless it is unused or its tag was applied in one of the last 32 superframes (R25, R493):
address and data name the write whose characters these are. -/
def State.applySlot (s : State) (slot : List Byte) : State :=
  if slotTag slot == 0 || s.pd.applied.any (fun ts => ts.contains (slotTag slot)) then s
  else match s.link.cfg.find? fun w => w.bytes == slot with
    | some w => s.applyCfg w.kind
    | none => s

/-- What the control die sends in its next superframe: the entries computed last, and the oldest four writes (R23, R39,
R493). -/
def State.downFrame (s : State) : DownFrame :=
  { seq := s.link.seq, loadA := (s.bank 0).load, loadB := (s.bank 1).load, frameA := (s.bank 0).frame,
    frameB := (s.bank 1).frame, entries := allCh.map fun c => (s.chan c).coil.next.entry, slots := s.link.slots }

/-- Downlink characters 4 to 355 as the power die receives them. -/
def State.downBytes (s : State) (noise : List (Nat × Byte)) : List Byte := noisy (· + 4) noise (sealed s.downFrame.body)

/-- A good downlink superframe: entries to the shadow store, then the slots in order; the four tags are echoed (R25, R39,
R493). -/
def State.goodDownlink (s : State) (bs : List Byte) : State :=
  let s := s.forAll allCh fun c s => s.onPdChan c fun k => { k with shadow := entryAt bs c, shadowOld := k.shadow }
  let s := s.forAll [0, 1] fun b s => s.onPdBank b fun k =>
    { k with load := (byteAt bs 1).getLsbD b.val, frame := byteAt bs (2 + b.val), came := s.fc
             loadOld := k.load, frameOld := k.frame, cameOld := k.came }
  let slots := (List.range 4).map (slotAt bs)
  let s := s.forAll slots fun w s => s.applySlot w
  let tags := slots.map slotTag
  { s with pd := { s.pd with downSeq := byteAt bs 0, ack := tags, applied := (tags :: s.pd.applied).take 32 }
           link := { s.link with goodDown := min 64 (s.link.goodDown + 1) } }

/-- A downlink superframe whose CRC fails is discarded whole and counted; the tags kept age with it (R34, R493). -/
def State.badDownlink (s : State) : State :=
  { s with pd := { s.pd with crcErr := min 3 (s.pd.crcErr + 1), applied := ([] :: s.pd.applied).take 32 }
           link := { s.link with goodDown := 0 } }

/-- The rest of a tag after its echo is counted in superframes sent (R493). -/
def Link.rest (l : Link) : Link :=
  { l with seq := l.seq + 1, cooling := (l.cooling.map fun p => (p.1, p.2 + 1)).filter fun p => p.2 < 48 }

/-- A downlink superframe (R23, R25, R34, R493); a power die that does not run receives none (R306). -/
def State.downlink (s : State) (noise : List (Nat × Byte)) : State :=
  let bs := s.downBytes noise
  let t := if !s.pdOn then s else if sealOk 348 bs then s.goodDownlink bs else s.badDownlink
  { t with link := t.link.rest }

def execDownlinkSuperframe (noise : List (Nat × Byte)) (s : State) : Host.Outcome State Fault Refusal :=
  .next (if s.hwOn && s.link.txOn then s.downlink noise else s)

/-- SOFT_OFF and HOLD on one channel (R30 to R32). -/
def PdChan.softOff (k : PdChan) : PdChan := { k.startOff with softIgnore := true, hold := 0 }
def PdChan.holdOrder (k : PdChan) : PdChan := if k.park || k.softIgnore then k else { k with hold := 2 }

/-- The urgent order of a symbol on the power die (R30 to R32, R170). -/
def State.urgent (s : State) (type : Nat) (m : BitVec 24) : State :=
  match type with
  | 1 => s.forAll (maskChs m) fun c s => s.onPdChan c PdChan.softOff
  | 2 => s.forAll (maskChs m) fun c s => s.onPdChan c PdChan.holdOrder
  | 3 => s.pdPark m
  | _ => { s with pd := { s.pd with linkErrors := s.pd.linkErrors + 1 } }

/-- Orders for channels already in the ordered state are not sent (R31, assumption 66). -/
def State.stillPending (s : State) : State :=
  { s with link := { s.link with softOff := s.notYet (·.softIgnore) s.link.softOff, park := s.notYet (·.park) s.link.park,
                                 hold := s.notYet (0 < ·.hold) s.link.hold } }

/-- Type and mask of the symbol that the link sends at the next symbol boundary: SOFT_OFF first, then PARK, then HOLD, each
with every channel that has a pending order of its type (R30, R31). -/
def Link.nextSymbol (l : Link) : Option (Nat × BitVec 24) :=
  if l.softOff != 0 then some (1, l.softOff)
  else if l.park != 0 then some (3, l.park)
  else if l.hold != 0 then some (2, l.hold)
  else none

/-- A symbol's orders are pending no more. -/
def Link.sent (l : Link) (type : Nat) : Link :=
  match type with
  | 1 => { l with softOff := 0 }
  | 2 => { l with hold := 0 }
  | _ => { l with park := 0 }

/-- The data characters of lanes 0 to 3, lane 0 lowest: type over its complement, then the mask (R30). -/
def symbolWord (type : Nat) (m : BitVec 24) : BitVec 32 := m ++ (BitVec.ofNat 4 type ++ ~~~(BitVec.ofNat 4 type))

/-- The power die receives a symbol: a type that its complement contradicts, or that is not defined, is a link error
(R30). -/
def State.receiveSymbol (s : State) (w : BitVec 32) : State :=
  let type := w.extractLsb' 4 4
  s.urgent (if type == ~~~(w.extractLsb' 0 4) then type.toNat else 0) (w.extractLsb' 8 24)

/-- The symbol of the highest-priority pending type is sent and arrives with the bits of `noise` inverted (R30, R31). -/
def State.sendSymbol (s : State) (noise : BitVec 32) : State :=
  match s.link.nextSymbol with
  | none => s
  | some (type, m) =>
    let t : State := { s with link := s.link.sent type }
    if t.pdOn then t.receiveSymbol (symbolWord type m ^^^ noise) else t

/-- Noise on the four lanes as noise on the symbol's word; lane 0 is the lowest byte (R30). -/
def laneNoise (noise0 noise1 noise2 noise3 : Byte) : BitVec 32 := noise3 ++ (noise2 ++ (noise1 ++ noise0))

def execUrgentSymbol (noise0 noise1 noise2 noise3 : Byte) (s : State) : Host.Outcome State Fault Refusal :=
  .next (if s.hwOn && s.link.txOn then s.stillPending.sendSymbol (laneNoise noise0 noise1 noise2 noise3) else s)

/-- Silence on the power die (R35): while the watchdog is on (R430), every channel parks. -/
def State.linkSilence (s : State) : State :=
  if s.pdOn && s.pd.units then { s.pdPark allMask with link.goodDown := 0 } else s

def execDownlinkSilence (s : State) : Host.Outcome State Fault Refusal := .next s.linkSilence

def execLinkSilenceRcCount (s : State) : Host.Outcome State Fault Refusal := .next s.linkSilence

/-! ### Power-die settings (R175, R262, R306) -/

/-- Parameters whose settings are carried to the power die (R175, R262). -/
def carried (id : Nat) : Bool :=
  (0x1200 ≤ id && id ≤ 0x1204) || (0x1207 ≤ id && id ≤ 0x1209) || id == 0x3000 || id == 0x3001 ||
    (0x3003 ≤ id && id ≤ 0x3005) || (0x5001 ≤ id && id ≤ 0x5008) || (0x5100 ≤ id && id ≤ 0x5105)

/-- Every stored setting of the power die: parameters that differ from their reset values here or there, the VEXC switches and
the modulators (R175, R234, R259, R306). -/
def State.settings (s : State) : List CfgKind :=
  let here := s.params.filter fun p => carried (p.1 / 256)
  let there := s.pd.config.filter fun p => !(here.any fun q => q.1 == p.1)
  (here.map fun p => CfgKind.param (p.1 / 256) (p.1 % 256) p.2) ++
    (there.map fun p => CfgKind.param (p.1 / 256) (p.1 % 256) (resetOfKey p.1)) ++
    ((List.finRange 2).map fun b => CfgKind.vexc b (s.parB Pid.ADC_VEXC_ENABLE b.val)) ++
    ((List.finRange 16).map fun m => CfgKind.adcRun m (s.parB Pid.ADC_RUN m.val))

/-- The firmware issues writes that no command waits for. -/
def State.issueAll (s : State) (ks : List CfgKind) : State :=
  { s with link := ks.foldl (fun l k => l.issue k false) s.link }

/-- The power die answers again: every stored setting is sent (R306, R493). -/
def State.resend (s : State) : State := { s with link.answers := true }.issueAll s.settings

/-! ### Uplink (R26, R29, R36, R150, R158 to R161, R493) -/

/-- Flag character of a bank (R159). -/
def State.bankChar (s : State) (b : BankIx) : Byte :=
  let k := s.pdBank b
  BitVec.ofBool k.safe ++ (BitVec.ofBool k.ov ++ (BitVec.ofBool k.uv ++ (BitVec.ofBool k.chop ++
    (BitVec.ofBool s.pd.ot ++ (BitVec.ofBool k.missed ++ BitVec.ofNat 2 s.pd.crcErr)))))

/-- Codes of one channel in the uplink: those of the last period centre, or under LISTEN the terminal differences sampled
in this superframe (R24, R26, R29). -/
def State.upCodes (s : State) (listen : List (Ch × Int × Int)) (c : Ch) : Int × Int :=
  let p := s.pdChan c
  if p.entry.listen then
    match listen.find? fun x => x.1 == c with
    | some x => (clamp (-2048) 2047 x.2.1, clamp (-2048) 2047 x.2.2)
    | none => (p.code1, p.code2)
  else (p.code1, p.code2)

/-- What the power die puts into an uplink superframe that starts now (R26). -/
def State.upFrame (s : State) (vmA vmB temp : BitVec 16) (listen : List (Ch × Int × Int)) : UpFrame :=
  { seq := s.pd.upSeq, timeA := BitVec.ofNat 16 (s.bank 0).index, timeB := BitVec.ofNat 16 (s.bank 1).index,
    tagA := (s.pdBank 0).sampleTag, tagB := (s.pdBank 1).sampleTag, current := allCh.map (s.upCodes listen),
    flags := allCh.map fun c => (s.pdChan c).flags, vmA := vmA, vmB := vmB, bankA := s.bankChar 0, bankB := s.bankChar 1,
    temp := temp, ack := s.pd.ack }

/-- The report of one bank (R26, R40, R159, R209). The two counters stop at their largest value: the spec names neither a stop nor
a wrap (DESIGN CHOICE, assumption 97). -/
def State.takeBank (s : State) (f : UpFrame) (b : BankIx) : State :=
  let ch := f.bank b
  let errors := (ch.extractLsb' 0 2).toNat
  let s := s.onBank b fun x =>
    { x.noteChop s.fc (ch.getLsbD 4) (s.parN Pid.BANK_CHOP_MAX_ON b.val) with
      vm := (f.vm b).toNat, status := ch, missedFrames := satAdd (2 ^ 32 - 1) x.missedFrames (b2n (ch.getLsbD 2)),
      crcErrors := satAdd (2 ^ 32 - 1) x.crcErrors errors, timebase := (f.time b).toNat, sampleTag := f.tag b }
  let s := if ch.getLsbD 2 then
      (s.forAll (bankChs b) fun c s => s.onEst c fun e => { e with missedNow := true }).pulse (864 + 24 * b.val + 5) else s
  if errors != 0 then s.pulse (864 + 24 * b.val + 6) else s

/-- Currents of one channel, which a listening channel collects (R24, R26, R29, R133). -/
def State.takeCurrent (s : State) (f : UpFrame) (c : Ch) : State :=
  let codes := f.codes c
  s.onChan c fun k =>
    { k with code1 := codes.1, code2 := codes.2,
             est := if (s.pdChan c).entry.listen && k.est.listening then { k.est with samples := k.est.samples ++ [codes] }
                    else k.est }

/-- Cause of a park that the uplink shows (R161): only the bank flags of the same superframe count. -/
def parkCauseOf (status : Byte) : Nat := if status.getLsbD 7 then 3 else if status.getLsbD 3 then 4 else 1

/-- A bank turn-off latched for the channel is seen (R165, R166, R371, R496). -/
def State.seeBankOff (s : State) (c : Ch) : State :=
  let p := s.pdChan c
  let b := bankOf c
  if p.bankOff && !(s.chan c).bankSeen then
    ((s.onChan c fun k => { k with bankSeen := true }).faultOff c fun w => { w with bank := true }).raise
      (if p.bankUv then 0x0404 else 0x0403) c.val (leBytes 2 (s.bank b).vm ++ [BitVec.ofNat 8 b.val])
  else s.onChan c fun k => { k with bankSeen := p.bankOff }

/-- A channel in PARKED whose FETs are off, because its hold has ended or because the power die, started anew, drives none
(R161, R170, R306). -/
def State.holdOver (s : State) (c : Ch) (latched : Bool) : Bool :=
  (s.chan c).state == .parked && !(s.chan c).fetsOff &&
    (if latched then !(s.pdChan c).parkHold && (s.pdChan c).turnOff != .plateau else !s.fetsOn c)

/-- The flag character of one channel and what the control die does on it (R158, R160, R161, R170). -/
def State.takeFlags (s : State) (f : UpFrame) (c : Ch) : State :=
  let old := (s.chan c).psFault
  let new := f.flag c
  let newly := new &&& ~~~old
  let s := s.onChan c fun k => { k with psFault := new }
  let s := if newly.toNat / 16 != 0 then
      (s.raise 0x0401 c.val [new]).faultOff c fun w => { w with short := true } else s
  let s := if newly.getLsbD 2 then
      (s.raise 0x0402 c.val [new]).faultOff c fun w => { w with gate := true } else s
  let s := s.seeBankOff c
  let s := if new.getLsbD 1 then s.parkCh c (parkCauseOf (f.bank (bankOf c))) else s
  if s.holdOver c (new.getLsbD 1) then s.parkOff c else s

/-- The power die is known to answer, and the firmware has not sent it the settings yet (R306, R493). -/
def State.mustResend (s : State) : Bool :=
  !s.link.answers && s.fwOn && s.pd.running && !s.link.upPending && s.link.startedOnce && s.link.supervised

/-- A good uplink superframe reaches the control die, which takes over what its present channels report (R26, R36). -/
def State.goodUplink (s : State) (f : UpFrame) : State :=
  let s := (s.takeBank f 0).takeBank f 1
  let s : State := { s with power := { s.power with temp := f.temp.toInt } }
  let s := s.forAll (allCh.filter fun c => s.hasCh c) fun c s => (s.takeCurrent f c).takeFlags f c
  let up := min 64 (s.link.goodUp + 1)
  let s : State :=
    { s with link := { s.link with supervised := true, rxSeq := f.seq, goodUp := up,
                                   lost := s.link.lost && !(64 ≤ up && 64 ≤ s.link.goodDown) } }
  let s := if s.mustResend then s.resend else s
  s.forAll (f.ack.filter (· != 0)) fun t s => s.echo t

/-- Content characters 0 to 118 as the control die receives them. -/
def State.upBytes (s : State) (noise : List (Nat × Byte)) (vmA vmB temp : BitVec 16) (listen : List (Ch × Int × Int)) :
    List Byte :=
  noisy contentChar noise (sealed (s.upFrame vmA vmB temp listen).body)

/-- An uplink superframe: the power die's counts since the one before it start anew (R26, R159). -/
def execUplinkSuperframe (noise : List (Nat × Byte)) (vmA vmB : BitVec 16) (temp : BitVec 16) (listen : List (Ch × Int × Int))
    (s : State) : Host.Outcome State Fault Refusal :=
  .next
    (if s.hwOn && s.linkUp && s.pdOn then
      let bs := s.upBytes noise vmA vmB temp listen
      let t := if sealOk 115 bs then s.goodUplink (UpFrame.ofBytes bs) else { s with link := { s.link with goodUp := 0 } }
      { t with pd := { t.pd with upSeq := t.pd.upSeq + 1, crcErr := 0,
                                 banks := t.pd.banks.map fun b => { b with missed := false } } }
    else s)

/-- The echo of one tag (R493): only a tag that the power die acknowledges can come back. -/
def execConfigTagEcho (tag : Byte) (s : State) : Host.Outcome State Fault Refusal :=
  .next (if s.hwOn && tag != 0 && s.pd.ack.contains tag then s.echo tag else s)

/-- R36: every channel not already in PARKED enters it with cause 1, and PARK is sent for all. -/
def State.uplinkLost (s : State) : State :=
  let m := maskWhere fun c => s.hasCh c && (s.chan c).state != .parked
  let s := (s.forAll (maskChs m) fun c s => s.parkCh c 1).orderPark allMask
  let s := (s.raise 0x0408 0 (leBytes 4 m.toNat)).dropWrites
  { s with link := { s.link with lost := true, supervised := false, goodUp := 0, goodDown := 0 } }

/-- No good uplink superframe for more than 1,920 fc; the supervision begins with the first good one (R36, R306). -/
def execUplinkLost (s : State) : Host.Outcome State Fault Refusal :=
  .next (if s.hwOn && s.link.txOn && s.link.supervised then s.uplinkLost else s)

end Sys2Proof.Machine
end

