-- ==== Sys2Proof/Machine/Feedback.lean ====
section
/-! DEFINITION. The feedback interfaces (R178 to R205): decoders, counter, speed, trust, compare events, and the
writes of FB.ENABLE and FB.TRUST. A command gives the voltages in mV at the pins, whose comparators and FB.POL are applied here, and
comes when the filter has accepted the levels (R178, R179). -/

namespace Sys2Proof.Machine

/-- FB.MODE of a running interface; 0 when it is stopped. -/
def State.fbMode (s : State) (c : Ch) : Nat := if (s.fb c).running then s.parN Pid.FB_MODE c.val else 0

/-- The interface counts: the hardware runs and the mode is the one given (R181). -/
def State.fbIs (s : State) (c : Ch) (mode : Nat) : Bool := s.hwOn && s.hasCh c && s.fbMode c == mode

/-! ### Comparators (R178) -/

/-- Threshold in mV as the DAC applies it: steps of 16 mV, rounded down (R178). -/
def dacLevel (mv : Int) : Int := mv / 16 * 16

/-- FB.HYST in mV (R204). -/
def State.fbHyst (s : State) (c : Ch) : Int :=
  match s.parN Pid.FB_HYST c.val with
  | 0 => 0
  | 1 => 25
  | 2 => 50
  | _ => 100

/-- Output of the comparator of pin A, B or I (0 to 2) at `mv`, given its output before: the hysteresis is centred on the
applied threshold (R178). -/
def State.fbComparator (s : State) (c : Ch) (pin : Fin 3) (mv : Int) (before : Bool) : Bool :=
  let t := 2 * dacLevel (s.par (Pid.FB_THRESH_A + pin.val) c.val)
  if before then t - s.fbHyst c ≤ 2 * mv else t + s.fbHyst c < 2 * mv

/-- Comparator output of pin A, B or I (0 to 2) at a voltage in mV, after the output that it has (R178). -/
def State.fbLine (s : State) (c : Ch) (pin : Fin 3) (mv : BitVec 16) : Bool :=
  let f := s.fb c
  s.fbComparator c pin mv.toNat (match pin with | 0 => f.lineA | 1 => f.lineB | 2 => f.lineI)

/-- Logic level of pin A, B or I (0 to 2) for an output of its comparator (R178). -/
def State.fbPol (s : State) (c : Ch) (pin : Nat) (x : Bool) : Bool := x != (s.parN Pid.FB_POL c.val).testBit pin

/-! ### Errors and their reports (R199) -/

/-- Event code of each kind: FB_ILLEGAL, FB_LINES, MISSING_TOOTH, EXTRA_PULSE, FB_CHECK. -/
def fbErrorCode (kind : Nat) : Nat := 0x0501 + kind

/-- A report of one kind, with the occurrences since the last (R199, R371). -/
def State.fbReport (s : State) (c : Ch) (kind : Nat) : State :=
  let f := s.fb c
  let tail := if kind == 1 then leInt 4 f.indexInterval else []
  (s.onFb c fun f => { f with occ := f.occ.set kind 0, limited := f.limited.set kind true }).raise (fbErrorCode kind) c.val
    (leBytes 4 (f.occ.getD kind 0) ++ leBytes 4 f.count.toNat ++ tail)

/-- A plausibility or check error: counted, signalled, and reported at most once per 10 ms (R199); the count becomes
suspect (R197). -/
def State.fbError (s : State) (c : Ch) (kind : Nat) : State :=
  let s := (s.onFb c fun f =>
    { f with errCount := satAdd (2 ^ 32 - 1) f.errCount 1, suspect := true, trustRun := 0,
             occ := f.occ.set kind (f.occ.getD kind 0 + 1) }).chPulse c 26
  if (s.fb c).limited.getD kind false then s else s.fbReport c kind

/-- The 10 ms of a kind are over (R199): a report of what was counted in them, which starts the next, or none. -/
def State.fbWindowEnd (s : State) (c : Ch) (kind : Nat) : State :=
  let f := s.fb c
  if !f.limited.getD kind false then s
  else if 0 < f.occ.getD kind 0 then s.fbReport c kind
  else s.onFb c fun f => { f with limited := f.limited.set kind false }

/-! ### The counter (R194, R195, R200) -/

/-- A value lies in the wrap-safe interval from c to c + n that includes its end only (R200). -/
def crosses (c : BitVec 32) (n : Int) (v : BitVec 32) : Bool :=
  if 0 < n then let d := (v - c).toNat; 1 ≤ d && (d : Int) ≤ n
  else let d := (c - v).toNat; 1 ≤ d && (d : Int) ≤ -n

/-- One compare value (R200, R201). -/
def State.fbCompare (s : State) (c : Ch) (k : Nat) (old : BitVec 32) (n : Int) : State :=
  let f := s.fb c
  if f.cmpEnable.testBit k && crosses old n (BitVec.ofInt 32 (if k = 0 then f.cmp0 else f.cmp1)) then
    (s.chPulse c (23 + k)).raiseS 0x0506 c.val (s.fb c).suspect
      ([BitVec.ofNat 8 k, 0, 0, 0] ++ leBytes 4 (s.fb c).count.toNat)
  else s

/-- A period kept for the speed (R195). -/
def Fb.keep (f : Fb) (period n : Nat) : Fb := { f with periods := (period :: f.periods).take n }

/-- The count moves by `n`, not 0, with the sign of FB.COUNT_DIR already applied: edge time, sign, direction change,
standstill, period; `keep` says whether the period enters the average (R184, R195, R196, R198). An edge of the fc of a
sampling instant is in the latched value (R194). -/
def State.fbMove (s : State) (c : Ch) (n : Int) (keep : Bool) : State :=
  let old := (s.fb c).count
  let neg := n < 0
  let s := s.onFb c fun f =>
    let same := f.neg == decide neg
    let f := { f with periods := if same then f.periods else [], dirChanged := f.dirChanged || (f.counted && !same) }
    let f := if same && f.haveEdge && keep then f.keep (s.fc - f.lastEdge) (s.parN Pid.FB_SPEED_EDGES c.val) else f
    { f with count := f.count + BitVec.ofInt 32 n, latched := if f.latchFc == some s.fc then f.count + BitVec.ofInt 32 n else f.latched,
             neg := neg, counted := true, haveEdge := true, lastEdge := s.fc,
             firstPeriod := f.firstPeriod && !(same && f.haveEdge), standstill := false }
  ((s.chPulse c 30).fbCompare c 0 old n).fbCompare c 1 old n

/-- Sign of FB.COUNT_DIR (R181). -/
def State.fbDir (s : State) (c : Ch) (n : Int) : Int := if s.parB Pid.FB_COUNT_DIR c.val then -n else n

/-- One count of a mode that counts edges. -/
def State.fbStep (s : State) (c : Ch) (n : Int) : State := s.fbMove c (s.fbDir c n) true

/-- FB.SPEED in 1/16 count/s (R195, R196): quotient and bound are rounded towards zero, of which the rules say nothing (DESIGN
CHOICE, assumption 114). -/
def State.fbSpeed (s : State) (c : Ch) : Int :=
  let f := s.fb c
  let sum := f.periods.foldl (· + ·) 0
  if f.standstill || f.periods.isEmpty || sum == 0 then 0
  else
    let mean := 16 * f.periods.length * 240000000 / sum
    let elapsed := s.fc - f.lastEdge
    let m : Int := if elapsed == 0 then mean else min mean (16 * 240000000 / elapsed)
    fitField 0x4011 (-(2 ^ 31)) (2 ^ 31 - 1) (if f.neg then -m else m)

/-- FB.STATUS (R205). -/
def Fb.status (f : Fb) (mode : Nat) : Nat :=
  b2n f.running + 2 * b2n f.indexSeen + 4 * b2n f.neg + 8 * b2n (f.suspect || !f.running || mode == 0) +
    16 * b2n f.standstill + 32 * b2n f.checkErr + 64 * b2n f.frameLate + 128 * b2n f.lineOpen + 256 * b2n f.lineShort

/-! ### Quadrature with index (R183, R184) -/

/-- Place of a line state in the positive sequence 00, 10, 11, 01. -/
def quadPlace (a b : Bool) : Nat := if a then (if b then 2 else 1) else (if b then 3 else 0)

def State.quad (s : State) (c : Ch) (a b : Bool) : State :=
  let f := s.fb c
  let place := fun x y => quadPlace (s.fbPol c 0 x) (s.fbPol c 1 y)
  let d := (place a b + 4 - place f.lineA f.lineB) % 4
  let s := s.onFb c fun f => { f with lineA := a, lineB := b }
  match d with
  | 1 => s.fbStep c 1
  | 3 => s.fbStep c (-1)
  | 2 => s.fbError c 0
  | _ => s

/-- The filtered quadrature lines change state, their pins at `a` and `b` mV; a stopped interface only follows the levels. -/
def execQuadTransition (ch : Ch) (a b : BitVec 16) (s : State) : Host.Outcome State Fault Refusal :=
  let x := s.fbLine ch 0 a
  let y := s.fbLine ch 1 b
  .next (if s.fbIs ch 1 then s.quad ch x y else s.onFb ch fun f => { f with lineA := x, lineB := y })

/-- An index (R184). The first one after a start has no latch before it and leaves FB.INDEX_INTERVAL as it is, which the rule does not
say (DESIGN CHOICE, assumption 113). -/
def State.index (s : State) (c : Ch) : State :=
  let f := s.fb c
  let interval := (f.count - f.indexPos).toInt
  let lines := s.par Pid.FB_LINES c.val
  let checked := lines != 0 && f.indexSeen && !f.dirChanged
  let ok := |(|interval| - 4 * lines)| ≤ s.par Pid.FB_LINES_TOL c.val
  let s := (s.onFb c fun f =>
    { f with indexPos := f.count, indexInterval := if f.indexSeen then interval else f.indexInterval, indexSeen := true,
             dirChanged := false, suspect := f.suspect && !(checked && ok) }).chPulse c 25
  if checked && !ok then s.fbError c 1 else s

def execIndex (ch : Ch) (s : State) : Host.Outcome State Fault Refusal :=
  .next (if s.fbIs ch 1 then s.index ch else s)

/-! ### Hall (R185) -/

/-- Place of a hall state in the positive sequence 100, 110, 010, 011, 001, 101; none for 000 and 111. -/
def hallPlace (u v w : Bool) : Option Nat :=
  match u, v, w with
  | true, false, false => some 0
  | true, true, false => some 1
  | false, true, false => some 2
  | false, true, true => some 3
  | false, false, true => some 4
  | true, false, true => some 5
  | _, _, _ => none

/-- Place of the interface's hall state for three comparator outputs (R185). -/
def State.hallAt (s : State) (c : Ch) (u v w : Bool) : Option Nat :=
  hallPlace (s.fbPol c 0 u) (s.fbPol c 1 v) (s.fbPol c 2 w)

/-- A run of good changes, or of plausible periods with no line flag set, regains trust (R197). -/
def State.goodRun (s : State) (c : Ch) : State :=
  s.onFb c fun f =>
    let n := if f.lineOpen || f.lineShort then 0 else f.trustRun + 1
    { f with trustRun := n, suspect := f.suspect && n < s.parN Pid.FB_TRUST_EDGES c.val }

def State.hall (s : State) (c : Ch) (u v w : Bool) : State :=
  let f := s.fb c
  let s1 := s.onFb c fun f => { f with lineA := u, lineB := v, lineI := w }
  match s.hallAt c u v w with
  | none => (s1.onFb c fun f => { f with hallOk := false }).fbError c 0
  | some p =>
    let s2 := s1.onFb c fun f => { f with hallOk := true, absSeen := true, suspect := f.suspect && f.absSeen }
    match (if f.hallOk then s.hallAt c f.lineA f.lineB f.lineI else none) with
    | none => s2
    | some q =>
      match (p + 6 - q) % 6 with
      | 0 => s2
      | 1 => (s2.goodRun c).fbStep c 1
      | 5 => (s2.goodRun c).fbStep c (-1)
      | _ => s2.fbError c 0

/-- The filtered hall lines change state, their pins at `u`, `v` and `w` mV; a stopped interface only follows the levels. -/
def execHallChange (ch : Ch) (u v w : BitVec 16) (s : State) : Host.Outcome State Fault Refusal :=
  let x := s.fbLine ch 0 u
  let y := s.fbLine ch 1 v
  let z := s.fbLine ch 2 w
  .next (if s.fbIs ch 2 then s.hall ch x y z else s.onFb ch fun f => { f with lineA := x, lineB := y, lineI := z })

/-! ### Wheel-speed sensors (R186, R187, R198) -/

/-- How a period compares with the reference (R198). -/
inductive Tooth where
  | unchecked | pass | extra | missing
  deriving DecidableEq, Repr

/-- Judgement of the period that ends at this tooth; none where no period ends. -/
def State.judgeTooth (s : State) (c : Ch) : Option (Tooth × Nat) :=
  let f := s.fb c
  let sameSign := f.neg == decide (s.fbDir c 1 < 0)
  if f.haveEdge && (sameSign || !f.counted) then
    let p := s.fc - f.lastEdge
    match f.toothRef with
    | none => some (if f.firstPeriod then .unchecked else .pass, p)
    | some r => some (if f.firstPeriod then .unchecked else if 2 * p < r then .extra
                      else if 17 * r < 10 * p then .missing else .pass, p)
  else none

/-- A failing period (R198): after three in a row the reference is cleared. -/
def Fb.toothFail (f : Fb) : Fb :=
  if 2 ≤ f.toothFails then { f with toothFails := 0, toothRef := none } else { f with toothFails := f.toothFails + 1 }

/-- A tooth (R186, R198): counted in any case; a failing period stays out of the average. -/
def State.tooth (s : State) (c : Ch) : State :=
  let keepRef := fun (s : State) (p : Nat) => s.onFb c fun f => { f with toothRef := some p, toothFails := 0 }
  match s.judgeTooth c with
  | none => s.fbMove c (s.fbDir c 1) true
  | some (.unchecked, p) => (keepRef s p).fbMove c (s.fbDir c 1) true
  | some (.pass, p) => ((keepRef s p).goodRun c).fbMove c (s.fbDir c 1) true
  | some (.extra, _) => ((s.onFb c Fb.toothFail).fbError c 3).fbMove c (s.fbDir c 1) false
  | some (.missing, _) => ((s.onFb c Fb.toothFail).fbError c 2).fbMove c (s.fbDir c 1) false

def execWssTooth (ch : Ch) (s : State) : Host.Outcome State Fault Refusal :=
  .next (if s.fbIs ch 6 then s.tooth ch else s)

/-- The line monitor is on (R187). -/
def State.monitors (s : State) (c : Ch) : Bool := s.fbIs c 6 && s.parB Pid.FB_WSS_MONITOR c.val

/-- FB_B has been below its threshold, or back above it, for FB.WSS_QUAL (R187, R197, R199). -/
def execLineOpen (ch : Ch) (on : Bool) (s : State) : Host.Outcome State Fault Refusal :=
  .next
    (if s.monitors ch && (s.fb ch).lineOpen != on then
      (s.onFb ch fun f => { f with lineOpen := on, suspect := f.suspect || on, trustRun := if on then 0 else f.trustRun }).raise
        0x0508 ch.val [BitVec.ofNat 8 (b2n on)]
    else s)

/-- FB_I has been above its threshold, or back below it, for FB.WSS_QUAL (R187, R197, R199). -/
def execLineShort (ch : Ch) (on : Bool) (s : State) : Host.Outcome State Fault Refusal :=
  .next
    (if s.monitors ch && (s.fb ch).lineShort != on then
      (s.onFb ch fun f => { f with lineShort := on, suspect := f.suspect || on, trustRun := if on then 0 else f.trustRun }).raise
        0x0509 ch.val [BitVec.ofNat 8 (b2n on)]
    else s)

/-! ### Step and direction (R188) -/

/-- An edge of the comparator output of FB_A, with FB_B at `dir` mV: FB.POL turns both into the edge and the level that
count (R178, R188). -/
def execStepEdge (ch : Ch) (rising : Bool) (dir : BitVec 16) (s : State) : Host.Outcome State Fault Refusal :=
  let y := s.fbLine ch 1 dir
  let kind := s.parN Pid.FB_STEP_EDGE ch.val
  let up := s.fbPol ch 0 rising
  let counts := kind == 2 || (kind == 0 && up) || (kind == 1 && !up)
  let t := s.onFb ch fun f => { f with lineA := rising, lineB := y }
  .next (if s.fbIs ch 5 && counts then t.fbStep ch (if s.fbPol ch 1 y then 1 else -1) else t)

/-! ### Absolute modes (R190 to R193) -/

/-- Gray code to binary. -/
def grayGo : Nat → Nat → Nat
  | 0, g => g
  | n + 1, g => g ^^^ (grayGo n (g / 2))

/-- Position field of a frame value (R193). -/
def State.absField (s : State) (c : Ch) (value : Nat) : Nat :=
  let p := value / 2 ^ s.parN Pid.FB_ABS_SHIFT c.val % 2 ^ s.parN Pid.FB_ABS_BITS c.val
  if s.parN Pid.FB_SSI_CODE c.val == 1 then grayGo 32 p else p

/-- A good frame (R193, R194, R197): the first sets the counter, later ones add the change. -/
def State.goodFrame (s : State) (c : Ch) (value : Nat) : State :=
  let f := s.fb c
  let p := s.absField c value
  let d := s.fbDir c (sint (s.parN Pid.FB_ABS_BITS c.val) (uint (s.parN Pid.FB_ABS_BITS c.val) ((p : Int) - f.absPos)))
  let s := s.onFb c fun f => { f with absRaw := BitVec.ofNat 64 value, absPos := p, absSeen := true, checkErr := false,
                                      suspect := false }
  let s :=
    if !f.absSeen then s.onFb c fun f => { f with count := BitVec.ofNat 32 p }
    else if d = 0 then s
    else s.fbMove c d true
  s.onFb c fun f => { f with latched := f.count }

/-- A frame that fails its checks (R190, R191). -/
def State.badFrame (s : State) (c : Ch) : State := (s.onFb c fun f => { f with checkErr := true }).fbError c 4

/-- The calibration pulse is 56 ticks within 25 % of the nominal FB.SENT_TICK (R190). -/
def State.calOk (s : State) (c : Ch) (calNs : Nat) : Bool :=
  let nominal := 56 * 100 * s.parN Pid.FB_SENT_TICK c.val
  3 * nominal ≤ 4 * calNs && 4 * calNs ≤ 5 * nominal

/-- A pulse in sixteenths of the tick that the calibration pulse gives, 1/56 of it (R190). -/
def sentSixteenths (rx : SentRx) (ns : Nat) : Nat := ns * 56 * 16 / max 1 rx.calNs

/-- Nibble of a pulse: 12 ticks are 0, to the nearest tick (R190, SAE J2716, assumption 12). -/
def sentNibble (rx : SentRx) (ns : Nat) : BitVec 4 := BitVec.ofNat 4 ((sentSixteenths rx ns + 8) / 16 - 12)

/-- Status nibble, data nibbles and CRC nibble of a frame with `n` data nibbles. -/
def sentStatus (rx : SentRx) : BitVec 4 := sentNibble rx (rx.pulses.getD 0 0)
def sentNibbles (rx : SentRx) (n : Nat) : List (BitVec 4) := ((rx.pulses.drop 1).take n).map (sentNibble rx)
def sentCrcNibble (rx : SentRx) (n : Nat) : BitVec 4 := sentNibble rx (rx.pulses.getD (n + 1) 0)

/-- Every nibble pulse lies between 12 and 27 ticks; a pulse after the CRC nibble is a pause of any length (R190). -/
def sentPulsesOk (rx : SentRx) (n : Nat) : Bool :=
  (rx.pulses.length == n + 2 || rx.pulses.length == n + 3) &&
    (rx.pulses.take (n + 2)).all fun p => 12 * 16 ≤ sentSixteenths rx p + 8 && sentSixteenths rx p + 8 < 28 * 16

/-- The checks of a SENT frame (R190). -/
def State.sentOk (s : State) (c : Ch) (rx : SentRx) : Bool :=
  let n := s.parN Pid.FB_SENT_NIBBLES c.val
  s.calOk c rx.calNs &&
    (match (s.fb c).lastCal with
      | none => true
      | some l => 64 * ((rx.calNs : Int) - l).natAbs ≤ l) &&
    sentPulsesOk rx n && (sentCrcNibble rx n).toNat == sentCrc4 (s.parN Pid.FB_SENT_CRC c.val == 1) (sentNibbles rx n)

/-- A number from its bits, most significant first. -/
def bitsNat (bs : List Bool) : Nat := bs.foldl (fun a b => 2 * a + b2n b) 0

/-- Value of FB.SENT_SLOW for the status bits [3:2] of the last frames, oldest first, where they end a message
(R190, R204): an enhanced message of 18 frames, a short one of 16 (SAE J2716, assumption 12). -/
def slowMessage (recommended : Bool) (bits : List (Bool × Bool)) : Option Nat :=
  let b3 := bits.map (·.1)
  let b2 := bits.map (·.2)
  let at3 := fun i => b3.getD i false
  let short := (bits.drop (bits.length - 16))
  if bits.length == 18 && (b3.take 6).all id && !at3 6 && !at3 12 && !at3 17 then
    let data := bitsNat (b2.drop 6)
    let msg := (bits.drop 6).flatMap fun p => [p.2, p.1]
    if crcShiftIn 6 0x19 0x15 (msg ++ List.replicate 6 false) == bitsNat (b2.take 6) then
      let hi := bitsNat ((b3.drop 8).take 4)
      let lo := bitsNat ((b3.drop 13).take 4)
      some (if at3 7 then 3 * 2 ^ 28 + hi * 2 ^ 16 + lo * 2 ^ 12 + data else 2 * 2 ^ 28 + (16 * hi + lo) * 2 ^ 16 + data)
    else none
  else if short.length == 16 && (short.map (·.1)).getD 0 false && ((short.map (·.1)).drop 1).all (!·) then
    let w := short.map (·.2)
    let nib := fun i => BitVec.ofNat 4 (bitsNat ((w.drop (4 * i)).take 4))
    if sentCrc4 recommended [nib 0, nib 1, nib 2] == (nib 3).toNat then
      some (2 ^ 28 + (nib 0).toNat * 2 ^ 16 + bitsNat ((w.drop 4).take 8))
    else none
  else none

/-- The serial message takes in one status nibble (R190). -/
def State.slowChannel (s : State) (c : Ch) (status : BitVec 4) : State :=
  let all := (s.fb c).slowBits ++ [(status.getLsbD 3, status.getLsbD 2)]
  let kept := all.drop (all.length - 18)
  match slowMessage (s.parN Pid.FB_SENT_CRC c.val == 1) kept with
  | some m =>
    (s.onFb c fun f => { f with slowBits := [], sentSlow := BitVec.ofNat 32 m }).raise 0x0507 c.val (leBytes 4 m)
  | none => s.onFb c fun f => { f with slowBits := kept }

/-- A SENT frame (R190). -/
def State.sent (s : State) (c : Ch) (rx : SentRx) : State :=
  let ok := s.sentOk c rx
  let s := if s.calOk c rx.calNs then s.onFb c fun f => { f with lastCal := some rx.calNs } else s
  if ok then
    let data := sentNibbles rx (s.parN Pid.FB_SENT_NIBBLES c.val)
    (s.goodFrame c (data.foldl (fun (a : Nat) n => 16 * a + n.toNat) 0)).slowChannel c (sentStatus rx)
  else (s.onFb c fun f => { f with slowBits := [] }).badFrame c

def execSentFrame (ch : Ch) (rx : SentRx) (s : State) : Host.Outcome State Fault Refusal :=
  .next (if s.fbIs ch 3 then s.sent ch rx else s)

/-- The checks of a serial frame (R191). -/
def State.serialOk (s : State) (c : Ch) (value : Nat) (idleHigh : Bool) : Bool :=
  let check := s.parN Pid.FB_SSI_CHECK c.val
  let n := s.parN Pid.FB_SSI_BITS c.val
  let ones := ((List.range n).filter fun i => value.testBit i).length
  (!check.testBit 1 || idleHigh) && (!check.testBit 0 || ones % 2 == 0)

/-- The frame value from the comparator outputs of FB_A at the sampling edges: FB.POL inverts each of them (R178, R191). -/
def State.serialValue (s : State) (c : Ch) (bits : BitVec 40) : Nat :=
  (if s.fbPol c 0 false then ~~~bits else bits).toNat % 2 ^ s.parN Pid.FB_SSI_BITS c.val

/-- A serial frame completes: the comparator outputs of FB_A at its sampling edges and at its start (R191). -/
def State.serial (s : State) (c : Ch) (bits : BitVec 40) (idleHigh : Bool) : State :=
  let value := s.serialValue c bits
  let s := s.onFb c fun f => { f with ssiBusy := false }
  if s.serialOk c value (s.fbPol c 0 idleHigh) then s.goodFrame c value else s.badFrame c

def execSerialFrameEnd (ch : Ch) (bits : BitVec 40) (idleHigh : Bool) (s : State) : Host.Outcome State Fault Refusal :=
  .next (if s.fbIs ch 4 && (s.fb ch).ssiBusy then s.serial ch bits idleHigh else s)

/-- Sampling instant of the bank (R191, R194): counts latched, serial frames started. -/
def State.fbCentre (s : State) (b : BankIx) : State :=
  s.forAll (bankChs b) fun c s =>
    let s := s.onFb c fun f => { f with latched := f.count, latchFc := some s.fc }
    if s.fbMode c != 4 then s
    else
      s.onFb c fun f =>
        if f.ssiFirst || s.parN Pid.FB_SSI_EVERY c.val ≤ f.ssiCentres + 1 then
          { f with ssiFirst := false, ssiCentres := 0, ssiBusy := true, ssiFrom := s.fc }
        else { f with ssiCentres := f.ssiCentres + 1 }

/-- A frame that overruns the period start is aborted (R192). -/
def State.fbPeriodStart (s : State) (b : BankIx) : State :=
  s.forAll (bankChs b) fun c s =>
    if s.fbMode c == 4 && (s.fb c).ssiBusy then
      (s.onFb c fun f => { f with ssiBusy := false, frameLate := true }).fbError c 4
    else s

/-! ### Standstill (R196) -/

def execSpeedTimeout (ch : Ch) (s : State) : Host.Outcome State Fault Refusal :=
  .next
    (if s.hwOn && s.fbMode ch != 0 then
      s.onFb ch fun f =>
        { f with periods := [], standstill := true, haveEdge := false, firstPeriod := true,
                 suspect := f.suspect || s.fbMode ch == 3 || s.fbMode ch == 4 }
    else s)

/-! ### FB.ENABLE and FB.TRUST (R182, R186, R192, R193, R197) -/

/-- Clock period of a serial frame in fc: the rate rounded to a division of 240 MHz (R191). -/
def State.ssiClock (s : State) (c : Ch) : Nat :=
  let rate := s.parN Pid.FB_SSI_RATE c.val
  (240000000 + rate / 2) / rate

/-- Clocks of a serial frame in fc (R191). -/
def State.ssiFc (s : State) (c : Ch) : Nat := (s.parN Pid.FB_SSI_BITS c.val + 1) * s.ssiClock c

/-- Level that the interface drives on FB_B, if it drives it, which it does in runtime only (R191, R461): high between frames;
in a frame it falls at the start and at every clock period, and rises in the middle of each. -/
def State.fbClockPin (s : State) (c : Ch) : Option Bool :=
  let f := s.fb c
  let t := s.fc - f.ssiFrom
  if s.phase != .runtime || !s.hasCh c || s.fbMode c != 4 then none
  else some (!f.ssiBusy || s.ssiFc c ≤ t || s.ssiClock c ≤ 2 * (t % s.ssiClock c))

/-- Bits of a frame in the absolute modes. -/
def State.absFrameBits (s : State) (c : Ch) : Nat :=
  if s.parN Pid.FB_MODE c.val == 3 then 4 * s.parN Pid.FB_SENT_NIBBLES c.val else s.parN Pid.FB_SSI_BITS c.val

/-- A write of 1 to FB.ENABLE is in range (R192, R193). -/
def State.fbStartOk (s : State) (c : Ch) : Bool :=
  let mode := s.parN Pid.FB_MODE c.val
  let field := s.parN Pid.FB_ABS_SHIFT c.val + s.parN Pid.FB_ABS_BITS c.val ≤ s.absFrameBits c
  if mode == 3 then field
  else if mode == 4 then field && 2 * s.ssiFc c ≤ (s.bank (bankOf c)).period
  else true

/-- Threshold in mV for a tenth of a mA through the shunt, as the DAC applies it (R178, R186). -/
def wssLevel (shunt tenthMa : Nat) : Int := dacLevel (shunt * tenthMa / 10 : Nat)

/-- The interface as it starts (R182, R197); `hallValid` where its lines spell a valid hall state. -/
def Fb.start (f : Fb) (mode fc : Nat) (hallValid : Bool) : Fb :=
  { f with running := true, count := 0, hallOk := hallValid, lastEdge := fc, haveEdge := false, counted := false,
           neg := false, periods := [], lineShort := false, lineOpen := false, frameLate := false, checkErr := false,
           standstill := false, suspect := mode == 0 || mode == 3 || mode == 4 || (mode == 2 && !hallValid),
           indexSeen := false, dirChanged := false, trustRun := 0, toothRef := none, toothFails := 0, firstPeriod := true,
           latched := 0, latchFc := none, absPos := 0, absSeen := hallValid, lastCal := none, slowBits := [], ssiCentres := 0,
           ssiBusy := false, ssiFirst := true }

/-- A forced trust (R197). -/
def Fb.trust (f : Fb) (mode : Nat) : Fb :=
  { f with suspect := false, toothRef := if mode == 6 then none else f.toothRef, trustNext := false }

/-- The interface at the end of an fc: a start, stop or forced trust written in it, and the compare values, act from the next
one on (R182, R197, R200, R204). -/
def State.settleFb (s : State) (c : Ch) : Fb :=
  let f := s.fb c
  let mode := s.parN Pid.FB_MODE c.val
  let f := if f.trustNext then f.trust mode else f
  let f := match f.startNext with
    | none => f
    | some true => f.start mode (s.fc + 1) (mode == 2 && (s.hallAt c f.lineA f.lineB f.lineI).isSome)
    | some false => { f with running := false, suspect := true, ssiBusy := false }
  { f with startNext := none, cmp0 := s.par Pid.FB_CMP0 c.val, cmp1 := s.par Pid.FB_CMP1 c.val,
           cmpEnable := s.parN Pid.FB_CMP_ENABLE c.val }

/-- Every interface at the end of an fc. -/
def State.settleFbs (s : State) : State := { s with fbs := Vector.ofFn fun c => s.settleFb c }

/-- The thresholds that the firmware sets at a start in WSS mode (R186). -/
def State.wssThresholds (s : State) (c : Ch) : State :=
  let sh := s.parN Pid.FB_WSS_SHUNT c.val
  ((s.setPar Pid.FB_THRESH_A c.val (wssLevel sh 105)).setPar Pid.FB_THRESH_B c.val (wssLevel sh 35)).setPar
    Pid.FB_THRESH_I c.val (wssLevel sh 210)

/-- A write of FB.ENABLE (R182): judged at once, in effect in the next fc; a later write in the same fc replaces it (R10). -/
def State.writeFbEnable (s : State) (c : Ch) (v : Int) : State × Result :=
  let f := s.fb c
  if v == 0 then
    if (s.chan c).motion.mode == .follow || (s.parB Pid.CH_FE_ENABLE c.val && s.energised c) then (s, .wrongState)
    else ((s.onFb c fun f => { f with startNext := if f.running then some false else none }).setPar Pid.FB_ENABLE c.val 0, .ok)
  else if f.running then ((s.onFb c fun f => { f with startNext := none }).setPar Pid.FB_ENABLE c.val 1, .ok)
  else if !s.fbStartOk c then (s, .outOfRange)
  else
    let s := (s.onFb c fun f => { f with startNext := some true }).setPar Pid.FB_ENABLE c.val 1
    (if s.parN Pid.FB_MODE c.val == 6 then s.wssThresholds c else s, .ok)

/-- A write of 1 to FB.TRUST (R197). -/
def State.writeFbTrust (s : State) (c : Ch) : State × Result :=
  if s.fbMode c == 0 then (s, .wrongState) else (s.onFb c fun f => { f with trustNext := true }, .ok)

end Sys2Proof.Machine
end

