-- ==== Sys2Proof/Machine/Period.lean ====
section
/-! DEFINITION. A bank's PWM period: loading at its start, the set-points computed there, sampling at its centre (R26,
R29, R38 to R41, R98, R106, R209). -/

namespace Sys2Proof.Machine

/-- The entries of a bank load from the shadow store, or a missed frame is counted (R40); channels that begin to switch
while UV or OV counts are turned off again (R165, R166). -/
def State.loadBank (s : State) (b : BankIx) : State :=
  let k := s.pdBank b
  let due := fun (load : Bool) (frame : Byte) (came : Nat) =>
    load && frame == BitVec.ofNat 8 (s.bank b).index && came + 120 ≤ s.fc
  let new := due k.load k.frame k.came
  let load := new || due k.loadOld k.frameOld k.cameOld
  let s := if !load then s.onPdBank b fun k => { k with missed := true } else s
  let s := s.forAll (bankChs b) fun c s => s.onPdChan c fun p =>
    p.periodStart (if new then some p.shadow else if load then some p.shadowOld else none) s.fc
  if k.ov || k.uv then s.bankTurnOff b k.uv else s

/-- An accepted ENABLE of the channel waits for its latches to be cleared (R496). -/
def State.starting (s : State) (c : Ch) : Bool := s.mbx.waiting.any fun w => w.starts.contains c

/-- The gate-drive slice of a channel that has come to DISABLED is switched off once a set-point with GATE_EN = 0 is in
force, unless an ENABLE has been accepted meanwhile (R430, R431). -/
def State.dropSlice (s : State) (c : Ch) : State :=
  let k := s.chan c
  if k.state == .disabled && k.slice && !k.coil.now.entry.gateEn && s.fwOn && !s.starting c then
    (s.onChan c fun k => { k with slice := false }).sendWrite (.sliceOff c)
  else s

/-- What the control die does for one channel at its bank's period start: estimator, following-error check, regulator, Ke
collection and slice (R38, R39, R430). -/
def State.controlCh (s : State) (c : Ch) : State := ((((s.estimate c).followCheck c).regulate c).collectKe c).dropSlice c

/-- The bank's coil policy, then every present channel; then the bank's LOAD bit and FRAME (R38, R39, R106). -/
def State.controlPeriod (s : State) (b : BankIx) : State :=
  ((s.endPolicy b).forAll (s.presentChs b) fun c s => s.controlCh c).onBank b fun k =>
    { k with load := true, frame := BitVec.ofNat 8 (k.index + 1) }

/-- Start of the next period of a bank (R39). -/
def State.startPeriod (s : State) (b : BankIx) : State :=
  let s := (s.onBank b fun k => { k with index := (k.index + 1) % 65536 }).pulse (864 + 24 * b.val + 8)
  let s := (s.countPwm b 1).fbPeriodStart b
  let s := if s.pdOn && s.pd.units then s.loadBank b else s
  s.controlPeriod b

def execPeriodStart (b : BankIx) (s : State) : Host.Outcome State Fault Refusal :=
  .next (if s.hwOn then s.startPeriod b else s)

/-- Centre of a period: currents sampled, counts latched, serial frames started (R29, R143, R150, R191, R194). -/
def execPeriodCentre (b : BankIx) (codes : List (Int × Int)) (s : State) : Host.Outcome State Fault Refusal :=
  .next
    (if s.hwOn then (((s.sampleBank b codes).fbCentre b).countPwm b 2).pulse (864 + 24 * b.val + 9) else s)

end Sys2Proof.Machine
end

