-- ==== Sys2Proof/Machine/Flags.lean ====
section
/-! DEFINITION. What the device shows of itself: fault summary, FAULT_N, the status byte and the registers of windows 0,
4 and 5, power domains, and the value that a read of each parameter returns (R299 to R301, R327, R336, R337, R430, R433,
R436, R440, R441, R446, R452). -/

namespace Sys2Proof.Machine

/-! ### Faults (R433, R440, R441) -/

/-- Some bank's flag character shows a bit (R159). -/
def State.bankFlag (s : State) (i : Nat) : Bool := (s.bank 0).status.getLsbD i || (s.bank 1).status.getLsbD i

/-- Some present channel is in a state. -/
def State.someCh (s : State) (p : Channel → Bool) : Bool := allCh.any fun c => s.hasCh c && p (s.chan c)

/-- DEV.FAULT_SUMMARY (R440). -/
def State.faultSummary (s : State) : Nat :=
  b2n s.hp.silent + 2 * b2n (s.someCh fun k => k.state == .fault) + 4 * b2n (s.someCh fun k => k.state == .parked) +
    8 * b2n ((List.finRange 4).any fun t => (s.trip t).latch) + 16 * b2n (s.bankFlag 6) + 32 * b2n (s.bankFlag 5) +
    64 * b2n (s.bankFlag 7) + 128 * b2n (s.bankFlag 3) + 256 * b2n s.link.lost + 512 * b2n s.boot.halted

/-- FAULT_N is driven low: by the control die outside the runtime or with a fault present, by the power die with a park
latch or while it does not run (R306, R433, R441). -/
def State.faultLow (s : State) : Bool := s.phase != .runtime || s.faultSummary / 2 != 0 || s.pdFaultLow

/-! ### Window 4 (R327, R336, R337) -/

/-- The firmware's windows exist: runtime has started and goes on (R335). -/
def State.inRuntime (s : State) : Bool := s.phase == .runtime

/-- Runtime has started since the cold boot (R336). -/
def State.started (s : State) : Bool := s.boot.st == .starting

/-- The processor is halted by an Eclipse (R313, R316, R327). -/
def State.eclipsed (s : State) : Bool := s.boot.eclipse || s.boot.halted

/-- Free command-queue entries (R347): commands of the gateway take none (R348); none before runtime start. -/
def State.freeEntries (s : State) : Nat := if s.inRuntime then 32 - (s.mbx.queue.filter fun q => q.via.isNone).length else 0

/-- CREDIT (R327). -/
def creditCode (n : Nat) : Nat := if n = 0 then 0 else if n < 4 then 1 else if n < 16 then 2 else 3

/-- ATTN: the event ring holds an entry (R327). -/
def State.attn (s : State) : Bool := s.inRuntime && !s.mbx.ring.isEmpty

/-- Duration in ms of the Eclipse in progress or of the latest one, saturating. -/
def Boot.elapsedMs (k : Boot) : Nat := min 65535 (k.elapsed / 240000)

/-- HP.ECLIPSE. -/
def Boot.eclipseWord (k : Boot) : Nat := 2 ^ 16 * k.elapsedMs + 1024 * k.result + 256 * k.attempts + k.cause

/-- The device as the status byte and window 4 show it. -/
def State.hpView (s : State) : HpView :=
  { attn := s.attn, eclipsed := s.eclipsed, fault := s.faultLow, free := s.freeEntries
    events := if s.inRuntime then s.mbx.ring.length else 0, started := s.started, lost := s.link.lost, silent := s.hp.silent
    eclipse := s.boot.eclipseWord, time := s.time }

/-- The status byte (R327), of the state at the end of the fc before (R328). -/
def State.statusByte (s : State) : Byte :=
  let v := s.hp.view
  BitVec.ofNat 8
    (128 + 64 * b2n s.hp.prevBad + 32 * b2n v.attn + 16 * b2n v.eclipsed + 8 * b2n v.fault + 2 * creditCode v.free)

/-- HP.STATUS. -/
def State.hpStatus (s : State) : Nat :=
  let v := s.hp.view
  2 ^ 27 * b2n v.started + 2 ^ 26 * b2n v.lost + 2 ^ 25 * b2n v.silent + 2 ^ 16 * v.events + 2 ^ 8 * v.free + s.statusByte.toNat

/-- HP.REJECT. -/
def HostPort.rejectWord (h : HostPort) : Nat := 2 ^ 16 * h.rejectCount + 2 ^ 8 * h.rejectAlive.toNat + h.rejectReason

/-- HP.SEQ. -/
def HostPort.seqWord (h : HostPort) : Nat := 256 * b2n h.valid + h.lastAlive.toNat

/-- The 64 bytes of window 4. -/
def State.window4 (s : State) : List Byte :=
  padTo 64
    (leBytes 4 s.hpStatus ++ leBytes 4 s.hp.rejectWord ++ leBytes 4 s.hp.seqWord ++ leBytes 4 s.hp.ctrl.toNat ++
      leBytes 4 s.hp.view.eclipse ++ leBytes 4 0 ++ leBytes 8 s.hp.view.time)

/-- `HP.REPLY_CLOCK`. -/
def HostPort.replyClock (h : HostPort) : Bool := h.ctrl.getLsbD 0

/-- HP_ATTN_N is driven low: released from a cold boot to runtime start (R337). -/
def State.attnLow (s : State) : Bool :=
  s.started && (s.inRuntime || s.phase == .opened) &&
    ((s.hp.ctrl.getLsbD 4 && s.attn) || (s.hp.ctrl.getLsbD 5 && s.faultLow) || (s.hp.ctrl.getLsbD 6 && s.eclipsed) ||
      (s.hp.ctrl.getLsbD 7 && s.hp.creditWanted && s.freeEntries != 0))

/-! ### Window 0 (R299 to R301) -/

/-- KEY_SLOTS of the present fuses. -/
def Otp.keySlots (o : Otp) : Byte :=
  BitVec.ofNat 8
    (b2n o.vendor0.isSome + 2 * b2n o.vendor1.isSome + 4 * b2n o.vendorRev0 + 8 * b2n o.vendorRev1 +
      16 * b2n o.cust0.isSome + 32 * b2n o.cust1.isSome + 64 * b2n o.custRev0 + 128 * b2n o.custRev1)

/-- Bytes 0 to 23 of the identity block. -/
def State.identFields (s : State) : List Byte :=
  leBytes 8 s.caps ++ leBytes 8 s.otp.serial.toNat ++ leBytes 2 s.otp.romVersion.toNat ++
    leBytes 2 s.boot.ident.floor.toNat ++
    [s.boot.ident.keySlots, BitVec.ofNat 8 s.boot.ident.cause, BitVec.ofNat 8 s.boot.lastFail,
     BitVec.ofNat 8 (b2n s.boot.ident.debug)]

/-- The identity block. -/
def State.identBlock (s : State) : List Byte :=
  s.identFields ++ leBytes 4 (crc32c s.identFields).toNat ++ leBytes 4 0

/-- STATE of BOOT_STATUS. -/
def BootState.code : BootState → Nat
  | .ready => 1
  | .clearing => 2
  | .verifying => 3
  | .starting => 4
  | .failed => 5

/-- Byte of window 0 below the load aperture, where one is laid out. -/
def State.window0Byte (s : State) (a : Nat) : Option Byte :=
  if a < 32 then some (byteAt s.identBlock a)
  else if 0x40 ≤ a && a < 0x44 then some 0
  else if 0x44 ≤ a && a < 0x48 then some (byteAt (leBytes 4 (s.boot.st.code + 256 * s.boot.fail)) (a - 0x44))
  else if 0x48 ≤ a && a < 0x4C then some (byteAt (leBytes 4 (32768 * s.boot.page)) (a - 0x48))
  else none

/-! ### Window 5 (R446) -/

/-- DBG_STATUS. -/
def Security.dbgStatus (k : Security) : Nat := 256 * k.attempts + 16 * k.dbgResult

/-- CHALLENGE as bytes. -/
def Security.challenge (k : Security) : List Byte := beBytes 32 (Config.challenge k.draws).toNat

/-- The 36 readable bytes of window 5. -/
def State.window5 (s : State) : List Byte := s.sec.challenge ++ leBytes 4 s.sec.dbgStatus

/-! ### Power domains (R430, R436) -/

/-- DEV.PWR_DEVICE. -/
def State.pwrDevice (s : State) : Nat :=
  let can := fun c : CanIx => s.canB c Pid.CAN_RUN || (s.can c).phase != .stopped
  0x0000A1FF + 2 ^ 9 + 2 ^ 10 * b2n ((List.finRange 32).any fun f => s.parB Pid.FLT_RUN f.val || (s.flt f).running) + 2 ^ 11 * b2n (can 0) +
    2 ^ 12 * b2n (can 1) + 2 ^ 14 * b2n s.power.auxDomain + 2 ^ 16 * b2n s.link.txOn + 2 ^ 17 + 2 ^ 18 + 2 ^ 19

/-- The ten domain bits of a bank: pump, monitor, park logic and timebase are on from runtime start, the pump where VM stands. -/
def State.pwrBank (s : State) (b : BankIx) : Nat :=
  let pair := fun j : Nat => (List.finRange 16).any fun m : ModIx => m.val / 2 == 4 * b.val + j && (s.modu m).running
  b2n (s.vmPresent b) + 2 + 4 * b2n (pair 0) + 8 * b2n (pair 1) + 16 * b2n (pair 2) +
    32 * b2n (pair 3) + 64 * b2n ((List.finRange 16).any fun m : ModIx => modBank m == b && (s.modu m).running) +
    128 * b2n ((bankChs b).any fun c => (s.chan c).state != .disabled) + 256 + 512

/-! ### Parameters that are not stored (R13, R90, R118, R119, R141, R176, R177, R204, R231, R262, R264, R291 to R293,
R318, R344, R372, R398, R413, R436, R452) -/

/-- Value of CH.MODE (R90). -/
def Mode.code : Mode → Nat
  | .none => 0
  | .position => 1
  | .velocity => 2
  | .follow => 3
  | .interp => 4

/-- Channel parameters of the 0x2000 to 0x21FF blocks. -/
def State.readCh (s : State) (c : Ch) (id : Nat) : Option Int :=
  let k := s.chan c
  let m := k.motion
  match id with
  | 0x2000 => some k.state.code
  | 0x2001 => some m.position
  | 0x2002 => some m.velocity
  | 0x2003 => some (fitField 0x2003 (-(2 ^ 31)) (2 ^ 31 - 1) (m.acc / 2 ^ 24))
  | 0x2004 => some (if m.mode == .position || m.mode == .follow then fitField 0x2004 (-(2 ^ 39)) (2 ^ 39 - 1) m.target else m.position)
  | 0x2005 => some m.mode.code
  | 0x2006 => some (b2n m.armed.isSome)
  | 0x2016 => some m.vlimitRfx
  | 0x2024 => some (b2n m.latchP + 2 * b2n m.latchN)
  | 0x2025 => some m.limitPosP
  | 0x2026 => some m.limitPosN
  | 0x2106 => some k.coil.next.angle
  | 0x2107 => some k.coil.rung
  | 0x2124 => some k.est.rcResult
  | 0x2133 => some (s.twinState c)
  | 0x2142 => some k.coil.status
  | 0x2144 => some (k.coil.td.tdiv (10 ^ 6))
  | 0x2145 => some (k.coil.tq.tdiv (10 ^ 6))
  | 0x2203 => some k.est.catchResult
  | 0x2204 => some k.est.catchSpeed
  | 0x2205 => some k.est.catchAngle
  | 0x2220 => some k.est.loadAngle
  | 0x2221 => some k.est.emf
  | 0x2222 => some (b2n k.est.valid)
  | 0x2223 => some (if s.isTwin c then fitField 0x2223 0 65535 k.est.twinK else 0)
  | 0x2236 => some (fitField 0x2236 (-(2 ^ 39)) (2 ^ 39 - 1) k.est.fe)
  | _ => none

/-- PS.SC_APPLIED (R152): the threshold in steps of 20 uA of sense-cell current, rounded down, as drain current. -/
def State.shortApplied (s : State) (c : Ch) : Int :=
  let ratio := s.par Pid.PS_SENSE_RATIO c.val
  s.par Pid.PS_SC_THRESHOLD c.val * 1000 / ratio / 20 * 20 * ratio / 1000

/-- Coil current in mA of a sense code, nearest (R150); a tie goes away from zero (assumption 82). -/
def State.coilMa (s : State) (c : Ch) (code : Int) : Int :=
  divNear (code * 3125 * s.par Pid.PS_SENSE_RATIO c.val) 1000000

/-- Power-stage parameters of a channel and of a bank. -/
def State.readPs (s : State) (c : Ch) (id : Nat) : Option Int :=
  let k := s.chan c
  match id with
  | 0x3002 => some (s.shortApplied c)
  | 0x3006 => some k.psFault.toNat
  | 0x3007 => some k.parkCause
  | 0x3008 => some (s.coilMa c k.code1)
  | 0x3009 => some (s.coilMa c k.code2)
  | _ => none

def State.readBank (s : State) (b : BankIx) (id : Nat) : Option Int :=
  let k := s.bank b
  match id with
  | 0x1101 => some k.period
  | 0x1103 => some (b2n k.policyActive)
  | 0x1205 => some (s.chopDuty b)
  | 0x120A => some k.vm
  | 0x120B => some k.status.toNat
  | 0x120C => some k.missedFrames
  | 0x120D => some k.crcErrors
  | _ => none

/-- Feedback parameters. -/
def State.readFb (s : State) (c : Ch) (id : Nat) : Option Int :=
  let f := s.fb c
  match id with
  | 0x4010 => some f.count.toNat
  | 0x4011 => some (s.fbSpeed c)
  | 0x4014 => some (f.status (s.parN Pid.FB_MODE c.val))
  | 0x4015 => some f.errCount
  | 0x4017 => some (1 - b2n (f.suspect || s.fbMode c == 0))
  | 0x4022 => some f.indexPos.toNat
  | 0x4023 => some f.indexInterval
  | 0x4043 => some f.sentSlow.toNat
  | 0x4052 => some f.absRaw.toNat
  | _ => none

/-- Eight sources from a number upwards as a byte (RFX.SOURCE_STATE). -/
def sourceByte (s : State) (n : Nat) : Nat := (List.range 8).foldl (fun a j => a + 2 ^ j * b2n (s.source (n + j))) 0

/-- Reflex parameters. -/
def State.readRfx (s : State) (inst : Nat) (id : Nat) : Option Int :=
  let r : RuleIx := ⟨inst % 256, Nat.mod_lt _ (by decide)⟩
  let k := s.rule r
  match id with
  | 0xA003 => some k.capture.toNat
  | 0xA004 => some k.fireCount
  | 0xA005 => some k.fireTime
  | 0xA006 => some (s.asserted r).toNat
  | 0xA008 => some (b2n (s.overridden r))
  | 0xA020 => some (sourceByte s (8 * inst) : Nat)
  | _ => none

/-- Converter and Gradebook parameters. -/
def State.readAdc (s : State) (inst : Nat) (id : Nat) : Option Int :=
  let m : ModIx := ⟨inst % 16, Nat.mod_lt _ (by decide)⟩
  let e : EntryIx := ⟨inst % 256, Nat.mod_lt _ (by decide)⟩
  match id with
  | 0x5009 => some (s.adcStatus m)
  | 0x500A => some (s.modu m).overrun
  | 0x500B => some (s.modu m).lost
  | 0x5106 => some (s.groupDelayNs e)
  | 0x510B => some s.entries[e].reason
  | 0x6003 => some (((s.gb e).pub.map GbRec.seq).getD 0)
  | _ => none

/-- Filter parameters. -/
def State.readFlt (s : State) (inst : Nat) (id : Nat) : Option Int :=
  let f : FltIx := ⟨inst % 32, Nat.mod_lt _ (by decide)⟩
  let k := s.flt f
  match id with
  | 0x7004 => some k.rsRatio
  | 0x7005 => some k.rsLag
  | 0x7007 => some k.settleInForce
  | 0x7008 => some (s.filterDelay f).toNat
  | 0x7009 => some (s.stageDelay f).toNat
  | 0x700A => some k.status
  | 0x700B => some k.underrun
  | 0x700C => some k.dropped
  | 0x700D => some k.saturations
  | 0x700E => some k.output
  | 0x7206 => some (b2n (s.cmps[(⟨inst % 128, Nat.mod_lt _ (by decide)⟩ : Fin 128)]).set)
  | _ => none

/-- CAN parameters; the ring's head reads 0 while the ring is empty (R381, R398). -/
def State.readCan (s : State) (inst : Nat) (id : Nat) : Option Int :=
  let c : CanIx := ⟨inst % 2, Nat.mod_lt _ (by decide)⟩
  let k := s.can c
  let head : Option RxFrame := k.ring.head?
  if 0x8033 ≤ id ∧ id ≤ 0x803A then
    some ((head.map fun r => field (padTo 64 r.frame.data) (8 * (id - 0x8033)) 8).getD 0 : Nat)
  else match id with
  | 0x800C => some k.status
  | 0x800D => some k.tec
  | 0x800E => some k.recv
  | 0x800F => some (s.txFree c).length
  | 0x8010 => some k.overruns
  | 0x801D => some k.detectResult
  | 0x8023 => some k.gwRefused
  | 0x8030 => some k.ring.length
  | 0x8031 => some ((head.map RxFrame.head).getD 0 : Nat)
  | 0x8032 => some ((head.map fun r => r.time).getD 0 : Nat)
  | 0x803B => some 0
  | 0x8042 =>
    some (s.can ⟨inst / 128 % 2, Nat.mod_lt _ (by decide)⟩).hits[(⟨inst % 128, Nat.mod_lt _ (by decide)⟩ : Fin 128)]
  | _ => none

/-- Auxiliary PWM parameters. -/
def State.readAux (s : State) (inst : Nat) (id : Nat) : Option Int :=
  let k : AuxIx := ⟨inst % 16, Nat.mod_lt _ (by decide)⟩
  match id with
  | 0x9003 => some (s.aux k).periodAct
  | 0x9004 => some (s.aux k).dutyAct
  | 0x900A => some (s.auxStatus k)
  | 0x9025 => some (s.trip ⟨inst % 4, Nat.mod_lt _ (by decide)⟩).time
  | _ => none

/-- Mask of the vault slots that are filled (R444). -/
def Security.filled (k : Security) : Nat :=
  (List.finRange 16).foldl (fun a i => a + 2 ^ i.val * b2n k.vault[i].isSome) 0

/-- Device parameters; write-only ones read 0. -/
def State.readDev (s : State) (id : Nat) : Option Int :=
  let mac := beBytes 32 s.sec.mac.toNat
  match id with
  | 0x0000 => some s.mbx.acceptSeq
  | 0x0001 => some s.mbx.doneSeq
  | 0x0002 => some s.mbx.eventsLost
  | 0x0004 => some (32 - s.mbx.responses.length : Nat)
  | 0x0100 => some s.caps
  | 0x0101 => some s.boot.fwVersion.toNat
  | 0x0102 => some s.otp.romVersion.toNat
  | 0x0103 => some s.power.cause
  | 0x0104 => some s.boot.count
  | 0x0105 => some s.boot.cause
  | 0x0106 => some s.boot.elapsedMs
  | 0x0108 => some s.boot.expiries
  | 0x0202 => some s.hp.silenceCount
  | 0x0301 => some (b2n s.power.wakeLevel)
  | 0x0302 => some s.power.detail.toNat
  | 0x0303 => some s.pwrDevice
  | 0x0304 => some (s.pwrBank 0 + 1024 * s.pwrBank 1)
  | 0x0305 => some (s.caps % 2 ^ 24 : Nat)
  | 0x0306 => some (maskWhere fun c => (s.chan c).powered).toNat
  | 0x0307 => some (maskWhere fun c => (s.fb c).running).toNat
  | 0x0308 => some (maskWhere fun c => (s.chan c).slice).toNat
  | 0x0310 => some s.time
  | 0x0312 => some s.power.temp
  | 0x0400 => some s.faultSummary
  | 0x0401 => some s.sec.eccCorrected
  | 0x0416 => some s.sec.attestTime
  | 0x0417 => some (field mac 0 8)
  | 0x0418 => some (field mac 8 8)
  | 0x0419 => some (field mac 16 8)
  | 0x041A => some (field mac 24 8)
  | 0x0421 => some 0
  | 0x0422 => some 0
  | 0x0423 => some 0
  | 0x0424 => some 0
  | 0x0426 => some s.sec.filled
  | 0x0437 => some s.sec.otpStatus
  | _ => none

/-- What a read of a parameter returns: hardware and firmware views, else the stored value. -/
def State.readParam (s : State) (id inst : Nat) : Int :=
  let ch : Ch := ⟨inst % 24, Nat.mod_lt _ (by decide)⟩
  let view := match id / 4096 with
    | 0 => s.readDev id
    | 1 => s.readBank ⟨inst % 2, Nat.mod_lt _ (by decide)⟩ id
    | 2 => s.readCh ch id
    | 3 => s.readPs ch id
    | 4 => s.readFb ch id
    | 5 => s.readAdc inst id
    | 6 => s.readAdc inst id
    | 7 => s.readFlt inst id
    | 8 => s.readCan inst id
    | 9 => s.readAux inst id
    | _ => s.readRfx inst id
  view.getD (s.par id inst)

end Sys2Proof.Machine
end

