-- ==== Sys2Proof/Machine/Security.lean ====
section
/-! DEFINITION. Attestation, key vault, OTP programming and the opening of the debug port (R443 to R448). -/

namespace Sys2Proof.Machine

/-- Every present channel is in DISABLED (R427, R445, R446). -/
def State.allDisabled (s : State) : Bool := allCh.all fun c => !s.hasCh c || (s.chan c).state == .disabled

/-- 32 bytes held in four U64 parameters from `id` on, little-endian (R443). -/
def State.par32 (s : State) (id : Nat) : List Byte := [0, 1, 2, 3].flatMap fun i => leBytes 8 (s.parN (id + i) 0)

/-- 32 bytes as one word, first byte most significant. -/
def word256 (bs : List Byte) : BitVec 256 := BitVec.ofNat 256 (beNat bs)

/-! ### Attestation and vault (R443, R444) -/

/-- Vault slot that a number 1 to 16 names. -/
def slotIx (n : Nat) : Fin 16 := ⟨(n - 1) % 16, Nat.mod_lt _ (by decide)⟩

/-- The key that DEV.ATTEST_KEY selects; none for a blown device key or an empty slot. -/
def State.attestKey (s : State) : Option (BitVec 256) :=
  let key := s.parN Pid.DEV_ATTEST_KEY 0
  if key = 0 then (if s.otp.kill then none else some s.otp.deviceKey) else s.sec.vault[slotIx key]

/-- The 97-byte message (R443). -/
def State.attestMessage (s : State) : List Byte :=
  [0x43, 0x4C, 0x56, 0x41] ++ s.par32 Pid.DEV_ATTEST_NONCE0 ++ leBytes 8 s.otp.serial.toNat ++ leBytes 8 s.caps ++
    beBytes 32 s.boot.imageHash.toNat ++ leBytes 2 s.boot.ident.floor.toNat ++
    [s.boot.ident.keySlots, BitVec.ofNat 8 (b2n s.boot.ident.debug)] ++ leBytes 8 s.time ++
    [BitVec.ofNat 8 (s.parN Pid.DEV_ATTEST_KEY 0)]

/-- A write of 1 to DEV.ATTEST_GO (R443). -/
def State.writeAttestGo (s : State) : State × Result :=
  match s.attestKey with
  | none => (s, .wrongState)
  | some k =>
    ({ s with sec := { s.sec with mac := word256 (hmac256 (beBytes 32 k.toNat) s.attestMessage), attestTime := s.time } }, .ok)

/-- The four data parameters of the vault are zeroed. -/
def State.zeroVaultData (s : State) : State :=
  [0, 1, 2, 3].foldl (fun s i => s.setPar (Pid.DEV_VAULT_DATA0 + i) 0 0) s

/-- A write of 1 to DEV.VAULT_LOAD (R444). -/
def State.writeVaultLoad (s : State) : State × Result :=
  let d := word256 (s.par32 Pid.DEV_VAULT_DATA0)
  let v := s.sec.vault.set (slotIx (s.parN Pid.DEV_VAULT_SLOT 0)) (some d)
  (({ s with sec := { s.sec with vault := v } } : State).zeroVaultData, .ok)

/-! ### OTP programming (R445) -/

/-- A SET of DEV.OTP_ARM arms one operation when it carries the low 32 bits of SERIAL. -/
def State.writeOtpArm (s : State) (v : Int) : State × Result :=
  ({ s with sec := { s.sec with otpArmed := v == (s.otp.serial.toNat % 2 ^ 32 : Nat) } }, .ok)

/-- Conditions of DEV.OTP_OP: armed with every channel in DISABLED, then those of the operation. -/
def State.otpJudge (s : State) (armed : Bool) (op : Nat) : Result :=
  let o := s.otp
  let live0 := o.vendor0.isSome && !o.vendorRev0
  let live1 := o.vendor1.isSome && !o.vendorRev1
  let v := s.parN Pid.DEV_OTP_VALUE 0
  if !(armed && s.allDisabled) then .wrongState
  else match op with
  | 1 => if o.cust0.isSome then .wrongState else .ok
  | 2 => if o.cust1.isSome then .wrongState else .ok
  | 3 => if live0 && !live1 then .wrongState else .ok
  | 4 => if live1 && !live0 then .wrongState else .ok
  | 5 => if o.cust0.isNone then .wrongState else .ok
  | 6 => if o.cust1.isNone then .wrongState else .ok
  | _ => if v ≤ o.floor.toNat || s.boot.imageRollback.toNat < v then .outOfRange else .ok

/-- What the operation will burn: the key hash, or the floor. -/
def State.otpOperand (s : State) (op : Nat) : BitVec 256 :=
  if op = 7 then BitVec.ofNat 256 (s.parN Pid.DEV_OTP_VALUE 0) else word256 (s.par32 Pid.DEV_OTP_KEYHASH0)

/-- A write of DEV.OTP_OP as an item of a command: one operation per arm; an accepted one is burnt before the command is
answered. -/
def State.writeOtpOp (s : State) (op item : Nat) : State × Result :=
  match s.otpJudge s.sec.otpNow op with
  | .ok =>
    ({ s with sec := { s.sec with otpNow := false, otpOp := op, otpItem := item, otpValue := s.otpOperand op } }, .ok)
  | r => ({ s with sec := { s.sec with otpStatus := 3 } }, r)

/-- The fuses of one operation: burnt as ordered on a good read-back; on a failed one what they hold is a free value
(assumption 23), but a fuse once blown stays blown (R492), and the floor does not fall. -/
def Otp.burn (o : Otp) (op : Nat) (value : Option (BitVec 256)) : Otp :=
  let bit := value.any fun v => v.getLsbD 0
  let high := (value.getD 0).setWidth 16
  match op with
  | 1 => { o with cust0 := value }
  | 2 => { o with cust1 := value }
  | 3 => { o with vendorRev0 := o.vendorRev0 || bit }
  | 4 => { o with vendorRev1 := o.vendorRev1 || bit }
  | 5 => { o with custRev0 := o.custRev0 || bit }
  | 6 => { o with custRev1 := o.custRev1 || bit }
  | _ => { o with floor := if high.toNat < o.floor.toNat then o.floor else high }

/-- Value that a good read-back finds: the operand, or a blown revoke fuse. -/
def burnValue (op : Nat) (operand : BitVec 256) : BitVec 256 := if 3 ≤ op ∧ op ≤ 6 then 1 else operand

/-- The fuses are burnt and read back. -/
def State.burn (s : State) (op : Nat) (readBack : Bool) : State :=
  let v := if readBack then some (burnValue op s.sec.otpValue) else Config.failedBurn op s.sec.otpBurns
  { s with otp := s.otp.burn op v, sec := { s.sec with otpBurns := s.sec.otpBurns + 1, otpOp := 0,
                                                       otpStatus := if readBack then 1 else 2 } }

/-- The item of a SET whose read-back failed answers FAULT_LATCHED (R445, R363). -/
def Waiting.failItem (w : Waiting) (item : Nat) : Waiting :=
  let w := { w with data := w.data.set item Result.faultLatched.code }
  if w.result = .ok || item < w.detail then { w with result := .faultLatched, detail := item } else w

/-- The operation of a command that waits for it. -/
def State.finishBurn (s : State) (op : Nat) (readBack : Bool) : State :=
  let w := if readBack then s.mbx.waiting else s.mbx.waiting.map fun w => w.failItem s.sec.otpItem
  ({ s.burn op readBack with mbx := { s.mbx with waiting := w } } : State).tryComplete

/-- A write of DEV.OTP_OP that is applied on its own (R367), under the arm in force. -/
def State.directBurn (s : State) (op : Nat) (readBack : Bool) : State :=
  let t : State := { s with sec := { s.sec with otpArmed := false } }
  match s.otpJudge s.sec.otpArmed op with
  | .ok =>
    { ({ t with sec := { t.sec with otpValue := s.otpOperand op } } : State).burn op readBack with
      mbx := { s.mbx with itemResult := if readBack then .ok else .faultLatched } }
  | r => { t with sec := { t.sec with otpStatus := 3 }, mbx := { s.mbx with itemResult := r } }

/-- One OTP operation: the one that a command ordered, or a write of its own. -/
def State.otpRun (s : State) (op : Nat) (readBack : Bool) : State :=
  if !s.fwOn then s
  else if s.sec.otpOp == op then s.finishBurn op readBack
  else if s.sec.otpOp == 0 then s.directBurn op readBack
  else s

def execOtpProgramCustomerSlot (slot : Fin 2) (readBack : Bool) (s : State) : Host.Outcome State Fault Refusal :=
  .next (s.otpRun (1 + slot.val) readBack)

def execOtpRevokeVendorSlot (slot : Fin 2) (readBack : Bool) (s : State) : Host.Outcome State Fault Refusal :=
  .next (s.otpRun (3 + slot.val) readBack)

def execOtpRevokeCustomerSlot (slot : Fin 2) (readBack : Bool) (s : State) : Host.Outcome State Fault Refusal :=
  .next (s.otpRun (5 + slot.val) readBack)

def execOtpRaiseRollbackFloor (readBack : Bool) (s : State) : Host.Outcome State Fault Refusal :=
  .next (s.otpRun 7 readBack)

/-! ### Key slots (R303, R447) -/

def Otp.vendorHas (o : Otp) (h : BitVec 256) : Bool :=
  (o.vendor0 == some h && !o.vendorRev0) || (o.vendor1 == some h && !o.vendorRev1)
def Otp.customerHas (o : Otp) (h : BitVec 256) : Bool :=
  (o.cust0 == some h && !o.custRev0) || (o.cust1 == some h && !o.custRev1)

/-- A customer slot is programmed and unrevoked. -/
def Otp.customerActive (o : Otp) : Bool := (o.cust0.isSome && !o.custRev0) || (o.cust1.isSome && !o.custRev1)

/-- The owner's slots hold the hash (R447). -/
def Otp.ownerHas (o : Otp) (h : BitVec 256) : Bool := if o.customerActive then o.customerHas h else o.vendorHas h

/-! ### Opening the debug port (R446 to R448) -/

/-- RESULT of the check of a request's 132 bytes: 4, 5, 6, or 3 on a pass. -/
def State.judgeUnlock (s : State) (bs : List Byte) : Nat :=
  let key := slice bs 0 64
  let hash := sha256 (s.sec.challenge ++ leBytes 8 s.otp.serial.toNat ++ leBytes 8 s.caps)
  if field bs 128 4 != 0x4E45504F then 4
  else if !s.otp.ownerHas (sha256Word key) then 5
  else if !ecdsaVerify key (slice bs 64 64) hash then 6
  else 3

/-- A request that fails: counted, and a new challenge drawn. -/
def State.unlockFails (s : State) (code : Nat) : State :=
  { s with sec := { s.sec with request := none, attempts := min 8 (s.sec.attempts + 1), draws := s.sec.draws + 1,
                               dbgResult := code } }

/-- The runtime ends: every channel parks with its FETs off and the link stops (R448). -/
def State.endRuntime (s : State) : State :=
  let t : State :=
    { s with phase := .opened,
             chans := s.chans.mapFinIdx fun i k h =>
               if s.hasCh ⟨i, h⟩ then { k with state := .parked, fetsOff := true, parkCause := 1 } else k
             link := { s.link with txOn := false, cfg := [], backlog := [], softOff := 0, park := 0, hold := 0 } }
  t.pdPark allMask

/-- What the RAMs held of the boot ROM's and the firmware's own data: the staging area and the Eclipse counters (R311, R318). -/
def Boot.scrub (b : Boot) : Boot :=
  { b with staging := [], cause := 0, attempts := 0, result := 0, elapsed := 0, count := 0, lastEnd := none, expiries := 0
           testPending := false }

/-- Fuses blown, secrets and RAMs zeroed, with the firmware's retained data (R311), path opened (R448). -/
def State.openPort (s : State) : State :=
  { s with otp := { s.otp with debug := true, kill := true, deviceKey := 0 },
           sec := { s.sec with request := none, dbgResult := 3, vault := Vector.replicate 16 none, otpArmed := false, otpNow := false,
                               otpOp := 0, otpStatus := 0, otpItem := 0, otpValue := 0, mac := 0, attestTime := 0, eccCorrected := 0 },
           boot := s.boot.scrub, mbx := Mailbox.init, gbs := Vector.replicate 256 Gb.init, params := [],
           pairs := Vector.replicate 12 PairRecord.init, entries := Vector.replicate 256 Entry.init }

/-- The committed request is checked, by the boot ROM or by the firmware (R447). -/
def execDebugUnlockRequest (s : State) : Host.Outcome State Fault Refusal :=
  .next
    (if (s.phase == .boot && !s.sec.debugHalt) || s.fwOn then
      match s.sec.request with
      | none => s
      | some bs =>
        if s.judgeUnlock bs == 3 then (if s.inRuntime then s.endRuntime.openPort else s.openPort)
        else s.unlockFails (s.judgeUnlock bs)
    else s)

end Sys2Proof.Machine
end

