-- ==== Sys2Proof/Machine/Boot.lean ====
section
/-! DEFINITION. Verification and runtime start, the power die's start and stop as the control die sees them, Eclipse,
autonomy and host silence (R295 to R317, R341, R342). -/

namespace Sys2Proof.Machine

/-- The boot ROM runs: before runtime start, and not under a debug halt (R296, R449). -/
def State.bootOn (s : State) : Bool := s.phase == .boot && !s.sec.debugHalt

/-! ### The Yaronom container (R303, R304) -/

/-- Bytes of the staging area that hold the header. -/
def Boot.header (b : Boot) : List Byte := stagingRead b.staging 0 512

/-- IMAGE_LEN and the image. -/
def imageLen (h : List Byte) : Nat := field h 8 4
def Boot.image (b : Boot) : List Byte := stagingRead b.staging 512 (imageLen b.header)

/-- Bit of VARIANTS for a variant. -/
def Variant.bit : Variant → Nat
  | .clv24X => 0
  | .clv16X => 1
  | .clv12S => 2
  | .clv08B => 3

/-- Check 0x01: fixed fields, and every field that the format gives as 0. -/
def formatOk (h : List Byte) : Bool :=
  field h 0 4 == 0x4D4E5259 && field h 4 2 == 1 && field h 6 2 == 512 && zeroField h 24 8 && zeroField h 320 192 &&
    (byteAt h 18).toNat < 16 && (byteAt h 19).toNat < 2

/-- Check 0x02. -/
def imageLenOk (h : List Byte) : Bool :=
  4 ≤ imageLen h && imageLen h ≤ 1310208 && imageLen h % 4 == 0 && field h 20 4 < imageLen h

/-- The checks of VERIFY in order with their reasons; the first that fails (R304). -/
def State.verifyFail (s : State) : Option Nat :=
  let h := s.boot.header
  let owner := s.otp.customerActive
  (([(1, fun _ => formatOk h), (2, fun _ => imageLenOk h), (3, fun _ => (byteAt h 18).getLsbD s.otp.variant.bit),
     (4, fun _ => s.otp.vendorHas (sha256Word (slice h 64 64))),
     (5, fun _ => ecdsaVerify (slice h 64 64) (slice h 192 64) (sha256 (h.take 192))),
     (6, fun _ => !owner || ((byteAt h 19).getLsbD 0 && s.otp.customerHas (sha256Word (slice h 128 64)))),
     (7, fun _ => !owner || ecdsaVerify (slice h 128 64) (slice h 256 64) (sha256 (h.take 256))),
     (8, fun _ => sha256 s.boot.image == slice h 32 32), (9, fun _ => s.otp.floor.toNat ≤ field h 16 2),
     (10, fun _ => !s.boot.stagingError)] : List (Nat × (Unit → Bool))).find? fun c => !c.2 ()).map (·.1)

/-- A failed verification: STATE 5, FAIL and LAST_FAIL (R304). -/
def State.verifyFails (s : State) (reason : Nat) : State :=
  { s with boot := { s.boot with st := .failed, fail := reason, lastFail := reason } }

/-! ### Runtime start (R305, R306) -/

/-- What a passed verification latches. -/
def State.latchImage (s : State) : State :=
  let h := s.boot.header
  { s with boot := { s.boot with st := .starting, imageHash := word256 (slice h 32 32),
                                 fwVersion := BitVec.ofNat 32 (field h 12 4), imageRollback := BitVec.ofNat 16 (field h 16 2) } }

/-- Runtime start: parameters at their reset values, link and windows open, the power die's start-up state cleared
where it runs, and RUNTIME_READY. -/
def State.startRuntime (s : State) : State :=
  let up := s.pd.running
  let t : State :=
    { s with phase := .runtime, params := [], runFc := s.fc, slotTime := s.time,
             link := { Link.init with txOn := true, answers := up, startedOnce := up },
             hp := { s.hp with timerOn := true, timer := 0, silenceDue := none },
             sec := { s.sec with eccCorrected := 0 },
             power := { s.power with arose := 0, first := none, tripped := 0 } }
  let t := if up then t.issueAll [.startUp] else t
  t.raise 0x0B01 0 [BitVec.ofNat 8 s.power.cause, BitVec.ofNat 8 (b2n up)]

/-- Verification ends (R304). -/
def execVerifyComplete (s : State) : Host.Outcome State Fault Refusal :=
  .next
    (if s.bootOn && s.boot.st == .verifying then
      match s.verifyFail with
      | some reason => s.verifyFails reason
      | none => s.latchImage.startRuntime
    else s)

/-- The staging area is zero (R301). -/
def execStagingClearDone (s : State) : Host.Outcome State Fault Refusal :=
  .next
    (if s.bootOn && s.boot.st == .clearing then
      { s with boot := { s.boot with st := .ready, staging := [], stagingError := false } }
    else s)

/-- The processor faults before runtime start (R308). -/
def execBootProcessorFault (s : State) : Host.Outcome State Fault Refusal :=
  .next
    (if s.bootOn then
      let t := s.verifyFails 0x0B
      { t with boot := { t.boot with staging := [], stagingError := false } }
    else s)

/-! ### The power die starts and stops (R306, R417) -/

/-- The firmware answers a power die that has started: start-up write, every stored setting, POWER_DIE_UP. -/
def State.powerUp (s : State) : State :=
  let first := !s.link.startedOnce
  let t : State := { s with link := { s.link with answers := true, startedOnce := true, upPending := false } }
  ((t.issueAll [.startUp]).resend).raise 0x0409 0
    [if first then 1 else 2, BitVec.ofNat 8 (b2n s.power.vmA + 2 * b2n s.power.vmB)]

/-- The power die as it starts or stops; the levels of its safe inputs are not its state, and in deep standby it is off already
(R435). -/
def State.freshPd (s : State) (running : Bool) : State :=
  { s with pd := { PowerDie.init running with standby := s.phase == .standby && s.pd.standby
                                              banks := s.pd.banks.map fun b => { PdBank.init with safe := b.safe } } }

/-- A VM rises above 6 V (R306, R417). During an Eclipse the firmware's part waits (R431). -/
def execPowerDieUp (vmA vmB : BitVec 16) (s : State) : Host.Outcome State Fault Refusal :=
  .next
    (if !s.pd.running && (6000 < vmA.toNat || 6000 < vmB.toNat) then
      let t := ((s.freshPd true).noteVm 0 vmA).noteVm 1 vmB
      if !s.inRuntime then t
      else if t.fwOn then t.powerUp
      else { t with link := { t.link with upPending := true } }
    else s)

/-- Both VMs fall below 6 V: the power die stops, and with it the configuration writes (R417, R493). -/
def execPowerDieStop (s : State) : Host.Outcome State Fault Refusal :=
  .next
    (if s.pd.running then
      let t := s.freshPd false
      let t : State := { t with power := { t.power with vmA := false, vmB := false },
                                link := { t.link with upPending := false, goodDown := 0, goodUp := 0 } }
      t.dropWrites
    else s)

/-! ### Eclipse (R309 to R317) -/

/-- An uncorrectable RAM error may strike queued command records; which, is a free value (R439, assumption 60). -/
def State.ramError (s : State) : State :=
  { s with mbx := { s.mbx with queue := s.mbx.queue.map fun q =>
      { q with sound := q.sound && !Config.strikes s.sec.draws s.fc q.seq } } }

/-- A cause of R309. Before runtime start an uncorrectable RAM error counts for the verification (R304). -/
def execEclipseStart (cause : Fin 7) (s : State) : Host.Outcome State Fault Refusal :=
  .next
    (if s.hwOn && cause.val != 0 && !s.boot.halted then
      (if cause.val == 2 then s.ramError else s).eclipseStart cause.val
     else if s.bootOn && cause.val == 2 then { s with boot := { s.boot with stagingError := true } }
     else s)

/-- Events that hardware raised during the Eclipse, with their original device times (R312). -/
def State.postDeferred (s : State) : State :=
  { s with mbx := { s.mbx with deferred := [] } }.forAll s.mbx.deferred fun e s => s.learn e

/-- What waited for the firmware (R117, R287, R397, R431, R493). -/
def State.catchUp (s : State) : State :=
  let s := s.forAll allCh fun c s => match (s.chan c).est.rcWait with
    | some (k1, k2) => if (s.chan c).state == .rollcall then s.evaluateRollCall c k1 k2 else s
    | none => s
  let s := s.forAll (List.finRange 32) fun f s => if (s.flt f).retimeDue then s.retime f else s
  let s := s.forAll (List.finRange 2) fun c s => s.settleSearch c
  let s : State := { s with chans := s.chans.map fun k => { k with powered := k.powered && k.state != .disabled } }
  let s := if s.link.upPending then s.powerUp else if s.mustResend then s.resend else s
  s.applyFigures.tryComplete

/-- The restart has completed (R312). -/
def State.eclipseEnd (s : State) (ms : Nat) : State :=
  let b := { s.boot with eclipse := false, result := 1, elapsed := ms * 240000, lastEnd := some s.fc }
  let t : State := { s with boot := b }
  ((t.raise 0x0B02 0
    ([BitVec.ofNat 8 b.cause, BitVec.ofNat 8 b.attempts] ++ leBytes 2 ms)).postDeferred).catchUp

def execEclipseEnd (durationMs : BitVec 16) (s : State) : Host.Outcome State Fault Refusal :=
  .next (if s.hwOn && s.boot.eclipse then s.eclipseEnd durationMs.toNat else s)

/-- Image check or retained-data check fails: halted until the next cold boot (R316). -/
def execEclipseRestartFailed (e : RestartFail) (s : State) : Host.Outcome State Fault Refusal :=
  .next
    (match e with
     | .image | .data =>
       if s.hwOn && s.boot.eclipse then
         { s with boot := { s.boot with eclipse := false, halted := true, result := 2 } }
       else s)

/-- The autonomy bound expires (R315). -/
def State.expire (s : State) : State :=
  let m := s.deviceStopMask
  let t := s.forAll (maskChs m) fun c s => s.deviceStop c fun k => { k with eclipse := true }
  let t : State := { t with boot := { t.boot with expired := true, expiries := satAdd (2 ^ 32 - 1) t.boot.expiries 1 } }
  t.raise 0x0B03 0 (leBytes 4 m.toNat)

def execEclipseExpired (s : State) : Host.Outcome State Fault Refusal :=
  .next (if s.hwOn && s.eclipsed && !s.boot.expired then s.expire else s)

/-! ### Host silence (R341, R342) -/

/-- The action of an expiry, by its code of DEV.HOST_SILENCE_ACTION, and the channels that it affects. -/
def State.silenceAction (s : State) (action : Nat) : State × BitVec 24 :=
  if action == 1 then
    let m := maskWhere fun c => s.hasCh c && (s.chan c).state != .parked
    ((s.forAll (maskChs m) fun c s => s.parkCh c 2).orderPark allMask, m)
  else (s.forAll (maskChs s.deviceStopMask) fun c s => s.deviceStop c fun k => { k with silent := true }, s.deviceStopMask)

/-- The host-silence action of an expiry (R342). -/
def State.hostSilent (s : State) (action : Nat) : State :=
  let r := s.silenceAction action
  let t := r.1.raise 0x0B04 0 ([BitVec.ofNat 8 action, 0, 0, 0] ++ leBytes 4 r.2.toNat)
  { t with hp := { t.hp with silent := true, silenceDue := none, silenceCount := satAdd (2 ^ 32 - 1) t.hp.silenceCount 1 } }

/-- The action applies once the timer has run out, as it was set then (R341, R344). -/
def execHostSilent (s : State) : Host.Outcome State Fault Refusal :=
  match s.hp.silenceDue with
  | some action => .next (if s.hwOn then s.hostSilent action else s)
  | none => .next s

end Sys2Proof.Machine
end

