-- ==== Sys2Proof/Machine/HostPort.lean ====
section
/-! DEFINITION. The host port: checks of a frame, its reply, and its commit; the windows (R298 to R302, R319 to R344, R346 to
R348, R353, R355 to R357, R446). A frame is presented when the device has received its host CRC; the rising edge of HP_SEL_N
commits or aborts it. -/

namespace Sys2Proof.Machine

/-! ### Lanes and clocks (R320, R321, R327) -/

/-- Lanes of a WIDTH code (R322). -/
def lanesOf (flags : Byte) : Nat :=
  match flags.toNat % 4 with
  | 0 => 2
  | 1 => 4
  | _ => 8

/-- A byte on `w` lanes, most significant bits first: the lanes' levels at each of its 8 / w clocks, bit i on HP_Di (R320). -/
def laneClocks (w : Nat) (b : Byte) : List Nat :=
  ((List.range (8 / w)).map fun i => b.toNat / 2 ^ (8 - w * (i + 1)) % 2 ^ w)

/-- Bytes in ascending order on `w` lanes (R320). -/
def lanesFor (w : Nat) (bs : List Byte) : List Nat := bs.flatMap (laneClocks w)

/-- A byte received from the levels of its 8 / w clocks: lanes outside the width are ignored (R320). -/
def byteFrom (w : Nat) (clocks : List Nat) : Byte := BitVec.ofNat 8 (clocks.foldl (fun a x => a * 2 ^ w + x % 2 ^ w) 0)

/-- `n` bytes received on `w` lanes. -/
def bytesFrom (w : Nat) : Nat → List Nat → List Byte
  | 0, _ => []
  | n + 1, cs => byteFrom w (cs.take (8 / w)) :: bytesFrom w n (cs.drop (8 / w))

/-- The status byte is sent one bit per clock, bit 7 first, the same bit on every lane of the width (R327). -/
def statusLanes (w : Nat) (b : Byte) : List Nat := (List.range 8).map fun i => if b.getLsbD (7 - i) then 2 ^ w - 1 else 0

/-! ### The checks of a frame (R329, R332, R333) -/

def opRead : Byte := 0xA5
def opWrite : Byte := 0x5A

/-- The header (R322). -/
def headerBytes (f : HpFrame) : List Byte :=
  [f.op, f.alive, f.flags, f.window] ++ leBytes 2 f.offset.toNat ++ leBytes 2 f.length.toNat

/-- Header and host data as sent (R322). -/
def frameBytes (f : HpFrame) : List Byte := headerBytes f ++ f.data

/-- The host phases of a frame on the lanes: header on 2, host data and host CRC on the width (R321). -/
def hostLanes (f : HpFrame) : List Nat :=
  lanesFor 2 (headerBytes f) ++ lanesFor (lanesOf f.flags) (f.data ++ leBytes 4 f.crc.toNat)

/-- A READ of window 4 takes no part in the sequence. -/
def frameExempt (f : HpFrame) : Bool := f.op == opRead && f.window == 4

/-- The frame carries the ALIVE of the last new frame. -/
def HostPort.repeats (h : HostPort) (f : HpFrame) : Bool := h.valid && f.alive == h.lastAlive && !frameExempt f

/-- The recorded frame has the same OP, WINDOW, OFFSET and LENGTH. -/
def HostPort.sameFrame (h : HostPort) (f : HpFrame) : Bool :=
  h.replay.any fun r => r.op == f.op && r.window == f.window && r.offset == f.offset && r.length == f.length

/-- Largest LENGTH of an OP (R322). -/
def lengthLimit (op : Byte) : Nat := if op == opWrite then 32768 else 4096

/-- The first failing check, in the order of R329. -/
def HostPort.reject (h : HostPort) (f : HpFrame) : Option Nat :=
  if f.flags.toNat % 4 = 3 then some 0x04
  else if crc32c (frameBytes f) != f.crc then some 0x01
  else if !(f.op == opRead || f.op == opWrite) then some 0x03
  else if 8 ≤ f.flags.toNat || f.flags.getLsbD 2 != h.replyClock then some 0x04
  else if 5 < f.window.toNat then some 0x05
  else if lengthLimit f.op < f.length.toNat then some 0x06
  else if frameExempt f || !h.valid || f.alive == h.lastAlive + 1 then none
  else if f.alive != h.lastAlive then some 0x07
  else if h.sameFrame f then none
  else some 0x08

/-! ### What the windows answer (R334, R335) -/

/-- RESULT of a frame, its data, and how many entries a fetch returned, with the losses shown by a last marker. -/
structure Answer where
  result : Result
  data : List Byte
  consume : Nat
  markerSeen : Nat
  deriving DecidableEq, Repr

def Answer.code (r : Result) : Answer := ⟨r, [], 0, 0⟩
def Answer.ok (data : List Byte) : Answer := ⟨.ok, data, 0, 0⟩

/-- Host data as one word. -/
def frameWord (f : HpFrame) : Nat := field f.data 0 4
def frameEnd (f : HpFrame) : Nat := f.offset.toNat + f.length.toNat
def frameAt (f : HpFrame) (offset len : Nat) : Bool := f.offset.toNat == offset && f.length.toNat == len

/-- Window 0, READ (R298). -/
def State.read0 (s : State) (f : HpFrame) : Answer :=
  let bs := (List.range f.length.toNat).map fun i => s.window0Byte (f.offset.toNat + i)
  if bs.all Option.isSome then .ok (bs.map fun b => b.getD 0) else .code .outOfRange

/-- STATE is ready or failed (R302). -/
def Boot.idle (b : Boot) : Bool := b.st == .ready || b.st == .failed

/-- A value that LOAD_BASE takes (R301). -/
def loadBaseOk (w : Nat) : Bool := w % 32768 == 0 && w / 32768 ≤ 39

/-- Window 0, WRITE before runtime start (R298, R301, R302). -/
def State.write0 (s : State) (f : HpFrame) : Answer :=
  let inRange :=
    if 0x8000 ≤ f.offset.toNat then frameEnd f ≤ 0x10000 && f.offset.toNat % 4 == 0 && f.length.toNat % 4 == 0
    else if frameAt f 0x40 4 then frameWord f == 1 || frameWord f == 2
    else frameAt f 0x48 4 && loadBaseOk (frameWord f)
  if !inRange then .code .outOfRange else if s.boot.idle then .ok [] else .code .wrongState

/-- Window 1 (R346). -/
def State.post1 (s : State) (f : HpFrame) : Answer :=
  let n := f.length.toNat
  if f.op != opWrite || f.offset != 0 || n < 8 || 256 < n || n % 4 != 0 || field f.data 2 2 != n then .code .outOfRange
  else if s.freeEntries == 0 then .code .noCredit
  else .ok []

/-- Whole records that fit in a length (R353). -/
def fitRecords : Nat → List (List Byte) → List (List Byte)
  | _, [] => []
  | n, r :: rs => if r.length ≤ n then r :: fitRecords (n - r.length) rs else []

/-- Window 2 (R353). -/
def State.fetch2 (s : State) (f : HpFrame) : Answer :=
  let n := f.length.toNat
  if f.op != opRead || f.offset != 0 || n < 16 then .code .outOfRange
  else
    let rs := fitRecords n s.mbx.responses
    ⟨.ok, padTo n rs.flatten, rs.length, 0⟩

/-- An entry of the event ring as 32 bytes (R356, R357, R371). -/
def Slot.bytes : Slot → List Byte
  | .event e =>
    leBytes 2 e.code ++ [BitVec.ofNat 8 e.inst, BitVec.ofNat 8 (2 * b2n e.deferred + b2n e.suspect)] ++ leBytes 4 e.evtSeq ++
      leBytes 8 e.time ++ padTo 16 e.payload
  | .marker q ts =>
    leBytes 2 1 ++ [0, 0] ++ leBytes 4 q ++ leBytes 8 (ts.headD 0) ++ padTo 16 (leBytes 4 ts.length ++ leBytes 8 (ts.getLastD 0))

/-- Losses that a marker shows. -/
def Slot.losses : Slot → Nat
  | .event _ => 0
  | .marker _ ts => ts.length

/-- Window 3 (R355). -/
def State.fetch3 (s : State) (f : HpFrame) : Answer :=
  let n := f.length.toNat
  if f.op != opRead || f.offset != 0 || n < 32 || n % 32 != 0 then .code .outOfRange
  else
    let es := s.mbx.ring.take (n / 32)
    ⟨.ok, padTo n (es.flatMap Slot.bytes), es.length, (es.getLast?.map Slot.losses).getD 0⟩

/-- A value that HP.CTRL takes (R336). -/
def ctrlOk (w : Nat) : Bool := w < 256 && !w.testBit 3 && w / 2 % 4 != 3

/-- Window 4 (R336). -/
def State.access4 (s : State) (f : HpFrame) : Answer :=
  if f.op == opRead then
    (if frameEnd f ≤ 0x40 then .ok (slice s.window4 f.offset.toNat f.length.toNat) else .code .outOfRange)
  else if frameAt f 0x0C 4 && ctrlOk (frameWord f) then .ok []
  else .code .outOfRange

/-- Window 5 (R446). -/
def State.access5 (s : State) (f : HpFrame) : Answer :=
  if f.op == opRead then
    (if frameEnd f ≤ 0x24 then .ok (slice s.window5 f.offset.toNat f.length.toNat) else .code .outOfRange)
  else if frameAt f 0x40 132 then .ok []
  else .code .outOfRange

/-- The window is not available for the frame in the present state (R298, R335, R428, R446). -/
def State.unavailable (s : State) (f : HpFrame) : Bool :=
  match f.window.toNat with
  | 0 => f.op == opWrite && s.started
  | 1 => !s.inRuntime || s.power.entering == .armed || s.power.entering == .unitsStopped
  | 2 => !s.inRuntime
  | 3 => !s.inRuntime
  | 5 => f.op == opWrite &&
      (s.eclipsed || s.sec.attempts == 8 || (s.inRuntime && !s.allDisabled) || s.phase == .opened)
  | _ => false

/-- A duplicate's answer (R326, R333). -/
def HostPort.replayed (h : HostPort) (f : HpFrame) : Answer :=
  match h.replay with
  | none => .code .duplicate
  | some r =>
    let data := if r.result = .ok then r.reply else List.replicate f.length.toNat 0
    ⟨.duplicate, r.result.code :: (if f.op == opRead then data else []), 0, 0⟩

/-- RESULT and reply of a good frame (R326, R334). -/
def State.answerFrame (s : State) (f : HpFrame) : Answer :=
  if s.hp.repeats f then s.hp.replayed f
  else if 1 ≤ f.window.toNat && f.window.toNat ≤ 3 && s.eclipsed then .code .eclipseRetry
  else if s.unavailable f then .code .wrongState
  else match f.window.toNat with
  | 0 => if f.op == opRead then s.read0 f else s.write0 f
  | 1 => s.post1 f
  | 2 => s.fetch2 f
  | 3 => s.fetch3 f
  | 4 => s.access4 f
  | _ => s.access5 f

/-- The host port answers (R296, R429, R449). -/
def State.hpOn (s : State) : Bool :=
  (s.phase == .boot || s.phase == .runtime || s.phase == .opened) && !s.sec.debugHalt

/-! ### The reply (R321, R325, R327, R329) -/

/-- What the reply CRC covers: status byte, ALIVE echo, RESULT and reply data (R325, R329). -/
def CurFrame.covered (k : CurFrame) : List Byte := [k.status, k.frame.alive, k.result.code] ++ k.reply

/-- The reply after the status byte: ALIVE echo, RESULT, reply data, reply CRC (R325). -/
def CurFrame.rest (k : CurFrame) : List Byte :=
  [k.frame.alive, k.result.code] ++ k.reply ++ leBytes 4 (crc32c k.covered).toNat

/-- Levels that the device drives, clock by clock; nothing where the frame is rejected (R324, R329). -/
def CurFrame.drive (k : CurFrame) : List Nat :=
  if k.reject.isSome then []
  else statusLanes (lanesOf k.frame.flags) k.status ++ lanesFor (lanesOf k.frame.flags) k.rest

/-- Clocks of a complete frame: host phases, turnaround, reply (R321). -/
def CurFrame.clocks (k : CurFrame) : Nat := (hostLanes k.frame).length + 2 + k.drive.length

/-! ### Commit (R330 to R333) -/

/-- A frame rejected or aborted: counted, with its ALIVE and reason (R330, R336). -/
def State.badFrameEnd (s : State) (alive : Byte) (reason : Nat) : State :=
  { s with hp := { s.hp with cur := none, prevBad := true, rejectCount := satAdd 65535 s.hp.rejectCount 1,
                             rejectAlive := alive, rejectReason := reason } }

/-- A command record is accepted (R347, R348). -/
def State.acceptPost (s : State) (r : List Byte) : State :=
  let seq := (s.mbx.acceptSeq + 1) % 2 ^ 32
  { s with mbx := { s.mbx with acceptSeq := seq, queue := s.mbx.queue ++ [⟨seq, none, r, true⟩] },
           hp := { s.hp with creditWanted := false } }

/-- Entries that a fetch of events returned are consumed; a marker keeps the losses after the latch (R357). -/
def Mailbox.consumeEvents (m : Mailbox) (n seen : Nat) : Mailbox :=
  let kept := match (m.ring.take n).getLast? with
    | some (.marker q ts) => if seen < ts.length then [Slot.marker (q + seen) (ts.drop seen)] else []
    | _ => []
  { m with ring := kept ++ m.ring.drop n, markerOpen := m.markerOpen && n == 0 }

/-- A write to window 0 (R301, R302). -/
def State.commit0 (s : State) (f : HpFrame) : State :=
  let b := s.boot
  let b := if 0x8000 ≤ f.offset.toNat then
      { b with staging := stagingWrite b.staging (b.page * 32768 + (f.offset.toNat - 0x8000)) f.data }
    else if f.offset.toNat == 0x48 then { b with page := frameWord f / 32768 }
    else if frameWord f == 1 then { b with st := .verifying }
    else { b with st := .clearing }
  { s with boot := b }

/-- What a frame answered OK does at its commit (R330). -/
def State.commitOk (s : State) (k : CurFrame) : State :=
  let f := k.frame
  match f.window.toNat with
  | 0 => if f.op == opWrite then s.commit0 f else s
  | 1 => s.acceptPost f.data
  | 2 => { s with mbx := { s.mbx with responses := s.mbx.responses.drop k.consume } }
  | 3 => { s with mbx := s.mbx.consumeEvents k.consume k.markerSeen }
  | 4 => if f.op == opWrite then { s with hp := { s.hp with ctrl := BitVec.ofNat 32 (frameWord f) } } else s
  | 5 => if f.op == opWrite then { s with sec := { s.sec with request := some f.data, dbgResult := 1 } } else s
  | _ => s

/-- The effect of RESULT: only OK acts; a refused post waits for credit (R337). -/
def State.commitResult (s : State) (k : CurFrame) : State :=
  if k.duplicate then s
  else if k.result = .ok then s.commitOk k
  else if k.result = .noCredit then { s with hp := { s.hp with creditWanted := true } }
  else s

/-- LAST_ALIVE and the replay record after a good frame (R332, R333). -/
def HostPort.sequence (h : HostPort) (k : CurFrame) : HostPort :=
  let f := k.frame
  if k.duplicate || frameExempt f then h
  else { h with lastAlive := f.alive, valid := true,
                replay := some ⟨f.op, f.window, f.offset, f.length, k.result,
                                if f.op == opRead && k.result = .ok then k.reply else []⟩ }

/-- A good, complete frame commits; the host-silence timer restarts (R330, R332, R341). -/
def State.commitGood (s : State) (k : CurFrame) : State :=
  let h := { s.hp.sequence k with cur := none, prevBad := false, timer := 0, timerOn := s.inRuntime }
  ({ s with hp := h } : State).commitResult k

/-- HP_SEL_N rises after `clocks` clocks: the frame is complete with the last bit of its reply CRC (R321, R329, R330). -/
def State.endFrame (s : State) (clocks : Nat) (alive : Byte) : State :=
  match s.hp.cur with
  | none => if clocks < 8 then s else s.badFrameEnd alive 0x02
  | some k =>
    match k.reject with
    | some reason => s.badFrameEnd k.frame.alive reason
    | none => if k.clocks ≤ clocks then s.commitGood k else s.badFrameEnd k.frame.alive 0x02

/-! ### A frame is received -/

/-- The frame after its host CRC: rejected, or its answer with the status byte latched (R327 to R329). -/
def State.curFrame (s : State) (f : HpFrame) : CurFrame :=
  let a := s.answerFrame f
  match s.hp.reject f with
  | some r => { frame := f, reject := some r, duplicate := false, result := .ok, reply := [], status := 0xFF, consume := 0,
                markerSeen := 0 }
  | none => { frame := f, reject := none, duplicate := s.hp.repeats f, result := a.result, reply := a.data,
              status := s.statusByte, consume := a.consume, markerSeen := a.markerSeen }

/-- A frame is presented. One still in progress has ended without completing (R331). -/
def State.present (s : State) (f : HpFrame) : State :=
  if !s.hpOn then s
  else
    let t := if s.hp.cur.isSome then s.endFrame 8 f.alive else s
    { t with hp := { t.hp with cur := some (t.curFrame f) } }

/-- A frame received whole and committed. -/
def State.wholeFrame (s : State) (f : HpFrame) : State :=
  if s.hpOn then
    let t := s.present f
    t.endFrame ((t.hp.cur.map CurFrame.clocks).getD 8) f.alive
  else s

def execCommandPost (f : HpFrame) (s : State) : Host.Outcome State Fault Refusal := .next (s.present f)
def execResponseFetch (f : HpFrame) (s : State) : Host.Outcome State Fault Refusal := .next (s.present f)
def execEventFetch (f : HpFrame) (s : State) : Host.Outcome State Fault Refusal := .next (s.present f)
def execHpCtrl (f : HpFrame) (s : State) : Host.Outcome State Fault Refusal := .next (s.wholeFrame f)
def execLoadApertureWrite (f : HpFrame) (s : State) : Host.Outcome State Fault Refusal := .next (s.wholeFrame f)
def execVerify (f : HpFrame) (s : State) : Host.Outcome State Fault Refusal := .next (s.wholeFrame f)
def execClear (f : HpFrame) (s : State) : Host.Outcome State Fault Refusal := .next (s.wholeFrame f)

/-- The glitch filter of HP_SEL_N: whether a high level of this many ns ends the selection (R331). -/
def deselects (high : Nat) : Bool := 20 ≤ high || (10 ≤ high && Config.shortDeselect high)

def execCommit (clocks high : Nat) (alive : Byte) (s : State) : Host.Outcome State Fault Refusal :=
  .next (if s.hpOn && deselects high then s.endFrame clocks alive else s)

end Sys2Proof.Machine
end

