-- ==== Sys2Proof/WellFormed.lean ====
section
/-! DEFINITION. Which commands the environment can really send: sizes and ranges the wires allow. The machine is total
on every command; these checks say which ones have a counterpart outside. -/

namespace Sys2Proof

/-- A frame carries LENGTH bytes of host data when OP is WRITE, and none otherwise (R321, R322). -/
def HpFrame.wf (f : HpFrame) : Bool :=
  if f.op == 0x5A#8 then f.data.length == f.length.toNat else f.data.isEmpty

/-- The frame addresses one window with one OP (R335). -/
def HpFrame.isFor (f : HpFrame) (op window : Byte) : Bool := f.wf && f.op == op && f.window == window

/-- Sizes that a CAN frame can have (R362, R373). -/
def canLengthOk (fd : Bool) (n : Nat) : Bool :=
  n ≤ 8 || (fd && [12, 16, 20, 24, 32, 48, 64].contains n)

/-- A CAN frame as the bus can carry it (R362, R373). -/
def CanFrame.wf (f : CanFrame) : Bool :=
  (f.ext || f.ident.toNat ≤ 0x7FF) && canLengthOk f.fd f.data.length && (f.fd || (!f.brs && !f.esi)) &&
    (!f.rtr || (!f.fd && f.data.isEmpty))

/-- A SENT frame has a calibration pulse and pulses of some length (R190). -/
def SentRx.wf (r : SentRx) : Bool := 0 < r.calNs && !r.pulses.isEmpty && r.pulses.all (0 < ·)

/-- A code of the 12-bit sense converters (R150). -/
def senseCodeOk (c : Int) : Bool := -2048 ≤ c && c ≤ 2047

/-- Parameters whose write is a row of its own (R367, R445). -/
def ownRowIds : List Nat :=
  [0x0107, 0x0200, 0x0300, 0x0415, 0x0425, 0x0430, 0x0436, 0x2001, 0x2024, 0x4000, 0x4017, 0x5000, 0x6002, 0x7000, 0x7022,
   0x7032, 0x8000, 0x8001, 0x800B, 0x803B, 0x9000, 0x9008, 0x9020, 0x9024, 0x9030, 0xA002, 0xA007]

/-- The checks of one command. -/
def Instr.wf : Instr → Bool
  | .commandPost f => f.wf
  | .responseFetch f => f.isFor 0xA5 2
  | .eventFetch f => f.isFor 0xA5 3
  | .hpCtrl f => f.isFor 0x5A 4
  | .loadApertureWrite f => f.isFor 0x5A 0 && 0x8000 ≤ f.offset.toNat
  | .verify f => f.isFor 0x5A 0 && f.offset == 0x40#16 && f.data == [1, 0, 0, 0]
  | .clear f => f.isFor 0x5A 0 && f.offset == 0x40#16 && f.data == [2, 0, 0, 0]
  | .parameterWrite _ id _ _ => !ownRowIds.contains id.toNat
  | .periodCentre _ codes => codes.length == 12 && codes.all fun c => senseCodeOk c.1 && senseCodeOk c.2
  | .sentFrame _ rx => rx.wf
  | .canFrameReceived _ f _ => f.wf
  | .uplinkSuperframe _ _ _ _ listen => listen.all fun x => senseCodeOk x.2.1 && senseCodeOk x.2.2
  | .eclipseStart c => c.val != 0
  | _ => true

end Sys2Proof
end

