-- ==== Sys2Proof/Machine/Operands.lean ====
section
/-! DEFINITION. The operands of a command record: which opcodes there are, what each record holds, and the checks of its
form that come before any state is judged (R54, R345, R360 to R364, R391). -/

namespace Sys2Proof.Machine

/-! ### Opcodes (R360) -/

/-- Form of the payload, one per layout of R360. -/
inductive Form where
  | items (each : Nat)
  | fixed (len : Nat)
  | axes
  | frame
  deriving DecidableEq, Repr

/-- What INSTANCE addresses. -/
inductive Addressed where
  | nothing | channel | controller
  deriving DecidableEq, Repr

/-- Layout of an opcode's record; none for an opcode not in R360. -/
def opLayout (op : Nat) : Option (Form × Addressed) :=
  match op with
  | 0x01 => some (.items 4, .nothing)
  | 0x02 => some (.items 12, .nothing)
  | 0x10 => some (.fixed 20, .channel)
  | 0x11 => some (.fixed 16, .channel)
  | 0x12 => some (.fixed 12, .channel)
  | 0x13 => some (.fixed 8, .channel)
  | 0x14 => some (.fixed 8, .channel)
  | 0x15 => some (.fixed 12, .nothing)
  | 0x16 => some (.axes, .nothing)
  | 0x17 => some (.fixed 12, .nothing)
  | 0x20 => some (.fixed 12, .nothing)
  | 0x21 => some (.fixed 12, .nothing)
  | 0x22 => some (.fixed 12, .nothing)
  | 0x30 => some (.frame, .controller)
  | 0x31 => some (.fixed 12, .controller)
  | 0x40 => some (.fixed 8, .channel)
  | _ => none

/-- Opcodes that the gateway accepts (R391). -/
def gatewayOps : List Nat := [0x01, 0x02, 0x10, 0x11, 0x12, 0x13, 0x14, 0x15, 0x17, 0x40]

/-- The opcode is defined for its source. -/
def opDefined (src : Source) (op : Nat) : Bool :=
  (opLayout op).isSome && (src == .host || gatewayOps.contains op)

/-! ### Items of GET and SET -/

/-- One item: parameter, instance, reserved byte, and the VALUE of a SET. -/
structure Item where
  id : Nat
  inst : Nat
  zero : Bool
  value : BitVec 64
  deriving DecidableEq, Repr

/-- Item `i` of a record whose items take `each` bytes. -/
def itemAt (r : List Byte) (each i : Nat) : Item :=
  let o := 12 + each * i
  { id := field r o 2, inst := (byteAt r (o + 2)).toNat, zero := byteAt r (o + 3) == 0,
    value := BitVec.ofNat 64 (field r (o + 4) 8) }

/-- COUNT of GET, SET and, one byte later, of INTERP_MOVE. -/
def recCount (r : List Byte) : Nat := (byteAt r 8).toNat
def axisCount (r : List Byte) : Nat := (byteAt r 9).toNat

/-- All items of a record. -/
def itemsOf (r : List Byte) (each : Nat) : List Item := (List.range (recCount r)).map fun i => itemAt r each i

/-- Most items that a record may carry (R360, R391). -/
def itemLimit : Source → Nat
  | .host => 20
  | .cangw => 4

/-! ### Form checks: step 2 of R363 -/

/-- Reserved payload bytes of a record with a fixed length are 0. -/
def fixedZeros (op : Nat) (r : List Byte) : Bool :=
  match op with
  | 0x10 => zeroField r 17 3
  | 0x11 => zeroField r 13 3
  | 0x12 => zeroField r 9 3
  | 0x20 => zeroField r 11 1
  | 0x21 => zeroField r 10 2
  | 0x31 => zeroField r 10 2
  | _ => true

/-- Length of the data of a CAN_TX, rounded up to 4. -/
def dataRoom (r : List Byte) : Nat := ((byteAt r 13).toNat + 3) / 4 * 4

/-- LEN matches the payload and its reserved fields are 0. -/
def formOk (src : Source) (op : Nat) (f : Form) (r : List Byte) : Bool :=
  match f with
  | .items each =>
    let n := recCount r
    1 ≤ n && n ≤ itemLimit src && recLen r == 12 + each * n && zeroField r 9 3 &&
      (itemsOf r each).all fun i => i.zero
  | .fixed len => recLen r == len && fixedZeros op r
  | .axes =>
    let n := axisCount r
    recLen r == 12 + 12 * n && zeroField r 10 2 && (List.range n).all fun i => zeroField r (12 + 12 * i + 1) 3
  | .frame =>
    recLen r == 24 + dataRoom r && zeroField r 14 2 &&
      zeroField r (24 + (byteAt r 13).toNat) (dataRoom r - (byteAt r 13).toNat)

/-- INSTANCE lies in the range of the opcode. -/
def instOk (a : Addressed) (i : Nat) : Bool :=
  match a with
  | .nothing => i == 0
  | .channel => i < 24
  | .controller => i < 2

/-- Steps 1 and 2 of R363 on a record that its frame really holds (R391). -/
def judgeForm (src : Source) (r : List Byte) : Result :=
  match opLayout (recOp r) with
  | none => .badOpcode
  | some (f, a) =>
    if !opDefined src (recOp r) then .badOpcode
    else if r.length < recLen r || !zeroField r 6 2 || !instOk a (recInst r) || !formOk src (recOp r) f r then .outOfRange
    else .ok

/-! ### Fields of the single commands -/

/-- Channel and controller that INSTANCE addresses. -/
def recCh (r : List Byte) : Ch := ⟨recInst r % 24, Nat.mod_lt _ (by decide)⟩
def recCan (r : List Byte) : CanIx := ⟨recInst r % 2, Nat.mod_lt _ (by decide)⟩

/-- MASK24 in 4 bytes, and whether it is nonzero with no reserved bit set (R54, R74, R361). -/
def recMask (r : List Byte) : BitVec 24 := BitVec.ofNat 24 (field r 8 3)
def maskOk (r : List Byte) : Bool := field r 8 4 != 0 && byteAt r 11 == 0

/-- FLAGS, TARGET and VELOCITY of the motion commands (R54). -/
def moveToFlags (r : List Byte) : Byte := byteAt r 16
def moveVelFlags (r : List Byte) : Byte := byteAt r 12
def moveToOf (r : List Byte) : Move := .to (sint 64 (field r 8 8)) ((moveToFlags r).getLsbD 1) ((moveToFlags r).getLsbD 2)
def moveVelOf (r : List Byte) : Move := .vel (sint 32 (field r 8 4))

/-- Axes of INTERP_MOVE: instance and target. -/
def axisInst (r : List Byte) (i : Nat) : Nat := (byteAt r (12 + 12 * i)).toNat
def axesOf (r : List Byte) : List (Ch × Int) :=
  (List.range (axisCount r)).map fun i =>
    (⟨axisInst r i % 24, Nat.mod_lt _ (by decide)⟩, sint 64 (field r (16 + 12 * i) 8))

/-- GROUP is 0 to 3, COUNT 1 to 8, every instance a channel's and every target an S40 (R54). -/
def axesOk (r : List Byte) : Bool :=
  (byteAt r 8).toNat < 4 && 1 ≤ axisCount r && axisCount r ≤ 8 &&
    ((List.range (axisCount r)).all fun i => axisInst r i < 24) &&
    (axesOf r).all fun a => -(2 ^ 39) ≤ a.2 && a.2 < 2 ^ 39

/-- Fields of CAN_TX (R362). -/
def txIdent (r : List Byte) : Nat := field r 8 4
def txFlags (r : List Byte) : Byte := byteAt r 12
def txTime (r : List Byte) : Nat := field r 16 8
def txTimed (r : List Byte) : Bool := (txFlags r).getLsbD 2
def txFrameOf (r : List Byte) : CanFrame :=
  { ident := BitVec.ofNat 29 (txIdent r), ext := (txIdent r).testBit 29, rtr := false,
    fd := (txFlags r).getLsbD 0, brs := (txFlags r).getLsbD 1, esi := false, data := slice r 24 (byteAt r 13).toNat }

/-- An IDENT of R362. -/
def identOk (n : Nat) : Bool := n < 2 ^ 30 && (n.testBit 29 || n % 2 ^ 29 ≤ 0x7FF)

/-- The rules of R362 and R383 on the fields of CAN_TX. -/
def txFieldsOk (r : List Byte) : Bool :=
  identOk (txIdent r) && (txFlags r).toNat < 8 && (!(txFlags r).getLsbD 1 || (txFlags r).getLsbD 0) &&
    canLengthOk ((txFlags r).getLsbD 0) (byteAt r 13).toNat && (txTimed r == (txTime r != 0))

end Sys2Proof.Machine
end

