-- ==== Sys2Proof/Machine/Power.lean ====
section
/-! DEFINITION. Supplies, clocks, reset causes, cold boot, deep standby, the debug access path and boundary scan (R295 to
R299, R415 to R429, R448 to R451). -/

namespace Sys2Proof.Machine

/-! ### Reset (R422 to R426) -/

/-- Causes for which the reset controller drives its own pulse once everything is qualified (R423). -/
def ownPulse (n : Nat) : Bool := n == 0 || n == 2 || n == 3 || n == 4

/-- A cause of R297 arises: the first one is recorded, of several in its guard cycle the lowest (R424). -/
def Power.addCause (p : Power) (n : Nat) : Power :=
  { p with arose := p.arose ||| BitVec.ofNat 6 (2 ^ n), pulseDue := p.pulseDue || ownPulse n
           first := some (match p.first with
             | none => n
             | some m => if p.guarding then min m n else m)
           guarding := p.guarding || p.first.isNone }

def State.cause (s : State) (n : Nat) : State := { s with power := s.power.addCause n }

/-- Every unit of the control die at its reset state; input levels that the units follow stay. -/
def State.freshUnits (s : State) : State :=
  { State.reset with
    pending := s.pending, pd := s.pd, otp := s.otp, power := s.power, sec := s.sec, boot := s.boot,
    fbs := s.fbs.map fun f => { Fb.init with lineA := f.lineA, lineB := f.lineB, lineI := f.lineI },
    trips := s.trips.map fun k => { Trip.init with level := k.level } }

/-- The control die is held in reset: no unit of it runs, and VEXC is off (R423, R432, R434). -/
def State.controlReset (s : State) : State :=
  let t := s.freshUnits
  { t with phase := .reset, fc := s.fc, pd := { t.pd with banks := t.pd.banks.map fun b => { b with vexc := false } }
           sec := { s.sec with debugHalt := false }
           power := { s.power with entering := .none, auxDomain := false } }

/-- The power die while RESET_N is low (R426): switching channels turn off in two steps, everything else is cleared. -/
def State.pdReset (s : State) : State :=
  let cs := s.pd.chans.mapFinIdx fun i _ h => { PdChan.init with turnOff := if s.fetsOn ⟨i, h⟩ then .plateau else .none }
  let t := s.freshPd s.pd.running
  { t with pd := { t.pd with chans := cs } }

/-- Length of the reset controller's pulse, 100 us, in cycles of the guard oscillator of 16 MHz (R420, R422). -/
def pulseCycles : Nat := 1600

/-- The reset controller drives RESET_N low for its pulse (R422). -/
def State.drivePulse (s : State) : State :=
  let t := s.pdReset
  { t with power := { t.power with pulseLeft := pulseCycles } }

/-- RESET_N goes low from outside. -/
def State.resetN (s : State) : State :=
  let t := s.pdReset
  { t with power := { t.power with extLow := true } }

/-- Every supply needed for running is released and the root is qualified. -/
def Power.qualified (p : Power) : Bool := p.vstby && p.vcore && p.vio && p.vdda && p.rootOk

/-- The reset controller drives its pulse once everything is qualified (R423). -/
def State.tryPulse (s : State) : State :=
  if s.phase == .reset && s.power.qualified && s.power.pulseDue then
    ({ s with power := { s.power with pulseDue := false } } : State).drivePulse
  else s

def Power.setSupply (p : Power) (v : Supply) (ok : Bool) : Power :=
  match v with
  | .vcore => { p with vcore := ok }
  | .vio => { p with vio := ok }
  | .vdda => { p with vdda := ok }

def Power.supply (p : Power) : Supply → Bool
  | .vcore => p.vcore
  | .vio => p.vio
  | .vdda => p.vdda

/-- Place of a supply in the upper byte of DEV.RESET_DETAIL. -/
def supplyBit : Supply → BitVec 3
  | .vcore => 1
  | .vio => 2
  | .vdda => 4

/-- A supervisor trips (R418): in deep standby the supplies may go (R429). -/
def execSupplySupervisorTrip (v : Supply) (s : State) : Host.Outcome State Fault Refusal :=
  .next
    (if !s.power.supply v then s
     else
      let t : State := { s with power := s.power.setSupply v false }
      if s.phase == .standby || !s.power.vstby then t
      else (({ t with power := { t.power with tripped := t.power.tripped ||| supplyBit v } } : State).cause 3).controlReset)

/-- A supervisor releases. -/
def execSupplySupervisorRelease (v : Supply) (s : State) : Host.Outcome State Fault Refusal :=
  .next ({ s with power := s.power.setSupply v true } : State).tryPulse

/-- VSTBY comes up: the wake domain starts cold (R418, R423). -/
def execVstbyPowerOn (s : State) : Host.Outcome State Fault Refusal :=
  .next
    (if s.power.vstby then s
     else
      let p := { s.power with vstby := true, arose := 0, first := none, tripped := 0, rootOk := false, wakeLatch := false
                              pulseLeft := 0, pulseDue := false, guarding := false }
      (({ s with power := p } : State).cause 0).controlReset)

/-- VSTBY falls out of range: the wake domain stops (R429). -/
def execVstbyPowerLoss (s : State) : Host.Outcome State Fault Refusal :=
  .next
    (({ s with power := { s.power with vstby := false, rootOk := false, wakeLatch := false, pulseLeft := 0 } } : State).controlReset)

/-- The guard oscillator declares a clock loss (R420). -/
def execClockLoss (s : State) : Host.Outcome State Fault Refusal :=
  .next
    (if s.power.vstby && s.power.rootOk && s.phase != .standby then
      (({ s with power := { s.power with rootOk := false } } : State).cause 4).controlReset
    else s)

/-- The root has been present and within its window for 1 ms (R423). -/
def execRootQualified (s : State) : Host.Outcome State Fault Refusal :=
  .next
    (if s.power.vstby && s.phase != .standby then ({ s with power := { s.power with rootOk := true } } : State).tryPulse
    else s)

/-- The supplies beside VSTBY are in range. -/
def Power.supplied (p : Power) : Bool := p.vcore && p.vio && p.vdda

/-- A cold boot only waits for RESET_N to read high: everything is qualified, and no pulse is still to be driven (R423, R424). -/
def Power.releasing (p : Power) : Bool := p.qualified && !p.pulseDue

/-- RESET_N is driven low from outside (R423); while it is low already, it stays so and nothing more arises (R424). In deep standby it
acts with the supplies present only (R429). -/
def execResetNLow (s : State) : Host.Outcome State Fault Refusal :=
  .next
    (if s.phase == .standby && !s.power.supplied then s
     else if s.power.resetLow then { s with power := { s.power with extLow := true } }
     else ((s.cause 1).controlReset).resetN)

/-! ### Cold boot (R295, R299, R424, R425) -/

/-- An opening that a power loss cut off is completed before anything else (R448). -/
def Otp.completeKill (o : Otp) : Otp := if o.debug then { o with kill := true, deviceKey := 0 } else o

/-- The boot ROM's registers: identity block from OTP and the present reset (R299). -/
def freshBoot (o : Otp) (cause : Nat) : Boot := { Boot.init with ident := ⟨o.floor, o.keySlots, cause, o.debug⟩ }

/-- Security state after a cold boot: vault zeroed, a new challenge (R444, R446). -/
def Security.cold (k : Security) : Security :=
  { Security.init with jtag := k.jtag, draws := k.draws + 1, otpBurns := k.otpBurns }

/-- The cold boot. -/
def State.coldBoot (s : State) : State :=
  let o := s.otp.completeKill
  let cause := s.power.first.getD 0
  let t := s.freshUnits
  { t with
    phase := .boot, otp := o, sec := s.sec.cold, boot := freshBoot o cause,
    power := { s.power with extLow := false, pulseLeft := 0, guarding := false, temp := 0, auxDomain := false, entering := .none, cause := cause
                            detail := (0 : BitVec 5) ++ (s.power.tripped ++ ((0 : BitVec 2) ++ s.power.arose)) } }

/-- RESET_N reads high: nothing drives it low any more. -/
def State.releaseN (s : State) : State := { s with power := { s.power with extLow := false, pulseLeft := 0 } }

/-- RESET_N reads high; with everything qualified that is a cold boot (R424). -/
def execColdBoot (s : State) : Host.Outcome State Fault Refusal :=
  .next
    (if s.phase != .reset then s
     else if s.power.releasing && !jtagHolds s.sec.jtag then s.coldBoot
     else s.releaseN)

/-! ### Deep standby (R427 to R429) -/

/-- A write of 1 to DEV.STANDBY (R427). -/
def State.writeStandby (s : State) : State × Result :=
  if !s.allDisabled || s.power.wakeLevel then (s, .wrongState)
  else if s.power.entering != .none then (s, .ok)
  else ({ s with power := { s.power with entering := .asked } }, .ok)

/-- Step 2: the units stop. -/
def State.stopUnits (s : State) : State :=
  let s := (s.forAll [0, 1] fun c s => s.leaveBus c).stopAux
  let s := s.forAll [0, 1] fun b s => (s.onPdBank b fun k => { k with vexc := false }).setPar Pid.ADC_VEXC_ENABLE b.val 0
  let s := s.forAll (List.finRange 16) fun m s => (s.stopMod m).setPar Pid.ADC_RUN m.val 0
  let s := s.forAll (List.finRange 32) fun f s =>
    (s.onFlt f Flt.stop).setPar Pid.FLT_RUN f.val 0
  { s with power := { s.power with entering := .unitsStopped } }

def execStandbyUnitsStop (s : State) : Host.Outcome State Fault Refusal :=
  .next (if s.fwOn && s.power.entering == .armed then s.stopUnits else s)

/-- The wake latch starts the sequence to a cold boot with cause 2 (R423, R429, R435). -/
def State.startWake (s : State) : State := if s.power.wakeLatch then ((s.cause 2).controlReset).tryPulse else s

/-- Steps 3 and 4: the power die in standby, every control-die domain off but the wake domain. -/
def State.enterStandby (s : State) : State :=
  let t := s.pdStandby
  { t with phase := .standby, link := Link.init, hp := { t.hp with cur := none }, fbs := t.fbs.map fun f => { f with running := false }
           power := { t.power with entering := .none, rootOk := false, auxDomain := false } }

def execStandbyPowerDieOff (s : State) : Host.Outcome State Fault Refusal :=
  .next
    (if s.fwOn && s.power.entering == .unitsStopped && (s.can 0).phase == .stopped && (s.can 1).phase == .stopped then
      s.enterStandby.startWake
    else s)

/-- A qualified WAKE level (R427). -/
def State.wakeIs (s : State) (high : Bool) : State := { s with power := { s.power with wakeLevel := high } }

/-- WAKE has been high for 50 us (R429, R435). -/
def execWake (s : State) : Host.Outcome State Fault Refusal :=
  .next
    (if !s.power.vstby then s
     else
      let t := s.wakeIs true
      if t.phase == .standby then ({ t with power := { t.power with wakeLatch := true } } : State).startWake
      else if t.power.entering == .armed || t.power.entering == .unitsStopped then
        { t with power := { t.power with wakeLatch := true } }
      else t)

def execWakeLevelChange (high : Bool) (s : State) : Host.Outcome State Fault Refusal :=
  .next (if s.power.vstby then s.wakeIs high else s)

/-! ### Debug access path (R449) -/

/-- The port is open and the die runs. -/
def State.debugOpen (s : State) : Bool :=
  s.otp.debug && (s.phase == .boot || s.phase == .runtime || s.phase == .opened)

/-- A controller under a halt: TXD recessive, and integration afresh. -/
def Can.halt (k : Can) : Can :=
  let k := { k with sending := none, sofAt := none, tx := k.tx.map (Option.map fun f : TxFrame => { f with begun := false }) }
  match k.phase with
  | .stopped => k
  | .leaving => k.stop
  | _ => { k with phase := .integrating }

def execDebugHalt (s : State) : Host.Outcome State Fault Refusal :=
  .next
    (if s.debugOpen && !s.sec.debugHalt then
      { s with sec := { s.sec with debugHalt := true }, cans := s.cans.map Can.halt
               link := { s.link with softOff := 0, park := 0, hold := 0 } }
    else s)

def execDebugResume (s : State) : Host.Outcome State Fault Refusal :=
  .next (if s.debugOpen then { s with sec := { s.sec with debugHalt := false } } else s)

def execDebugReset (s : State) : Host.Outcome State Fault Refusal :=
  .next (if s.debugOpen then ((s.cause 5).controlReset).drivePulse else s)

/-! ### Boundary scan (R450, R451) -/

/-- The debug domain is on (R430). -/
def State.tapOn (s : State) : Bool := s.power.vcore && s.power.vio && s.phase != .standby

def execJtagInstructionLoad (i : Jtag) (s : State) : Host.Outcome State Fault Refusal :=
  .next
    (if s.tapOn then
      let t : State := { s with sec := { s.sec with jtag := i } }
      if jtagHolds i then ((t.cause 5).controlReset).pdReset else t
    else s)

def execTrstNLow (s : State) : Host.Outcome State Fault Refusal :=
  .next (if s.tapOn then { s with sec := { s.sec with jtag := .idcode } } else s)

end Sys2Proof.Machine
end

