-- ==== Sys2Proof/Machine/Tick.lean ====
section
/-! DEFINITION. One fabric cycle in which no command arrives (R42, R43, R207, R212, R315, R341, R421). -/

namespace Sys2Proof.Machine

/-- CLK_FAB runs on the control die (R42, R423, R429, R449). -/
def State.fabOn (s : State) : Bool :=
  (s.phase == .boot || s.phase == .runtime || s.phase == .opened) && !s.sec.debugHalt

/-- Fabric cycles of an unslewed tick, in the unit of `timeFrac`. -/
def tickLength : Int := 24000000000

/-- Device time after one more fabric cycle: a tick ends after 24 cycles, and each tick adds its share of the slew, so
that single ticks last 23 or 25 (R43, R421). -/
def State.passTime (s : State) : State :=
  let frac := s.timeFrac + 1000000000
  if frac < tickLength then { s with timeFrac := frac }
  else { s with time := (s.time + 1) % 2 ^ 64, timeFrac := frac - tickLength + 24 * s.par Pid.DEV_TIME_SLEW 0 }

/-- The host-silence timer counts while it runs. At the end of an fc in which it stands at its limit (0: none) it has run out: a commit
in that fc has restarted it in time, a later one does not take the action back, nor does a later write change which it is (R341,
R344). -/
def HostPort.passTime (h : HostPort) (limit action : Nat) : HostPort :=
  if !h.timerOn then h
  else if limit != 0 && limit ≤ h.timer then { h with timerOn := false, silenceDue := some action }
  else { h with timer := h.timer + 1 }

/-- DEV.HOST_SILENCE in fabric cycles. -/
def State.silenceLimit (s : State) : Nat := 240000 * s.parN Pid.DEV_HOST_SILENCE 0

/-- The duration of an Eclipse in progress (R315). -/
def Boot.passTime (b : Boot) : Boot := if b.eclipse then { b with elapsed := b.elapsed + 1 } else b

/-- A new fc has seen no write yet but one of the firmware's own that had to wait for it (R367). -/
def State.applyLater (s : State) : State :=
  match s.mbx.later with
  | (id, inst, v) :: rest =>
    if s.fwOn then { s.setPar id inst v with mbx := { s.mbx with later := rest, written := [unitOf id inst] } }
    else { s with mbx := { s.mbx with written := [] } }
  | [] => { s with mbx := { s.mbx with written := [] } }

/-- The units that count fabric cycles once runtime has started; pulses of the cycle that ends are over. Corrected RAM errors are
counted (R438). -/
def State.passUnits (s : State) : State :=
  if s.hwOn then
    let t := s.applyLater.syncTrips.settleFbs.settleAux
    { t with pulses := [], hp := t.hp.passTime s.silenceLimit (s.parN Pid.DEV_HOST_SILENCE_ACTION 0), boot := t.boot.passTime
             sec := { t.sec with eccCorrected := satAdd (2 ^ 32 - 1) t.sec.eccCorrected (Config.correctedErrors s.sec.draws s.fc) } }
  else { s with pulses := [] }

/-- The next fabric cycle begins: every 24th holds a CLK_MOD edge (R235, R247, R259), every 750th from the runtime start begins a slot
of the filter engine (R266), comparators judge what was written in the one before (R282), and one may hold the sample point of a SOF
(R382). -/
def State.nextFc (s : State) : State :=
  let t := { s with fc := s.fc + 1, slotTime := if (s.fc + 1 - s.runFc) % 750 == 0 then s.time else s.slotTime }
  if !t.hwOn then t
  else
    let u := ({ t with cans := t.cans.map fun k => k.stampSof t.fc t.time } : State).settleCmps
    if t.fc % 24 == 0 then u.modEdge.stopMods else u

/-- What the host port shows in the next fabric cycle is taken at the end of this one (R328). -/
def State.latchView (s : State) : State := { s with hp := { s.hp with view := s.hpView } }

/-- A cycle of the guard oscillator: causes of the next one come later, and the reset controller's pulse runs (R422, R424). -/
def Power.passGuard (p : Power) : Power := { p with guarding := false, pulseLeft := p.pulseLeft - 1 }

/-- One fabric cycle: the rules that fire in it act, and it passes; where CLK_FAB does not run, a guard cycle of the reset
controller passes (R422, R424). -/
def State.cycle (s : State) : State :=
  if s.fabOn then s.latchView.matrix.passTime.passUnits.nextFc else { s with power := s.power.passGuard }

end Sys2Proof.Machine
end

