-- ==== Sys2Proof/Machine/Writes.lean ====
section
/-! DEFINITION. Parameter writes: the checks of one item in the order of R363, and what each write does (R5, R10 to R13,
R89 to R91, R118, R119, R152, R163, R175, R182, R197, R211, R222, R249, R259, R262, R278 to R284, R307, R366 to R368, R374,
R379, R391, R405, R445). -/

namespace Sys2Proof.Machine

/-- Outcome of one item: the state, its result, and the tags that its command waits for. -/
structure Wrote where
  state : State
  result : Result
  tags : List Byte
  deriving DecidableEq, Repr

def Wrote.of (p : State × Result) : Wrote := ⟨p.1, p.2, []⟩

/-! ### Instances and units -/

/-- Number of instances of a parameter (R366, R231, R262, R291 to R293, R398, R413). -/
def instCount (id : Nat) : Nat :=
  match id / 4096 with
  | 0 => 1
  | 1 => 2
  | 2 => 24
  | 3 => 24
  | 4 => 24
  | 5 => if id < 0x5100 then 16 else if id < 0x5200 then 256 else 2
  | 6 => 256
  | 7 => if id < 0x7200 then 32 else 128
  | 8 => if id < 0x8040 then 2 else 256
  | 9 => if id < 0x9020 then 16 else if id < 0x9030 then 4 else 1
  | _ => if id < 0xA010 then 256 else if id < 0xA020 then 4 else 144

def chIx (n : Nat) : Ch := ⟨n % 24, Nat.mod_lt _ (by decide)⟩
def bankIx (n : Nat) : BankIx := ⟨n % 2, Nat.mod_lt _ (by decide)⟩
def modIx (n : Nat) : ModIx := ⟨n % 16, Nat.mod_lt _ (by decide)⟩
def fltIx (n : Nat) : FltIx := ⟨n % 32, Nat.mod_lt _ (by decide)⟩
def canIx (n : Nat) : CanIx := ⟨n % 2, Nat.mod_lt _ (by decide)⟩
def auxIx (n : Nat) : AuxIx := ⟨n % 16, Nat.mod_lt _ (by decide)⟩
def tripIx (n : Nat) : TripIx := ⟨n % 4, Nat.mod_lt _ (by decide)⟩
def entIx (n : Nat) : EntryIx := ⟨n % 256, Nat.mod_lt _ (by decide)⟩

/-- The unit that a parameter and instance address exists on this variant (R5, R307). -/
def State.hasUnit (s : State) (id inst : Nat) : Bool :=
  match id / 4096 with
  | 2 => s.hasCh (chIx inst)
  | 3 => s.hasCh (chIx inst)
  | 4 => s.hasCh (chIx inst)
  | 5 =>
    if id < 0x5100 then s.hasMod (modIx inst) else if id < 0x5200 then s.hasMod (modIx (inst / 16))
    else (List.finRange 16).any fun m => s.hasMod m
  | 7 => s.hasFlt
  | 8 => if id < 0x8040 then s.hasCan (canIx inst) else s.hasCan (canIx (inst / 128))
  | 9 => if id < 0x9020 then inst < s.auxCount else s.hasTrip
  | _ => true

/-- The source owns the channel (R61, R368). -/
def State.owns (s : State) (src : Source) (c : Ch) : Bool := s.parB Pid.CH_CMD_SOURCE c.val == (src == .cangw)

/-- NOT_OWNER of a SET item (R368, R391). -/
def State.itemOwner (s : State) (src : Source) (id inst : Nat) : Bool :=
  let space := id / 4096
  if space == 2 || space == 3 then s.owns src (chIx inst) && (id != Pid.CH_CMD_SOURCE || src == .host) else src == .host

/-! ### Stop parameters (R11) -/

/-- A page parameter of page 1 (R292). -/
def onPage1 (id : Nat) : Bool := (0x7030 ≤ id && id < 0x7040) || 0x7140 ≤ id

/-- The unit of a Stop parameter runs. -/
def State.busy (s : State) (id inst : Nat) : Bool :=
  let c := chIx inst
  match id / 4096 with
  | 1 => (s.presentChs (bankIx inst)).any fun c => (s.chan c).state != .disabled
  | 2 => !(s.chan c).state.stopped
  | 3 =>
    let k := s.chan c
    !(k.state == .disabled || ((k.state == .fault || k.state == .parked) && k.fetsOff))
  | 4 => s.parB Pid.FB_ENABLE c.val
  | 5 => s.parB Pid.ADC_RUN (if id < 0x5100 then inst else inst / 16)
  | 6 => s.parB Pid.GB_ENABLE inst
  | 7 =>
    s.parB Pid.FLT_RUN inst && (id < 0x7020 || (s.flt (fltIx inst)).page1 == onPage1 id)
  | 8 =>
    if id < 0x8040 then (s.can (canIx inst)).phase != .stopped
    else s.parN Pid.CAN_FLT_ACTION inst % 4 != 0 && (s.can (canIx (inst / 128))).phase != .stopped
  | 9 => if id < 0x9020 then (s.aux (auxIx inst)).run != .stopped else s.parB Pid.AUX_TRIP_ENABLE inst
  | _ => s.parB Pid.RFX_ENABLE inst

/-! ### Twin and group rules (R76, R77, R91), standby page of a pending swap (R279) -/

/-- Codes between BUSY_RUNNING and the value checks. -/
def State.ruleCode (s : State) (id inst : Nat) (value : BitVec 64) : Result :=
  let c := chIx inst
  let p := twinOf c
  let loose := fun c : Ch => (s.chan c).state.stopped && (s.chan c).motion.armed.isNone
  let g := value.toNat
  if id / 4096 == 2 then
    if (id == Pid.CH_POSITION || id == Pid.CH_TWIN || twinParams.contains id) && (s.pairEnergised c || s.unmatched c) &&
        !(loose c && loose p) then .wrongState
    else if id == Pid.CH_INTERP_GROUP && s.groupCount == 0 && g != 255 then .unitAbsent
    else if id == Pid.CH_INTERP_GROUP && g ≤ 3 && 8 ≤ ((s.groupMembers g).filter (· != c)).length then .outOfRange
    else .ok
  else if 0x7020 ≤ id && id < 0x7200 && (s.flt (fltIx inst)).swapPending.isSome &&
      (s.flt (fltIx inst)).page1 != onPage1 id then .wrongState
  else .ok

/-! ### Value checks of the tables -/

/-- The value of one parameter with another as if written. -/
def State.asIf (s : State) (id inst : Nat) (v : Int) (other : Nat) : Int := if other = id then v else s.par other inst

/-- T1 < T2 < ... < T6 (R118). -/
def State.ladderOk (s : State) (id inst : Nat) (v : Int) : Bool :=
  (List.range 5).all fun i => s.asIf id inst v (0x2110 + i) < s.asIf id inst v (0x2111 + i)

/-- Threshold in sense-cell current between 500 uA and 4,800 uA (R152). -/
def State.shortOk (s : State) (id inst : Nat) (v : Int) : Bool :=
  let ratio := s.asIf id inst v Pid.PS_SENSE_RATIO
  let mA := s.asIf id inst v Pid.PS_SC_THRESHOLD
  500 * ratio ≤ mA * 1000 && mA * 1000 ≤ 4800 * ratio

/-- The inequalities of R163. -/
def State.supplyOk (s : State) (id inst : Nat) (v : Int) : Bool :=
  let x := s.asIf id inst v
  x Pid.BANK_UV_TRIP + 2000 ≤ x Pid.BANK_CHOP_OFF && x Pid.BANK_CHOP_OFF + 500 ≤ x Pid.BANK_CHOP_ON &&
    x Pid.BANK_CHOP_ON + 1000 ≤ x Pid.BANK_OV_TRIP

/-- The band of a comparator (R284). -/
def State.bandOk (s : State) (id inst : Nat) (v : Int) : Bool :=
  let x := s.asIf id inst v
  let banded := x Pid.FLT_TH_MODE == 3 || x Pid.FLT_TH_MODE == 4
  x Pid.FLT_TH_LO ≤ x Pid.FLT_TH_HI && !(banded && x Pid.FLT_TH_HI - x Pid.FLT_TH_LO < x Pid.FLT_TH_HYST)

/-- A length lies in the range of the page's type (R292). -/
def State.lengthOk (s : State) (id inst : Nat) (v : Int) : Bool := s.par (id - 1) inst != 1 || v ≤ 8

/-- CAN.FLT_ACTION and CAN.FLT_MATCH carry no reserved code (R379). -/
def actionOk (v : Nat) : Bool := v < 32 && v / 4 ≤ 4
def matchOk (v : Nat) : Bool := bits v 63 61 == 0 && bits v 31 31 == 0 && bits v 30 29 != 3

/-- GB.SOURCE: its kinds, instances and their presence (R256, R264). -/
def State.sourceCode (s : State) (v : Nat) : Result :=
  let ix := v % 2 ^ 14
  match v / 2 ^ 14 with
  | 0 => .ok
  | 1 => if 255 < ix then .outOfRange else if s.hasMod (modIx (ix / 16)) then .ok else .unitAbsent
  | 2 => if 31 < ix then .outOfRange else if s.hasFlt then .ok else .unitAbsent
  | _ => .outOfRange

def okIf (b : Bool) : Result := if b then .ok else .outOfRange
def presentIf (b : Bool) : Result := if b then .ok else .unitAbsent

/-- Checks beyond the Range column. -/
def State.valueCode (s : State) (id inst : Nat) (v : Int) : Result :=
  if 0x2110 ≤ id && id ≤ 0x2115 then okIf (s.ladderOk id inst v)
  else if id == 0x3000 || id == 0x3001 then okIf (s.shortOk id inst v)
  else if 0x1200 ≤ id && id ≤ 0x1203 then okIf (s.supplyOk id inst v)
  else if 0x7200 ≤ id && id ≤ 0x7203 then okIf (s.bandOk id inst v)
  else if id == 0x7021 || id == 0x7031 then okIf (s.lengthOk id inst v)
  else match id with
  | 0x5003 => presentIf (s.hasCh (chIx v.toNat))
  | 0x5008 => okIf (v == 0 || inst % 2 == 0)
  | 0x6000 => s.sourceCode v.toNat
  | 0x8002 => okIf (nominalMapOk v.toNat)
  | 0x8003 => okIf (dataMapOk v.toNat)
  | 0x8021 => okIf (identOk v.toNat)
  | 0x8040 => okIf (matchOk v.toNat)
  | 0x8041 => okIf (actionOk v.toNat)
  | 0x9023 => presentIf (s.auxMaskPresent v.toNat)
  | 0xA000 => okIf (ruleLoOk v.toNat)
  | 0xA001 => okIf (ruleHiOk v.toNat)
  | _ => .ok

/-! ### What a write does -/

/-- A stored value, and the configuration write of a setting that is carried to the power die (R175, R262). -/
def State.store (s : State) (id inst : Nat) (v : Int) : Wrote :=
  let t := s.setPar id inst v
  if carried id then
    let r := t.configWrite (.param id inst v)
    ⟨r.1, .ok, r.2⟩
  else ⟨t, .ok, []⟩

/-- Fabric cycles of a PWM period, to the nearest; a tie, as at 30,720 Hz, goes up, which R98 does not say (DESIGN CHOICE,
assumption 109). -/
def periodFc (freq : Int) : Nat := ((240000000 + freq / 2) / freq).toNat

/-- CH.MOTOR_KE from the host discards the Ke collection (R367). -/
def State.writeKe (s : State) (c : Ch) (v : Int) : State :=
  (s.setPar Pid.CH_MOTOR_KE c.val v).onEst c fun e => { e with keSeen := 0, keGood := 0, keSum := 0 }

/-- A write of DEV.HOST_SILENCE restarts the timer (R341). -/
def State.writeSilence (s : State) (v : Int) : State :=
  let t := s.setPar Pid.DEV_HOST_SILENCE 0 v
  { t with hp := { t.hp with timer := 0, timerOn := true } }

/-- A write of 1 to DEV.ECLIPSE_TEST (R309, R317). -/
def State.writeTest (s : State) : State := { s with boot := { s.boot with testPending := true } }

/-- A coefficient: the page's preset becomes custom (R281). -/
def State.writeCoef (s : State) (id inst : Nat) (v : Int) : State :=
  (s.setPar id inst v).setPar (if id < 0x7140 then Pid.FLT_P0_PRESET else Pid.FLT_P1_PRESET) inst 0

/-- A threshold parameter: the confirmation count restarts (R284). -/
def State.writeBand (s : State) (id inst : Nat) (v : Int) : State :=
  let t := s.setPar id inst v
  { t with cmps := upd t.cmps ⟨inst % 128, Nat.mod_lt _ (by decide)⟩ fun k =>
      { k with run := 0, next := k.next.map fun n => { n with run := 0 } } }

/-- VEXC of a bank (R234). -/
def State.writeVexc (s : State) (b : BankIx) (v : Int) : Wrote :=
  let r := (s.setPar Pid.ADC_VEXC_ENABLE b.val v).configWrite (.vexc b (v != 0))
  ⟨r.1, .ok, r.2⟩

def State.writeAdc (s : State) (m : ModIx) (v : Int) : Wrote :=
  let r := s.writeAdcRun m v
  ⟨r.1, r.2.1, r.2.2⟩

/-- Effects of an accepted item by parameter. -/
def State.applyWrite (s : State) (item id inst : Nat) (v : Int) : Wrote :=
  let c := chIx inst
  let ok := fun t : State => (⟨t, .ok, []⟩ : Wrote)
  if 0x7100 ≤ id && id < 0x7180 then ok (s.writeCoef id inst v)
  else if 0x7200 ≤ id && id ≤ 0x7207 then ok (s.writeBand id inst v)
  else match id with
  | 0x0107 => ok s.writeTest
  | 0x0200 => ok (s.writeSilence v)
  | 0x0300 => .of s.writeStandby
  | 0x0415 => .of s.writeAttestGo
  | 0x0425 => .of s.writeVaultLoad
  | 0x0430 => .of (s.writeOtpArm v)
  | 0x0436 => .of (s.writeOtpOp v.toNat item)
  | 0x1100 => ok ((s.setPar id inst v).onBank (bankIx inst) fun k => { k with period := periodFc v })
  | 0x2001 => ok (s.writePosition c v)
  | 0x2130 => ok ((s.setPar id inst v).onEst c fun e => if v == 0 then { e with twinK := 0 } else e)
  | 0x2024 => ok (s.clearLimits c)
  | 0x2122 => ok (s.writeKe c v)
  | 0x2212 => ok ((s.setPar id inst v).onEst c fun e => { e with angleCount := 0, emfCount := 0 })
  | 0x2234 => ok ((s.setPar id inst v).onEst c fun e => { e with feCount := 0 })
  | 0x4000 => .of (s.writeFbEnable c v)
  | 0x4017 => .of (s.writeFbTrust c)
  | 0x5000 => s.writeAdc (modIx inst) v
  | 0x5200 => s.writeVexc (bankIx inst) v
  | 0x6002 => .of (s.writeGbEnable (entIx inst) v)
  | 0x7000 => .of (s.writeFltRun (fltIx inst) v)
  | 0x7022 => ok (s.loadPreset (fltIx inst) false v.toNat)
  | 0x7032 => ok (s.loadPreset (fltIx inst) true v.toNat)
  | 0x8000 => .of (s.writeCanRun (canIx inst) v)
  | 0x8001 => .of (s.writeCanMode (canIx inst) v)
  | 0x800B => .of (s.writeCanRecover (canIx inst))
  | 0x803B => .of (s.writeRxPop (canIx inst) v)
  | 0x9000 => .of (s.writeAuxRun (auxIx inst) v)
  | 0x9008 => .of (s.writeAuxForce (auxIx inst) v)
  | 0x9020 => .of (s.writeTripEnable (tripIx inst) v)
  | 0x9024 => .of (s.writeTripClear (tripIx inst))
  | 0x9030 => .of s.writeLoadAll
  | 0xA002 => .of (s.writeRfxEnable (entIx inst) v)
  | 0xA007 => .of (s.writeRfxRelease (entIx inst))
  | _ => s.store id inst v

/-- Parameters whose writes to an energised pair are compared (R76, R112), and that the pair's record notes (R115). -/
def pairIds : List Nat := Pid.CH_POSITION :: Pid.CH_TWIN :: twinParams

/-- The effect of an accepted item; a write to one twin is noted for the pair (R76, R112, R115). -/
def State.applyItem (s : State) (item id inst : Nat) (v : Int) : Wrote :=
  let w := s.applyWrite item id inst v
  if w.result == .ok && pairIds.contains id then
    { w with state := w.state.notePairWrite (s.comparesWrite id (chIx inst)) id (chIx inst) v }
  else w

/-! ### One item (R363) -/

/-- Steps 1 to 6 of the item checks. -/
def State.judgeItem (s : State) (src : Source) (row : PRow) (id inst : Nat) (value : BitVec 64) : Result :=
  if instCount id ≤ inst then .outOfRange
  else if !s.hasUnit id inst then .unitAbsent
  else if !s.itemOwner src id inst then .notOwner
  else if row.stop && s.busy id inst then .busyRunning
  else s.ruleCode id inst value

/-- Step 7: the number that VALUE carries, where it passes the value checks. -/
def State.itemValue (s : State) (row : PRow) (id inst : Nat) (value : BitVec 64) : Result × Int :=
  match row.decode value with
  | none => (.outOfRange, 0)
  | some v => if row.spec.ok v then (s.valueCode id inst v, v) else (.outOfRange, 0)

/-- One SET item, judged and applied on its own. -/
def State.writeItem (s : State) (src : Source) (item id inst : Nat) (value : BitVec 64) : Wrote :=
  match paramRow id with
  | none => ⟨s, .badParamId, []⟩
  | some row =>
    match s.judgeItem src row id inst value with
    | .ok =>
      match s.itemValue row id inst value with
      | (.ok, v) => s.applyItem item id inst v
      | (r, _) => ⟨s, r, []⟩
    | r => ⟨s, r, []⟩

/-- A fabric cycle passes before a write to a unit that has been written in this one, so that no two writes to one unit are applied
in the same fc (R367); which later one takes it R367 does not say (DESIGN CHOICE, assumption 118). -/
def State.apartGo (unit : Nat × Nat) : Nat → State → State
  | 0, s => s
  | n + 1, s => if s.mbx.written.contains unit then State.apartGo unit n s.cycle else s

/-- At most the writes of the firmware that wait come before it. -/
def State.apart (s : State) (unit : Nat × Nat) : State := State.apartGo unit (s.mbx.later.length + 1) s

/-- A write is applied in an fc in which its unit has had none (R367). -/
def State.writeApart (s : State) (src : Source) (item id inst : Nat) (value : BitVec 64) : Wrote :=
  let w := (s.apart (unitOf id inst)).writeItem src item id inst value
  if w.result = .ok then { w with state := w.state.noteWrite (unitOf id inst) } else w

/-- The value that a GET item reads, after its checks (R363, R364). -/
def State.readItem (s : State) (id inst : Nat) : Result × BitVec 64 :=
  match paramRow id with
  | none => (.badParamId, 0)
  | some _ =>
    if instCount id ≤ inst then (.outOfRange, 0)
    else if !s.hasUnit id inst then (.unitAbsent, 0)
    else (.ok, encodeValue (s.readParam id inst))

/-! ### Writes that are commands of their own (R367) -/

/-- An arm of an OTP operation is used up by the next command (R445). -/
def State.disarm (s : State) : State := { s with sec := { s.sec with otpArmed := false } }

/-- A write applied by the firmware on its own; its result is kept (assumption 9), and no response stands before what it begins. -/
def State.writeAlone (s : State) (src : Source) (id inst : Nat) (value : BitVec 64) : State :=
  if s.fwOn then
    let w := s.disarm.writeApart src 0 id inst value
    let t : State := { w.state with mbx := { w.state.mbx with itemResult := w.result } }
    if w.result != .ok then t
    else if id == Pid.DEV_ECLIPSE_TEST then t.testEclipse
    else if id == Pid.DEV_STANDBY then t.armEntry
    else t
  else s

def execParameterWrite (src : Source) (id : BitVec 16) (inst : Byte) (value : BitVec 64) (s : State) :
    Host.Outcome State Fault Refusal := .next (s.writeAlone src id.toNat inst.toNat value)

def execChPositionWrite (src : Source) (ch : Ch) (value : BitVec 64) (s : State) : Host.Outcome State Fault Refusal :=
  .next (s.writeAlone src Pid.CH_POSITION ch.val value)

def execChLimitLatchWrite (src : Source) (ch : Ch) (value : BitVec 64) (s : State) : Host.Outcome State Fault Refusal :=
  .next (s.writeAlone src Pid.CH_LIMIT_LATCH ch.val value)

def execFbEnable (src : Source) (ch : Ch) (value : BitVec 64) (s : State) : Host.Outcome State Fault Refusal :=
  .next (s.writeAlone src Pid.FB_ENABLE ch.val value)

def execFbTrust (src : Source) (ch : Ch) (value : BitVec 64) (s : State) : Host.Outcome State Fault Refusal :=
  .next (s.writeAlone src Pid.FB_TRUST ch.val value)

def execRfxEnable (src : Source) (r : RuleIx) (value : BitVec 64) (s : State) : Host.Outcome State Fault Refusal :=
  .next (s.writeAlone src Pid.RFX_ENABLE r.val value)

def execRfxRelease (src : Source) (r : RuleIx) (value : BitVec 64) (s : State) : Host.Outcome State Fault Refusal :=
  .next (s.writeAlone src Pid.RFX_RELEASE r.val value)

def execAdcRun (src : Source) (m : ModIx) (value : BitVec 64) (s : State) : Host.Outcome State Fault Refusal :=
  .next (s.writeAlone src Pid.ADC_RUN m.val value)

def execGbEnable (src : Source) (g : EntryIx) (value : BitVec 64) (s : State) : Host.Outcome State Fault Refusal :=
  .next (s.writeAlone src Pid.GB_ENABLE g.val value)

def execFltRun (src : Source) (f : FltIx) (value : BitVec 64) (s : State) : Host.Outcome State Fault Refusal :=
  .next (s.writeAlone src Pid.FLT_RUN f.val value)

def execFltPresetLoad (src : Source) (f : FltIx) (page1 : Bool) (value : BitVec 64) (s : State) :
    Host.Outcome State Fault Refusal :=
  .next (s.writeAlone src (Pid.FLT_P0_PRESET + pageOff page1) f.val value)

def execAuxRun (src : Source) (k : AuxIx) (value : BitVec 64) (s : State) : Host.Outcome State Fault Refusal :=
  .next (s.writeAlone src Pid.AUX_RUN k.val value)

def execAuxLoadAll (src : Source) (value : BitVec 64) (s : State) : Host.Outcome State Fault Refusal :=
  .next (s.writeAlone src Pid.AUX_LOAD_ALL 0 value)

def execAuxForce (src : Source) (k : AuxIx) (value : BitVec 64) (s : State) : Host.Outcome State Fault Refusal :=
  .next (s.writeAlone src Pid.AUX_FORCE k.val value)

def execAuxTripEnable (src : Source) (t : TripIx) (value : BitVec 64) (s : State) : Host.Outcome State Fault Refusal :=
  .next (s.writeAlone src Pid.AUX_TRIP_ENABLE t.val value)

def execAuxTripClear (src : Source) (t : TripIx) (value : BitVec 64) (s : State) : Host.Outcome State Fault Refusal :=
  .next (s.writeAlone src Pid.AUX_TRIP_CLEAR t.val value)

def execCanRun (src : Source) (c : CanIx) (value : BitVec 64) (s : State) : Host.Outcome State Fault Refusal :=
  .next (s.writeAlone src Pid.CAN_RUN c.val value)

def execCanMode (src : Source) (c : CanIx) (value : BitVec 64) (s : State) : Host.Outcome State Fault Refusal :=
  .next (s.writeAlone src Pid.CAN_MODE c.val value)

def execCanRecover (src : Source) (c : CanIx) (value : BitVec 64) (s : State) : Host.Outcome State Fault Refusal :=
  .next (s.writeAlone src Pid.CAN_RECOVER c.val value)

def execCanRxPop (src : Source) (c : CanIx) (value : BitVec 64) (s : State) : Host.Outcome State Fault Refusal :=
  .next (s.writeAlone src Pid.CAN_RX_POP c.val value)

def execDevHostSilenceWrite (src : Source) (value : BitVec 64) (s : State) : Host.Outcome State Fault Refusal :=
  .next (s.writeAlone src Pid.DEV_HOST_SILENCE 0 value)

/-- The write of its own has no response to wait for: the Eclipse begins at once (R309). -/
def execDevEclipseTest (src : Source) (value : BitVec 64) (s : State) : Host.Outcome State Fault Refusal :=
  .next (s.writeAlone src Pid.DEV_ECLIPSE_TEST 0 value)

def execDevStandby (src : Source) (value : BitVec 64) (s : State) : Host.Outcome State Fault Refusal :=
  .next (s.writeAlone src Pid.DEV_STANDBY 0 value)

def execDevAttestGo (src : Source) (value : BitVec 64) (s : State) : Host.Outcome State Fault Refusal :=
  .next (s.writeAlone src Pid.DEV_ATTEST_GO 0 value)

def execDevVaultLoad (src : Source) (value : BitVec 64) (s : State) : Host.Outcome State Fault Refusal :=
  .next (s.writeAlone src Pid.DEV_VAULT_LOAD 0 value)

def execDevOtpArm (src : Source) (value : BitVec 64) (s : State) : Host.Outcome State Fault Refusal :=
  .next (s.writeAlone src Pid.DEV_OTP_ARM 0 value)

end Sys2Proof.Machine
end

