-- ==== Sys2Proof/Machine/Mailbox.lean ====
section
/-! DEFINITION. The firmware's execution of command records: the sixteen opcodes, the queue in SEQ order, and the CAN
gateway (R345 to R354, R360 to R365, R391 to R395, R497). -/

namespace Sys2Proof.Machine

/-! ### GET and SET (R363) -/

/-- One item of a GET's response. -/
def State.getItem (s : State) (i : Item) : Result × List Byte :=
  let r := s.readItem i.id i.inst
  (r.1, leBytes 2 i.id ++ [BitVec.ofNat 8 i.inst, r.1.code] ++ leBytes 8 r.2.toNat)

/-- First item that failed, with its code (R363). -/
def firstFail : Nat → List Result → Result × Nat
  | _, [] => (.ok, 0)
  | n, r :: rs => if r = .ok then firstFail (n + 1) rs else (r, n)

def State.doGet (s : State) (r : List Byte) : Done :=
  let xs := (itemsOf r 4).map s.getItem
  let f := firstFail 0 (xs.map (·.1))
  { Done.of s f.1 with detail := f.2, data := xs.flatMap (·.2) }

/-- What a SET has done so far: its results and tags. -/
structure Setting where
  state : State
  results : List Result
  tags : List Byte
  deriving DecidableEq, Repr

/-- One item of a SET. -/
def Setting.item (q : Setting) (src : Source) (n : Nat) (i : Item) : Setting :=
  let w := q.state.writeApart src n i.id i.inst i.value
  ⟨w.state, q.results ++ [w.result], q.tags ++ w.tags⟩

/-- Items of a SET in order. -/
def State.setItems (src : Source) : Nat → List Item → Setting → Setting
  | _, [], q => q
  | n, i :: is, q => State.setItems src (n + 1) is (q.item src n i)

def State.doSet (s : State) (src : Source) (r : List Byte) : Done :=
  let q := State.setItems src 0 (itemsOf r 12) ⟨s, [], []⟩
  let f := firstFail 0 q.results
  { Done.of q.state f.1 with detail := f.2, data := q.results.map Result.code, tags := q.tags }

/-! ### Commands on one channel -/

/-- Presence and owner come before the command's own rule (R363). -/
def State.onOwned (s : State) (src : Source) (c : Ch) (run : Done) : Done :=
  if !s.hasCh c then .of s .unitAbsent else if !s.owns src c then .of s .notOwner else run

def State.doMoveTo (s : State) (src : Source) (r : List Byte) : Done :=
  s.onOwned src (recCh r)
    (if 8 ≤ (moveToFlags r).toNat then .of s .outOfRange
     else s.cmdMove (recCh r) (moveToOf r) ((moveToFlags r).getLsbD 0))

def State.doMoveVel (s : State) (src : Source) (r : List Byte) : Done :=
  s.onOwned src (recCh r)
    (if 2 ≤ (moveVelFlags r).toNat then .of s .outOfRange
     else s.cmdMove (recCh r) (moveVelOf r) ((moveVelFlags r).getLsbD 0))

def State.doStop (s : State) (src : Source) (r : List Byte) : Done :=
  s.onOwned src (recCh r) (if byteAt r 8 != 0 then .of s .outOfRange else s.cmdStop (recCh r))

def State.doEnable (s : State) (src : Source) (r : List Byte) : Done := s.onOwned src (recCh r) (s.cmdEnable (recCh r))

def State.doDisable (s : State) (src : Source) (r : List Byte) : Done := s.onOwned src (recCh r) (s.cmdDisable (recCh r))

def State.doClear (s : State) (src : Source) (r : List Byte) : Done := s.onOwned src (recCh r) (s.cmdClear (recCh r))

/-! ### Commands on a set of channels -/

/-- First channel of a list that fails, as a refusal with DETAIL (R354). -/
def State.refuseFirst (s : State) (cs : List Ch) (p : Ch → Bool) (code : Result) (run : Done) : Done :=
  match cs.find? p with
  | some c => { Done.of s code with detail := c.val }
  | none => run

/-- MASK, presence and owners, in that order (R74, R361). -/
def State.onMask (s : State) (src : Source) (r : List Byte) (run : Done) : Done :=
  let cs := maskChs (recMask r)
  if !maskOk r then .of s .outOfRange
  else s.refuseFirst cs (fun c => !s.hasCh c) .unitAbsent (s.refuseFirst cs (fun c => !s.owns src c) .notOwner run)

def State.doGroupStart (s : State) (src : Source) (r : List Byte) : Done := s.onMask src r (s.cmdGroupStart (recMask r))

def State.doRollCall (s : State) (src : Source) (r : List Byte) : Done := s.onMask src r (s.cmdRollCall (recMask r))

/-- Axes of INTERP_MOVE whose instance or target lies outside its range (R54, R497). -/
def badAxis (r : List Byte) : Option Nat :=
  (List.range (axisCount r)).find? fun i =>
    let t := sint 64 (field r (16 + 12 * i) 8)
    24 ≤ axisInst r i || t < -(2 ^ 39) || 2 ^ 39 ≤ t

/-- INTERP_MOVE (R54, R61, R77, R78): absent on variants without groups. -/
def State.doInterp (s : State) (src : Source) (r : List Byte) : Done :=
  let real := ((List.range (axisCount r)).filter fun i => axisInst r i < 24).map fun i => chIx (axisInst r i)
  if s.groupCount == 0 then .of s .unitAbsent
  else
    s.refuseFirst real (fun c => !s.hasCh c) .unitAbsent (s.refuseFirst real (fun c => !s.owns src c) .notOwner
      (match badAxis r with
       | some i => { Done.of s .outOfRange with detail := axisInst r i }
       | none =>
         if 4 ≤ (byteAt r 8).toNat || axisCount r == 0 || 8 < axisCount r then .of s .outOfRange
         else s.cmdInterp ⟨(byteAt r 8).toNat % 4, Nat.mod_lt _ (by decide)⟩ (axesOf r)))

/-! ### Converters, filters, CAN -/

def State.doCalibrate (s : State) (r : List Byte) : Done :=
  let m := (byteAt r 8).toNat
  let e := (byteAt r 9).toNat
  let step := (byteAt r 10).toNat
  match s.judgeCalibrate m e step with
  | .queued => .of (s.startCalibrate (modIx m) e step) .queued
  | code => .of s code

def State.doSnapshot (s : State) (r : List Byte) : Done :=
  let first := (byteAt r 8).toNat
  let count := (byteAt r 9).toNat
  if count == 0 || 7 < count || 256 < first + count then .of s .outOfRange
  else
    let q := s.snapshot first count
    { Done.of q.1 .ok with data := q.2 }

def State.doSwap (s : State) (r : List Byte) : Done :=
  let mask := BitVec.ofNat 32 (field r 8 4)
  match s.judgeSwap mask with
  | (.queued, _) => .of (s.startSwap mask) .queued
  | (code, d) => { Done.of s code with detail := d }

def State.doCanTx (s : State) (r : List Byte) : Done :=
  if !s.hasCan (recCan r) then .of s .unitAbsent
  else if !txFieldsOk r then .of s .outOfRange
  else
    let q := s.canTx (recCan r) (txFrameOf r) (txTimed r) (txTime r)
    { Done.of q.1 q.2.1 with data := if q.2.1 = .ok then leBytes 2 q.2.2 ++ [0, 0] else [] }

def State.doCancel (s : State) (r : List Byte) : Done :=
  if !s.hasCan (recCan r) then .of s .unitAbsent
  else if s.canB (recCan r) Pid.CAN_GW_ENABLE && field r 8 2 % 32 == 31 then .of s .outOfRange
  else
    let q := s.canCancel (recCan r) (field r 8 2)
    { Done.of q.1 .ok with data := [BitVec.ofNat 8 q.2, 0, 0, 0] }

/-! ### One record -/

/-- The command of a record, after the checks of its form (R363). -/
def State.runRecord (s : State) (src : Source) (r : List Byte) : Done :=
  match judgeForm src r with
  | .ok =>
    match recOp r with
    | 0x01 => s.doGet r
    | 0x02 => s.doSet src r
    | 0x10 => s.doMoveTo src r
    | 0x11 => s.doMoveVel src r
    | 0x12 => s.doStop src r
    | 0x13 => s.doEnable src r
    | 0x14 => s.doDisable src r
    | 0x15 => s.doGroupStart src r
    | 0x16 => s.doInterp src r
    | 0x17 => s.doRollCall src r
    | 0x20 => s.doCalibrate r
    | 0x21 => s.doSnapshot r
    | 0x22 => s.doSwap r
    | 0x30 => s.doCanTx r
    | 0x31 => s.doCancel r
    | _ => s.doClear src r
  | code => .of s code

/-- The command as it waits for its answer. -/
def Done.waiting (d : Done) (q : Queued) : Waiting :=
  { seq := q.seq, via := q.via, record := q.record, tags := d.tags, result := d.result, detail := d.detail, data := d.data,
    clears := d.clears, starts := d.starts }

/-- A command taken out of the queue is executed: the arm of an OTP operation holds for it alone (R445); it answers at
once, or when its tags have been echoed, and before any event that it causes (R350). A record that a RAM error has struck executes
nothing (R439). -/
def State.execute (s : State) (q : Queued) : State :=
  let t : State := { s with sec := { s.sec with otpNow := s.sec.otpArmed, otpArmed := false }, mbx := { s.mbx with holding := true } }
  let d := if q.sound then t.runRecord (sourceOf q.via) q.record else { Done.of t .outOfRange with detail := 2 ^ 32 - 1 }
  let u : State := { d.state with sec := { d.state.sec with otpNow := false },
                                  mbx := { d.state.mbx with waiting := some (d.waiting q), holding := false } }
  u.tryComplete

/-! ### The queue (R347 to R351) -/

/-- Buffer 31 of a controller is free (R392). -/
def State.gwFree (s : State) (c : CanIx) : Bool := (s.can c).tx[(31 : Fin 32)].isNone

/-- The firmware may start the command: none is in execution, and its answer has a place. -/
def State.mayStart (s : State) (q : Queued) : Bool :=
  s.fwOn && s.mbx.waiting.isNone && s.mbx.responses.length < 32 && q.via.all fun c => s.gwFree c

/-- The head of the queue is executed if `p` holds of it and it may start. -/
def State.executeHead (s : State) (p : Queued → Bool) : State :=
  match s.mbx.queue with
  | q :: rest =>
    if s.mayStart q && p q then ({ s with mbx := { s.mbx with queue := rest } } : State).execute q else s
  | [] => s

/-- The record is sound and its command defined for its source. -/
def Queued.defined (q : Queued) : Bool := q.sound && opDefined (sourceOf q.via) (recOp q.record)

/-- Commands in front whose opcode is not defined are answered BAD_OPCODE, those that fail the host CRC OUT_OF_RANGE (R363, R439). -/
def State.flushBad : Nat → State → State
  | 0, s => s
  | n + 1, s => State.flushBad n (s.executeHead fun q => !q.defined)

/-- The firmware comes to the command of one opcode. -/
def State.mailbox (s : State) (op : Nat) : State :=
  (State.flushBad s.mbx.queue.length s).executeHead fun q => q.defined && recOp q.record == op

def execGet (s : State) : Host.Outcome State Fault Refusal := .next (s.mailbox 0x01)
def execSet (s : State) : Host.Outcome State Fault Refusal := .next (s.mailbox 0x02)
def execMoveTo (s : State) : Host.Outcome State Fault Refusal := .next (s.mailbox 0x10)
def execMoveVel (s : State) : Host.Outcome State Fault Refusal := .next (s.mailbox 0x11)
def execStop (s : State) : Host.Outcome State Fault Refusal := .next (s.mailbox 0x12)
def execEnable (s : State) : Host.Outcome State Fault Refusal := .next (s.mailbox 0x13)
def execDisable (s : State) : Host.Outcome State Fault Refusal := .next (s.mailbox 0x14)
def execGroupStart (s : State) : Host.Outcome State Fault Refusal := .next (s.mailbox 0x15)
def execInterpMove (s : State) : Host.Outcome State Fault Refusal := .next (s.mailbox 0x16)
def execRollCall (s : State) : Host.Outcome State Fault Refusal := .next (s.mailbox 0x17)
def execCalibrate (s : State) : Host.Outcome State Fault Refusal := .next (s.mailbox 0x20)
def execGbSnapshot (s : State) : Host.Outcome State Fault Refusal := .next (s.mailbox 0x21)
def execFltSwap (s : State) : Host.Outcome State Fault Refusal := .next (s.mailbox 0x22)
def execCanTx (s : State) : Host.Outcome State Fault Refusal := .next (s.mailbox 0x30)
def execCanCancel (s : State) : Host.Outcome State Fault Refusal := .next (s.mailbox 0x31)
def execClearFault (s : State) : Host.Outcome State Fault Refusal := .next (s.mailbox 0x40)

/-! ### The gateway (R391 to R395) -/

/-- A command of the controller is accepted and not yet answered. -/
def State.gwBusy (s : State) (c : CanIx) : Bool :=
  (s.mbx.queue.any fun q => q.via == some c) || s.mbx.waiting.any fun w => w.via == some c

/-- Acceptance of a gateway record: the next SEQ, then execution in its turn (R348, R349, R392). -/
def State.gwAccept (s : State) (c : CanIx) (r : List Byte) : State :=
  let seq := (s.mbx.acceptSeq + 1) % 2 ^ 32
  let q : Queued := ⟨seq, some c, r, true⟩
  let t : State := { s with mbx := { s.mbx with acceptSeq := seq } }
  if s.mbx.queue.isEmpty && t.mayStart q then t.execute q
  else { t with mbx := { t.mbx with queue := t.mbx.queue ++ [q] } }

/-- The record repeats the last one accepted on the controller: its recorded answer (R394). -/
def Can.repeated (k : Can) (r : List Byte) : Option (List Byte) :=
  match k.gwLast with
  | some (r0, a) => if r.take (recLen r) = r0 then some a else none
  | none => none

/-- The firmware takes the oldest gateway frame of a controller. ECLIPSE_RETRY answers with SEQ 0: the spec names no number of a
record that is not accepted (DESIGN CHOICE, assumption 99). -/
def State.gatewayTake (s : State) (c : CanIx) : State :=
  match (s.can c).gwQueue with
  | [] => s
  | (r, eclipsed) :: rest =>
    let t := s.onCan c fun k => { k with gwQueue := rest }
    if eclipsed then t.gwSend c (respRecord r 0 .eclipseRetry 0 [])
    else
      match (s.can c).repeated r with
      | some a => t.gwSend c a
      | none => t.gwAccept c r

def execGatewayCommand (c : CanIx) (s : State) : Host.Outcome State Fault Refusal :=
  .next (if s.fwOn && s.gwFree c && !s.gwBusy c then s.gatewayTake c else s)

end Sys2Proof.Machine
end

