-- ==== Sys2Proof/Machine/Reports.lean ====
section
/-! DEFINITION. The end of a 10 ms report limit (R199, R247, R252, R380). -/

namespace Sys2Proof.Machine

/-- Ignored triggers: a deferred report, or the limit ends. -/
def State.overrunWindowEnd (s : State) (m : ModIx) : State :=
  let k := s.modu m
  if !k.ovrLimited then s
  else if k.overrunNew == 0 then s.onMod m fun k => { k with ovrLimited := false }
  else s.reportOverrun m

/-- Lost results. -/
def State.lostWindowEnd (s : State) (m : ModIx) : State :=
  let k := s.modu m
  if !k.lostLimited then s
  else if k.lostNew == 0 then s.onMod m fun k => { k with lostLimited := false }
  else s.reportLost m

/-- Frames lost to a full ring. -/
def State.rxWindowEnd (s : State) (c : CanIx) : State :=
  let k := s.can c
  if !k.ovrLimited then s
  else if k.overrunNew == 0 then s.onCan c fun k => { k with ovrLimited := false }
  else s.reportRxOverrun c

/-- The limit of one kind expires. -/
def State.windowEnd (s : State) (k : ReportKind) : State :=
  match k with
  | .fbIllegal c => s.fbWindowEnd c 0
  | .fbLines c => s.fbWindowEnd c 1
  | .missingTooth c => s.fbWindowEnd c 2
  | .extraPulse c => s.fbWindowEnd c 3
  | .fbCheck c => s.fbWindowEnd c 4
  | .adcOverrun m => s.overrunWindowEnd m
  | .adcDataLost m => s.lostWindowEnd m
  | .rxOverrun c => s.rxWindowEnd c

def execRateLimitedReport (k : ReportKind) (s : State) : Host.Outcome State Fault Refusal :=
  .next (if s.hwOn then s.windowEnd k else s)

end Sys2Proof.Machine
end

