-- ==== Sys2Proof/Machine/Dispatch.lean ====
section
/-! DEFINITION. One arm per command: the direct call of its meaning. -/

namespace Sys2Proof.Machine

def exec (i : Instr) (s : State) : Host.Outcome State Fault Refusal :=
  match i with
  | .get => Sys2Proof.Machine.execGet s
  | .set => Sys2Proof.Machine.execSet s
  | .moveTo => Sys2Proof.Machine.execMoveTo s
  | .moveVel => Sys2Proof.Machine.execMoveVel s
  | .stop => Sys2Proof.Machine.execStop s
  | .enable => Sys2Proof.Machine.execEnable s
  | .disable => Sys2Proof.Machine.execDisable s
  | .groupStart => Sys2Proof.Machine.execGroupStart s
  | .interpMove => Sys2Proof.Machine.execInterpMove s
  | .rollCall => Sys2Proof.Machine.execRollCall s
  | .calibrate => Sys2Proof.Machine.execCalibrate s
  | .gbSnapshot => Sys2Proof.Machine.execGbSnapshot s
  | .fltSwap => Sys2Proof.Machine.execFltSwap s
  | .canTx => Sys2Proof.Machine.execCanTx s
  | .canCancel => Sys2Proof.Machine.execCanCancel s
  | .clearFault => Sys2Proof.Machine.execClearFault s
  | .gatewayCommand c => Sys2Proof.Machine.execGatewayCommand c s
  | .commandPost f => Sys2Proof.Machine.execCommandPost f s
  | .responseFetch f => Sys2Proof.Machine.execResponseFetch f s
  | .eventFetch f => Sys2Proof.Machine.execEventFetch f s
  | .hpCtrl f => Sys2Proof.Machine.execHpCtrl f s
  | .loadApertureWrite f => Sys2Proof.Machine.execLoadApertureWrite f s
  | .verify f => Sys2Proof.Machine.execVerify f s
  | .verifyComplete => Sys2Proof.Machine.execVerifyComplete s
  | .clear f => Sys2Proof.Machine.execClear f s
  | .stagingClearDone => Sys2Proof.Machine.execStagingClearDone s
  | .debugUnlockRequest => Sys2Proof.Machine.execDebugUnlockRequest s
  | .commit clocks high alive => Sys2Proof.Machine.execCommit clocks high alive s
  | .parameterWrite src id inst value => Sys2Proof.Machine.execParameterWrite src id inst value s
  | .chPositionWrite src ch value => Sys2Proof.Machine.execChPositionWrite src ch value s
  | .chLimitLatchWrite src ch value => Sys2Proof.Machine.execChLimitLatchWrite src ch value s
  | .fbEnable src ch value => Sys2Proof.Machine.execFbEnable src ch value s
  | .fbTrust src ch value => Sys2Proof.Machine.execFbTrust src ch value s
  | .rfxEnable src r value => Sys2Proof.Machine.execRfxEnable src r value s
  | .rfxRelease src r value => Sys2Proof.Machine.execRfxRelease src r value s
  | .adcRun src m value => Sys2Proof.Machine.execAdcRun src m value s
  | .gbEnable src g value => Sys2Proof.Machine.execGbEnable src g value s
  | .fltRun src f value => Sys2Proof.Machine.execFltRun src f value s
  | .fltPresetLoad src f page1 value => Sys2Proof.Machine.execFltPresetLoad src f page1 value s
  | .auxRun src k value => Sys2Proof.Machine.execAuxRun src k value s
  | .auxLoadAll src value => Sys2Proof.Machine.execAuxLoadAll src value s
  | .auxForce src k value => Sys2Proof.Machine.execAuxForce src k value s
  | .auxTripEnable src t value => Sys2Proof.Machine.execAuxTripEnable src t value s
  | .auxTripClear src t value => Sys2Proof.Machine.execAuxTripClear src t value s
  | .canRun src c value => Sys2Proof.Machine.execCanRun src c value s
  | .canMode src c value => Sys2Proof.Machine.execCanMode src c value s
  | .canModeChangeAtIdle c => Sys2Proof.Machine.execCanModeChangeAtIdle c s
  | .canRecover src c value => Sys2Proof.Machine.execCanRecover src c value s
  | .canRxPop src c value => Sys2Proof.Machine.execCanRxPop src c value s
  | .devHostSilenceWrite src value => Sys2Proof.Machine.execDevHostSilenceWrite src value s
  | .devEclipseTest src value => Sys2Proof.Machine.execDevEclipseTest src value s
  | .devStandby src value => Sys2Proof.Machine.execDevStandby src value s
  | .standbyPowerDieOff => Sys2Proof.Machine.execStandbyPowerDieOff s
  | .devAttestGo src value => Sys2Proof.Machine.execDevAttestGo src value s
  | .devVaultLoad src value => Sys2Proof.Machine.execDevVaultLoad src value s
  | .devOtpArm src value => Sys2Proof.Machine.execDevOtpArm src value s
  | .otpProgramCustomerSlot slot readBack => Sys2Proof.Machine.execOtpProgramCustomerSlot slot readBack s
  | .otpRevokeVendorSlot slot readBack => Sys2Proof.Machine.execOtpRevokeVendorSlot slot readBack s
  | .otpRevokeCustomerSlot slot readBack => Sys2Proof.Machine.execOtpRevokeCustomerSlot slot readBack s
  | .otpRaiseRollbackFloor readBack => Sys2Proof.Machine.execOtpRaiseRollbackFloor readBack s
  | .configTagEcho tag => Sys2Proof.Machine.execConfigTagEcho tag s
  | .downlinkSuperframe noise => Sys2Proof.Machine.execDownlinkSuperframe noise s
  | .uplinkSuperframe noise vmA vmB temp listen => Sys2Proof.Machine.execUplinkSuperframe noise vmA vmB temp listen s
  | .modulatorSlot bits crc => Sys2Proof.Machine.execModulatorSlot bits crc s
  | .urgentSymbol noise0 noise1 noise2 noise3 => Sys2Proof.Machine.execUrgentSymbol noise0 noise1 noise2 noise3 s
  | .downlinkSilence => Sys2Proof.Machine.execDownlinkSilence s
  | .linkSilenceRcCount => Sys2Proof.Machine.execLinkSilenceRcCount s
  | .uplinkLost => Sys2Proof.Machine.execUplinkLost s
  | .periodStart b => Sys2Proof.Machine.execPeriodStart b s
  | .periodCentre b codes => Sys2Proof.Machine.execPeriodCentre b codes s
  | .integrationStep => Sys2Proof.Machine.execIntegrationStep s
  | .limitInputActive ch side => Sys2Proof.Machine.execLimitInputActive ch side s
  | .limitInputInactive ch side => Sys2Proof.Machine.execLimitInputInactive ch side s
  | .standstillDelayExpiry ch => Sys2Proof.Machine.execStandstillDelayExpiry ch s
  | .idleDelayExpiry b => Sys2Proof.Machine.execIdleDelayExpiry b s
  | .satPeriodsCount ch => Sys2Proof.Machine.execSatPeriodsCount ch s
  | .rollcallComplete ch coil1 coil2 => Sys2Proof.Machine.execRollcallComplete ch coil1 coil2 s
  | .catchDecision ch => Sys2Proof.Machine.execCatchDecision ch s
  | .rejoinTakeUp ch => Sys2Proof.Machine.execRejoinTakeUp ch s
  | .twinRejoined ch => Sys2Proof.Machine.execTwinRejoined ch s
  | .stall ch => Sys2Proof.Machine.execStall ch s
  | .followErr ch => Sys2Proof.Machine.execFollowErr ch s
  | .keLearnUpdate ch => Sys2Proof.Machine.execKeLearnUpdate ch s
  | .shortTrip ch hb instant => Sys2Proof.Machine.execShortTrip ch hb instant s
  | .gateFault ch => Sys2Proof.Machine.execGateFault ch s
  | .softoffPlateauEnd ch => Sys2Proof.Machine.execSoftoffPlateauEnd ch s
  | .bankOv b vm => Sys2Proof.Machine.execBankOv b vm s
  | .bankUv b vm => Sys2Proof.Machine.execBankUv b vm s
  | .vmWindowReturn b vm => Sys2Proof.Machine.execVmWindowReturn b vm s
  | .chopOn b vm => Sys2Proof.Machine.execChopOn b vm s
  | .chopOff b vm => Sys2Proof.Machine.execChopOff b vm s
  | .chopOverload b onMs => Sys2Proof.Machine.execChopOverload b onMs s
  | .safeInputAsserted b => Sys2Proof.Machine.execSafeInputAsserted b s
  | .safeInputDeasserted b => Sys2Proof.Machine.execSafeInputDeasserted b s
  | .overTemperature temp => Sys2Proof.Machine.execOverTemperature temp s
  | .otClear temp => Sys2Proof.Machine.execOtClear temp s
  | .parkHoldEnd ch => Sys2Proof.Machine.execParkHoldEnd ch s
  | .quadTransition ch a b => Sys2Proof.Machine.execQuadTransition ch a b s
  | .index ch => Sys2Proof.Machine.execIndex ch s
  | .hallChange ch u v w => Sys2Proof.Machine.execHallChange ch u v w s
  | .wssTooth ch => Sys2Proof.Machine.execWssTooth ch s
  | .stepEdge ch rising dir => Sys2Proof.Machine.execStepEdge ch rising dir s
  | .sentFrame ch rx => Sys2Proof.Machine.execSentFrame ch rx s
  | .serialFrameEnd ch bits idleHigh => Sys2Proof.Machine.execSerialFrameEnd ch bits idleHigh s
  | .lineOpen ch on => Sys2Proof.Machine.execLineOpen ch on s
  | .lineShort ch on => Sys2Proof.Machine.execLineShort ch on s
  | .speedTimeout ch => Sys2Proof.Machine.execSpeedTimeout ch s
  | .rateLimitedReport k => Sys2Proof.Machine.execRateLimitedReport k s
  | .rfxFiring r => Sys2Proof.Machine.execRfxFiring r s
  | .rfxReportWindowEnd r => Sys2Proof.Machine.execRfxReportWindowEnd r s
  | .adcTrigger m => Sys2Proof.Machine.execAdcTrigger m s
  | .passStart m => Sys2Proof.Machine.execPassStart m s
  | .conversionResult m sum lastClk => Sys2Proof.Machine.execConversionResult m sum lastClk s
  | .calibrationStepComplete m => Sys2Proof.Machine.execCalibrationStepComplete m s
  | .gbWindowBoundary g => Sys2Proof.Machine.execGbWindowBoundary g s
  | .filterSlot f => Sys2Proof.Machine.execFilterSlot f s
  | .coldBoot => Sys2Proof.Machine.execColdBoot s
  | .bootProcessorFault => Sys2Proof.Machine.execBootProcessorFault s
  | .powerDieUp vmA vmB => Sys2Proof.Machine.execPowerDieUp vmA vmB s
  | .eclipseStart cause => Sys2Proof.Machine.execEclipseStart cause s
  | .eclipseEnd durationMs => Sys2Proof.Machine.execEclipseEnd durationMs s
  | .eclipseExpired => Sys2Proof.Machine.execEclipseExpired s
  | .hostSilent => Sys2Proof.Machine.execHostSilent s
  | .supplySupervisorTrip v => Sys2Proof.Machine.execSupplySupervisorTrip v s
  | .supplySupervisorRelease v => Sys2Proof.Machine.execSupplySupervisorRelease v s
  | .vstbyPowerOn => Sys2Proof.Machine.execVstbyPowerOn s
  | .clockLoss => Sys2Proof.Machine.execClockLoss s
  | .rootQualified => Sys2Proof.Machine.execRootQualified s
  | .resetNLow => Sys2Proof.Machine.execResetNLow s
  | .wake => Sys2Proof.Machine.execWake s
  | .debugHalt => Sys2Proof.Machine.execDebugHalt s
  | .debugResume => Sys2Proof.Machine.execDebugResume s
  | .debugReset => Sys2Proof.Machine.execDebugReset s
  | .jtagInstructionLoad c => Sys2Proof.Machine.execJtagInstructionLoad c s
  | .canFrameReceived c f sofTicks => Sys2Proof.Machine.execCanFrameReceived c f sofTicks s
  | .canIntegrated c => Sys2Proof.Machine.execCanIntegrated c s
  | .txTimeReached c buf => Sys2Proof.Machine.execTxTimeReached c buf s
  | .txTimedStart c buf => Sys2Proof.Machine.execTxTimedStart c buf s
  | .txAttemptEnd c e => Sys2Proof.Machine.execTxAttemptEnd c e s
  | .txLateDropped c buf => Sys2Proof.Machine.execTxLateDropped c buf s
  | .canBusError c e => Sys2Proof.Machine.execCanBusError c e s
  | .reintegrated c => Sys2Proof.Machine.execReintegrated c s
  | .busStuck c on => Sys2Proof.Machine.execBusStuck c on s
  | .detectDwellExpiry c => Sys2Proof.Machine.execDetectDwellExpiry c s
  | .auxPeriodStart k => Sys2Proof.Machine.execAuxPeriodStart k s
  | .auxTrip x => Sys2Proof.Machine.execAuxTrip x s
  | .powerDieStop => Sys2Proof.Machine.execPowerDieStop s
  | .eclipseRestartFailed e => Sys2Proof.Machine.execEclipseRestartFailed e s
  | .standbyUnitsStop => Sys2Proof.Machine.execStandbyUnitsStop s
  | .tripComparatorInactive x => Sys2Proof.Machine.execTripComparatorInactive x s
  | .vstbyPowerLoss => Sys2Proof.Machine.execVstbyPowerLoss s
  | .wakeLevelChange high => Sys2Proof.Machine.execWakeLevelChange high s
  | .trstNLow => Sys2Proof.Machine.execTrstNLow s

end Sys2Proof.Machine
end

