-- ==== Sys2Proof/Machine/Step.lean ====
section
/-! DEFINITION. One step of the block: the command at the front of the queue, or one fabric cycle of idling. -/

namespace Sys2Proof.Machine

/-- The command at the front runs on the state with the queue's rest; with no command waiting, one fabric cycle passes
(assumption 7). -/
def step (s : State) : Host.Outcome State Fault Refusal :=
  match s.pending with
  | i :: rest => exec i { s with pending := rest }
  | [] => .next s.cycle

/-- `s` with the command that a table word spells at the front of its queue; no word spells one (R295: commands come
from outside). -/
def State.withFetchWord (s : State) (nbits w : Nat) : State :=
  match decodeTableWord nbits w with
  | some i => { s with pending := i :: s.pending }
  | none => s

end Sys2Proof.Machine
end

