-- ==== Sys2Proof/Safety.lean ====
section
/-! DEFINITION. What holds of a sound state whatever command comes, and the words that the statements are written in: the
command record at the head of the queue, its answer, and the channel that a stop was asked of. -/

namespace Sys2Proof.Machine

/-! ### Sound states -/

/-- The parameter store, the power die's settings and the staging area are in canonical form (R13, R175, R302). -/
def State.canonical (s : State) : Bool :=
  Sparse.wf resetOfKey s.params && Sparse.wf resetOfKey s.pd.config && stagingWf s.boot.staging

/-- Once the debug fuse is blown, so is the kill fuse, and a killed device key reads zero (R448). -/
def Otp.sound (o : Otp) : Bool := (!o.debug || o.kill) && (!o.kill || o.deviceKey == 0)

/-- The die is halted by the debug port only where the port is open (R449). -/
def State.haltSound (s : State) : Bool := !s.sec.debugHalt || s.otp.debug

/-! ### A command record and its answer -/

/-- A sound record of the host with the opcode, in the form of R360, stands at the head of the queue, and nothing keeps the
firmware from executing it (R347, R350, R353, R439, R493). -/
def State.ready (s : State) (op : Nat) (q : Queued) (rest : List Queued) : Prop :=
  s.mbx.queue = q :: rest ∧ q.via = none ∧ recOp q.record = op ∧ judgeForm .host q.record = .ok ∧ s.fwOn = true ∧
    s.mbx.waiting = none ∧ s.mbx.responses.length < 32 ∧ s.link.backlog.any (·.2) = false ∧ s.sec.otpOp = 0 ∧
    s.boot.testPending = false ∧ s.mbx.holding = false ∧ s.mbx.held = [] ∧ q.sound = true ∧ s.power.entering ≠ .asked

/-- The record has been taken out of the queue: the events that it causes wait for its response (R350), and an armed OTP
operation is armed for it (R445). -/
def State.taken (s : State) (rest : List Queued) : State :=
  { s with mbx := { s.mbx with queue := rest, holding := true }, sec := { s.sec with otpNow := s.sec.otpArmed, otpArmed := false } }

/-- The command in execution is over, with any arm of an OTP operation used up (R445), and its response record is in window 2 (R350,
R353, R354). -/
def State.replied (s : State) (q : Queued) (r : Result) (detail : Nat) (data : List Byte) : State :=
  { s with sec := { s.sec with otpNow := false }, mbx := { s.mbx with doneSeq := q.seq, holding := false,
                                                                         responses := s.mbx.responses ++ [respRecord q.record q.seq r detail data] } }

/-- The command has begun and waits for tag echoes (R25, R493). -/
def State.held (s : State) (q : Queued) (tags : List Byte) (r : Result) (detail : Nat) (data : List Byte) (clears starts : List Ch) :
    State :=
  { s with sec := { s.sec with otpNow := false }
           mbx := { s.mbx with holding := false, waiting := some ⟨q.seq, q.via, q.record, tags, r, detail, data, clears, starts⟩ } }

/-- The result of a parameter write applied on its own (assumption 9). -/
def State.noted (s : State) (r : Result) : State := { s with mbx := { s.mbx with itemResult := r } }

/-- No write has been applied in this fabric cycle to the unit that a parameter belongs to (R367). -/
def State.freeUnit (s : State) (id inst : Nat) : Prop := s.mbx.written.contains (unitOf id inst) = false

/-- A write of a parameter has been applied on its own: its unit has had its write of this fabric cycle (R367, assumption 9). -/
def State.wrote (s : State) (id inst : Nat) : State := (s.noteWrite (unitOf id inst)).noted .ok

/-- The channel that a record addresses exists, and the host owns it (R61, R363). -/
def State.mine (s : State) (q : Queued) : Prop := s.hasCh (recCh q.record) = true ∧ s.owns .host (recCh q.record) = true

/-! ### Channels -/

/-- A channel to which STOP was sent (R65, R73, R84). -/
def Channel.stopAsked (k : Channel) : Channel :=
  match k.state with
  | .rollcall => { k with motion := { k.motion with armed := none } }
  | .disabled | .fault | .parked => k
  | _ => { k with motion := { k.motion with armed := none, rampReq := some (k.motion.rampReq.getD .stop) } }

/-- A channel that has begun Roll Call: FETs off, trim at zero, no armed move (R68, R73, R102, R107). -/
def Channel.inRollCall (k : Channel) : Prop :=
  k.state = .rollcall ∧ k.fetsOff = true ∧ k.coil.td = 0 ∧ k.coil.tq = 0 ∧ k.motion.vel = 0 ∧ k.motion.armed = none ∧
    k.powered = true

/-- A channel in FAULT with its FETs off (R82). -/
def Channel.faulted (k : Channel) : Prop := k.state = .fault ∧ k.fetsOff = true ∧ k.motion.vel = 0

/-- Parameters whose write does no more than store the value here (R13, R366). -/
def plainId (id : Nat) : Bool :=
  !carried id && !ownRowIds.contains id && !(0x7100 ≤ id && id < 0x7180) && !(0x7200 ≤ id && id ≤ 0x7207) && !pairIds.contains id &&
    !([0x1100, 0x2122, 0x2212, 0x2234, 0x5200].contains id)

end Sys2Proof.Machine
end

