-- ==== Sys2Proof/Certificates/Slice0/Obligations.lean ====
section
/-! DEFINITION. The statements about this block: what each command does in its own case, what holds of every step, and what
reset leaves. A statement of a next state gives the whole of it, or names every field that may differ; what a statement
says rests on a choice of the model only where its docstring names the assumption. -/

open Sys2Proof Sys2Proof.Machine

/-! ### The step and stored data -/

/-- A step takes the command at the front of the queue and runs it on the state with the queue's rest. -/
def Obligations.StepRunsTheCommandAtTheFront : Prop :=
  ∀ (c : Instr) (rest : List Instr) (s : State), step { s with pending := c :: rest } = exec c { s with pending := rest }

/-- With no command waiting, one fabric cycle passes (assumption 7): `fc` counts, pulses end and the host port takes its
view for the next cycle (R328) where CLK_FAB runs; where it does not, only a guard cycle of the reset controller
passes (R422, R424). In a cycle in which no rule has been called and no assertion begins, what can change beside is
named: the rules' memory, the multiplexer sequencers, the settling of writes to feedback and auxiliary units (R10), a
SOF's stamp (R382), a trip's synchroniser and its report (R408), the comparators given an output in it (R282), the
modulators whose stop waits for a CLK_MOD edge, with their calibration steps and the channels that they feed (R254,
R259, R277), a firmware's own write that waits for a new cycle (R367, assumption 118), the host-silence timer with the
action of its expiry (R341, R344), the duration of an Eclipse (R315), and the free count of corrected RAM errors
(assumption 60). An unslewed tick of device time lasts 24 fabric cycles (R42, R43, R421; the step of one cycle is the
model's choice, assumption 7), here where no rule has been called and no write of the firmware waits. -/
def Obligations.EmptyQueueIsOneFabricCycle : Prop :=
  (∀ s : State, s.pending = [] →
    ∃ t : State, step s = .next t ∧
      (s.fabOn = false → t = { s with power := { s.power with guarding := false, pulseLeft := s.power.pulseLeft - 1 } }) ∧
      (s.fabOn = true → (∀ r, (s.rule r).due = false ∧ s.begun r = 0) →
        t = { s with fc := s.fc + 1, pulses := [], time := t.time, timeFrac := t.timeFrac, slotTime := t.slotTime, rules := t.rules,
                     pd := { s.pd with mux := t.pd.mux }, fbs := t.fbs, cans := t.cans, auxs := t.auxs, trips := t.trips,
                     params := t.params, cmps := t.cmps, mods := t.mods, entries := t.entries, flts := t.flts,
                     power := { s.power with auxDomain := t.power.auxDomain }, mbx := t.mbx,
                     hp := { s.hp with timer := t.hp.timer, timerOn := t.hp.timerOn, silenceDue := t.hp.silenceDue, view := s.hpView },
                     boot := { s.boot with elapsed := t.boot.elapsed },
                     sec := { s.sec with eccCorrected := t.sec.eccCorrected } } ∧
        (t.time = s.time ∨ t.time = (s.time + 1) % 2 ^ 64) ∧
        (s.hwOn = true → s.hp.timerOn = true → s.silenceLimit = 0 ∨ s.hp.timer < s.silenceLimit →
          t.hp.timer = s.hp.timer + 1 ∧ t.hp.timerOn = true ∧ t.hp.silenceDue = s.hp.silenceDue) ∧
        (s.hwOn = true → s.hp.timerOn = true → s.silenceLimit ≠ 0 → s.silenceLimit ≤ s.hp.timer →
          t.hp.timer = s.hp.timer ∧ t.hp.timerOn = false ∧ t.hp.silenceDue = some (s.parN Pid.DEV_HOST_SILENCE_ACTION 0)) ∧
        (s.hwOn = true → s.mbx.later = [] → t.params = s.params ∧
          ((∀ c : Fin 128, (s.cmps[c]).next = none) → (∀ x, (s.trip x).sync1.2 = false ∨ (s.trip x).sync2.2 = true) →
            t.mbx = { s.mbx with written := [] })) ∧
        (∀ id inst v rest, s.fwOn = true → s.mbx.later = (id, inst, v) :: rest →
          t.params = (s.setPar id inst v).params ∧ t.mbx.later = rest ∧ t.mbx.written = [unitOf id inst]) ∧
        (s.hwOn = true → (∀ c : Fin 128, (s.cmps[c]).next = none) → t.cmps = s.cmps) ∧
        (s.hwOn = true → (s.fc + 1) % 24 = 0 → ∀ m, (s.modu m).stopping = true →
          (t.modu m).running = false ∧ (t.modu m).stopping = false ∧ (t.modu m).inPass = false ∧ (t.modu m).due = []) ∧
        (s.hwOn = true → ((s.fc + 1) % 24 ≠ 0 ∨ ∀ m, (s.modu m).stopping = false) →
          t.mods = s.mods ∧ t.entries = s.entries ∧ t.flts = s.flts) ∧
        (s.hwOn = true → t.cans = s.cans.map fun k => k.stampSof (s.fc + 1) t.time) ∧
        (s.hwOn = true → s.boot.eclipse = true → t.boot.elapsed = s.boot.elapsed + 1) ∧
        (s.hwOn = true → t.sec.eccCorrected = min (2 ^ 32 - 1) (s.sec.eccCorrected + Config.correctedErrors s.sec.draws s.fc)) ∧
        (s.hwOn = false → t = { s with fc := s.fc + 1, pulses := [], time := t.time, timeFrac := t.timeFrac, slotTime := t.slotTime,
                                       hp := { s.hp with view := s.hpView } }))) ∧
  (∀ s : State, s.fabOn = true → (∀ r, (s.rule r).due = false) → s.mbx.later = [] → s.timeFrac = 0 → s.par Pid.DEV_TIME_SLEW 0 = 0 → s.time + 1 < 2 ^ 64 →
    (∀ n, n < 24 → (Nat.iterate State.cycle n s).time = s.time) ∧
    (Nat.iterate State.cycle 24 s).time = s.time + 1 ∧ (Nat.iterate State.cycle 24 s).timeFrac = 0)

/-- Whatever command comes, and in an idle cycle, the stored maps stay in canonical form (R13, R175, R302). -/
def Obligations.EveryStepKeepsStoredMapsCanonical : Prop :=
  ∀ s t : State, s.canonical = true → step s = .next t → t.canonical = true

/-- No step unblows the debug or the kill fuse; the debug fuse implies the kill fuse, and a killed device key stays zero
(R448). Only a die whose debug fuse is blown is ever halted by the debug port (R449). -/
def Obligations.EveryStepKeepsFusesAndTheHaltBehindThem : Prop :=
  (∀ s t : State, s.otp.sound = true → step s = .next t →
    t.otp.sound = true ∧ (s.otp.debug = true → t.otp.debug = true) ∧ (s.otp.kill = true → t.otp.kill = true)) ∧
  (∀ s t : State, s.haltSound = true → step s = .next t → t.haltSound = true)

/-- The invariants hold after reset. After a cold boot from power-up (R81, R296, R301, R336, R421): the boot ROM is ready,
device time is 0, no command waits, every channel is in DISABLED with its FETs off, the link transmitter does not run,
HP.CTRL holds 0x30, no parameter differs from its reset value. -/
def Obligations.ResetIsSoundAndReady : Prop :=
  (State.reset.canonical = true ∧ State.reset.otp.sound = true ∧ State.reset.haltSound = true) ∧
  (State.reset.pending = [] ∧ State.reset.phase = .boot ∧ State.reset.boot.st = .ready ∧ State.reset.boot.page = 0 ∧
    State.reset.time = 0 ∧ State.reset.link.txOn = false ∧ State.reset.hp.ctrl = 0x30 ∧ State.reset.hp.valid = false ∧
    State.reset.sec.attempts = 0 ∧ (∀ i : Fin 16, State.reset.sec.vault[i] = none) ∧
    (∀ c : Ch, (State.reset.chan c).state = .disabled ∧ (State.reset.chan c).fetsOff = true) ∧
    (∀ id inst : Nat, State.reset.par id inst = resetOf id))

/-- A parameter reads back what was stored, and no other parameter or instance changes (R13, R366). Bytes written through
the load aperture read back from the staging area, and no other byte of it changes (R302). What a byte is on 2, 4 or 8
lanes, most significant bits first, is read back as that byte, whatever the lanes outside the width carry (R320); the
status byte is the same bit on every lane (R327). An undisturbed downlink superframe passes its CRC and spells what
the control die has computed: SEQ, LOAD, FRAME and the entry of every channel's next set-point, and no slot where no
write is under way (R22 to R24, R39). An undisturbed uplink superframe passes its CRC and spells what the power die
has put into it, codes of 12 bits and four tags among it (R22, R26). -/
def Obligations.StoredDataReadsBack : Prop :=
  (∀ (s : State) (id inst : Nat) (v : Int), s.canonical = true → inst < 256 →
    (s.setPar id inst v).par id inst = v ∧ (s.setPar id inst v).canonical = true ∧
    (∀ id' inst', inst' < 256 → (id', inst') ≠ (id, inst) → (s.setPar id inst v).par id' inst' = s.par id' inst')) ∧
  (∀ (m : List Host.Cell) (a : Nat) (bs : List Byte), stagingWf m = true →
    stagingWf (stagingWrite m a bs) = true ∧
    (∀ i, i < bs.length → stagingByte (stagingWrite m a bs) (a + i) = bs.getD i 0) ∧
    (∀ x, x < a ∨ a + bs.length ≤ x → stagingByte (stagingWrite m a bs) x = stagingByte m x)) ∧
  (∀ (w : Nat) (bs : List Byte) (noise : List Nat), w = 2 ∨ w = 4 ∨ w = 8 → noise.length = (lanesFor w bs).length →
    (lanesFor w bs).length = bs.length * (8 / w) ∧
    bytesFrom w bs.length (((lanesFor w bs).zip noise).map fun p => p.1 + 2 ^ w * p.2) = bs ∧
    (∀ (b : Byte) (i : Nat), i < 8 → (statusLanes w b).getD i 0 = if b.getLsbD (7 - i) = true then 2 ^ w - 1 else 0)) ∧
  (∀ s : State,
    let bs := s.downBytes []
    sealOk 348 bs = true ∧ bs.length = 352 ∧ byteAt bs 0 = s.link.seq ∧
    (∀ b : BankIx, (byteAt bs 1).getLsbD b.val = (s.bank b).load ∧ byteAt bs (2 + b.val) = (s.bank b).frame) ∧
    (∀ c : Ch, entryAt bs c = (s.chan c).coil.next.entry) ∧
    (∀ i, i < 4 → s.link.cfg.length ≤ i → slotTag (slotAt bs i) = 0) ∧
    (∀ (i : Nat) (w : CfgWrite), i < 4 → s.link.cfg[i]? = some w → slotAt bs i = w.bytes ∧ slotTag (slotAt bs i) = w.tag)) ∧
  (∀ (s : State) (vmA vmB temp : BitVec 16) (listen : List (Ch × Int × Int)), s.pd.ack.length = 4 →
    (∀ c : Ch, -2048 ≤ (s.pdChan c).code1 ∧ (s.pdChan c).code1 ≤ 2047 ∧ -2048 ≤ (s.pdChan c).code2 ∧ (s.pdChan c).code2 ≤ 2047) →
    sealOk 115 (s.upBytes [] vmA vmB temp listen) = true ∧
    UpFrame.ofBytes (s.upBytes [] vmA vmB temp listen) = s.upFrame vmA vmB temp listen)

/-- A suppressed event (R359): a class other than 0 whose bit of DEV.EVENT_SUPPRESS is set leaves no trace at all: not in
the ring, not in the count of losses, not in EVT_SEQ. Any other event of the running firmware takes the next number,
class 0 always, at once where no command is in execution and none of its events waits. Either way nothing but the
ring, its number, its losses and the events that wait for a command's response can change. -/
def Obligations.SuppressedEventsAreNotPosted : Prop :=
  ∀ (s : State) (code inst : Nat) (p : List Byte), s.phase = .runtime → s.boot.eclipse = false → s.boot.halted = false →
    let c := code / 256 % 16
    let bit := (s.parN Pid.DEV_EVENT_SUPPRESS 0).testBit c
    (c ≠ 0 → bit = true → s.raise code inst p = s) ∧
    ((c = 0 ∨ bit = false) → s.mbx.holding = false → s.mbx.held = [] →
      (s.raise code inst p).mbx.nextEvtSeq = (s.mbx.nextEvtSeq + 1) % 2 ^ 32 ∧
      (s.raise code inst p).mbx.ring ≠ s.mbx.ring) ∧
    (∃ t : State, s.raise code inst p = { s with mbx := { s.mbx with
      nextEvtSeq := t.mbx.nextEvtSeq, ring := t.mbx.ring, markerOpen := t.mbx.markerOpen, eventsLost := t.mbx.eventsLost,
      held := t.mbx.held } })

/-- Events (R312, R350, R356, R357, R358, R359): while the firmware runs, an event of a class that is not suppressed takes
the next number and a place of the ring; with 255 places taken it is lost, counted, and noted in the marker of the
last place, which the first loss opens under its own number and every further loss extends by its device time; during
an Eclipse it waits, marked deferred, with its own device time; one that the command in execution causes waits for its
response, and what comes while such events wait goes behind them; a suppressed class leaves no trace. Limited reports
(R199, R230, R247, R252, R380): at the end of a window that gathered something one more report goes out and the next
window begins; a window that gathered nothing closes. -/
def Obligations.EventsAreStoredAndReportsLimited : Prop :=
  (∀ (s : State) (code inst : Nat) (p : List Byte), s.phase = .runtime →
    let m := s.mbx
    let e : Event := ⟨code, inst, false, false, m.nextEvtSeq, s.time, padTo 16 p⟩
    let plain := s.boot.eclipse = false ∧ s.boot.halted = false ∧ m.holding = false ∧ m.held = [] ∧ s.suppressed code = false
    let lost := { m with nextEvtSeq := (m.nextEvtSeq + 1) % 2 ^ 32, markerOpen := true,
                         eventsLost := min (2 ^ 32 - 1) (m.eventsLost + 1) }
    (plain → m.ring.length < 255 →
      s.raise code inst p =
        { s with mbx := { m with nextEvtSeq := (m.nextEvtSeq + 1) % 2 ^ 32, markerOpen := false, ring := m.ring ++ [.event e] } }) ∧
    (plain → 255 ≤ m.ring.length → m.markerOpen = false →
      s.raise code inst p = { s with mbx := { lost with ring := m.ring ++ [.marker m.nextEvtSeq [s.time]] } }) ∧
    (∀ front q ts, plain → 255 ≤ m.ring.length → m.markerOpen = true → m.ring = front ++ [.marker q ts] →
      s.raise code inst p = { s with mbx := { lost with ring := front ++ [.marker q (ts ++ [s.time])] } }) ∧
    (s.boot.eclipse = false → s.boot.halted = false → s.suppressed code = true → s.raise code inst p = s) ∧
    (s.boot.eclipse = false → s.boot.halted = false → (m.holding = true ∨ m.held ≠ []) → s.suppressed code = false →
      s.raise code inst p = { s with mbx := { m with held := m.held ++ [{ e with evtSeq := 0 }] } }) ∧
    (s.boot.eclipse = true → m.holding = false →
      s.raise code inst p =
        { s with mbx := { m with deferred := m.deferred ++ [⟨code, inst, true, false, 0, s.time, padTo 16 p⟩] } })) ∧
  (∀ s : State, s.hwOn = true →
    (∀ m : ModIx, (s.modu m).ovrLimited = true →
      ((s.modu m).overrunNew = 0 → exec (.rateLimitedReport (.adcOverrun m)) s = .next (s.onMod m fun k =>
        { k with ovrLimited := false })) ∧
      ((s.modu m).overrunNew ≠ 0 → exec (.rateLimitedReport (.adcOverrun m)) s = .next ((s.onMod m fun k =>
        { k with overrunNew := 0, ovrLimited := true }).raise 0x0702 m.val (leBytes 4 (s.modu m).overrunNew)))) ∧
    (∀ m : ModIx, (s.modu m).lostLimited = true →
      ((s.modu m).lostNew = 0 → exec (.rateLimitedReport (.adcDataLost m)) s = .next (s.onMod m fun k =>
        { k with lostLimited := false })) ∧
      ((s.modu m).lostNew ≠ 0 → exec (.rateLimitedReport (.adcDataLost m)) s = .next ((s.onMod m fun k =>
        { k with lostNew := 0, lostLimited := true }).raise 0x0703 m.val (leBytes 4 (s.modu m).lostNew)))) ∧
    (∀ c : CanIx, (s.can c).ovrLimited = true →
      ((s.can c).overrunNew = 0 → exec (.rateLimitedReport (.rxOverrun c)) s = .next (s.onCan c fun k =>
        { k with ovrLimited := false })) ∧
      ((s.can c).overrunNew ≠ 0 → exec (.rateLimitedReport (.rxOverrun c)) s = .next ((s.onCan c fun k =>
        { k with overrunNew := 0, ovrLimited := true }).raise 0x0906 c.val (leBytes 4 (s.can c).overrunNew)))) ∧
    (∀ (c : Ch) (k : ReportKind) (n : Fin 5), [ReportKind.fbIllegal c, .fbLines c, .missingTooth c, .extraPulse c,
        .fbCheck c][n]? = some k → (s.fb c).limited.getD n.val false = true →
      ((s.fb c).occ.getD n.val 0 = 0 → exec (.rateLimitedReport k) s = .next (s.onFb c fun f =>
        { f with limited := f.limited.set n.val false })) ∧
      ((s.fb c).occ.getD n.val 0 ≠ 0 → exec (.rateLimitedReport k) s = .next ((s.onFb c fun f =>
        { f with occ := f.occ.set n.val 0, limited := f.limited.set n.val true }).raise (0x0501 + n.val) c.val
          (leBytes 4 ((s.fb c).occ.getD n.val 0) ++ leBytes 4 (s.fb c).count.toNat ++
            (if n.val = 1 then leInt 4 (s.fb c).indexInterval else []))))) ∧
    (∀ r : RuleIx, (s.rule r).window = true →
      ((s.rule r).gathered = 0 → exec (.rfxReportWindowEnd r) s = .next (s.onRule r fun k => { k with window := false })) ∧
      ((s.rule r).gathered ≠ 0 → exec (.rfxReportWindowEnd r) s = .next ((s.raiseAt (s.rule r).gatherTime 0x0601 r.val
        (leBytes 4 (s.rule r).gatherCap.toNat ++ leBytes 4 (s.rule r).gathered)).onRule r fun k => { k with gathered := 0 }))))

/-! ### Commands of the mailbox -/

/-- GET answers every item in order with its own result, and nothing else changes (R350, R353, R363). SET applies its
items in order, each on its own (R363): it answers at once unless a write waits for the power die (R25, R493), and the
events that its items cause are posted after the answer (R350), as are a restart and an entry into standby that they
ask for (R317, R427). -/
def Obligations.GetAndSetWorkThroughTheirItems : Prop :=
  (∀ (s : State) (q : Queued) (rest : List Queued), s.ready 0x01 q rest →
    let t := s.taken rest
    let xs := (itemsOf q.record 4).map t.getItem
    let f := firstFail 0 (xs.map (·.1))
    exec .get s = .next (t.replied q f.1 f.2 (xs.flatMap (·.2)))) ∧
  (∀ (s : State) (q : Queued) (rest : List Queued), s.ready 0x02 q rest →
    let w := State.setItems .host 0 (itemsOf q.record 12) ⟨s.taken rest, [], []⟩
    let t := w.state
    let f := firstFail 0 w.results
    (w.tags ≠ [] → exec .set s = .next (t.held q w.tags f.1 f.2 (w.results.map Result.code) [] [])) ∧
    (w.tags = [] → t.link.backlog.any (·.2) = false → t.sec.otpOp = 0 → t.fwOn = true → t.mbx.waiting = none →
      exec .set s = .next (t.replied q f.1 f.2 (w.results.map Result.code)).postHeld.afterResponse))

/-- MOVE_TO and MOVE_VEL in a state that takes them are held for the next integration step, or armed (R48, R55, R56, R73,
R84). STOP asks the channel, and both twins of an energised pair, for a ramp stop at the next integration step, and
enters the record of its pair (R65, R73, R75, R115). DISABLE (R68, R84, R113, R350): in IDLE, HOLD_REDUCED and
ROLLCALL the FETs turn off at once, and so they do in MOVING and STOPPING of an energised twin, at the last set-point;
in MOVING and STOPPING of any other channel it asks for a ramp stop, which enters the record of a pair (R115), and
armed moves are gone; in DISABLED nothing is left to do; FAULT and PARKED answer FAULT_LATCHED. What the partner's
supervisor reports comes after the answer. -/
def Obligations.MotionCommandsMoveStopAndDisable : Prop :=
  (∀ (s : State) (q : Queued) (rest : List Queued) (i : Instr) (op : Nat) (mv : Move) (armed : Bool),
    let c := recCh q.record
    ((i = .moveTo ∧ op = 0x10 ∧ mv = moveToOf q.record ∧ armed = (moveToFlags q.record).getLsbD 0 ∧
        (moveToFlags q.record).toNat < 8) ∨
      (i = .moveVel ∧ op = 0x11 ∧ mv = moveVelOf q.record ∧ armed = (moveVelFlags q.record).getLsbD 0 ∧
        (moveVelFlags q.record).toNat < 2)) →
    s.ready op q rest → s.mine q → moveFieldsOk mv = true →
    ((s.chan c).state.energised = true ∨ ((s.chan c).state = .rollcall ∧ armed = true)) →
    (s.chan c).motion.stopFault = false → (s.paired c = true → armed = true) →
    (armed = true → s.unmatched c = false) → s.moveBlocked c mv = false →
    exec i s = .next (((s.taken rest).onMotion c fun m =>
      if armed then { m with armed := some mv } else { m with held := m.held ++ [mv] }).replied q .ok 0 [])) ∧
  (∀ (s : State) (q : Queued) (rest : List Queued), s.ready 0x12 q rest → s.mine q → byteAt q.record 8 = 0 →
    let c := recCh q.record
    ∃ t : State, exec .stop s = .next (t.replied q .ok 0 []) ∧
      t = { s.taken rest with chans := t.chans, pairs := (s.noteStop c .stop .stop).pairs } ∧
      ∀ d : Ch, t.chan d = if d = c ∨ (s.pairEnergised c = true ∧ d = twinOf c) then (s.chan d).stopAsked else s.chan d) ∧
  (∀ (s : State) (q : Queued) (rest : List Queued), s.ready 0x14 q rest → s.mine q →
    let c := recCh q.record
    let k := s.chan c
    let off := fun t : State => exec .disable s = .next (t.replied q .ok 0 []).postHeld ∧
      t = { s.taken rest with chans := t.chans, groups := t.groups,
                              mbx := { (s.taken rest).mbx with held := t.mbx.held } } ∧
      (t.chan c).state = .disabled ∧ (t.chan c).fetsOff = true ∧ (∀ d, d ≠ c → d ≠ twinOf c → t.chan d = s.chan d)
    ((k.state = .idle ∨ k.state = .holdReduced ∨ k.state = .rollcall) → k.motion.stopFault = false →
      ∃ t : State, off t ∧ (t.chan c).motion.theta = k.motion.theta ∧ (t.chan c).motion.pos = k.motion.pos) ∧
    ((k.state = .moving ∨ k.state = .stopping) → s.pairEnergised c = true → k.motion.stopFault = false →
      ∃ t : State, off t ∧ (t.chan c).motion.pos = k.coil.lastPos ∧ (t.chan c).motion.vel = 0) ∧
    ((k.state = .moving ∨ k.state = .stopping) → s.pairEnergised c = false →
      exec .disable s = .next ((((s.taken rest).noteStop c .disable .disable).onMotion c fun m =>
        { m with armed := none, disablePending := true, rampReq := some (m.rampReq.getD .disable) }).replied q .ok 0 [])) ∧
    (k.state = .disabled → exec .disable s = .next ((s.taken rest).replied q .ok 0 [])) ∧
    ((k.state = .fault ∨ k.state = .parked) → exec .disable s = .next ((s.taken rest).replied q .faultLatched 0 [])))

/-- ENABLE that passes its conditions puts the channel into ROLLCALL and issues the write that prepares it on the power
die (R68, R82, R107, R496). Where a latch of the channel is to be cleared first, it waits for the echo of that write
(what it does at the echo: TagEchoEndsItsWrite), its domains on from then (R430). ROLL_CALL puts every channel of its
mask into ROLLCALL, or none; with a latch to be cleared on any, all wait for the echoes (R361, R496), their domains on
from then (R430). -/
def Obligations.EnableAndRollCallBeginRollCall : Prop :=
  (∀ (s : State) (q : Queued) (rest : List Queued), s.ready 0x13 q rest → s.mine q → s.link.txOn = true →
    s.link.freeTag ≠ 0 →
    let c := recCh q.record
    s.judgeEnable c false 0 = .ok →
    (s.pdLatched c = false → ∃ t : State, exec .enable s = .next (t.replied q .ok 0 []) ∧
      t = { s.taken rest with chans := t.chans, pairs := t.pairs, link := s.link.issue (.prepare c) false } ∧
      (t.chan c).inRollCall ∧ (t.chan c).motion.pos = (s.chan c).motion.pos ∧ (∀ d, d ≠ c → t.chan d = s.chan d)) ∧
    (s.pdLatched c = true → exec .enable s = .next
      ((({ s.taken rest with link := s.link.issue (.prepare c) true } : State).powerSlice c).held q [s.link.freeTag] .ok 0 [] [] [c]))) ∧
  (∀ (s : State) (q : Queued) (rest : List Queued), s.ready 0x17 q rest → maskOk q.record = true →
    let m := recMask q.record
    (∀ c, maskBit m c = true → s.hasCh c = true ∧ s.owns .host c = true) →
    ((∀ c, maskBit m c = true → s.judgeEnable c true m = .ok) → (∀ c, maskBit m c = true → s.pdLatched c = false) →
      ∃ t : State, exec .rollCall s = .next (t.replied q .ok 0 []) ∧
        t = { s.taken rest with chans := t.chans, pairs := t.pairs, link := t.link } ∧
        (∀ c, maskBit m c = true → (t.chan c).inRollCall) ∧ (∀ c, maskBit m c = false → t.chan c = s.chan c)) ∧
    ((∀ c, maskBit m c = true → s.judgeEnable c true m = .ok) → (∃ c, maskBit m c = true ∧ s.pdLatched c = true) →
      s.link.txOn = true → s.link.freeTag ≠ 0 →
      ∃ (l : Link) (tags : List Byte), tags ≠ [] ∧ exec .rollCall s = .next
        (((maskChs m).foldl (fun t c => t.powerSlice c) ({ s.taken rest with link := l } : State)).held q tags .ok 0 [] [] (maskChs m))) ∧
    (∀ c, maskBit m c = true → s.judgeEnable c true m ≠ .ok → (∀ d, d < c → maskBit m d = true → s.judgeEnable d true m = .ok) →
      exec .rollCall s = .next ((s.taken rest).replied q (s.judgeEnable c true m) c.val [])))

/-- GROUP_START releases the armed moves of its whole mask to one integration step, or refuses with the first channel that
fails (R74). INTERP_MOVE that passes its conditions makes the group's motion active with the axes and targets given,
in place of motion commands that its members still hold (R63, R77, R78); on a twin pair it enters the pair's record
(R115). An interpolation group at one integration step (R78 to R80, R88): its members start together, each from where
it is; while they move, each stands at start + delta * s / L, rounded towards zero, for the path coordinate s of the
group; at L every member is in IDLE at its target with MOVE_DONE, and so it is at once where every target is its
start. A ramp stop of one member brakes the whole group along its line, to STOP_DONE; an immediate stop of one stops
all where they are. The profile of the path is the model's choice (assumptions 10, 103). -/
def Obligations.GroupStartAndInterpMoveRelease : Prop :=
  (∀ (s : State) (q : Queued) (rest : List Queued), s.ready 0x15 q rest → maskOk q.record = true →
    let m := recMask q.record
    (∀ c, maskBit m c = true → s.hasCh c = true ∧ s.owns .host c = true) →
    ((∀ c, maskBit m c = true → s.startFails m c = false) →
      ∃ t : State, exec .groupStart s = .next (t.replied q .ok 0 []) ∧ t = { s.taken rest with chans := t.chans, pairs := t.pairs } ∧
        (∀ c, maskBit m c = false → t.chan c = s.chan c) ∧
        (∀ c mv, maskBit m c = true → (s.chan c).motion.armed = some mv →
          t.chan c = { s.chan c with motion := { (s.chan c).motion with
            armed := none, held := (s.chan c).motion.held ++ [mv] } })) ∧
    (∀ c, maskBit m c = true → s.startFails m c = true → (∀ d, d < c → maskBit m d = true → s.startFails m d = false) →
      exec .groupStart s = .next ((s.taken rest).replied q .wrongState c.val []))) ∧
  (∀ (s : State) (q : Queued) (rest : List Queued) (g : Fin 4), s.ready 0x16 q rest → s.groupCount ≠ 0 →
    (byteAt q.record 8).toNat = g.val → badAxis q.record = none → 1 ≤ axisCount q.record → axisCount q.record ≤ 8 →
    let axes := axesOf q.record
    (∀ a ∈ axes, s.hasCh a.1 = true ∧ s.owns .host a.1 = true ∧ (s.groupMembers g.val).contains a.1 = true ∧
      s.axisFails axes a = false) →
    (∀ c ∈ s.groupMembers g.val, (axes.filter fun a => a.1 == c).length = 1) → axes.length = (s.groupMembers g.val).length →
    s.groups[g].active = false →
    ∃ t : State, exec .interpMove s = .next (t.replied q .ok 0 []) ∧
      ((∀ a ∈ axes, s.paired a.1 = false) → t.pairs = s.pairs) ∧
      t = { s.taken rest with
        chans := t.chans, pairs := t.pairs,
        groups := s.groups.set g { Group.init with active := true, members := axes.map fun a : Ch × Int => (a.1, 0, a.2) } } ∧
      ∀ c : Ch, t.chan c = if axes.any (fun a => a.1 == c) = true
        then { s.chan c with motion := { (s.chan c).motion with held := [] } } else s.chan c) ∧
  (∀ (s : State) (i : Fin 4), s.hwOn = true →
    let g0 := s.groups[i]
    let a := assertsOn s.assertList
    let member := fun c : Ch => g0.members.any fun x => x.1 == c
    g0.active = true → g0.stopping = false → (g0.members.map fun x => x.1).Nodup →
    (∀ j : Fin 4, j ≠ i → s.groups[j].active = true → ∀ x ∈ s.groups[j].members, member x.1 = false) →
    (∀ c : Ch, member c = true →
      let k := s.chan c
      k.motion.held = [] ∧ k.motion.capP = false ∧ k.motion.capN = false ∧ k.motion.disablePending = false ∧ k.motion.stopFault = false ∧
        (a c).imm = false ∧ (a c).ramp = false ∧ (g0.started = true → k.state = .moving ∧ k.motion.mode = .interp) ∧
        (g0.started = false → k.state = .idle ∨ k.state = .holdReduced) ∧
        (s.paired c = false ∨ (s.chan (twinOf c)).motion.disablePending = false)) →
    let places := g0.members.map fun x => (x.1, (s.chan x.1).motion.pos, x.2.2 * 2 ^ 24 - (s.chan x.1).motion.pos)
    let g := if g0.started = true then g0 else
      { g0 with started := true, members := places, spans := places.map fun x => (x.1, x.2.2)
                len := places.foldl (fun n x => max n x.2.2.natAbs) 0 }
    let l := s.groupLimits g a
    let place := fun (p : Int) (x : Ch × Int × Int) => max posMin (min posMax (x.2.1 + (x.2.2 * p).tdiv g.len))
    let calm := ∀ c : Ch, member c = true → (s.chan c).motion.rampReq = none ∧ (s.chan c).motion.immReq = none
    ∃ t : State, exec .integrationStep s = .next t ∧
      (g.len = 0 → g0.started = false → calm → t.groups[i] = Group.init ∧
        ∀ x ∈ g.members, (t.chan x.1).state = (s.chan x.1).state ∧ (t.chan x.1).motion.pos = x.2.1 ∧
          t.pulses.contains (36 * x.1.val + 6) = true) ∧
      (g.len ≠ 0 → calm →
        let g' := g.advance l
        (g'.pos ≠ g.len → t.groups[i] = g' ∧
          ∀ x ∈ g.members, (t.chan x.1).state = .moving ∧ (t.chan x.1).motion.mode = .interp ∧ (t.chan x.1).motion.pos = place g'.pos x) ∧
        (g'.pos = g.len → t.groups[i] = Group.init ∧
          ∀ x ∈ g.members, (t.chan x.1).state = .idle ∧ (t.chan x.1).motion.vel = 0 ∧ (t.chan x.1).motion.mode = .none ∧
            (t.chan x.1).motion.pos = max posMin (min posMax (x.2.1 + x.2.2)) ∧ t.pulses.contains (36 * x.1.val + 6) = true)) ∧
      (∀ (d : Ch) (cause : StopCause), g.len ≠ 0 → member d = true → (s.chan d).motion.rampReq = some cause →
        (∀ c : Ch, member c = true → (s.chan c).motion.immReq = none ∧ (c ≠ d → (s.chan c).motion.rampReq = none)) →
        let g' := Group.advance { g with stopping := true } l
        ∀ x ∈ g.members, (t.chan x.1).motion.pos = place g'.pos x ∧
          (g'.vel ≠ 0 → (t.chan x.1).state = .stopping ∧ (t.chan x.1).motion.stopCause = (if x.1 = d then cause else .group)) ∧
          (g'.vel = 0 → (t.chan x.1).state = .idle ∧ t.groups[i] = Group.init ∧ t.pulses.contains (36 * x.1.val + 7) = true)) ∧
      (∀ d : Ch, g.len ≠ 0 → member d = true → (s.chan d).motion.immReq ≠ none →
        t.groups[i] = Group.init ∧
        ∀ x ∈ g.members, (t.chan x.1).state = .idle ∧ (t.chan x.1).motion.vel = 0 ∧
          (t.chan x.1).motion.pos = (s.chan x.1).motion.pos ∧ t.pulses.contains (36 * x.1.val + 7) = true))

/-- CLEAR_FAULT (R84, R85, R111, R130, R161): FAULT holding becomes IDLE with its causes cleared, and shares again beside
an energised twin; with the FETs off, or in PARKED, a clearing write is issued and the command waits for its echo;
elsewhere there is nothing to clear, but the ramp stop of a fault refuses it: that a fault which arises in a ramp stop
of another cause counts from there on is the model's choice (assumption 90). -/
def Obligations.ClearFaultClearsOrWaits : Prop :=
  ∀ (s : State) (q : Queued) (rest : List Queued), s.ready 0x40 q rest → s.mine q →
    let c := recCh q.record
    let k := s.chan c
    (k.state = .fault → k.fetsOff = false →
      exec .clearFault s = .next ((((s.taken rest).onChan c fun k =>
        { k with state := .idle, causes := Causes.init, coil := { k.coil with reduced := false },
                 est := { k.est with feZero := if (k.causes.follow || k.causes.followOff) = true then max 1 k.est.feZero
                                               else k.est.feZero } }).shareAgain c).replied q .ok 0 [])) ∧
    ((k.state = .parked ∨ (k.state = .fault ∧ k.fetsOff = true)) → s.judgeClear c = .ok → s.link.txOn = true →
      s.link.freeTag ≠ 0 →
      exec .clearFault s = .next (({ s.taken rest with link := s.link.issue (.clear c) true } : State).held q [s.link.freeTag] .ok 0
        [] [c] [])) ∧
    ((k.state = .parked ∨ (k.state = .fault ∧ k.fetsOff = true)) → s.judgeClear c ≠ .ok →
      exec .clearFault s = .next ((s.taken rest).replied q (s.judgeClear c) 0 [])) ∧
    ((k.state = .disabled ∨ k.state = .rollcall ∨ k.state = .idle ∨ k.state = .holdReduced ∨ k.state = .moving ∨
        (k.state = .stopping ∧ k.motion.stopFault = false)) →
      exec .clearFault s = .next ((s.taken rest).replied q .ok 0 [])) ∧
    (k.state = .stopping → k.motion.stopFault = true →
      exec .clearFault s = .next ((s.taken rest).replied q .wrongState 0 []))

/-- CALIBRATE that passes its conditions begins to collect from the next modulator clock on and answers QUEUED (R253,
R254). GB_SNAPSHOT answers the published records of its entries and marks them as read (R258). FLT_SWAP that passes
its conditions answers QUEUED; a stopped channel swaps at once and reports it after the answer, and the swap of a
running one is left to a slot boundary (R279, R350). -/
def Obligations.CalibrateSnapshotAndFilterSwap : Prop :=
  (∀ (s : State) (q : Queued) (rest : List Queued), s.ready 0x20 q rest →
    let m := (byteAt q.record 8).toNat
    let e := (byteAt q.record 9).toNat
    let step := (byteAt q.record 10).toNat
    s.judgeCalibrate m e step = .queued →
    exec .calibrate s = .next (((s.taken rest).onEntry (entryIx (modIx m) e) fun x =>
      { x with cal := some ⟨step, [], false, s.nextClk, none⟩ }).replied q .queued 0 [])) ∧
  (∀ (s : State) (q : Queued) (rest : List Queued), s.ready 0x21 q rest →
    let first := (byteAt q.record 8).toNat
    let count := (byteAt q.record 9).toNat
    let ixs : List EntryIx := (List.finRange 256).filter fun g => first ≤ g.val && g.val < first + count
    1 ≤ count → count ≤ 7 → first + count ≤ 256 →
    ∃ t : State, exec .gbSnapshot s = .next (t.replied q .ok 0 (ixs.flatMap fun g => (s.gb g).record)) ∧
      t = { s.taken rest with gbs := t.gbs } ∧
      ∀ g : EntryIx, t.gb g = if first ≤ g.val ∧ g.val < first + count then { s.gb g with read := true } else s.gb g) ∧
  (∀ (s : State) (q : Queued) (rest : List Queued), s.ready 0x22 q rest →
    let mask := BitVec.ofNat 32 (field q.record 8 4)
    s.judgeSwap mask = (.queued, 0) →
    (∃ t : State, exec .fltSwap s = .next (t.replied q .queued 0 []).postHeld ∧
      t = { s.taken rest with flts := t.flts, mbx := { (s.taken rest).mbx with held := t.mbx.held } } ∧
      (∀ f : FltIx, mask.getLsbD f.val = false → t.flt f = s.flt f) ∧
      (∀ f : FltIx, mask.getLsbD f.val = true → (s.flt f).running = false → (t.flt f).page1 = !(s.flt f).page1) ∧
      (∀ f : FltIx, mask.getLsbD f.val = true → (s.flt f).running = true →
        t.flt f = { s.flt f with swapPending := some s.fc })))

/-- CAN_TX into a controller that can send takes a free buffer and answers its handle (R362, R383, R384): the lowest,
which is the model's choice (assumption 98); with none free it answers NO_CREDIT. The gateway (R348, R391 to R395): a
frame that arrived during an Eclipse is answered ECLIPSE_RETRY, with SEQ 0 (assumption 99), a repeat of the last
record with its recorded answer; any other record takes the next SEQ and stands at the end of the queue, or is
executed at once where nothing stands before it. -/
def Obligations.CanTxAndTheGatewayAccept : Prop :=
  (∀ (s : State) (q : Queued) (rest : List Queued), s.ready 0x30 q rest → txFieldsOk q.record = true →
    let c := recCan q.record
    let f := txFrameOf q.record
    let k := s.can c
    s.hasCan c = true → k.phase ≠ .stopped → k.restricted = false → k.busOff = false →
    (f.fd = true → s.canB c Pid.CAN_FD_ENABLE = true) →
    (txTimed q.record = false ∨ s.time ≤ txTime q.record + s.parN Pid.CAN_LATE_LIMIT c.val) →
    (s.txFree c = [] → exec .canTx s = .next ((s.taken rest).replied q .noCredit 0 [])) ∧
    (∀ b bs, s.txFree c = b :: bs →
      let gen := (k.gens[b] + 1) % 2048
      exec .canTx s = .next (((s.taken rest).onCan c fun k =>
        { k with gens := k.gens.set b gen, txOrder := k.txOrder + 1,
                 tx := k.tx.set b (some ⟨f, gen * 32 + b.val, txTimed q.record, txTime q.record,
                   !txTimed q.record || txTime q.record ≤ s.time, false, false, k.txOrder, 0⟩) }).replied q .ok 0
        (leBytes 2 (gen * 32 + b.val) ++ [0, 0])))) ∧
  (∀ (s : State) (c : CanIx) (r : List Byte) (ecl : Bool) (rest : List (List Byte × Bool)),
    (s.can c).gwQueue = (r, ecl) :: rest → s.fwOn = true → s.gwFree c = true → s.gwBusy c = false →
    let t := s.onCan c fun k => { k with gwQueue := rest }
    let seq := (s.mbx.acceptSeq + 1) % 2 ^ 32
    let u : State := { t with mbx := { t.mbx with acceptSeq := seq } }
    (ecl = true → exec (.gatewayCommand c) s = .next (t.gwSend c (respRecord r 0 .eclipseRetry 0 []))) ∧
    (ecl = false → ∀ a, (s.can c).gwLast = some (r.take (recLen r), a) →
      exec (.gatewayCommand c) s = .next (t.gwSend c a)) ∧
    (ecl = false → (∀ a, (s.can c).gwLast ≠ some (r.take (recLen r), a)) → s.mbx.queue ≠ [] →
      exec (.gatewayCommand c) s = .next
        { u with mbx := { u.mbx with queue := s.mbx.queue ++ [⟨seq, some c, r, true⟩] } }) ∧
    (ecl = false → (∀ a, (s.can c).gwLast ≠ some (r.take (recLen r), a)) → s.mbx.queue = [] → s.mbx.waiting = none →
      s.mbx.responses.length < 32 → exec (.gatewayCommand c) s = .next (u.execute ⟨seq, some c, r, true⟩)))

/-- CAN_CANCEL answers 0 and frees the buffer of a frame that has not begun, 1 where it has begun or begins in this fabric
cycle (R396), that a start which waits in the queue is of the same cycle being the model's choice (assumption 7), 2
for a handle that is not there, and refuses buffer 31 while the gateway is enabled (R387). -/
def Obligations.CanCancelReportsItsOutcome : Prop :=
  ∀ (s : State) (q : Queued) (rest : List Queued) (b : Fin 32), s.ready 0x31 q rest →
    let c := recCan q.record
    let h := field q.record 8 2
    s.hasCan c = true → b.val = h % 32 →
    (b = 31 → s.canB c Pid.CAN_GW_ENABLE = true → exec .canCancel s = .next ((s.taken rest).replied q .outOfRange 0 [])) ∧
    (∀ f, s.openToTx c b = true → (s.can c).tx[b] = some f → f.handle = h → s.begins c b f = false →
      exec .canCancel s = .next (((s.taken rest).onCan c fun k => { k with tx := k.tx.set b none }).replied q .ok 0
        [0, 0, 0, 0])) ∧
    (∀ f, s.openToTx c b = true → (s.can c).tx[b] = some f → f.handle = h → s.begins c b f = true →
      exec .canCancel s = .next ((s.taken rest).replied q .ok 0 [1, 0, 0, 0])) ∧
    (s.openToTx c b = true → (∀ f, (s.can c).tx[b] = some f → f.handle ≠ h) →
      exec .canCancel s = .next ((s.taken rest).replied q .ok 0 [2, 0, 0, 0]))

/-! ### The host port, boot and the opening -/

/-- A good new frame latches its RESULT, reply and status at its host CRC (R298, R327, R328, R334 to R336, R346, R353,
R355, R428, R446): a post is judged by the state, its form and the credit, a fetch returns the oldest whole records
that fit, and windows 0, 4 and 5 answer through their registers. Nothing else happens before the commit. A frame that
fails a check is rejected with the first failing reason (R329); while the processor is halted a new frame to window 1,
2 or 3 latches ECLIPSE_RETRY (R313); a frame with the last new frame's ALIVE latches DUPLICATE with the recorded
result (R333). -/
def Obligations.PresentedFramesAreJudged : Prop :=
  (∀ (s : State) (f : HpFrame) (i : Instr), i = .commandPost f ∨ i = .responseFetch f ∨ i = .eventFetch f →
    s.hpOn = true → s.hp.cur = none → s.hp.reject f = none → s.hp.repeats f = false →
    s.phase = .runtime → s.boot.eclipse = false → s.boot.halted = false → s.boot.st = .starting →
    let n := f.length.toNat
    let off := f.offset.toNat
    let closed := s.power.entering = .armed ∨ s.power.entering = .unitsStopped
    let latched := fun (r : Result) (data : List Byte) (k seen : Nat) =>
      exec i s = .next { s with hp := { s.hp with cur := some ⟨f, none, false, r, data, s.statusByte, k, seen⟩ } }
    let formed := f.op = 0x5A ∧ off = 0 ∧ 8 ≤ n ∧ n ≤ 256 ∧ n % 4 = 0 ∧ field f.data 2 2 = n
    (f.window = 1 → closed → latched .wrongState [] 0 0) ∧
    (f.window = 1 → ¬closed → formed → latched (if s.freeEntries = 0 then .noCredit else .ok) [] 0 0) ∧
    (f.window = 1 → ¬closed → ¬formed → latched .outOfRange [] 0 0) ∧
    (f.window = 2 → f.op = 0xA5 → off = 0 → 16 ≤ n →
      let rs := fitRecords n s.mbx.responses
      latched .ok (padTo n rs.flatten) rs.length 0) ∧
    (f.window = 2 → f.op ≠ 0xA5 ∨ off ≠ 0 ∨ n < 16 → latched .outOfRange [] 0 0) ∧
    (f.window = 3 → f.op = 0xA5 → off = 0 → 32 ≤ n → n % 32 = 0 →
      let es := s.mbx.ring.take (n / 32)
      latched .ok (padTo n (es.flatMap Slot.bytes)) es.length ((es.getLast?.map Slot.losses).getD 0)) ∧
    (f.window = 3 → f.op ≠ 0xA5 ∨ off ≠ 0 ∨ n < 32 ∨ n % 32 ≠ 0 → latched .outOfRange [] 0 0) ∧
    (f.window = 0 → f.op = 0x5A → latched .wrongState [] 0 0) ∧
    (f.window = 4 → f.op = 0xA5 → off + n ≤ 0x40 → latched .ok (slice s.window4 off n) 0 0) ∧
    (f.window = 4 → f.op = 0x5A →
      latched (if off = 0x0C ∧ n = 4 ∧ ctrlOk (frameWord f) = true then .ok else .outOfRange) [] 0 0) ∧
    (f.window = 5 → f.op = 0xA5 → off + n ≤ 0x24 → latched .ok (slice s.window5 off n) 0 0) ∧
    (f.window = 5 → f.op = 0x5A → latched
      (if s.sec.attempts = 8 ∨ s.allDisabled = false then .wrongState
       else if off = 0x40 ∧ n = 132 then .ok else .outOfRange) [] 0 0)) ∧
  (∀ (s : State) (f : HpFrame) (i : Instr), i = .commandPost f ∨ i = .responseFetch f ∨ i = .eventFetch f →
    s.hpOn = true → s.hp.cur = none →
    (∀ r, s.hp.reject f = some r →
      exec i s = .next { s with hp := { s.hp with cur := some ⟨f, some r, false, .ok, [], 0xFF, 0, 0⟩ } }) ∧
    (s.hp.reject f = none → s.hp.repeats f = false → 1 ≤ f.window.toNat → f.window.toNat ≤ 3 →
      (s.boot.eclipse = true ∨ s.boot.halted = true) →
      exec i s = .next { s with hp := { s.hp with cur := some ⟨f, none, false, .eclipseRetry, [], s.statusByte, 0, 0⟩ } }) ∧
    (∀ p, s.hp.reject f = none → s.hp.repeats f = true → s.hp.replay = some p →
      exec i s = .next { s with hp := { s.hp with cur := some ⟨f, none, true, .duplicate,
        p.result.code :: (if f.op = 0xA5 then (if p.result = .ok then p.reply else List.replicate f.length.toNat 0) else []),
        s.statusByte, 0, 0⟩ } }))

/-- Select release commits a good new frame whose last reply bit has been clocked (R321, R330 to R333, R341, R346 to R348,
R353, R357): a post joins the queue under the next SEQ; a fetch consumes what it returned, and a marker with it, but
for the losses that came after its reply; HP.CTRL is written and an unlock request taken; the frame becomes the last
new frame, which a READ of window 4 never is; a refused post waits for credit, and any other RESULT acts on nothing
but the sequence. Select release of a duplicate acts on nothing but the timer; of a rejected frame, of one whose last
reply bit has not been clocked, and of 8 or more clock edges without a frame it counts the rejection with its ALIVE
and reason (R329, R330, R333, R336); with fewer than 8 clock edges nothing was selected. A high level shorter than 10
ns is ignored (R331). -/
def Obligations.CommitActsOnTheFrame : Prop :=
  (∀ (s : State) (k : CurFrame) (n high : Nat) (a : Byte), s.hpOn = true → 20 ≤ high → s.hp.cur = some k → k.reject = none →
    k.duplicate = false → k.clocks ≤ n →
    let f := k.frame
    let g := { s.hp with cur := none, prevBad := false, timer := 0, timerOn := s.inRuntime }
    let h := { g with lastAlive := f.alive, valid := true,
                      replay := some ⟨f.op, f.window, f.offset, f.length, k.result,
                        if f.op = 0xA5 ∧ k.result = .ok then k.reply else []⟩ }
    let seq := (s.mbx.acceptSeq + 1) % 2 ^ 32
    let seen := s.mbx.ring.take k.consume
    (f.window = 1 → k.result = .ok →
      exec (.commit n high a) s = .next { s with
        hp := { h with creditWanted := false }
        mbx := { s.mbx with acceptSeq := seq, queue := s.mbx.queue ++ [⟨seq, none, f.data, true⟩] } }) ∧
    (f.window = 2 → k.result = .ok →
      exec (.commit n high a) s = .next { s with
        hp := h
        mbx := { s.mbx with responses := s.mbx.responses.drop k.consume } }) ∧
    (f.window = 3 → k.result = .ok → (∀ q ts, seen.getLast? = some (.marker q ts) → ts.length ≤ k.markerSeen) →
      exec (.commit n high a) s = .next { s with
        hp := h
        mbx := { s.mbx with ring := s.mbx.ring.drop k.consume, markerOpen := s.mbx.markerOpen && k.consume == 0 } }) ∧
    (∀ q ts, f.window = 3 → k.result = .ok → seen.getLast? = some (.marker q ts) → k.markerSeen < ts.length →
      exec (.commit n high a) s = .next { s with
        hp := h
        mbx := { s.mbx with ring := .marker (q + k.markerSeen) (ts.drop k.markerSeen) :: s.mbx.ring.drop k.consume
                            markerOpen := false } }) ∧
    (f.window = 4 → f.op = 0x5A → k.result = .ok →
      exec (.commit n high a) s = .next { s with hp := { h with ctrl := BitVec.ofNat 32 (frameWord f) } }) ∧
    (f.window = 4 → f.op = 0xA5 → k.result ≠ .noCredit → exec (.commit n high a) s = .next { s with hp := g }) ∧
    (f.window = 5 → f.op = 0x5A → k.result = .ok →
      exec (.commit n high a) s = .next { s with hp := h, sec := { s.sec with request := some f.data, dbgResult := 1 } }) ∧
    ((f.window = 0 ∨ f.window = 5) → f.op = 0xA5 → k.result = .ok → exec (.commit n high a) s = .next { s with hp := h }) ∧
    (¬(f.window = 4 ∧ f.op = 0xA5) → k.result = .noCredit →
      exec (.commit n high a) s = .next { s with hp := { h with creditWanted := true } }) ∧
    (¬(f.window = 4 ∧ f.op = 0xA5) → k.result ≠ .ok → k.result ≠ .noCredit → exec (.commit n high a) s = .next { s with hp := h })) ∧
  (∀ (s : State) (n high : Nat) (a : Byte), s.hpOn = true →
    (high < 10 → exec (.commit n high a) s = .next s) ∧ (20 ≤ high →
    let bad := fun (alive : Byte) (reason : Nat) =>
      { s with hp := { s.hp with cur := none, prevBad := true, rejectCount := min 65535 (s.hp.rejectCount + 1),
                                 rejectAlive := alive, rejectReason := reason } }
    (∀ k, s.hp.cur = some k → k.reject = none → k.duplicate = true → k.clocks ≤ n →
      exec (.commit n high a) s = .next
        { s with hp := { s.hp with cur := none, prevBad := false, timer := 0, timerOn := s.inRuntime } }) ∧
    (∀ k r, s.hp.cur = some k → k.reject = some r → exec (.commit n high a) s = .next (bad k.frame.alive r)) ∧
    (∀ k, s.hp.cur = some k → k.reject = none → n < k.clocks → exec (.commit n high a) s = .next (bad k.frame.alive 0x02)) ∧
    (s.hp.cur = none → 8 ≤ n → exec (.commit n high a) s = .next (bad a 0x02)) ∧
    (s.hp.cur = none → n < 8 → exec (.commit n high a) s = .next s)))

/-- A good new WRITE of one device register takes effect at its commit (R298, R301, R302, R330, R336): HP.CTRL; the load
aperture and LOAD_BASE; VERIFY and CLEAR of BOOT_CTRL. One that window 0 refuses, outside its ranges, while the boot
ROM works or once runtime has started, writes nothing. The model's readings: a frame of these rows is presented and
committed in one step (assumption 45); range is judged before state, a valid word in STATE 2 to 4 is WRONG_STATE, and
LOAD_BASE off its grid is OUT_OF_RANGE (assumptions 47, 69). -/
def Obligations.RegisterWritesTakeEffectAtCommit : Prop :=
  ∀ (s : State) (f : HpFrame), s.hpOn = true → s.hp.cur = none → s.hp.reject f = none → s.hp.repeats f = false →
    f.op = 0x5A →
    let off := f.offset.toNat
    let n := f.length.toNat
    let h := fun r : Result =>
      { s.hp with cur := none, prevBad := false, timer := 0, timerOn := s.inRuntime, lastAlive := f.alive, valid := true,
                  replay := some ⟨f.op, f.window, f.offset, f.length, r, []⟩ }
    let aperture := 0x8000 ≤ off ∧ off + n ≤ 0x10000 ∧ off % 4 = 0 ∧ n % 4 = 0
    let control := off = 0x40 ∧ n = 4 ∧ (frameWord f = 1 ∨ frameWord f = 2)
    let base := off = 0x48 ∧ n = 4 ∧ frameWord f % 32768 = 0 ∧ frameWord f / 32768 ≤ 39
    let refused := fun r : Result => ∀ i, i = .loadApertureWrite f ∨ i = .verify f ∨ i = .clear f →
      exec i s = .next { s with hp := h r }
    (f.window = 4 → off = 0x0C → n = 4 → ctrlOk (frameWord f) = true →
      exec (.hpCtrl f) s = .next { s with hp := { h .ok with ctrl := BitVec.ofNat 32 (frameWord f) } }) ∧
    (f.window = 0 → (s.boot.st = .ready ∨ s.boot.st = .failed) →
      (aperture → exec (.loadApertureWrite f) s = .next { s with
        hp := h .ok
        boot := { s.boot with staging := stagingWrite s.boot.staging (s.boot.page * 32768 + (off - 0x8000)) f.data } }) ∧
      (base → exec (.loadApertureWrite f) s = .next { s with
        hp := h .ok, boot := { s.boot with page := frameWord f / 32768 } }) ∧
      (control → frameWord f = 1 → exec (.verify f) s = .next { s with hp := h .ok, boot := { s.boot with st := .verifying } }) ∧
      (control → frameWord f = 2 → exec (.clear f) s = .next { s with hp := h .ok, boot := { s.boot with st := .clearing } })) ∧
    (f.window = 0 → s.boot.st ≠ .starting → ¬aperture → ¬control → ¬base → refused .outOfRange) ∧
    (f.window = 0 → (s.boot.st = .verifying ∨ s.boot.st = .clearing) → (aperture ∨ control ∨ base) → refused .wrongState) ∧
    (f.window = 0 → s.boot.st = .starting → refused .wrongState)

/-- The end of a verification (R304 to R306, R341, R424, R438): the first failing check is written to FAIL and LAST_FAIL
and the staging area is kept; without one, runtime starts with parameters at their reset values, the link transmitter
on, the image's figures latched, and RUNTIME_READY. The boot ROM's own ends of work (R301, R304, R308): a CLEAR leaves
the staging area zero and STATE ready; a processor fault leaves it zero and STATE failed with reason 0x0B. That both
also end a staging RAM error noted before is the model's choice (assumption 49). -/
def Obligations.VerificationStartsTheRuntimeOrFails : Prop :=
  (∀ s : State, s.phase = .boot → s.sec.debugHalt = false → s.boot.st = .verifying →
    (∀ r, s.verifyFail = some r →
      exec .verifyComplete s = .next { s with boot := { s.boot with st := .failed, fail := r, lastFail := r } }) ∧
    (s.verifyFail = none →
      let h := s.boot.header
      ∃ t : State, exec .verifyComplete s = .next
          (t.raise 0x0B01 0 [BitVec.ofNat 8 s.power.cause, BitVec.ofNat 8 (b2n s.pd.running)]) ∧
        t = { s with
          phase := .runtime
          params := []
          runFc := s.fc
          slotTime := s.time
          link := t.link
          hp := { s.hp with timerOn := true, timer := 0, silenceDue := none }
          sec := { s.sec with eccCorrected := 0 }
          power := { s.power with arose := 0, first := none, tripped := 0 }
          boot := { s.boot with st := .starting, imageHash := word256 (slice h 32 32)
                                fwVersion := BitVec.ofNat 32 (field h 12 4)
                                imageRollback := BitVec.ofNat 16 (field h 16 2) } } ∧
        t.link.txOn = true ∧ t.link.answers = s.pd.running ∧
        (s.pd.running = true → t.link.cfg = [⟨1, .startUp⟩]) ∧ (s.pd.running = false → t.link.cfg = []))) ∧
  (∀ s : State, s.phase = .boot → s.sec.debugHalt = false →
    (s.boot.st = .clearing →
      exec .stagingClearDone s = .next { s with boot := { s.boot with st := .ready, staging := [], stagingError := false } }) ∧
    exec .bootProcessorFault s = .next
      { s with boot := { s.boot with st := .failed, fail := 0x0B, lastFail := 0x0B, staging := [], stagingError := false } })

/-- A committed unlock request is checked (R446 to R448): a failing one is counted and draws a new challenge; a passing
one blows both fuses and leaves the device key, the vault, the staging area, the mailboxes, the Gradebook and the data
that the firmware retains over an Eclipse (R311) empty, and ends a runtime with every channel that the variant has
parked, its FETs off. That the parameters are RAM which it empties too, and that an opening in the boot phase leaves
the boot ROM running, is the model's choice (assumption 50). What passes rests on the free challenge (assumption 6). -/
def Obligations.UnlockRequestFailsOrOpensThePort : Prop :=
  ∀ (s : State) (bs : List Byte), s.sec.request = some bs → (s.phase = .boot ∧ s.sec.debugHalt = false ∨ s.fwOn = true) →
    (s.judgeUnlock bs ≠ 3 →
      exec .debugUnlockRequest s = .next { s with sec := { s.sec with
        request := none, attempts := min 8 (s.sec.attempts + 1), draws := s.sec.draws + 1, dbgResult := s.judgeUnlock bs } }) ∧
    (s.judgeUnlock bs = 3 →
      ∃ t : State, exec .debugUnlockRequest s = .next t ∧ t.otp = { s.otp with debug := true, kill := true, deviceKey := 0 } ∧
        (∀ i : Fin 16, t.sec.vault[i] = none) ∧ t.sec.dbgResult = 3 ∧ t.sec.request = none ∧ t.boot.staging = [] ∧
        t.mbx = Mailbox.init ∧ t.params = [] ∧ t.sec.mac = 0 ∧
        t.gbs = Vector.replicate 256 Gb.init ∧ t.pairs = Vector.replicate 12 PairRecord.init ∧
        t.entries = Vector.replicate 256 Entry.init ∧ t.boot.count = 0 ∧ (s.phase = .boot → t.phase = .boot ∧ t.chans = s.chans) ∧
        (s.phase = .runtime → t.phase = .opened ∧ t.link.txOn = false ∧
          ∀ c : Ch, s.hasCh c = true → (t.chan c).state = .parked ∧ (t.chan c).fetsOff = true))

/-! ### Parameter writes -/

/-- A parameter write of its own (R363, R366, R367; its result is kept under assumption 9, and it uses up an arm of an OTP
operation, R445): the first failing check is its result and nothing changes; a plain parameter takes its value; a
setting of the power die takes it and is issued as a configuration write where the power die answers (R25, R175).
Parameters whose write does more than store a value: BANK.PWM_FREQ sets the period to the nearest fabric cycle (R98);
CH.MOTOR_KE discards the Ke collection (R367); CH.STALL_STEPS and CH.FE_TIME restart their counts; a coefficient makes
its page custom (R281); a threshold restarts the confirmation (R284); a parameter that twins share enters the record
of its pair (R76, R112, R115), and CH.TWIN = 0 clears CH.TWIN_K (R120); ADC.VEXC_ENABLE is issued to the power die
(R234). -/
def Obligations.ParameterWritesAreJudgedThenStored : Prop :=
  (∀ (s0 : State) (src : Source) (id : BitVec 16) (inst : Byte) (value : BitVec 64), s0.fwOn = true → s0.freeUnit id.toNat inst.toNat →
    let s := s0.disarm
    let n := id.toNat
    let k := inst.toNat
    (paramRow n = none → exec (.parameterWrite src id inst value) s0 = .next (s.noted .badParamId)) ∧
    (∀ row, paramRow n = some row →
      (s.judgeItem src row n k value ≠ .ok →
        exec (.parameterWrite src id inst value) s0 = .next (s.noted (s.judgeItem src row n k value))) ∧
      (s.judgeItem src row n k value = .ok → (s.itemValue row n k value).1 ≠ .ok →
        exec (.parameterWrite src id inst value) s0 = .next (s.noted (s.itemValue row n k value).1)) ∧
      (∀ v, s.judgeItem src row n k value = .ok → s.itemValue row n k value = (.ok, v) →
        (plainId n = true → exec (.parameterWrite src id inst value) s0 = .next ((s.setPar n k v).wrote n k)) ∧
        (carried n = true → s.link.txOn = true → s.link.answers = true →
          exec (.parameterWrite src id inst value) s0 = .next
            (({ s.setPar n k v with link := s.link.issue (.param n k v) true }).wrote n k)) ∧
        (carried n = true → (s.link.txOn = false ∨ s.link.answers = false) →
          exec (.parameterWrite src id inst value) s0 = .next ((s.setPar n k v).wrote n k))))) ∧
  (∀ (s0 : State) (src : Source) (id : BitVec 16) (inst : Byte) (value : BitVec 64) (row : PRow) (v : Int), s0.fwOn = true → s0.freeUnit id.toNat inst.toNat →
    let s := s0.disarm
    let n := id.toNat
    let k := inst.toNat
    let t := s.setPar n k v
    paramRow n = some row → s.judgeItem src row n k value = .ok → s.itemValue row n k value = (.ok, v) →
    (n = 0x1100 → exec (.parameterWrite src id inst value) s0 = .next ((t.onBank (bankIx k) fun b =>
      { b with period := ((240000000 + v / 2) / v).toNat }).wrote n k)) ∧
    (n = 0x2122 → exec (.parameterWrite src id inst value) s0 = .next ((t.onEst (chIx k) fun e =>
      { e with keSeen := 0, keGood := 0, keSum := 0 }).wrote n k)) ∧
    (n = 0x2212 → exec (.parameterWrite src id inst value) s0 = .next ((t.onEst (chIx k) fun e =>
      { e with angleCount := 0, emfCount := 0 }).wrote n k)) ∧
    (n = 0x2234 → exec (.parameterWrite src id inst value) s0 = .next ((t.onEst (chIx k) fun e =>
      { e with feCount := 0 }).wrote n k)) ∧
    (0x7100 ≤ n → n < 0x7140 → exec (.parameterWrite src id inst value) s0 = .next ((t.setPar Pid.FLT_P0_PRESET k 0).wrote n k)) ∧
    (0x7140 ≤ n → n < 0x7180 → exec (.parameterWrite src id inst value) s0 = .next ((t.setPar Pid.FLT_P1_PRESET k 0).wrote n k)) ∧
    ((twinParams.contains n = true) → exec (.parameterWrite src id inst value) s0 = .next
      ((t.notePairWrite (s.comparesWrite n (chIx k)) n (chIx k) v).wrote n k)) ∧
    (n = 0x2130 → exec (.parameterWrite src id inst value) s0 = .next (((t.onEst (chIx k) fun e =>
      { e with twinK := if v = 0 then 0 else e.twinK }).notePairWrite (s.comparesWrite n (chIx k)) n (chIx k) v).wrote n k)) ∧
    (n = 0x5200 → s.link.txOn = true → s.link.answers = true → exec (.parameterWrite src id inst value) s0 = .next
      (({ t with link := s.link.issue (.vexc (bankIx k) (v != 0)) true } : State).wrote n k)) ∧
    (∀ c : Fin 128, c.val = k → 0x7200 ≤ n → n ≤ 0x7207 → exec (.parameterWrite src id inst value) s0 = .next
      ({ t with cmps := t.cmps.set c { t.cmps[c] with run := 0 } }.wrote n k)))

/-- A write that is a row of its own is judged and applied as every parameter write is (R363, R367): its row stands for
its parameter, and an item that passes the checks has the effect of the parameter. What DEV.ECLIPSE_TEST and
DEV.STANDBY begin at once, where no response stands before it, is stated of them apart. -/
def Obligations.OwnRowWritesAreParameterWrites : Prop :=
  ∀ (s0 : State) (src : Source) (x : BitVec 64) (i : Instr) (n k : Nat),
    let s := s0.disarm
    ((∃ c : Ch, k = c.val ∧
        ((i = .chPositionWrite src c x ∧ n = 0x2001) ∨ (i = .chLimitLatchWrite src c x ∧ n = 0x2024) ∨
          (i = .fbEnable src c x ∧ n = 0x4000) ∨ (i = .fbTrust src c x ∧ n = 0x4017))) ∨
      (∃ r : RuleIx, k = r.val ∧
        ((i = .rfxEnable src r x ∧ n = 0xA002) ∨ (i = .rfxRelease src r x ∧ n = 0xA007) ∨ (i = .gbEnable src r x ∧ n = 0x6002))) ∨
      (∃ m : ModIx, k = m.val ∧
        ((i = .adcRun src m x ∧ n = 0x5000) ∨ (i = .auxRun src m x ∧ n = 0x9000) ∨ (i = .auxForce src m x ∧ n = 0x9008))) ∨
      (∃ f : FltIx, k = f.val ∧
        ((i = .fltRun src f x ∧ n = 0x7000) ∨ (i = .fltPresetLoad src f false x ∧ n = 0x7022) ∨
          (i = .fltPresetLoad src f true x ∧ n = 0x7032))) ∨
      (∃ t : TripIx, k = t.val ∧
        ((i = .auxTripEnable src t x ∧ n = 0x9020) ∨ (i = .auxTripClear src t x ∧ n = 0x9024))) ∨
      (∃ c : CanIx, k = c.val ∧
        ((i = .canRun src c x ∧ n = 0x8000) ∨ (i = .canMode src c x ∧ n = 0x8001) ∨ (i = .canRecover src c x ∧ n = 0x800B) ∨
          (i = .canRxPop src c x ∧ n = 0x803B))) ∨
      (k = 0 ∧
        ((i = .auxLoadAll src x ∧ n = 0x9030) ∨ (i = .devEclipseTest src x ∧ n = 0x0107) ∨ (i = .devHostSilenceWrite src x ∧ n = 0x0200) ∨
          (i = .devStandby src x ∧ n = 0x0300) ∨ (i = .devAttestGo src x ∧ n = 0x0415) ∨ (i = .devVaultLoad src x ∧ n = 0x0425) ∨
          (i = .devOtpArm src x ∧ n = 0x0430)))) →
    exec i s0 = exec (.parameterWrite src (BitVec.ofNat 16 n) (BitVec.ofNat 8 k) x) s0 ∧
    (∀ (row : PRow) (v : Int), s.fwOn = true → s.freeUnit n k → n ≠ 0x0107 → n ≠ 0x0300 → paramRow n = some row → s.judgeItem src row n k x = .ok →
      s.itemValue row n k x = (.ok, v) →
      let w := s.applyItem 0 n k v
      exec i s0 = .next ((if w.result = .ok then w.state.noteWrite (unitOf n k) else w.state).noted w.result)) ∧
    (s0.fwOn = true → s0.hwOn = true → s0.mbx.written.contains (unitOf n k) = true → exec i s0 = exec i s0.cycle)

/-- A write of CH.POSITION on a stopped channel moves position and target without moving the angle, the set-points in work
follow it, the following-error check sets its offset anew, and it enters the record of the pair (R76, R90, R92, R115,
R130); it is refused in motion, and, where the pair is energised or one of its writes is unmatched, unless both twins
stand without an armed move (R76, R112). A write of 0 to CH.LIMIT_LATCH clears both latches (R72). Limit inputs (R69,
R70): an activation sets the level and, with CH.LIMIT_MODE nonzero, the latch; that the next integration step captures
its position, and that an activation with the latch set captures again, are the model's choices (assumptions 19, 75);
an input that is already active changes nothing; a deactivation clears the level only. -/
def Obligations.PositionAndLimitWrites : Prop :=
  (∀ (s0 : State) (src : Source) (c : Ch) (value : BitVec 64), s0.fwOn = true → s0.freeUnit 0x2001 c.val → s0.hasCh c = true → s0.owns src c = true →
    let s := s0.disarm
    let loose := fun d : Ch => (s.chan d).state.stopped = true ∧ (s.chan d).motion.armed = none
    let v := value.toInt
    ((s.chan c).state.stopped = true → (s.pairEnergised c = true ∨ s.unmatched c = true → loose c ∧ loose (twinOf c)) →
      -(2 ^ 39) ≤ v → v < 2 ^ 39 →
      exec (.chPositionWrite src c value) s0 = .next (((s.onChan c fun k =>
        { k with motion := { k.motion with pos := v * 2 ^ 24, carry := 0, target := v }
                 coil := { k.coil.shift (v * 2 ^ 24 - k.motion.pos) with lastPos := v * 2 ^ 24 }
                 est := { k.est with feZero := max 1 k.est.feZero } }).notePairWrite (s.comparesWrite 0x2001 c) 0x2001 c v).wrote 0x2001 c.val)) ∧
    ((s.chan c).state.stopped = true → (s.pairEnergised c = true ∨ s.unmatched c = true) → ¬(loose c ∧ loose (twinOf c)) →
      exec (.chPositionWrite src c value) s0 = .next (s.noted .wrongState)) ∧
    ((s.chan c).state.stopped = false → exec (.chPositionWrite src c value) s0 = .next (s.noted .busyRunning)) ∧
    ((s.chan c).state.stopped = true → value = 0 →
      exec (.chLimitLatchWrite src c value) s0 = .next ((s.onMotion c fun m =>
        { m with latchP := false, latchN := false }).wrote 0x2024 c.val)) ∧
    ((s.chan c).state.stopped = false → exec (.chLimitLatchWrite src c value) s0 = .next (s.noted .busyRunning))) ∧
  (∀ (s : State) (c : Ch), s.hwOn = true → s.hasCh c = true →
    let m := (s.chan c).motion
    let on := s.par Pid.CH_LIMIT_MODE c.val != 0
    (m.limP = false → exec (.limitInputActive c .p) s = .next (s.onMotion c fun m =>
      { m with limP := true, latchP := m.latchP || on, capP := m.capP || on })) ∧
    (m.limN = false → exec (.limitInputActive c .n) s = .next (s.onMotion c fun m =>
      { m with limN := true, latchN := m.latchN || on, capN := m.capN || on })) ∧
    (m.limP = true → exec (.limitInputActive c .p) s = .next s) ∧ (m.limN = true → exec (.limitInputActive c .n) s = .next s) ∧
    exec (.limitInputInactive c .p) s = .next (s.onMotion c fun m => { m with limP := false }) ∧
    exec (.limitInputInactive c .n) s = .next (s.onMotion c fun m => { m with limN := false }))

/-- FB.ENABLE and FB.TRUST (R10, R182, R197): both are judged at once and act in the fabric cycle after. A start sets the
count to 0 with a fresh decoder; a stop makes the count suspect, and is refused under follow mode or an active
following-error check; a write of 1 to FB.TRUST clears the suspect flag of a running interface with a mode. -/
def Obligations.FeedbackStartsStopsAndIsTrusted : Prop :=
  ∀ (s0 : State) (c : Ch), s0.fwOn = true → s0.freeUnit 0x4000 c.val → s0.hasCh c = true →
    let s := s0.disarm
    let f := s.fb c
    let mode := s.parN Pid.FB_MODE c.val
    (f.running = false → s.fbStartOk c = true → s.canonical = true →
      ∃ t : State, exec (.fbEnable .host c 1) s0 = .next (t.wrote 0x4000 c.val) ∧ t = { s with fbs := t.fbs, params := t.params } ∧
        (∀ d, d ≠ c → t.fb d = s.fb d) ∧ t.parB Pid.FB_ENABLE c.val = true ∧ t.fb c = { f with startNext := some true }) ∧
    (f.running = false → s.fbStartOk c = false → exec (.fbEnable .host c 1) s0 = .next (s.noted .outOfRange)) ∧
    (f.running = true → exec (.fbEnable .host c 1) s0 = .next
      (((s.onFb c fun f => { f with startNext := none }).setPar Pid.FB_ENABLE c.val 1).wrote 0x4000 c.val)) ∧
    ((s.chan c).motion.mode ≠ .follow → (s.parB Pid.CH_FE_ENABLE c.val = false ∨ s.energised c = false) →
      exec (.fbEnable .host c 0) s0 = .next (((s.onFb c fun f =>
        { f with startNext := if f.running = true then some false else none }).setPar Pid.FB_ENABLE c.val 0).wrote 0x4000 c.val)) ∧
    (((s.chan c).motion.mode = .follow ∨ (s.parB Pid.CH_FE_ENABLE c.val = true ∧ s.energised c = true)) →
      exec (.fbEnable .host c 0) s0 = .next (s.noted .wrongState)) ∧
    (f.running = true → mode ≠ 0 →
      exec (.fbTrust .host c 1) s0 = .next ((s.onFb c fun f => { f with trustNext := true }).wrote 0x4017 c.val)) ∧
    ((f.running = false ∨ mode = 0) → exec (.fbTrust .host c 1) s0 = .next (s.noted .wrongState)) ∧
    (let g := s0.cycle.fb c;
      (f.startNext = some true →
        g.running = true ∧ g.count = 0 ∧ g.standstill = false ∧ g.indexSeen = false ∧ g.lineA = f.lineA ∧ g.lineB = f.lineB ∧
        g.startNext = none ∧ ((mode = 1 ∨ mode = 5 ∨ mode = 6) → g.suspect = false) ∧
        ((mode = 0 ∨ mode = 3 ∨ mode = 4) → g.suspect = true)) ∧
      (f.startNext = some false → g.running = false ∧ g.suspect = true ∧ g.count = f.count) ∧
      (f.startNext = none → f.trustNext = true → g.suspect = false ∧ g.running = f.running ∧ g.count = f.count ∧
        (mode = 6 → g.toothRef = none)))

/-- RFX.ENABLE and RFX.RELEASE (R10, R220, R222 to R224): judged at once, in effect in the fabric cycle after, where a
later write of the same cycle has taken the place of the earlier. The clauses of an enable are of a cycle in which no
rule is called. A disable ends every assertion of the rule and leaves RFX.OVERRIDDEN; an enable of a rule that passes
its check takes the present sources as the members' past; a release ends the latched assertion of a rule that is not
enabled or whose condition does not hold. -/
def Obligations.RuleIsEnabledDisabledAndReleased : Prop :=
  ∀ (s0 : State) (r : RuleIx), s0.fwOn = true → s0.freeUnit 0xA002 r.val →
    let s := s0.disarm
    let w := s.ruleWord r
    let k := s.rule r
    let g := s0.cycle.rule r
    exec (.rfxEnable .host r 0) s0 = .next (((s.onRule r fun k =>
      { k with enableNext := if k.enabled = true then some false else none }).setPar Pid.RFX_ENABLE r.val 0).wrote 0xA002 r.val) ∧
    (s.ruleCheck w = .ok → exec (.rfxEnable .host r 1) s0 = .next (((s.onRule r fun k =>
      { k with enableNext := if k.enabled = true then none else some true, caused := s.mbx.holding }).setPar Pid.RFX_ENABLE r.val 1).wrote 0xA002 r.val)) ∧
    (s.ruleCheck w ≠ .ok → exec (.rfxEnable .host r 1) s0 = .next (s.noted (s.ruleCheck w))) ∧
    (w.dur = 2 → (k.enabled && s.condition r) = false →
      exec (.rfxRelease .host r 1) s0 = .next ((s.onRule r fun k => { k with releaseNext := true }).wrote 0xA007 r.val)) ∧
    ((w.dur ≠ 2 ∨ (k.enabled && s.condition r) = true) → exec (.rfxRelease .host r 1) s0 = .next (s.noted .wrongState)) ∧
    (k.enableNext = some false → g.enabled = false ∧ g.armed = false ∧ g.asserted = 0 ∧ g.auxAsserted = false ∧
      g.overridden = k.overridden ∧ g.enableNext = none) ∧
    (k.enableNext = some true → (∀ q, (s0.rule q).due = false ∧ s0.begun q = 0) → g.enabled = true ∧ g.armed = false ∧ g.asserted = 0 ∧ g.auxAsserted = false ∧ g.memPrev = 0 ∧
      g.srcPrev = s.srcNow w ∧ g.enableNext = none) ∧
    (k.enableNext = none → k.releaseNext = true → g.enabled = k.enabled ∧ g.armed = false ∧ g.asserted = 0 ∧
      g.auxAsserted = false ∧ g.releaseNext = false)

/-- ADC.RUN is kept and issued as a configuration write, where the power die answers (R243, R249, R250, R259): on the even
member of an interleaved pair for both members, while the odd one refuses it; a start outside the rules is refused.
That an odd member which runs alone is started again with its pair is the model's choice (assumption 101). GB.ENABLE
begins a numbering, and an entry with a window in progress goes on to its boundary after a disable (R257, R260).
FLT.RUN (R267, R268, R270, R281, R291): a write of 0 to a running channel is a stop request for the start of its next
slot; a start that passes its checks begins a fresh channel, with its first slot at least 750 fabric cycles later and
its comparators clear; a write of 1 while the stop has not come replaces it and the run goes on with its delay
elements (R10; what governs it then is the model's choice, assumption 100), and one behind that slot's start begins a
fresh channel. A preset load fills the page's type, length and coefficients (R281, R288); of presets 5 to 7 and 11 to
13 the coefficients are free values within the bounds of assumption 3. -/
def Obligations.ConvertersGradebookAndFiltersStart : Prop :=
  (∀ (s0 : State), s0.fwOn = true →
    let s := s0.disarm
    (∀ (m : ModIx) (on : Bool), s.hasMod m = true → s0.freeUnit 0x5000 m.val →
      let x := BitVec.ofNat 64 (b2n on)
      let o := oddOf m
      let fresh := on = true → s.par Pid.ADC_RUN m.val = 0 ∧ s.adcStartOk m = true
      (s.interleaves m = false → fresh → s.link.txOn = true → s.link.answers = true →
        exec (.adcRun .host m x) s0 = .next
          (({ s.setPar Pid.ADC_RUN m.val (b2n on : Nat) with link := s.link.issue (.adcRun m on) true } : State).wrote 0x5000 m.val)) ∧
      (s.interleaves m = false → fresh → (s.link.txOn = false ∨ s.link.answers = false) →
        exec (.adcRun .host m x) s0 = .next ((s.setPar Pid.ADC_RUN m.val (b2n on : Nat)).wrote 0x5000 m.val)) ∧
      (s.interleaves m = true → m.val % 2 = 0 → fresh → s.link.txOn = true →
        s.link.answers = true → exec (.adcRun .host m x) s0 = .next
          (({ (s.setPar Pid.ADC_RUN m.val (b2n on : Nat)).setPar Pid.ADC_RUN o.val (b2n on : Nat) with
              link := (s.link.issue (.adcRun m on) true).issue (.adcRun o on) true } : State).wrote 0x5000 m.val)) ∧
      (s.interleaves m = true → m.val % 2 = 0 → fresh →
        (s.link.txOn = false ∨ s.link.answers = false) → exec (.adcRun .host m x) s0 = .next
          (((s.setPar Pid.ADC_RUN m.val (b2n on : Nat)).setPar Pid.ADC_RUN o.val (b2n on : Nat)).wrote 0x5000 m.val)) ∧
      (s.interleaves m = true → m.val % 2 = 1 → exec (.adcRun .host m x) s0 = .next (s.noted .wrongState)) ∧
      (¬(s.interleaves m = true ∧ m.val % 2 = 1) → on = true → s.par Pid.ADC_RUN m.val ≠ 0 →
        exec (.adcRun .host m x) s0 = .next (s.wrote 0x5000 m.val)) ∧
      (s.interleaves m = false → on = true → s.par Pid.ADC_RUN m.val = 0 → s.adcStartOk m = false →
        exec (.adcRun .host m x) s0 = .next (s.noted .outOfRange)) ∧
      (s.interleaves m = true → m.val % 2 = 0 → on = true → s.par Pid.ADC_RUN m.val = 0 →
        s.adcStartOk m = false → exec (.adcRun .host m x) s0 = .next (s.noted .outOfRange))) ∧
    (∀ g : EntryIx, s0.freeUnit 0x6002 g.val →
      exec (.gbEnable .host g 0) s0 = .next (((s.setPar Pid.GB_ENABLE g.val 0).onGb g fun k => { k with enabled := false }).wrote 0x6002 g.val) ∧
      exec (.gbEnable .host g 1) s0 = .next (((s.setPar Pid.GB_ENABLE g.val 1).onGb g fun k =>
        if k.enabled = true then k else { k with enabled := true, seq := if k.active = true then k.seq else 0 }).wrote 0x6002 g.val))) ∧
  (∀ (s0 : State) (f : FltIx), s0.fwOn = true → s0.freeUnit 0x7000 f.val → s0.hasFlt = true → s0.canonical = true →
    let s := s0.disarm
    let k := s.flt f
    (k.running = true → exec (.fltRun .host f 0) s0 = .next (((s.setPar Pid.FLT_RUN f.val 0).onFlt f fun k =>
      { k with stopReq := some (k.stopReq.getD s.fc) }).wrote 0x7000 f.val)) ∧
    (k.running = false → exec (.fltRun .host f 0) s0 = .next ((s.setPar Pid.FLT_RUN f.val 0).wrote 0x7000 f.val)) ∧
    (k.running = true → k.stopReq = none → exec (.fltRun .host f 1) s0 = .next ((s.setPar Pid.FLT_RUN f.val 1).wrote 0x7000 f.val)) ∧
    ((k.running = false ∨ k.stopReq ≠ none) → s.fltRunCode f ≠ .ok →
      exec (.fltRun .host f 1) s0 = .next (s.noted (s.fltRunCode f))) ∧
    (∀ a, k.running = true → k.stopReq = some a → s.fc ≤ s.slotFrom f a → s.fltRunCode f = .ok →
      ∃ t : State, exec (.fltRun .host f 1) s0 = .next (t.wrote 0x7000 f.val) ∧ t = { s with flts := t.flts, params := t.params } ∧
        (∀ g, g ≠ f → t.flt g = s.flt g) ∧ t.parB Pid.FLT_RUN f.val = true ∧
        t.flt f = { k with stopReq := none, figures := (t.flt f).figures, settleInForce := (t.flt f).settleInForce,
                           delayNum := (t.flt f).delayNum, delayDen := (t.flt f).delayDen, timed := (t.flt f).timed }) ∧
    ((k.running = false ∨ (k.swapPending = none ∧ ∃ a, k.stopReq = some a ∧ s.slotFrom f a < s.fc)) → s.fltRunCode f = .ok →
      ∃ t : State, exec (.fltRun .host f 1) s0 = .next (t.wrote 0x7000 f.val) ∧
        t = { s with flts := t.flts, cmps := t.cmps, params := t.params } ∧ (∀ g, g ≠ f → t.flt g = s.flt g) ∧
        t.parB Pid.FLT_RUN f.val = true ∧ (t.flt f).running = true ∧ (t.flt f).inputs = [] ∧ (t.flt f).primed = false ∧
        (t.flt f).firstSlot = s.slotFrom f (s.fc + 750) ∧ (t.flt f).page1 = k.page1 ∧
        ∀ n, n < 4 → t.cmps[cmpIx f n] = Cmp.init) ∧
    (∀ (page1 : Bool) (n : Nat), n ≤ 16 → ¬(s.parB Pid.FLT_RUN f.val = true ∧ k.page1 = page1) →
      (k.swapPending = none ∨ k.page1 = page1) →
      ∃ t : State, exec (.fltPresetLoad .host f page1 (BitVec.ofNat 64 n)) s0 = .next (t.wrote (if page1 = true then 0x7032 else 0x7022) f.val) ∧
        t = { s with params := t.params } ∧ t.parN (Pid.FLT_P0_PRESET + pageOff page1) f.val = n ∧
        (1 ≤ n → t.parN (Pid.FLT_P0_TYPE + pageOff page1) f.val = (presetShape n).1 ∧
          t.parN (Pid.FLT_P0_LEN + pageOff page1) f.val = (presetShape n).2 ∧
          ∀ i, i < (presetCoefs n).length →
            t.par ((if page1 = true then Pid.FLT_P1_C0 else Pid.FLT_P0_C0) + i) f.val = (presetCoefs n).getD i 0)))

/-- AUX.LOAD_ALL is all or nothing (R404): where, for a present output, the shadow duty is neither 0 nor 0x1FFFFFF and not
below the shadow period, or the output is armed with its phase not below the shadow period, the write is answered
OUT_OF_RANGE and nothing is copied; otherwise every present output takes its copy in the same fabric cycle, for a
period start of a later one (R403), and an armed one is to begin its first period in the next cycle plus its phase
(R405). -/
def Obligations.LoadAllIsAllOrNothing : Prop :=
  ∀ (s0 : State), s0.fwOn = true → s0.freeUnit 0x9030 0 → 0 < s0.auxCount →
    let s := s0.disarm
    let period := fun k : AuxIx => s.parN Pid.AUX_PERIOD k.val
    let duty := fun k : AuxIx => s.parN Pid.AUX_DUTY k.val
    let bad := fun k : AuxIx => (duty k ≠ 0 ∧ duty k ≠ 0x1FFFFFF ∧ period k ≤ duty k) ∨
      ((s.aux k).run = .armed ∧ period k ≤ s.parN Pid.AUX_PHASE k.val)
    (∀ k : AuxIx, k.val < s.auxCount → bad k → exec (.auxLoadAll .host 1) s0 = .next (s.noted .outOfRange)) ∧
    ((∀ k : AuxIx, k.val < s.auxCount → ¬bad k) →
      ∃ t : State, exec (.auxLoadAll .host 1) s0 = .next (t.wrote 0x9030 0) ∧ t = { s with auxs := t.auxs } ∧
        ∀ k : AuxIx, t.aux k =
          if s.auxCount ≤ k.val then s.aux k
          else if (s.aux k).run = .armed then
            { s.aux k with run := .starting, copyNew := some (period k, duty k),
                           nextAt := 32 * (s.fc + 1) + s.parN Pid.AUX_PHASE k.val }
          else { s.aux k with copyNew := some (period k, duty k) })

/-- Auxiliary outputs (R10, R402, R403, R405, R406): a run arms an output, ends it or keeps it. A write of 0 before period
0 withdraws the start, and a write of 1 before a stop takes effect replaces it: that an output which has not begun
stops at its period 0, and a written force of the fabric cycle acting from the next one on, are the model's reading
(assumption 57). A force waits for the period start of a later cycle; on a stopped output it acts in the fabric cycle
after. The first run switches the auxiliary domain on (R400). Trip inputs (R10, R400, R408, R409): an enable, a
disable and a clear act in the fabric cycle after their write, and an enable switches the auxiliary domain on. An
enable on an active comparator latches there and makes the mapped outputs safe; a disable keeps the latch; a clear is
refused while the comparator is active. Two cycles behind the latch, where its source becomes active, the device time
is kept and AUX_TRIP is posted. A mapped output that does not stand stays safe behind a clear until its period start;
one that is stopped returns at once (the model's choice, assumption 57). -/
def Obligations.AuxiliaryAndTripWrites : Prop :=
  (∀ (s0 : State) (k : AuxIx), s0.fwOn = true → s0.freeUnit 0x9000 k.val → k.val < s0.auxCount →
    let s := s0.disarm
    let o := s.aux k
    let powered := fun (on : Bool) (t : State) => if on = true then { t with power := { t.power with auxDomain := true } } else t
    let runNext := fun (on : Bool) =>
      match on, o.run with
      | true, .stopped =>
        { o with run := .armed, copy := none, copyNew := none, force := ((o.forceNew.orElse fun _ => o.forceNext).getD o.force),
                 forceNext := none, forceNew := none, rfxSafe := o.safeSeen, tripHeld := false }
      | true, .withdrawn => { o with run := AuxRunState.starting }
      | true, .stopping => { o with run := .running }
      | false, .armed => { o with run := .stopped }
      | false, .starting => { o with run := .withdrawn }
      | false, .running => { o with run := .stopping }
      | _, _ => o
    (∀ on : Bool, exec (.auxRun .host k (BitVec.ofNat 64 (b2n on))) s0 = .next
      ((powered on ((s.setPar Pid.AUX_RUN k.val (b2n on : Nat)).onAux k fun _ => runNext on)).wrote 0x9000 k.val)) ∧
    (∀ v : Nat, v ≤ 2 → exec (.auxForce .host k (BitVec.ofNat 64 v)) s0 = .next
      (((s.setPar Pid.AUX_FORCE k.val v).onAux k fun o => { o with forceNew := some v }).wrote 0x9008 k.val)) ∧
    (∀ v, o.forceNew = some v →
      let g := s0.cycle.aux k
      g.forceNew = none ∧ (o.run = .stopped → g.force = v ∧ g.forceNext = none) ∧
      (o.run ≠ .stopped → g.force = o.force ∧ g.forceNext = some v))) ∧
  (∀ (s0 : State) (t : TripIx), s0.fwOn = true → s0.freeUnit 0x9020 t.val → 0 < s0.auxCount →
    let s := s0.disarm
    let k := s.trip t
    let g := s0.cycle.trip t
    let powered := fun (on : Bool) (t : State) => if on = true then { t with power := { t.power with auxDomain := true } } else t
    let mapped := fun o : AuxIx => (s.tripMap t).testBit o.val = true
    (∀ on : Bool, exec (.auxTripEnable .host t (BitVec.ofNat 64 (b2n on))) s0 = .next
      ((powered on ((s.setPar Pid.AUX_TRIP_ENABLE t.val (b2n on : Nat)).onTrip t fun k =>
        { k with enableNext := some on, caused := on && s.mbx.holding })).wrote 0x9020 t.val)) ∧
    (s.tripRaw t = false → exec (.auxTripClear .host t 1) s0 = .next ((s.onTrip t fun k => { k with clearNext := true }).wrote 0x9024 t.val)) ∧
    (s.tripRaw t = true → exec (.auxTripClear .host t 1) s0 = .next (s.noted .wrongState)) ∧
    (k.enableNext = some true → s.tripRaw t = true → k.latch = false → g.enabled = true ∧ g.latch = true ∧ g.enableNext = none ∧
      ∀ o : AuxIx, mapped o → (s.aux o).run ≠ .stopped → (s0.cycle.aux o).tripHeld = true) ∧
    (k.enableNext = some true → s.tripRaw t = false → k.clearNext = false →
      g.enabled = true ∧ g.latch = k.latch ∧ g.enableNext = none) ∧
    (k.enableNext = some false → k.clearNext = false → g.enabled = false ∧ g.latch = k.latch ∧ g.enableNext = none) ∧
    (k.enableNext = none → k.clearNext = true → s.tripRaw t = false → g.enabled = k.enabled ∧ g.latch = false ∧ g.clearNext = false ∧
      (k.latch = true → ∀ o : AuxIx, mapped o → (s.aux o).run ≠ .stopped → (s0.cycle.aux o).tripHeld = true)) ∧
    (g.sync1 = (s.tripRaw t && k.enabled, k.latch) ∧ g.sync2 = k.sync1) ∧
    ((k.sync1.2 = false ∨ k.sync2.2 = true) → g.time = k.time) ∧
    (k.sync1.2 = true → k.sync2.2 = false → g.time = s0.cycle.time ∧
      ((∀ u, u ≠ t → (s.trip u).sync1.2 = false ∨ (s.trip u).sync2.2 = true) → (∀ q, (s0.rule q).due = false ∧ s0.begun q = 0) →
        s.mbx.holding = false → s.mbx.held = [] → (k.caused = false ∨ s.mbx.waiting = none) → s.mbx.ring.length < 255 →
        s.suppressed 0x0A01 = false →
        s0.cycle.mbx.ring = s.mbx.ring ++ [.event ⟨0x0A01, t.val, false, false, s.mbx.nextEvtSeq, s0.cycle.time,
          padTo 16 (leBytes 2 (s.tripMap t))⟩])))

/-- CAN.RUN, CAN.MODE, CAN.RECOVER and CAN.RX_POP (R10, R374 to R378, R381, R388, R389): a start with good timing
integrates with fresh error counters, restricted and at its first candidate where detection is enabled, and reports
that bus-off is left; a stop takes the controller off the bus, at the end of a frame in progress (whether another
node's is in progress is free, assumption 102); a write of 1 on a controller that is still on the bus clears the error
counters and takes the place of a stop that waits (the model's reading, assumption 35); a mode change waits for bus
idle, where it and the timing take effect; a recovery is begun in bus-off only; a pop takes the head whose number it
names. -/
def Obligations.CanRunsChangesModeRecoversAndPops : Prop :=
  ∀ (s0 : State) (c : CanIx), s0.fwOn = true → s0.freeUnit 0x8000 c.val → s0.hasCan c = true →
    let s := s0.disarm
    let k := s.can c
    let detect := s.canB c Pid.CAN_DETECT_ENABLE
    let first := nextCandidate (s.parN Pid.CAN_DETECT_SET c.val) 3
    (s.timingOk c = true → k.phase = .stopped →
      let t := (s.setPar Pid.CAN_RUN c.val 1).onCan c fun k =>
        { k with phase := .integrating, restricted := detect || s.canB c Pid.CAN_MODE, changePending := false, tec := 0, recv := 0,
                 busOff := false, recovering := false, nextRxSeq := 1, detecting := detect, validRun := 0, lockDue := false, dwellDue := false,
                 candidate := if detect = true then first else k.candidate,
                 detectResult := if detect = true then 1 else k.detectResult,
                 timing := BitVec.ofNat 32 (if detect = true then candidateWord first else s.parN Pid.CAN_NOMINAL c.val) }
      exec (.canRun .host c 1) s0 = .next ((if k.busOff = true then t.raise 0x0903 c.val [0] else t).wrote 0x8000 c.val)) ∧
    (s.timingOk c = true → k.phase ≠ .stopped → exec (.canRun .host c 1) s0 = .next
      (((s.setPar Pid.CAN_RUN c.val 1).onCan c fun k =>
        { k with tec := 0, recv := 0, phase := if k.phase = .leaving then .onBus else k.phase }).wrote 0x8000 c.val)) ∧
    (s.timingOk c = false → exec (.canRun .host c 1) s0 = .next (s.noted .outOfRange)) ∧
    (∃ t : State, exec (.canRun .host c 0) s0 = .next (t.wrote 0x8000 c.val) ∧
      t = { s.setPar Pid.CAN_RUN c.val 0 with cans := t.cans } ∧ (∀ d, d ≠ c → t.can d = s.can d) ∧
      (let busy := k.sending ≠ none ∨ (k.active = true ∧ Config.busBusy c.val s.fc = true)
       ((k.phase = .stopped ∨ k.phase = .leaving) → t.can c = k) ∧
       (k.phase ≠ .stopped → busy → t.can c = { k with phase := .leaving }) ∧
       (k.phase ≠ .stopped → k.phase ≠ .leaving → ¬busy →
         (t.can c).phase = .stopped ∧ (t.can c).ring = k.ring ∧ (t.can c).tx = k.tx))) ∧
    (∀ restricted : Bool, exec (.canMode .host c (BitVec.ofNat 64 (b2n restricted))) s0 = .next
      (((s.setPar Pid.CAN_MODE c.val (b2n restricted : Nat)).onCan c fun k =>
        { k with changePending := k.phase != .stopped }).wrote 0x8001 c.val)) ∧
    (k.changePending = true → k.phase ≠ .stopped → (k.phase = .leaving → k.sending ≠ none) →
      exec (.canModeChangeAtIdle c) s0 = .next (s0.onCan c fun k =>
        { k with changePending := false, restricted := k.detecting || s.canB c Pid.CAN_MODE,
                 timing := BitVec.ofNat 32 (if k.detecting = true then candidateWord k.candidate
                   else s.parN Pid.CAN_NOMINAL c.val) })) ∧
    (k.phase = .leaving → k.sending = none → exec (.canModeChangeAtIdle c) s0 = .next (s0.onCan c fun k =>
      { k with phase := .stopped, detecting := false, recovering := false, changePending := false, lockDue := false,
               dwellDue := false, detectResult := if k.detecting = true then 0 else k.detectResult })) ∧
    (k.busOff = true → exec (.canRecover .host c 1) s0 = .next ((s.onCan c fun k => { k with recovering := true }).wrote 0x800B c.val)) ∧
    (k.busOff = false → exec (.canRecover .host c 1) s0 = .next (s.noted .wrongState)) ∧
    (∀ h rest, k.ring = h :: rest → 1 ≤ h.seq → h.seq ≤ 65535 →
      exec (.canRxPop .host c (BitVec.ofNat 64 h.seq)) s0 = .next ((s.onCan c fun k => { k with ring := rest }).wrote 0x803B c.val)) ∧
    (∀ v : Nat, 1 ≤ v → v ≤ 65535 → (∀ h, k.ring.head? = some h → h.seq ≠ v) →
      exec (.canRxPop .host c (BitVec.ofNat 64 v)) s0 = .next (s.noted .wrongState))

/-- DEV.HOST_SILENCE takes its value and restarts the timer (R341); DEV.ECLIPSE_TEST begins an Eclipse with cause 6, or
leaves the processor halted where the three attempts of R316 are used up (R309, R310, R316, R317). Standby (R427 to
R429, R431, R435): a request with every channel in DISABLED and WAKE low arms the entry and clears the wake latch, any
other is refused; the units stop and every auxiliary output is inactive; then the power die and every domain but the
wake domain are off, and a WAKE that was latched on the way starts the cold boot's sequence with cause 2. That a
request behind an accepted one is answered OK without effect, and that the root counts as unqualified in standby, are
the model's reading (assumption 44). -/
def Obligations.SilenceEclipseTestAndStandbyWrites : Prop :=
  (∀ s0 : State, s0.fwOn = true → s0.freeUnit 0 0 →
    let s := s0.disarm
    (∀ n : Nat, (n = 0 ∨ (10 ≤ n ∧ n ≤ 60000)) →
      exec (.devHostSilenceWrite .host (BitVec.ofNat 64 n)) s0 = .next
        (({ s.setPar Pid.DEV_HOST_SILENCE 0 n with hp := { s.hp with timer := 0, timerOn := true } }).wrote 0x0200 0)) ∧
    (∃ t : State, exec (.devEclipseTest .host 1) s0 = .next t ∧
      t = { s.wrote 0x0107 0 with boot := t.boot, entries := t.entries } ∧ t.boot.cause = 6 ∧
      t.boot.count = min (2 ^ 32 - 1) (s.boot.count + 1) ∧ t.boot.elapsed = 0 ∧
      (s.nextAttempt ≤ 3 → t.boot.eclipse = true ∧ t.boot.halted = false ∧ t.boot.result = 0 ∧
        t.boot.attempts = s.nextAttempt) ∧
      (3 < s.nextAttempt → t.boot.eclipse = false ∧ t.boot.halted = true ∧ t.boot.result = 3 ∧ t.boot.attempts = 3) ∧
      (∀ i : EntryIx, t.entries[i] = { s.entries[i] with cal := s.entries[i].cal.map fun k =>
        if k.done then k else { k with ended := some 6 } }))) ∧
  (∀ s0 : State, s0.fwOn = true → s0.freeUnit 0 0 →
    let s := s0.disarm
    (s.allDisabled = true → s.power.wakeLevel = false → (s.power.entering = .none ∨ s.power.entering = .asked) →
      exec (.devStandby .host 1) s0 = .next
        (({ s with power := { s.power with entering := .armed, wakeLatch := false } }).wrote 0x0300 0)) ∧
    (s.allDisabled = true → s.power.wakeLevel = false → (s.power.entering = .armed ∨ s.power.entering = .unitsStopped) →
      exec (.devStandby .host 1) s0 = .next (s.wrote 0x0300 0)) ∧
    ((s.allDisabled = false ∨ s.power.wakeLevel = true) → exec (.devStandby .host 1) s0 = .next (s.noted .wrongState)) ∧
    (s0.power.entering = .armed →
      ∃ t : State, exec .standbyUnitsStop s0 = .next t ∧ t.power = { s0.power with entering := .unitsStopped } ∧
        (∀ k : AuxIx, (t.aux k).run = .stopped ∧ (t.aux k).force = 0) ∧ (∀ m : ModIx, (t.modu m).running = false) ∧
        (s0.power.auxDomain = true → ∀ (k : AuxIx) (tap : Nat), t.auxBallAt k tap = Ball.of (s0.parB Pid.AUX_POL k.val)) ∧
        (∀ f : FltIx, (t.flt f).running = false) ∧ (∀ b : BankIx, t.pdBank b = { s0.pdBank b with vexc := false }) ∧
        (∀ c : CanIx, (s0.can c).sending = none → ((s0.can c).active = false ∨ Config.busBusy c.val s0.fc = false) →
          (s0.can c).phase ≠ .leaving → (t.can c).phase = .stopped) ∧
        t.chans = s0.chans ∧ t.pd = { s0.pd with mux := t.pd.mux, banks := t.pd.banks } ∧ t.link = s0.link ∧ t.mbx = s0.mbx ∧
        t.hp = s0.hp ∧ t.otp = s0.otp) ∧
    (s0.power.entering = .unitsStopped → (∀ c : CanIx, (s0.can c).phase = .stopped) → s0.power.wakeLatch = false →
      ∃ t : State, exec .standbyPowerDieOff s0 = .next t ∧
        t = { s0 with phase := .standby, link := Link.init, pd := t.pd, hp := { s0.hp with cur := none }, fbs := t.fbs,
                      power := { s0.power with entering := .none, rootOk := false, auxDomain := false } } ∧
        (∀ c : Ch, t.fb c = { s0.fb c with running := false }) ∧
        t.pd.standby = true ∧ (∀ c : Ch, t.pdChan c = PdChan.init) ∧ (∀ b : BankIx, (t.pdBank b).pump = false)) ∧
    (s0.power.entering = .unitsStopped → (∀ c : CanIx, (s0.can c).phase = .stopped) → s0.power.wakeLatch = true →
      ∃ t : State, exec .standbyPowerDieOff s0 = .next t ∧ t.phase = .reset ∧ t.pd.standby = true ∧
        t.power.arose.getLsbD 2 = true ∧ t.power.entering = .none))

/-- Security writes (R443 to R445): an attestation computes the MAC over the message of the present time, or is refused
for a key that is not there; a vault load puts the four data parameters, first byte most significant, into the slot
and zeroes them; DEV.OTP_ARM arms exactly when it carries the low 32 bits of SERIAL. Each uses up an arm that stood
before. An OTP operation written on its own (R367, R445), by its command: with the arm, every channel in DISABLED and
the operation's own condition, the fuse is burnt, the arm is spent and OTP_STATUS reads 1 on a good read-back; without
them it is refused with OTP_STATUS 3. A failed read-back reads OTP_STATUS 2 and answers FAULT_LATCHED; what it leaves
in the fuse is the free value of assumption 23, but a blown revoke fuse stays blown and the floor does not fall
(R492). An OTP operation that a command ordered ends that command (R363, R445): the fuse is burnt, and the answer that
waited for it is written, with FAULT_LATCHED in its item where the read-back failed. -/
def Obligations.AttestVaultAndOtp : Prop :=
  (∀ s0 : State, s0.fwOn = true → s0.freeUnit 0 0 →
    let s := s0.disarm
    (∀ k, s.attestKey = some k → exec (.devAttestGo .host 1) s0 = .next (({ s with
      sec := { s.sec with mac := word256 (hmac256 (beBytes 32 k.toNat) s.attestMessage), attestTime := s.time } }).wrote 0x0415 0)) ∧
    (s.attestKey = none → exec (.devAttestGo .host 1) s0 = .next (s.noted .wrongState)) ∧
    (∀ slot : Fin 16, slot.val + 1 = s.parN Pid.DEV_VAULT_SLOT 0 → s.canonical = true →
      ∃ t : State, exec (.devVaultLoad .host 1) s0 = .next (t.wrote 0x0425 0) ∧ t = { s with params := t.params, sec := t.sec } ∧
        t.sec = { s.sec with vault := s.sec.vault.set slot (some (word256 (s.par32 Pid.DEV_VAULT_DATA0))) } ∧
        (∀ i, i < 4 → t.par (Pid.DEV_VAULT_DATA0 + i) 0 = 0)) ∧
    (∀ n : Nat, n < 2 ^ 32 → exec (.devOtpArm .host (BitVec.ofNat 64 n)) s0 = .next
      (({ s with sec := { s.sec with otpArmed := decide (n = s.otp.serial.toNat % 2 ^ 32) } }).wrote 0x0430 0))) ∧
  (∀ (s : State) (slot : Fin 2), s.fwOn = true → s.sec.otpOp = 0 →
    let armed := s.sec.otpArmed
    let hash := word256 (s.par32 Pid.DEV_OTP_KEYHASH0)
    let burnt := fun (o : Otp) (value : BitVec 256) =>
      { s with
        otp := o
        sec := { s.sec with otpArmed := false, otpOp := 0, otpValue := value, otpStatus := 1
                            otpBurns := s.sec.otpBurns + 1 }
        mbx := { s.mbx with itemResult := .ok } }
    (s.otpJudge armed (1 + slot.val) = .ok → exec (.otpProgramCustomerSlot slot true) s = .next
      (burnt (if slot = 0 then { s.otp with cust0 := some hash } else { s.otp with cust1 := some hash }) hash)) ∧
    (s.otpJudge armed (3 + slot.val) = .ok → exec (.otpRevokeVendorSlot slot true) s = .next
      (burnt (if slot = 0 then { s.otp with vendorRev0 := true } else { s.otp with vendorRev1 := true }) hash)) ∧
    (s.otpJudge armed (5 + slot.val) = .ok → exec (.otpRevokeCustomerSlot slot true) s = .next
      (burnt (if slot = 0 then { s.otp with custRev0 := true } else { s.otp with custRev1 := true }) hash)) ∧
    (s.otpJudge armed 7 = .ok → s.parN Pid.DEV_OTP_VALUE 0 < 65536 → exec (.otpRaiseRollbackFloor true) s = .next
      (burnt { s.otp with floor := BitVec.ofNat 16 (s.parN Pid.DEV_OTP_VALUE 0) }
        (BitVec.ofNat 256 (s.parN Pid.DEV_OTP_VALUE 0)))) ∧
    (s.otpJudge armed (3 + slot.val) = .ok → ∃ t : State, exec (.otpRevokeVendorSlot slot false) s = .next t ∧
      t = { s with otp := t.otp, sec := t.sec, mbx := t.mbx } ∧ t.sec.otpStatus = 2 ∧ t.mbx.itemResult = .faultLatched ∧
      (s.otp.vendorRev0 = true → t.otp.vendorRev0 = true) ∧ (s.otp.vendorRev1 = true → t.otp.vendorRev1 = true)) ∧
    (s.otpJudge armed 7 = .ok → ∃ t : State, exec (.otpRaiseRollbackFloor false) s = .next t ∧
      t = { s with otp := { s.otp with floor := t.otp.floor }, sec := t.sec, mbx := t.mbx } ∧ t.sec.otpStatus = 2 ∧
      t.mbx.itemResult = .faultLatched ∧ s.otp.floor.toNat ≤ t.otp.floor.toNat) ∧
    (∀ (i : Instr) (op : Nat) (readBack : Bool),
      ((i = .otpProgramCustomerSlot slot readBack ∧ op = 1 + slot.val) ∨
        (i = .otpRevokeVendorSlot slot readBack ∧ op = 3 + slot.val) ∨
        (i = .otpRevokeCustomerSlot slot readBack ∧ op = 5 + slot.val) ∨
        (i = .otpRaiseRollbackFloor readBack ∧ op = 7)) → s.otpJudge armed op ≠ .ok →
      exec i s = .next { s with
        sec := { s.sec with otpArmed := false, otpStatus := 3 }
        mbx := { s.mbx with itemResult := s.otpJudge armed op } })) ∧
  (∀ (s : State) (i : Instr) (op : Nat) (slot : Fin 2) (readBack : Bool) (w : Waiting),
    ((i = .otpProgramCustomerSlot slot readBack ∧ op = 1 + slot.val) ∨
      (i = .otpRevokeVendorSlot slot readBack ∧ op = 3 + slot.val) ∨
      (i = .otpRevokeCustomerSlot slot readBack ∧ op = 5 + slot.val) ∨
      (i = .otpRaiseRollbackFloor readBack ∧ op = 7)) →
    s.fwOn = true → s.sec.otpOp = op → s.mbx.waiting = some w → w.tags = [] → w.clears = [] → w.starts = [] → w.via = none →
    s.mbx.held = [] →
    s.link.backlog.any (·.2) = false → s.boot.testPending = false → s.power.entering ≠ .asked →
    let x := if readBack then w else w.failItem s.sec.otpItem
    ∃ t : State, exec i s = .next t ∧ t = { s with otp := t.otp, sec := t.sec, mbx := t.mbx } ∧
      t.otp = s.otp.burn op (if readBack then some (burnValue op s.sec.otpValue) else Config.failedBurn op s.sec.otpBurns) ∧
      t.sec = { s.sec with otpBurns := s.sec.otpBurns + 1, otpOp := 0, otpStatus := if readBack then 1 else 2 } ∧
      t.mbx = { s.mbx with
        waiting := none
        doneSeq := w.seq
        responses := s.mbx.responses ++ [respRecord w.record w.seq x.result x.detail x.data] } ∧
      (readBack = false → x.result ≠ .ok))

/-! ### The Shonak link -/

/-- A tag comes back (R25, R493): its write leaves the list and the tag rests; a command of the host whose last tag it was
answers, and the events that it caused follow its response (R350). What waited for the echo then happens: a
CLEAR_FAULT releases its channel into DISABLED, and an ENABLE or ROLL_CALL puts its channels, where they are in
DISABLED, into ROLLCALL (R161, R496). -/
def Obligations.TagEchoEndsItsWrite : Prop :=
  ∀ (s : State) (t : Byte), s.hwOn = true → s.pd.ack.contains t = true → s.link.backlog = [] → t ≠ 0 →
    let l := if s.link.cfg.any (fun w => w.tag == t) then
        { s.link with cfg := s.link.cfg.filter (fun w => w.tag != t), cooling := s.link.cooling ++ [(t, 0)] }
      else s.link
    (s.mbx.waiting = none → exec (.configTagEcho t) s = .next { s with link := l }) ∧
    (∀ w, s.mbx.waiting = some w → (w.tags.filter (· != t)) ≠ [] →
      exec (.configTagEcho t) s = .next
        { s with
          link := l
          mbx := { s.mbx with waiting := some { w with tags := w.tags.filter (· != t) } } }) ∧
    (∀ w, s.mbx.waiting = some w → (w.tags.filter (· != t)) = [] → w.via = none → w.clears = [] → w.starts = [] →
      s.fwOn = true → s.sec.otpOp = 0 → s.boot.testPending = false → s.power.entering ≠ .asked →
      exec (.configTagEcho t) s = .next
        ({ s with
          link := l
          mbx := { s.mbx with
            waiting := none
            doneSeq := w.seq
            responses := s.mbx.responses ++ [respRecord w.record w.seq w.result w.detail w.data] } } : State).postHeld) ∧
    (∀ w c, s.mbx.waiting = some w → (w.tags.filter (· != t)) = [] → w.via = none → w.clears = [c] → w.starts = [] →
      s.fwOn = true → s.sec.otpOp = 0 → s.boot.testPending = false → s.power.entering ≠ .asked →
      exec (.configTagEcho t) s = .next
        ({ s.onChan c fun k =>
              { k.clearCauses with state := .disabled, fetsOff := true, parkCause := 0, powered := false } with
          link := l
          mbx := { s.mbx with
            waiting := none
            doneSeq := w.seq
            responses := s.mbx.responses ++ [respRecord w.record w.seq w.result w.detail w.data] } } : State).postHeld) ∧
    (∀ w, s.mbx.waiting = some w → (w.tags.filter (· != t)) = [] → w.via = none → w.clears = [] → s.fwOn = true →
      s.sec.otpOp = 0 → s.boot.testPending = false → s.power.entering ≠ .asked → s.mbx.held = [] →
      (∀ c, c ∈ w.starts → (s.chan c).state = .disabled) →
      ∃ u : State, exec (.configTagEcho t) s = .next u ∧
        u = { s with
          chans := u.chans
          pairs := u.pairs
          link := l
          mbx := { s.mbx with
            waiting := none
            doneSeq := w.seq
            responses := s.mbx.responses ++ [respRecord w.record w.seq w.result w.detail w.data] } } ∧
        (∀ c, c ∈ w.starts → (u.chan c).inRollCall ∧ (u.chan c).motion.pos = (s.chan c).motion.pos) ∧
        (∀ c, c ∉ w.starts → u.chan c = s.chan c))

/-- A downlink superframe whose CRC-32C does not hold is discarded whole: it is counted, the tags kept for the repeat
check age by one superframe, and every entry and setting stays (R23, R34, R493). SEQ counts either way. A good
downlink superframe puts what its characters spell into the shadow store: the 24 entries, the LOAD bits and the FRAMEs
with the cycle of their arrival; the set before it is kept beside it, which is the model's reading of the shadow store
(assumption 15; R23, R24, R39, R40). Its four tags go to ACK (R25). A configuration write reaches the power die in a
slot and is applied once: a tag applied in one of the last 32 superframes only comes back in ACK (R25, R493). A
setting is stored, a clear takes the latches away, a preparation powers the slice, its end takes the power away, VEXC
is switched, and a modulator starts, or is to stop at the next CLK_MOD edge (R161, R175, R234, R243, R259, R430). A
clear leaves the park latch under an asserted safe input or over-temperature, whatever the cause of the park (the
model's reading, assumption 41). -/
def Obligations.DownlinkSuperframeFillsTheShadowStore : Prop :=
  (∀ (s : State) (noise : List (Nat × Byte)), s.hwOn = true → s.link.txOn = true → s.pdOn = true →
    sealOk 348 (s.downBytes noise) = false →
    exec (.downlinkSuperframe noise) s = .next
      { s with
        pd := { s.pd with crcErr := min 3 (s.pd.crcErr + 1), applied := ([] :: s.pd.applied).take 32 }
        link := { s.link with
          goodDown := 0
          seq := s.link.seq + 1
          cooling := (s.link.cooling.map fun p => (p.1, p.2 + 1)).filter fun p => p.2 < 48 } }) ∧
  (∀ (s : State) (noise : List (Nat × Byte)), s.hwOn = true → s.link.txOn = true → s.pdOn = true →
    let bs := s.downBytes noise
    sealOk 348 bs = true → (∀ i, i < 4 → slotTag (slotAt bs i) = 0) →
    ∃ t : State, exec (.downlinkSuperframe noise) s = .next t ∧ t = { s with pd := t.pd, link := t.link } ∧
      t.link = { s.link with
        goodDown := min 64 (s.link.goodDown + 1)
        seq := s.link.seq + 1
        cooling := (s.link.cooling.map fun p => (p.1, p.2 + 1)).filter fun p => p.2 < 48 } ∧
      t.pd = { s.pd with downSeq := byteAt bs 0, ack := [0, 0, 0, 0], applied := ([0, 0, 0, 0] :: s.pd.applied).take 32
                         chans := t.pd.chans, banks := t.pd.banks } ∧
      (∀ c : Ch, t.pdChan c = { s.pdChan c with shadow := entryAt bs c, shadowOld := (s.pdChan c).shadow }) ∧
      (∀ b : BankIx, t.pdBank b =
        { s.pdBank b with
          load := (byteAt bs 1).getLsbD b.val, frame := byteAt bs (2 + b.val), came := s.fc
          loadOld := (s.pdBank b).load, frameOld := (s.pdBank b).frame, cameOld := (s.pdBank b).came })) ∧
  (∀ (s : State) (w : CfgWrite), s.hwOn = true → s.link.txOn = true → s.pdOn = true → s.link.cfg = [w] → w.tag ≠ 0 →
    ∃ t : State, exec (.downlinkSuperframe []) s = .next t ∧ t.pd.ack = [w.tag, 0, 0, 0] ∧ t.link.cfg = [w] ∧
      t.pd.applied = ([w.tag, 0, 0, 0] :: s.pd.applied).take 32 ∧ t.chans = s.chans ∧
      (s.pd.applied.any (fun ts => ts.contains w.tag) = true → t.pd.config = s.pd.config ∧ t.mods = s.mods ∧ t.banks = s.banks ∧
        ∀ c : Ch, t.pdChan c = { s.pdChan c with shadow := (s.chan c).coil.next.entry, shadowOld := (s.pdChan c).shadow }) ∧
      (s.pd.applied.any (fun ts => ts.contains w.tag) = false →
        (∀ (id inst : Nat) (v : Int), w.kind = .param id inst v →
          t.pd.config = Sparse.put (resetOf id) s.pd.config (pkey id inst) v) ∧
        (∀ c : Ch, w.kind = .clear c → (t.pdChan c).sc = 0 ∧ (t.pdChan c).inst = false ∧ (t.pdChan c).gate = false ∧
          (t.pdChan c).bankOff = false ∧
          (t.pdChan c).park = ((s.pdChan c).park && ((s.pdBank (bankOf c)).safe || s.pd.ot)) ∧
          (t.pdChan c).turnOff = (s.pdChan c).turnOff) ∧
        (∀ c : Ch, w.kind = .prepare c → (t.pdChan c).slice = true ∧ (t.pdChan c).sc = 0 ∧ (t.pdChan c).bankOff = false ∧
          (t.pdChan c).park = (s.pdChan c).park) ∧
        (∀ c : Ch, w.kind = .sliceOff c → (t.pdChan c).slice = false) ∧
        (∀ (b : BankIx) (on : Bool), w.kind = .vexc b on → (t.pdBank b).vexc = on) ∧
        (∀ m : ModIx, w.kind = .adcRun m true → (t.modu m).running = true) ∧
        (∀ m : ModIx, w.kind = .adcRun m false → (t.modu m).running = (s.modu m).running ∧ (t.modu m).stopping = (s.modu m).running)))

/-- An uplink superframe whose CRC-32C does not hold ends the run of good ones; the power die's counts since the last one
begin anew (R26, R159). A good uplink superframe brings what its characters spell: SEQ, TIMEBASE, TAG, VM and flags of
each bank with the frames missed and superframes discarded, the temperature, and the currents and flags of the present
channels; it takes up the supervision (R26, R36, R40, R150, R158, R159, R177). The power die's counts begin anew. The
two counts of a bank stay at 2^32 - 1 (the model's choice, assumption 97). A channel's short or gate flag, newly seen
in a good uplink superframe, puts an energised channel into FAULT with its FETs off and the cause latched (R82, R160);
a park latch puts it into PARKED with the cause that its bank's flags name, its FETs on as long as the hold runs
(R161, R170). An energised twin beside it goes on alone in SOLO, beside a park with an immediate stop (R113, R114). -/
def Obligations.UplinkSuperframeReportsThePowerDie : Prop :=
  (∀ (s : State) (noise : List (Nat × Byte)) (vmA vmB temp : BitVec 16) (listen : List (Ch × Int × Int)), s.hwOn = true →
    s.linkUp = true → s.pdOn = true → sealOk 115 (s.upBytes noise vmA vmB temp listen) = false →
    exec (.uplinkSuperframe noise vmA vmB temp listen) s = .next
      { s with
        link := { s.link with goodUp := 0 }
        pd := { s.pd with
          upSeq := s.pd.upSeq + 1
          crcErr := 0
          banks := s.pd.banks.map fun b => { b with missed := false } } }) ∧
  (∀ (s : State) (noise : List (Nat × Byte)) (vmA vmB temp : BitVec 16) (listen : List (Ch × Int × Int)), s.hwOn = true →
    s.linkUp = true → s.pdOn = true →
    let bs := s.upBytes noise vmA vmB temp listen
    let f := UpFrame.ofBytes bs
    sealOk 115 bs = true →
    ∃ t : State, exec (.uplinkSuperframe noise vmA vmB temp listen) s = .next t ∧ t.power.temp = f.temp.toInt ∧ t.pd.crcErr = 0 ∧
      t.pd.upSeq = s.pd.upSeq + 1 ∧ t.link.supervised = true ∧ t.link.rxSeq = f.seq ∧
      t.link.goodUp = min 64 (s.link.goodUp + 1) ∧ t.pd.chans = s.pd.chans ∧ (∀ b : BankIx, (t.pdBank b).missed = false) ∧
      (∀ b : BankIx, (t.bank b).vm = (f.vm b).toNat ∧ (t.bank b).status = f.bank b ∧ (t.bank b).timebase = (f.time b).toNat ∧
        (t.bank b).sampleTag = f.tag b ∧
        (t.bank b).missedFrames = min (2 ^ 32 - 1) ((s.bank b).missedFrames + b2n ((f.bank b).getLsbD 2)) ∧
        (t.bank b).crcErrors = min (2 ^ 32 - 1) ((s.bank b).crcErrors + (f.bank b).toNat % 4)) ∧
      (∀ c : Ch, s.hasCh c = true → (t.chan c).code1 = (f.codes c).1 ∧ (t.chan c).code2 = (f.codes c).2 ∧
        (t.chan c).psFault = f.flag c) ∧
      t.otp = s.otp ∧ t.gbs = s.gbs ∧ t.flts = s.flts ∧ t.mods = s.mods ∧ t.fbs = s.fbs) ∧
  (∀ (s : State) (noise : List (Nat × Byte)) (vmA vmB temp : BitVec 16) (listen : List (Ch × Int × Int)) (c : Ch), s.hwOn = true →
    s.linkUp = true → s.pdOn = true → sealOk 115 (s.upBytes noise vmA vmB temp listen) = true → s.mbx.waiting = none →
    s.hasCh c = true → (s.chan c).state.energised = true → (s.pdChan c).bankOff = false →
    let f := UpFrame.ofBytes (s.upBytes noise vmA vmB temp listen)
    let new := f.flag c
    let newly := new &&& ~~~(s.chan c).psFault
    let p := twinOf c
    let beside := s.paired c = true ∧ (s.chan c).fetsOff = false ∧ (s.chan p).state.energised = true ∧ f.flag p &&& ~~~(s.chan p).psFault = 0 ∧
      (f.flag p).getLsbD 1 = false ∧ (s.pdChan p).bankOff = false
    ∃ t : State, exec (.uplinkSuperframe noise vmA vmB temp listen) s = .next t ∧ (t.chan c).psFault = new ∧
      (newly.toNat / 16 ≠ 0 → new.getLsbD 1 = false → (t.chan c).faulted ∧ (t.chan c).causes.short = true) ∧
      (newly.getLsbD 2 = true → new.getLsbD 1 = false → (t.chan c).faulted ∧ (t.chan c).causes.gate = true) ∧
      (newly.toNat / 16 = 0 → newly.getLsbD 2 = false → new.getLsbD 1 = true →
        (t.chan c).state = .parked ∧ (t.chan c).motion.vel = 0 ∧
        (t.chan c).parkCause = (if (f.bank (bankOf c)).getLsbD 7 then 3 else if (f.bank (bankOf c)).getLsbD 3 then 4 else 1) ∧
        ((s.pdChan c).parkHold = true → (t.chan c).fetsOff = false) ∧
        ((s.pdChan c).parkHold = false → (s.pdChan c).turnOff ≠ .plateau → (t.chan c).fetsOff = true)) ∧
      (beside → (t.chan p).state = (s.chan p).state ∧
        ((newly.toNat / 16 ≠ 0 ∨ newly.getLsbD 2 = true) → new.getLsbD 1 = false → (t.chan p).solo = true) ∧
        (newly.toNat / 16 = 0 → newly.getLsbD 2 = false → new.getLsbD 1 = true → (t.chan p).motion.immReq = some .fault ∧
          ((s.pdChan c).parkHold = false → (s.pdChan c).turnOff ≠ .plateau → (t.chan p).solo = true))))

/-- A modulator slot (R27, R28, R236, R252): five clocks pass; a good slot gives each running modulator's decimator its
own five bits, the earliest first, a bad one the pattern 1, 0, 1, 0, 1, and then every running modulator asserts
DATA_LOST. Bit i reaches the decimator i clocks after the slot, and a result that ends with it leaves 2 clocks later,
12 after the bit's edge. That the earliest bit's edge lies 10 clocks before the slot is the model's choice (assumption
83). A bit enters the decimator of a modulator that converts (R235, R244): a settling bit is ignored, any other goes
into the filter of the entry; a result of the filter is on its way with its clock, and it ends the pass where it is
the last of the table. A result leaves the decimator 12 clocks after the edge of its last bit (R236, R237, R244, R248,
R252, R255, R256, R268): it is trimmed, calibrated, marked, accumulated by every Gradebook entry and taken by every
running filter channel that names it; the last one of a pass ends it. Before its time, with none on its way, and for
any other than the oldest on its way, nothing happens. The factory trim is the free value of assumption 5, and that a
result leaves no earlier than its modulator's slot says is assumption 83. -/
def Obligations.ModulatorSlotsAndResultsFeedTheirUsers : Prop :=
  (∀ (s : State) (bits : BitVec 80) (crc : Byte), s.hwOn = true →
    let good := crc8Slot bits == crc.toNat
    ∃ t : State, exec (.modulatorSlot bits crc) s = .next t ∧
      t = { s with modClk := s.modClk + 5, slotFc := s.fc, lostClks := t.lostClks, mods := t.mods, pulses := t.pulses } ∧
      (good = true → t.pulses = s.pulses ∧ ∀ x, x ∈ t.lostClks → x ∈ s.lostClks) ∧
      (good = false → s.modClk ∈ t.lostClks ∧
        ∀ m : ModIx, (s.modu m).running = true → t.pulses.contains (912 + 4 * m.val + 2) = true) ∧
      (∀ m : ModIx, (s.modu m).running = false → t.modu m = s.modu m) ∧
      (∀ m : ModIx, (s.modu m).running = true →
        let group := if good then bits.toNat / 2 ^ (5 * m.val) % 32 else 21
        let bit := fun (i : Nat) (k : Modulator) =>
          s.decimate m (s.modClk + i) (s.fc + 24 * (i + 2)) (group.testBit i) (k.bit (s.modClk + i) (group.testBit i))
        t.modu m = bit 4 (bit 3 (bit 2 (bit 1 (bit 0 (s.modu m))))))) ∧
  (∀ (s : State) (m : ModIx) (clk leave : Nat) (b : Bool) (k : Modulator),
    let src := k.source m
    let n := (s.ePar src k.entry Pid.ADC_E_COUNT).toNat
    let r := k.sinc.take (s.ePar src k.entry Pid.ADC_E_RATIO).toNat b
    ((k.inPass = false ∨ k.ended = true) → s.decimate m clk leave b k = k) ∧
    (k.inPass = true → k.ended = false → 0 < k.wait → s.decimate m clk leave b k = { k with wait := k.wait - 1 }) ∧
    (k.inPass = true → k.ended = false → k.wait = 0 → r.2 = none → s.decimate m clk leave b k = { k with sinc := r.1 }) ∧
    (∀ sum, k.inPass = true → k.ended = false → k.wait = 0 → r.2 = some sum → k.discard = true →
      s.decimate m clk leave b k = { k with sinc := r.1, discard := false }) ∧
    (∀ sum, k.inPass = true → k.ended = false → k.wait = 0 → r.2 = some sum → k.discard = false → (n = 0 ∨ k.done + 1 < n) →
      s.decimate m clk leave b k =
        { k with sinc := r.1, done := k.done + 1, out := k.out ++ [⟨k.entry, entryIx src k.entry, sum, clk, leave, false⟩] }) ∧
    (∀ sum, k.inPass = true → k.ended = false → k.wait = 0 → r.2 = some sum → k.discard = false → n ≠ 0 → n ≤ k.done + 1 →
      s.parN Pid.ADC_TABLE_LEN src.val ≤ k.entry + 1 →
      s.decimate m clk leave b k =
        { k with sinc := r.1, done := k.done + 1, ended := true
                 out := k.out ++ [⟨k.entry, entryIx src k.entry, sum, clk, leave, true⟩] }) ∧
    (∀ sum, k.inPass = true → k.ended = false → k.wait = 0 → r.2 = some sum → k.discard = false → n ≠ 0 → n ≤ k.done + 1 →
      k.entry + 1 < s.parN Pid.ADC_TABLE_LEN src.val →
      s.decimate m clk leave b k =
        { k with entry := k.entry + 1, done := 0, wait := (s.ePar src (k.entry + 1) Pid.ADC_E_SETTLE).toNat
                 sinc := Sinc.init (s.ePar src (k.entry + 1) Pid.ADC_E_ORDER).toNat
                 out := k.out ++ [⟨k.entry, entryIx src k.entry, sum, clk, leave, false⟩] })) ∧
  (∀ (s : State) (m : ModIx), s.hwOn = true →
    let k := s.modu m
    (∀ x y, k.out = [] → exec (.conversionResult m x y) s = .next s) ∧
    (∀ r rest x y, k.out = r :: rest → (s.fc < r.leave ∨ x ≠ r.sum ∨ y ≠ r.lastClk) →
      exec (.conversionResult m x y) s = .next s) ∧
    (∀ r rest, k.out = r :: rest → r.leave ≤ s.fc →
      let own := entryIx m r.entry
      let src : ModIx := ⟨r.into.val / 16 % 16, Nat.mod_lt _ (by decide)⟩
      let set := fun id => (s.par id (entryIx src r.entry).val).toNat
      let trimmed := Config.factoryTrim m.val (set Pid.ADC_E_GAIN) (set Pid.ADC_E_ORDER) (set Pid.ADC_E_RATIO) r.sum
      let span := set Pid.ADC_E_ORDER * (set Pid.ADC_E_RATIO - 1) + 1
      let ovr := decide (105 * fullScale < 100 * |trimmed|) || k.unstable.any fun a => meets a 68 r.lastClk span
      let lost := s.lostClks.any fun a => meets a 5 r.lastClk span
      let code := clamp (-8388607) 8388607
        (roundEven ((trimmed - s.par Pid.ADC_CAL_OFFSET own.val) * s.par Pid.ADC_CAL_GAIN own.val) 22)
      ∃ t : State, exec (.conversionResult m r.sum r.lastClk) s = .next t ∧
        t = { s with mods := t.mods, entries := t.entries, gbs := t.gbs, flts := t.flts, pulses := t.pulses, mbx := t.mbx } ∧
        t.pulses.contains (912 + 4 * m.val) = true ∧ (lost = false → t.mbx = s.mbx) ∧
        (∀ d, d ≠ m → t.modu d = s.modu d) ∧ (∀ e, e ≠ own → t.entries[e] = s.entries[e]) ∧ (t.modu m).out = rest ∧
        (∀ f : FltIx, t.flt f = if (s.flt f).running = true ∧ s.parN Pid.FLT_SOURCE f.val = r.into.val
          then (s.flt f).take ⟨s.fc, code, ovr, lost⟩ else s.flt f) ∧
        (∀ g : EntryIx, t.gb g = (s.gb g).feed (s.parN Pid.GB_WINDOW g.val) (s.parN Pid.GB_SOURCE g.val) (16384 + r.into.val)
          s.time code ovr lost) ∧
        (lost = true → (t.modu m).lost = min (2 ^ 32 - 1) (k.lost + 1)) ∧
        (r.last = true → k.inPass = true → (t.modu m).entry = 0 ∧ (t.modu m).inPass = false ∧
          (t.modu m).powered = (!s.parB Pid.ADC_POWER_DOWN m.val) ∧ t.pulses.contains (912 + 4 * m.val + 3) = true) ∧
        ((r.last = false ∨ k.inPass = false) → (t.modu m).entry = k.entry ∧ (t.modu m).inPass = k.inPass)))

/-- An urgent symbol (R30 to R32): the link sends the pending orders of the highest-priority type, SOFT_OFF before PARK
before HOLD, without the channels already in the ordered state, which the model judges on the power die's own state
when the symbol is sent (assumption 66). SOFT_OFF turns its channels off and ignores GATE_EN; PARK latches the present
ones; HOLD holds the entry over two period starts unless the channel is in park. A symbol that arrives with a type
that its complement contradicts, or that is not defined, is ignored and counted as a link error; its orders are
pending no more (R30, R31). The type stands in the upper half of lane 0, its complement in the lower. -/
def Obligations.UrgentSymbolActsOnItsChannels : Prop :=
  (∀ s : State, s.hwOn = true → s.link.txOn = true → s.pdOn = true →
    let off := maskWhere fun c => maskBit s.link.softOff c && !(s.pdChan c).softIgnore
    let park := maskWhere fun c => maskBit s.link.park c && !(s.pdChan c).park
    let hold := maskWhere fun c => maskBit s.link.hold c && !(decide (0 < (s.pdChan c).hold))
    let l := { s.link with softOff := off, park := park, hold := hold }
    (off ≠ 0 → ∃ t : State, exec (.urgentSymbol 0 0 0 0) s = .next t ∧ t = { s with pd := t.pd, link := { l with softOff := 0 } } ∧
      t.pd = { s.pd with chans := t.pd.chans } ∧
      ∀ c : Ch, t.pdChan c =
        if maskBit off c then { (s.pdChan c).startOff with softIgnore := true, hold := 0 } else s.pdChan c) ∧
    (off = 0 → park ≠ 0 → ∃ t : State, exec (.urgentSymbol 0 0 0 0) s = .next t ∧
      t = { s with pd := t.pd, link := { l with park := 0 } } ∧ t.pd = { s.pd with chans := t.pd.chans } ∧
      (∀ c : Ch, (maskBit park c = true → s.hasCh c = true → s.pd.units = true →
          (t.pdChan c).park = true ∧ (t.pdChan c).hold = 0 ∧ (t.pdChan c).entry = (s.pdChan c).entry) ∧
        ((maskBit park c = false ∨ s.hasCh c = false ∨ s.pd.units = false) → t.pdChan c = s.pdChan c))) ∧
    (off = 0 → park = 0 → hold ≠ 0 → ∃ t : State, exec (.urgentSymbol 0 0 0 0) s = .next t ∧
      t = { s with pd := t.pd, link := { l with hold := 0 } } ∧ t.pd = { s.pd with chans := t.pd.chans } ∧
      ∀ c : Ch, t.pdChan c =
        if maskBit hold c ∧ (s.pdChan c).park = false ∧ (s.pdChan c).softIgnore = false then { s.pdChan c with hold := 2 }
        else s.pdChan c) ∧
    (off = 0 → park = 0 → hold = 0 → ∀ n0 n1 n2 n3, exec (.urgentSymbol n0 n1 n2 n3) s = .next { s with link := l })) ∧
  (∀ (s : State) (n0 n1 n2 n3 : Byte) (m : BitVec 32) (type : Nat) (mask : BitVec 24), s.hwOn = true → s.link.txOn = true → s.pdOn = true →
    s.stillPending.link.nextSymbol = some (type, mask) → m = symbolWord type mask ^^^ (n3 ++ (n2 ++ (n1 ++ n0))) →
    (m.extractLsb' 4 4 ≠ ~~~(m.extractLsb' 0 4) ∨ m.extractLsb' 4 4 = 0 ∨ 4 ≤ (m.extractLsb' 4 4).toNat) →
    ∃ t : State, exec (.urgentSymbol n0 n1 n2 n3) s = .next t ∧ t = { s with pd := t.pd, link := t.link } ∧
      t.pd = { s.pd with linkErrors := s.pd.linkErrors + 1 } ∧
      (type = 1 → t.link.softOff = 0) ∧ (type = 3 → t.link.park = 0) ∧ (type = 2 → t.link.hold = 0))

/-- Silence of the link on the power die (R35): every present channel parks, by the receiver and by the RC oscillator's
count alike; one already in park is not affected. The uplink is lost (R36, R493): every present channel is in PARKED,
PARK is ordered for all 24 channels (R31), no configuration write is left, and supervision and both counts of good
superframes begin anew. -/
def Obligations.LossOfTheLinkParksEveryChannel : Prop :=
  (∀ (s : State) (i : Instr), i = .downlinkSilence ∨ i = .linkSilenceRcCount → s.pdOn = true → s.pd.units = true →
    ∃ t : State, exec i s = .next t ∧ t = { s with pd := t.pd, link := { s.link with goodDown := 0 } } ∧
      t.pd = { s.pd with chans := t.pd.chans } ∧
      ∀ c : Ch, (s.hasCh c = true → (t.pdChan c).park = true) ∧ (s.hasCh c = false → t.pdChan c = s.pdChan c) ∧
        (t.pdChan c).entry = (s.pdChan c).entry ∧ ((s.pdChan c).park = true → t.pdChan c = s.pdChan c) ∧
        (s.hasCh c = true → (s.pdChan c).park = false → s.pdPar Pid.BANK_PARK_HOLD (bankOf c).val ≠ 0 →
          (s.pdChan c).turnOff = .none → (t.pdChan c).parkHold = true)) ∧
  (∀ s : State, s.hwOn = true → s.link.txOn = true → s.link.supervised = true →
    ∃ t : State, exec .uplinkLost s = .next t ∧ (∀ c, s.hasCh c = true → (t.chan c).state = .parked) ∧
      (∀ c, s.hasCh c = true → (s.chan c).state ≠ .parked → (t.chan c).parkCause = 1 ∧ (t.chan c).motion.vel = 0) ∧
      (∀ c, s.hasCh c = false → (t.chan c).state = (s.chan c).state) ∧
      (∀ c, maskBit t.link.park c = true) ∧ t.link.goodUp = 0 ∧ t.link.goodDown = 0 ∧
      t.link.cfg = [] ∧ t.link.backlog = [] ∧ t.link.answers = false ∧ t.link.lost = true ∧
      t.link.supervised = false ∧ t.pd = s.pd ∧ t.fbs = s.fbs ∧ t.otp = s.otp)

/-- The start of a bank's PWM period (R26, R29, R38 to R40): the index counts, LOAD and FRAME name the next period, the
shadow entry of the frame due, complete 120 fc before, is loaded into every channel of the bank that is not in park or
on hold; with none in time every channel keeps its entry and the miss is kept. The centre of a period (R26, R143,
R150, R191, R194): every channel whose FETs can be on, or under TEST or LISTEN, holds the codes sampled, any other 0;
the sample carries the period's index, the counters of the bank are latched, and a SERIAL interface begins a frame
where one is due. -/
def Obligations.PeriodStartAndCentre : Prop :=
  (∀ (s : State) (b : BankIx), s.hwOn = true →
    let due := fun (load : Bool) (frame : Byte) (came : Nat) =>
      load = true ∧ frame = BitVec.ofNat 8 (((s.bank b).index + 1) % 65536) ∧ came + 120 ≤ s.fc
    let k := s.pdBank b
    let new := due k.load k.frame k.came
    let old := due k.loadOld k.frameOld k.cameOld
    let quiet := s.pdOn = true ∧ s.pd.units = true ∧ k.ov = false ∧ k.uv = false
    ∃ t : State, exec (.periodStart b) s = .next t ∧
      (t.bank b).index = ((s.bank b).index + 1) % 65536 ∧ (t.bank b).load = true ∧
      (t.bank b).frame = BitVec.ofNat 8 ((t.bank b).index + 1) ∧ t.pulses.contains (864 + 24 * b.val + 8) = true ∧
      t.otp = s.otp ∧ t.hp = s.hp ∧ t.pd.config = s.pd.config ∧ (s.fwOn = false → t.link = s.link) ∧
      (∀ c : Ch, bankOf c ≠ b → t.pdChan c = s.pdChan c) ∧
      (∀ c : Ch, bankOf c = b → quiet → (s.pdChan c).park = false → (s.pdChan c).hold ≤ 1 → new →
        (t.pdChan c).entry = (s.pdChan c).shadow) ∧
      (∀ c : Ch, bankOf c = b → quiet → (s.pdChan c).park = false → (s.pdChan c).hold ≤ 1 → ¬new → old →
        (t.pdChan c).entry = (s.pdChan c).shadowOld) ∧
      (∀ c : Ch, bankOf c = b → quiet → ((s.pdChan c).park = true ∨ 1 < (s.pdChan c).hold) →
        (t.pdChan c).entry = (s.pdChan c).entry ∧ (t.pdChan c).hold = (s.pdChan c).hold - b2n !(s.pdChan c).park) ∧
      (quiet → ¬new → ¬old → (t.pdBank b).missed = true ∧ ∀ c : Ch, bankOf c = b → (t.pdChan c).entry = (s.pdChan c).entry) ∧
      (quiet → new ∨ old → (t.pdBank b).missed = (s.pdBank b).missed)) ∧
  (∀ (s : State) (b : BankIx) (codes : List (Int × Int)), s.hwOn = true → codes.length = 12 → s.pdOn = true →
    ∃ t : State, exec (.periodCentre b codes) s = .next t ∧
      t = { s with pd := t.pd, fbs := t.fbs, mods := t.mods, pulses := t.pulses } ∧
      (t.pdBank b).sampleTag = BitVec.ofNat 8 (s.bank b).index ∧ t.pulses.contains (864 + 24 * b.val + 9) = true ∧
      (∀ c : Ch, bankOf c = b → (t.fb c).latched = (s.fb c).count ∧ (t.fb c).count = (s.fb c).count ∧
        (s.fbMode c = 4 → ((s.fb c).ssiFirst = true ∨ s.parN Pid.FB_SSI_EVERY c.val ≤ (s.fb c).ssiCentres + 1) →
          (t.fb c).ssiBusy = true ∧ (t.fb c).ssiFrom = s.fc ∧ (t.fb c).ssiCentres = 0)) ∧
      (∀ c : Ch, bankOf c ≠ b → t.fb c = s.fb c ∧ t.pdChan c = s.pdChan c) ∧
      (∀ c : Ch, bankOf c = b →
        let on := s.fetsOn c || (s.pdChan c).entry.test || (s.pdChan c).entry.listen
        let x := codes.getD (c.val % 12) (0, 0)
        t.pdChan c = { s.pdChan c with code1 := if on then clamp (-2048) 2047 x.1 else 0
                                       code2 := if on then clamp (-2048) 2047 x.2 else 0 }))

/-! ### Motion and the coil drive -/

/-- An integration step (R48, R53, R55 to R57, R63, R88) on a channel that neither leads nor follows in an interpolation
group and has no stop waiting, twins included: the step counts; an engine that is not in motion and has nothing
waiting stays where it is; motion commands that are held take effect in their order, also on a channel in motion:
MOVE_TO in position mode with its absolute, relative or follow target, MOVE_VEL in velocity mode. A relative target
beyond the range is clamped and reported. The engine goes on by one step of the profile: in MOVING, or at its target
in IDLE with MOVE_DONE, or with STOP_DONE where a MOVE_VEL of 0 has come to rest, or braking for the end of the range
with POS_RANGE_END. Without jerk a step in velocity mode keeps its speed within the limit and its change of speed
within AMAX or DMAX, and moves no farther than the larger of its two speeds takes it. The profile's arithmetic, the
report at a standstill and what CH.MODE reads there are the model's choices (assumptions 10, 74, 91). A stop prevails
over every motion that takes effect at the same integration step, whatever came first, and an immediate stop over a
ramp stop (R63 to R66, R70, R73, R88): asked for by the host or a fault, else by an assertion of the reflex matrix,
else by a limit that the channel moves towards, immediate with CH.LIMIT_MODE 1. A ramp stop begins to brake the
channel in STOPPING with its cause, or ends at once where the speed allows it (R53); an immediate stop ends motion
where the channel is, with HOLD ordered. Target and armed move are gone, and CH.MODE reads 0 from the beginning of the
stop (the model's choice, assumption 91); the state at the end is IDLE, FAULT where a fault that allows motion asked
for the stop, or DISABLED where a DISABLE waits. A captured limit takes the position of this step (assumption 19), and
motion towards it is judged by the velocity before the step (assumption 89). -/
def Obligations.IntegrationStepsAndHeldCommands : Prop :=
  (∀ s : State, s.hwOn = true →
    ∃ t : State, exec .integrationStep s = .next t ∧ t.istep = s.istep + 1 ∧ t.pd = s.pd ∧ t.otp = s.otp ∧
      t.params = s.params ∧ t.fbs = s.fbs ∧ t.rules = s.rules ∧
      (∀ c : Ch,
        let k := s.chan c
        let m := k.motion
        let a := assertsOn s.assertList c
        m.rampReq = none → m.immReq = none → m.capP = false → m.capN = false → m.disablePending = false → m.stopFault = false →
        a.ramp = false → a.imm = false → (∀ g : Fin 4, (s.groups[g].active && s.groups[g].members.any fun x => x.1 == c) = false) →
        (s.paired c = false ∨ (s.chan (twinOf c)).motion.disablePending = false) →
        let l := s.limits c a
        let count := (s.fb c).count
        let aim := fun (n : Motion) (x : Int) => (if n.mode = .position then n.target else n.position) + x
        let begun := fun (n : Motion) (mv : Move) =>
          let n := { n with velReported := none, velCmd := 0 }
          match mv with
          | .vel v => { n with mode := .velocity, velCmd := v, target := n.position }
          | .to x _ true => { n with mode := .follow, followOffset := x, followPos := 0, followLast := count, target := x }
          | .to x true false => { n with mode := .position, target := max (-(2 ^ 39)) (min (2 ^ 39 - 1) (aim n x)) }
          | .to x false false => { n with mode := .position, target := x }
        let merged := m.held.foldl begun { m with held := [], vlimitRfx := a.ceiling }
        let travelled := merged.followPos + (count - merged.followLast).toInt
        let start := if merged.mode = .follow then
            { merged with followPos := travelled, followLast := count
                          target := merged.followOffset + travelled * s.par Pid.FB_STEP_SCALE c.val }
          else merged
        let r := start.advance l false
        let ends := { r.1.clearLatches true with mode := .none, velReported := none, vel := 0, acc := 0, carry := 0 }
        let begins := (k.state = .idle ∨ k.state = .holdReduced ∨ k.state.inMotion = true) ∧ m.held ≠ []
        (k.state.inMotion = false → m.held = [] → t.chan c = { k with motion := { m with vlimitRfx := a.ceiling } }) ∧
        (begins ∨ (k.state = .moving ∧ m.mode ≠ .interp ∧ m.held = []) →
          (r.2 = .running → t.chan c = { k with
            state := .moving, left := k.left || !m.held.isEmpty
            motion := { r.1.clearLatches true with velReported := (t.chan c).motion.velReported } }) ∧
          (r.2 = .arrived → t.chan c = { k with state := .idle, left := k.left || !m.held.isEmpty, motion := ends } ∧
            t.pulses.contains (36 * c.val + 6) = true ∧
            (-(2 ^ 39) ≤ start.target → start.target < 2 ^ 39 → (t.chan c).motion.pos = start.target * 2 ^ 24)) ∧
          (r.2 = .stopped → (t.chan c).state = .idle ∧ (t.chan c).motion.pos = r.1.pos ∧ (t.chan c).motion.vel = 0 ∧
            t.pulses.contains (36 * c.val + 7) = true) ∧
          (r.2 = .rangeEnd → (t.chan c).motion.pos = r.1.pos ∧ (t.chan c).motion.vel = r.1.vel ∧ (t.chan c).motion.stopCause = .limit ∧
            (t.chan c).state = (if r.1.vel = 0 then .idle else .stopping) ∧ t.pulses.contains (36 * c.val + 9) = true)) ∧
        (∀ x, begins → m.held = [.to x true false] → (aim m x < -(2 ^ 39) ∨ 2 ^ 39 ≤ aim m x) →
          t.pulses.contains (36 * c.val + 9) = true) ∧
        ((begins ∧ ∃ v, m.held = [.vel v]) ∨ (k.state = .moving ∧ m.mode = .velocity ∧ m.held = []) →
          l.j = 0 → 0 ≤ l.v → 0 < l.a → 0 < l.d → posMin ≤ m.pos → m.pos ≤ posMax → 0 ≤ m.carry →
          m.carry < 2 * stepRate → (t.chan c).state = .moving → m.vel ≠ 0 → (t.chan c).motion.vel ≠ 0 →
          let v' := (t.chan c).motion.vel
          |v'| ≤ max |m.vel| l.v ∧ stepRate * |v' - m.vel| ≤ max l.a l.d + stepRate ∧
            2 * stepRate * |(t.chan c).motion.pos - m.pos| ≤ |m.vel| + |v'| + 2 * stepRate))) ∧
  (∀ (s : State) (c : Ch) (cause : StopCause), s.hwOn = true →
    let k := s.chan c
    let m := k.motion
    let a := assertsOn s.assertList c
    let hits := (m.capP = true ∧ 0 < m.vel) ∨ (m.capN = true ∧ m.vel < 0)
    let hard := s.par Pid.CH_LIMIT_MODE c.val = 1
    ((k.state = .moving ∧ m.mode ≠ .interp ∧ m.held = []) ∨
      ((k.state = .idle ∨ k.state = .holdReduced ∨ k.state.inMotion = true) ∧ m.held ≠ [])) →
    (∀ g : Fin 4, (s.groups[g].active && s.groups[g].members.any fun x => x.1 == c) = false) →
    let rest : ChState := if m.stopFault then .fault else if m.disablePending then .disabled else .idle
    ∃ t : State, exec .integrationStep s = .next t ∧
      (m.capP = true → (t.chan c).motion.limitPosP = (t.chan c).motion.position ∧ (t.chan c).motion.capP = false) ∧
      (m.capN = true → (t.chan c).motion.limitPosN = (t.chan c).motion.position ∧ (t.chan c).motion.capN = false) ∧
      (m.immReq = none → a.imm = false → ¬(hits ∧ hard) →
        (m.rampReq = some cause ∨ (m.rampReq = none ∧ a.ramp = true ∧ cause = .reflex) ∨
          (m.rampReq = none ∧ a.ramp = false ∧ hits ∧ cause = .limit)) →
        let b := m.brake (s.limits c a) true
        (t.chan c).motion.pos = b.pos ∧ (t.chan c).motion.vel = b.vel ∧ (t.chan c).motion.armed = none ∧
          (t.chan c).motion.held = [] ∧ (t.chan c).motion.rampReq = none ∧ (t.chan c).motion.mode = .none ∧
          (b.vel ≠ 0 → (t.chan c).state = .stopping ∧ (t.chan c).motion.stopCause = cause) ∧
          (b.vel = 0 → (t.chan c).state = rest ∧ t.pulses.contains (36 * c.val + 7) = true)) ∧
      ((m.immReq = some cause ∨ (m.immReq = none ∧ a.imm = true ∧ cause = .reflex) ∨
          (m.immReq = none ∧ a.imm = false ∧ hits ∧ hard ∧ cause = .limit)) →
        (t.chan c).state = rest ∧ (t.chan c).motion.vel = 0 ∧ (t.chan c).motion.acc = 0 ∧ (t.chan c).motion.pos = m.pos ∧
          (t.chan c).motion.armed = none ∧ (t.chan c).motion.immReq = none ∧ t.pulses.contains (36 * c.val + 7) = true ∧
          (s.link.txOn = true → maskBit t.link.hold c = true)))

/-- Standstill (R104, R105): IDLE becomes HOLD_REDUCED under the bank's policy, FAULT holding reduces its current; with
every present channel of the bank standing, the bank coil policy takes the channels in HOLD_REDUCED. The saturation
count (R103, R118): at CH.SAT_PERIODS it is reported once with CH.SAT_STATUS, and each coil is checked over the count:
with none in deficit that is all, also where a report before has not been re-armed; a coil in deficit turns an
energised channel off. The deficit bits stand until the next check (the model's choice, assumption 93). A full
collection of 0.5 s writes Ke where at least 90 % of its set-points qualified, in a later fabric cycle where the
channel has had a write in this one (R367, assumption 118), and begins anew (R139; a mean above the parameter's range
is assumption 76). -/
def Obligations.StandstillIdleSaturationAndKe : Prop :=
  (∀ s : State, s.hwOn = true →
    (∀ c : Ch,
      ((s.chan c).state = .idle → exec (.standstillDelayExpiry c) s = .next (s.onChan c fun k =>
        { k with state := .holdReduced, policy := (s.bank (bankOf c)).policyActive, coil := { k.coil with rampDone := 0 } })) ∧
      ((s.chan c).state = .fault → (s.chan c).fetsOff = false → (s.chan c).coil.reduced = false →
        exec (.standstillDelayExpiry c) s = .next (s.onCoil c fun w => { w with reduced := true, rampDone := 0 }))) ∧
    (∀ b : BankIx, (∀ c, bankOf c = b → s.hasCh c = true → (s.chan c).state.stopped = true) →
      ∃ t : State, exec (.idleDelayExpiry b) s = .next t ∧ t = { s with banks := t.banks, chans := t.chans } ∧
        t.bank b = { s.bank b with policyActive := true } ∧ (∀ d, d ≠ b → t.bank d = s.bank d) ∧
        ∀ c : Ch, t.chan c =
          if bankOf c = b then { s.chan c with policy := (s.chan c).state == .holdReduced, left := false } else s.chan c)) ∧
  (∀ (s : State) (c : Ch),
    let w := (s.chan c).coil
    let q := w.count
    let e := (s.chan c).est
    let seen := s.onCoil c fun w =>
      { w with count := { w.count with reported := true, checked := true }, deficit1 := false, deficit2 := false }
    (s.hwOn = true → s.par Pid.CH_SAT_PERIODS c.val ≤ q.run → q.checked = false → deficit q.meas1 q.set1 = false →
      deficit q.meas2 q.set2 = false →
      exec (.satPeriodsCount c) s = .next
        (if q.reported then seen else (seen.chPulse c 15).raise 0x0201 c.val [BitVec.ofNat 8 (b2n w.sat)])) ∧
    (s.hwOn = true → s.par Pid.CH_SAT_PERIODS c.val ≤ q.run → q.checked = false →
      (deficit q.meas1 q.set1 = true ∨ deficit q.meas2 q.set2 = true) → (s.chan c).state.energised = true →
      ∃ t : State, exec (.satPeriodsCount c) s = .next t ∧ (t.chan c).faulted ∧ (t.chan c).causes.coilOpen = true ∧
        (t.chan c).coil.next.entry = DutyEntry.off ∧ t.pd = s.pd ∧ t.params = s.params) ∧
    (s.hwOn = true → q.run < s.par Pid.CH_SAT_PERIODS c.val → exec (.satPeriodsCount c) s = .next s) ∧
    (s.fwOn = true → s.parB Pid.CH_KE_LEARN c.val = true → s.keFull c = true → 9 * e.keSeen ≤ 10 * e.keGood →
      let t := s.onEst c fun e => { e with keSeen := 0, keGood := 0, keSum := 0 }
      let ke := min 1000000 (divNear e.keSum (1000 * (max 1 e.keGood : Nat)))
      (s.freeUnit Pid.CH_MOTOR_KE c.val →
        exec (.keLearnUpdate c) s = .next ((t.setPar Pid.CH_MOTOR_KE c.val ke).noteWrite (unitOf Pid.CH_MOTOR_KE c.val))) ∧
      (¬ s.freeUnit Pid.CH_MOTOR_KE c.val → exec (.keLearnUpdate c) s =
        .next { t with mbx := { t.mbx with later := t.mbx.later ++ [(Pid.CH_MOTOR_KE, c.val, ke)] } })) ∧
    (s.fwOn = true → s.parB Pid.CH_KE_LEARN c.val = true → s.keFull c = true → 10 * e.keGood < 9 * e.keSeen →
      exec (.keLearnUpdate c) s = .next (s.onEst c fun e => { e with keSeen := 0, keGood := 0, keSum := 0 })))

/-- The end of a Roll Call whose samples are all in (R82, R107 to R109, R117): on a pass the channel is in IDLE, its FETs
on, with the measured R stored and L in a later fabric cycle, each in one in which the channel has had no write (R367,
assumption 118); on a failure it is in FAULT with its FETs off; while the processor is halted the measurement waits.
Other values than the measured ones end nothing. The timetable that gives the samples is the model's reading
(assumptions 16, 77). -/
def Obligations.RollCallPassesFailsOrWaits : Prop :=
  ∀ (s : State) (c : Ch), s.hwOn = true → s.measuring c = true → s.rcDone c = true →
    let k1 := (s.rcMeasured c).1
    let k2 := (s.rcMeasured c).2
    let code := s.rcCode c k1 k2
    (s.fwOn = true → (code = 0x01 ∨ code = 0x03) →
      ∃ t : State, exec (.rollcallComplete c k1 k2) s = .next t ∧
        t = { s with chans := t.chans, params := t.params, mbx := t.mbx } ∧ (∀ d, d ≠ c → t.chan d = s.chan d) ∧
        (t.chan c).state = .idle ∧ (t.chan c).fetsOff = false ∧ (t.chan c).est.rcResult = code ∧
        (t.chan c).est.rcPassed = true ∧ (s.isTwin c = false → (t.chan c).solo = (s.chan c).solo) ∧
        (s.isTwin c = true → s.partnerOut c = true → (t.chan c).solo = true) ∧
        (let r := meanFrac (rcRNum k1) (rcRDen k1) (rcRNum k2) (rcRDen k2)
         let l := if k1.crossing.isNone || k2.crossing.isNone then 0 else meanFrac (rcLNum k1) (rcLDen k1) (rcLNum k2) (rcLDen k2)
         let inductance := (Pid.CH_MOTOR_L, c.val, l)
         (s.freeUnit Pid.CH_MOTOR_R c.val → t.params = (s.setPar Pid.CH_MOTOR_R c.val r).params ∧
           t.mbx.later = s.mbx.later ++ [inductance]) ∧
         (¬ s.freeUnit Pid.CH_MOTOR_R c.val → t.params = s.params ∧
           t.mbx.later = s.mbx.later ++ [(Pid.CH_MOTOR_R, c.val, r), inductance]))) ∧
    (s.fwOn = true → code ≠ 0x01 → code ≠ 0x03 →
      ∃ t : State, exec (.rollcallComplete c k1 k2) s = .next t ∧ (∀ d, d ≠ c → d ≠ twinOf c → t.chan d = s.chan d) ∧
        (t.chan c).faulted ∧ (t.chan c).causes.rollCall = true ∧ (t.chan c).est.rcResult = code ∧ t.params = s.params ∧
        t.pd = s.pd) ∧
    (s.fwOn = false → exec (.rollcallComplete c k1 k2) s = .next (s.onEst c fun e => { e with rcWait := some (k1, k2) })) ∧
    (∀ x y, (x, y) ≠ s.rcMeasured c → exec (.rollcallComplete c x y) s = .next s)

/-- The catch decision (R133 to R138): on its own a channel locks, which moves the rotor's angle, position and speed into
the engine and the channel to MOVING, or stays in ROLLCALL and goes on to the measurement. Twins that listen together
lock together at the bank A twin's angle and speed, or both go on. The scale of the samples is a free value
(assumption 21); that both report bank A's speed, that twins out of step go on, what speeds agree, and the cause of
the stop that a lock begins, are the model's choices (assumptions 96, 38, 79, 78). A twin rejoin (R115, R116, R130):
beside an energised partner the channel takes up the partner's trajectory and state and ramps its current from zero;
without one it goes on alone along the recorded trajectory; at the end of the ramp SOLO clears on the partner and both
share. The record and its shadow, and that a partner in FAULT counts as out, are the model's reading (assumptions 17,
80). -/
def Obligations.CatchesAndTwinRejoins : Prop :=
  (∀ (s : State) (c : Ch), s.hwOn = true → (s.chan c).state = .rollcall →
    (s.chan c).est.listening = true → 1000 ≤ (s.chan c).est.samples.length →
    let period := (s.bank (bankOf c)).period
    let p := twinOf c
    let f := fitOf (s.window c)
    let g := fitOf (s.window p)
    let v := clamp (-1310720000) 1310720000 f.speed
    ((s.isTwin c = false ∨ ((s.chan p).state ≠ .disabled ∧ (s.chan p).state ≠ .rollcall)) →
      ∃ t : State, exec (.catchDecision c) s = .next t ∧ (∀ d, d ≠ c → t.chan d = s.chan d) ∧
        (t.chan c).est.listening = false ∧ (t.chan c).est.catchResult = s.catchResult c f ∧ t.params = s.params ∧ t.pd = s.pd ∧
        (s.catchResult c f = 1 → (t.chan c).state = .moving ∧ (t.chan c).fetsOff = false ∧
          (t.chan c).motion.vel = v * 2 ^ 24 ∧ (t.chan c).motion.theta = BitVec.ofNat 18 (f.code period) ∧
          (t.chan c).est.catchSpeed = v ∧ (t.chan c).est.rcResult = 0x02 ∧
          ((s.chan c).motion.armed = none → (t.chan c).motion.rampReq = some .stop) ∧
          (∀ mv, (s.chan c).motion.armed = some mv → (t.chan c).motion.held = [mv])) ∧
        (s.catchResult c f ≠ 1 → (t.chan c).state = .rollcall ∧ (t.chan c).motion = (s.chan c).motion)) ∧
    (s.isTwin c = true → s.isTwin p = true → (s.chan p).state = .rollcall → (s.chan p).est.listening = true →
      (s.chan p).est.samples.length = (s.chan c).est.samples.length → s.fwOn = true →
      let lead := if c.val < 12 then f else g
      let w := clamp (-1310720000) 1310720000 lead.speed
      let agree := s.catchResult c f = 1 ∧ s.catchResult p g = 1 ∧
        fitsAgree (f.code period) (g.code period) f.speed g.speed = true
      ∃ t : State, exec (.catchDecision c) s = .next t ∧ (∀ d, d ≠ c → d ≠ p → t.chan d = s.chan d) ∧
        ∀ d, (d = c ∨ d = p) → (t.chan d).est.listening = false ∧ (t.chan d).solo = (s.chan d).solo ∧
          (agree → (t.chan d).state = .moving ∧ (t.chan d).motion.vel = w * 2 ^ 24 ∧
            (t.chan d).motion.theta = BitVec.ofNat 18 (lead.code period) ∧ (t.chan d).est.catchResult = 1 ∧ (t.chan d).est.catchSpeed = w) ∧
          (¬agree → (t.chan d).state = .rollcall ∧ (t.chan d).motion = (s.chan d).motion ∧ (t.chan d).est.catchResult = 5))) ∧
  (∀ (s : State) (c : Ch),
    let r := s.pairs[pairOf c]
    let p := s.chan (twinOf c)
    let k := s.chan c
    (s.fwOn = true → k.state = .rollcall → k.rejoin = .loading →
      ∃ t : State, exec (.rejoinTakeUp c) s = .next t ∧ t = { s with chans := t.chans, groups := t.groups, mbx := t.mbx } ∧
        (∀ d, d ≠ c → t.chan d = s.chan d) ∧ (t.chan c).fetsOff = false ∧ (t.chan c).motion.limP = k.motion.limP ∧
        (t.chan c).motion.armed = none ∧
        (p.state.energised = true → (t.chan c).state = p.state ∧ t.mbx = s.mbx ∧ (t.chan c).rejoin = .ramp 0 ∧
          (t.chan c).motion.pos = p.motion.pos ∧ (t.chan c).motion.vel = p.motion.vel ∧
          (t.chan c).motion.held = p.motion.held ∧ (t.chan c).motion.rampReq = p.motion.rampReq ∧
          ∀ g : Fin 4, ∀ m, (s.groups[g].members.find? fun m => m.1 == twinOf c) = some m →
            t.groups[g].members = s.groups[g].members ++ [(c, m.2)]) ∧
        (p.state.energised = false → (t.chan c).state = r.state ∧ (t.chan c).rejoin = .none ∧ (t.chan c).solo = true ∧
          t.groups = s.groups ∧ (t.chan c).motion.pos = r.shadow.pos ∧ (t.chan c).motion.vel = r.shadow.vel)) ∧
    (∀ done, s.hwOn = true → k.rejoin = .ramp done → s.rampTotal c ≤ done →
      exec (.twinRejoined c) s = .next (((s.onChan c fun k =>
        { k with rejoin := .none, est := { k.est with feZero := max 1 k.est.feZero } }).onChan (twinOf c) fun k =>
          { k with solo := false }).raise 0x0206 c.val [])) ∧
    (∀ done, s.hwOn = true → k.rejoin = .ramp done → done < s.rampTotal c → exec (.twinRejoined c) s = .next s))

/-- A stall that is not latched yet (R124, R126 to R128, R217): reported with its criteria, load angle and back-EMF;
action 0 does no more, action 1 asks for a ramp stop, action 2 turns the FETs off from the next period start, on both
twins of an energised pair. One that is latched already only clears the counts; beside a following error at the same
set-point the higher action acts, the stall's where both are equal, and the second report has only its event (the
model's reading of R128, assumption 30). A following error that is not latched yet (R126 to R128, R131): as a stall,
with its own action and payload. Beside a stall at the same set-point the stall's action acts unless this one's is
higher (assumption 30). -/
def Obligations.StallsAndFollowingErrorsAct : Prop :=
  (∀ (s : State) (c : Ch), s.hwOn = true → (s.chan c).est.valid = true →
    ((s.stallCounts c).1 = true ∨ (s.stallCounts c).2 = true) → (s.chan c).state.energised = true →
    let k := s.chan c
    let action := s.parN Pid.CH_STALL_ACTION c.val
    let feAction := s.parN Pid.CH_FE_ACTION c.val
    let crit := b2n (s.stallCounts c).1 + 2 * b2n (s.stallCounts c).2
    let both := s.feReached c && !k.causes.followed && !k.causes.stalled && !k.est.joint
    let u := ((s.onEst c fun e => { e with angleCount := 0, emfCount := 0, joint := both }).chPulse c 10)
    let v := u.raise 0x0301 c.val ([BitVec.ofNat 8 crit, BitVec.ofNat 8 action] ++ leInt 2 k.est.loadAngle ++
      leBytes 2 k.est.emf ++ [0, 0] ++ posField k.motion.position)
    let own := both = false ∨ feAction ≤ action
    (k.est.joint = true → exec (.stall c) s = .next v) ∧
    (k.est.joint = false → k.causes.stalled = true → exec (.stall c) s = .next u) ∧
    (k.est.joint = false → k.causes.stalled = false → own → action = 0 → exec (.stall c) s = .next v) ∧
    (k.est.joint = false → k.causes.stalled = false → own → action = 1 → s.pairEnergised c = false →
      exec (.stall c) s = .next (v.onChan c fun k =>
        { k with causes := { k.causes with stall := true }
                 motion := { k.motion with armed := none, stopFault := true, rampReq := some .fault } })) ∧
    (k.est.joint = false → k.causes.stalled = false → own → action = 2 →
      ∃ t : State, exec (.stall c) s = .next t ∧ t = { v with chans := t.chans, groups := t.groups } ∧
        (∀ d, d ≠ c → (s.pairEnergised c = false ∨ d ≠ twinOf c) → t.chan d = s.chan d) ∧
        ∀ d, (d = c ∨ (s.pairEnergised c = true ∧ d = twinOf c)) → (t.chan d).faulted ∧ (t.chan d).causes.stallOff = true ∧
          (t.chan d).coil.next.entry = DutyEntry.off) ∧
    (k.causes.stalled = false → both = true → action < feAction → feAction = 2 → s.pairEnergised c = false →
      ∃ t : State, exec (.stall c) s = .next t ∧ (t.chan c).faulted ∧ (t.chan c).causes.followOff = true ∧
        (t.chan c).causes.stalled = false)) ∧
  (∀ (s : State) (c : Ch), s.hwOn = true → s.feReached c = true → (s.chan c).state.energised = true →
    let k := s.chan c
    let action := s.parN Pid.CH_FE_ACTION c.val
    let stallAction := s.parN Pid.CH_STALL_ACTION c.val
    let both := k.est.valid && ((s.stallCounts c).1 || (s.stallCounts c).2) && !k.causes.stalled && !k.causes.followed &&
      !k.est.joint
    let u := ((s.onEst c fun e => { e with feCount := 0, joint := both }).chPulse c 12)
    let v := u.raise 0x0302 c.val (posField k.est.fe ++ [BitVec.ofNat 8 action])
    let own := both = false ∨ stallAction < action
    (k.est.joint = true → exec (.followErr c) s = .next v) ∧
    (k.est.joint = false → k.causes.followed = true → exec (.followErr c) s = .next u) ∧
    (k.est.joint = false → k.causes.followed = false → own → action = 0 → exec (.followErr c) s = .next v) ∧
    (k.est.joint = false → k.causes.followed = false → own → action = 1 → s.pairEnergised c = false →
      exec (.followErr c) s = .next (v.onChan c fun k =>
        { k with causes := { k.causes with follow := true }
                 motion := { k.motion with armed := none, stopFault := true, rampReq := some .fault } })) ∧
    (k.est.joint = false → k.causes.followed = false → own → action = 2 →
      ∃ t : State, exec (.followErr c) s = .next t ∧ t = { v with chans := t.chans, groups := t.groups } ∧
        (∀ d, d ≠ c → (s.pairEnergised c = false ∨ d ≠ twinOf c) → t.chan d = s.chan d) ∧
        ∀ d, (d = c ∨ (s.pairEnergised c = true ∧ d = twinOf c)) → (t.chan d).faulted ∧ (t.chan d).causes.followOff = true ∧
          (t.chan d).coil.next.entry = DutyEntry.off) ∧
    (k.causes.followed = false → both = true → action ≤ stallAction → stallAction = 2 → s.pairEnergised c = false →
      ∃ t : State, exec (.followErr c) s = .next t ∧ (t.chan c).faulted ∧ (t.chan c).causes.stallOff = true ∧
        (t.chan c).causes.followed = false))

/-! ### The power stage and feedback -/

/-- A short trip of a FET that is commanded on, or was until this cycle, or a failing gate check that is due (R145, R146,
R151, R155 to R158, R172, R173): the FETs turn off in two steps, the latch of the half-bridge or of the gate sets, and
no other channel changes; a channel whose FETs are not commanded on, or whose gates are not driven, does not trip.
That a gate failing its check behind the plateau begins a new one is the model's choice (assumption 87). The plateau
ends with every gate off (R156), and the gate check counts from there (R145). The park hold ends in a two-step
turn-off (R170); the park latch stays. Safe inputs and temperature (R168 to R171): a safe input parks the present
channels of its bank, 170 degrees those of both; neither release clears a park latch. Before the start-up write the
park logic is off and the condition alone is kept (R296, R430). -/
def Obligations.ShortGateAndParkTurnOff : Prop :=
  (∀ (s : State) (c : Ch) (hb : Fin 4) (instant : Bool),
    let p := s.pdChan c
    let tripped := s.onPdChan c fun k =>
      { k with parkHold := false, turnOff := .plateau, sc := k.sc ||| BitVec.ofNat 4 (2 ^ hb.val), inst := k.inst || instant }
    (s.drives c = true → p.commandedOn = true → exec (.shortTrip c hb instant) s = .next tripped) ∧
    (s.drives c = true → p.offFc = some s.fc → p.turnOff = .none → exec (.shortTrip c hb instant) s = .next tripped) ∧
    ((s.drives c = false ∨ (p.commandedOn = false ∧ p.offFc ≠ some s.fc)) → exec (.shortTrip c hb instant) s = .next s) ∧
    (s.drives c = true → (p.commandedOn = true ∨ ∃ f, p.checkFc = some f ∧ s.fc ≤ f + 480) →
      exec (.gateFault c) s = .next (s.onPdChan c fun k => { k with parkHold := false, gate := true, turnOff := .plateau })) ∧
    ((s.drives c = false ∨ (p.commandedOn = false ∧ ∀ f, p.checkFc = some f → f + 480 < s.fc)) →
      exec (.gateFault c) s = .next s)) ∧
  (∀ (s : State) (c : Ch),
    ((s.pdChan c).turnOff = .plateau →
      exec (.softoffPlateauEnd c) s = .next (s.onPdChan c fun k => { k with turnOff := .off, checkFc := some s.fc })) ∧
    ((s.pdChan c).turnOff ≠ .plateau → exec (.softoffPlateauEnd c) s = .next s) ∧
    (s.pdOn = true → (s.pdChan c).parkHold = true →
      exec (.parkHoldEnd c) s = .next (s.onPdChan c fun k =>
        { k with parkHold := false
                 turnOff := if k.turnOff = .none then (if k.entry.gateEn then .plateau else .off) else k.turnOff })) ∧
    ((s.pdOn = false ∨ (s.pdChan c).parkHold = false) → exec (.parkHoldEnd c) s = .next s)) ∧
  (∀ s : State,
    let parks := s.pdOn = true ∧ s.pd.units = true
    (∀ b : BankIx,
      (parks → ∃ t : State, exec (.safeInputAsserted b) s = .next t ∧
        t = { s with pd := { s.pd with chans := t.pd.chans, banks := t.pd.banks } } ∧
        t.pdBank b = { s.pdBank b with safe := true } ∧ (∀ d, d ≠ b → t.pdBank d = s.pdBank d) ∧
        (∀ c, bankOf c = b → s.hasCh c = true → (t.pdChan c).park = true ∧ (t.pdChan c).entry = (s.pdChan c).entry) ∧
        (∀ c, (bankOf c ≠ b ∨ s.hasCh c = false) → t.pdChan c = s.pdChan c)) ∧
      ((s.pdOn = false ∨ s.pd.units = false) →
        exec (.safeInputAsserted b) s = .next (s.onPdBank b fun k => { k with safe := true })) ∧
      exec (.safeInputDeasserted b) s = .next (s.onPdBank b fun k => { k with safe := false })) ∧
    (∀ temp : BitVec 16,
      (1360 ≤ temp.toInt → parks →
        ∃ t : State, exec (.overTemperature temp) s = .next t ∧ t = { s with pd := { s.pd with chans := t.pd.chans, ot := true } } ∧
          ∀ c : Ch, (s.hasCh c = true → (t.pdChan c).park = true) ∧ (s.hasCh c = false → t.pdChan c = s.pdChan c) ∧
            (t.pdChan c).entry = (s.pdChan c).entry) ∧
      (temp.toInt < 1200 → s.pdOn = true → exec (.otClear temp) s = .next { s with pd := { s.pd with ot := false } })))

/-- The supply monitor of a bank (R162, R165, R166, R417): above the OV level, or below the UV level, every channel of the
bank whose FETs are on turns off and latches it, and the chopper is on under OV where it is enabled; a return clears
the flag whose level is met no more. The monitors run from the power die's start-up write on (R430). The chopper
(R164, R177): on above BANK.CHOP_ON where it is enabled, off below BANK.CHOP_OFF; an on-time above BANK.CHOP_MAX_ON is
reported once in its on-interval. -/
def Obligations.SupplyMonitorAndChopper : Prop :=
  (∀ (s : State) (b : BankIx) (vm : BitVec 16), s.pdOn = true → s.pd.units = true →
    (s.level100 Pid.BANK_OV_TRIP b < vm.toNat →
      ∃ t : State, exec (.bankOv b vm) s = .next t ∧ t = { s with pd := { s.pd with chans := t.pd.chans, banks := t.pd.banks } } ∧
        t.pdBank b = { s.pdBank b with ov := true, uv := false
                                       chop := (s.pdBank b).chop || s.pdPar Pid.BANK_CHOP_ENABLE b.val == 1 } ∧
        (∀ d, d ≠ b → t.pdBank d = s.pdBank d) ∧
        (∀ c, bankOf c = b → s.fetsOn c = true →
          (t.pdChan c).bankOff = true ∧ (t.pdChan c).bankUv = false ∧ (t.pdChan c).turnOff = .plateau) ∧
        (∀ c, (bankOf c ≠ b ∨ s.fetsOn c = false) → t.pdChan c = s.pdChan c)) ∧
    ((vm.toNat : Int) < s.level100 Pid.BANK_UV_TRIP b → 6000 < vm.toNat →
      ∃ t : State, exec (.bankUv b vm) s = .next t ∧
        t = { s with pd := { s.pd with chans := t.pd.chans, banks := t.pd.banks }, power := t.power } ∧
        t.pdBank b = { s.pdBank b with uv := true, ov := false } ∧
        (∀ c, bankOf c = b → s.fetsOn c = true →
          (t.pdChan c).bankOff = true ∧ (t.pdChan c).bankUv = true ∧ (t.pdChan c).turnOff = .plateau) ∧
        (∀ c, (bankOf c ≠ b ∨ s.fetsOn c = false) → t.pdChan c = s.pdChan c)) ∧
    ((vm.toNat : Int) < s.level100 Pid.BANK_UV_TRIP b → vm.toNat ≤ 6000 →
      ∃ t : State, exec (.bankUv b vm) s = .next t ∧ (t.pdBank b).uv = true ∧
        (∀ c, bankOf c = b → (t.pdChan c).turnOff ≠ .plateau) ∧
        (b = 0 → t.power = { s.power with vmA := false }) ∧ (b = 1 → t.power = { s.power with vmB := false })) ∧
    (∃ t : State, exec (.vmWindowReturn b vm) s = .next t ∧ t.pd.chans = s.pd.chans ∧
      t.pdBank b = { s.pdBank b with ov := (s.pdBank b).ov && decide (s.level100 Pid.BANK_OV_TRIP b < vm.toNat)
                                     uv := (s.pdBank b).uv && decide ((vm.toNat : Int) < s.level100 Pid.BANK_UV_TRIP b) } ∧
      (b = 0 → t.power = { s.power with vmA := decide (6000 < vm.toNat) }) ∧
      (b = 1 → t.power = { s.power with vmB := decide (6000 < vm.toNat) }))) ∧
  (∀ (s : State) (b : BankIx) (vm : BitVec 16) (onMs : BitVec 32),
    let pdOn := s.pdOn = true ∧ s.pd.units = true
    (pdOn → s.pdPar Pid.BANK_CHOP_ENABLE b.val = 1 → s.level100 Pid.BANK_CHOP_ON b < vm.toNat →
      exec (.chopOn b vm) s = .next (s.onPdBank b fun k => { k with chop := true })) ∧
    (pdOn → s.pdPar Pid.BANK_CHOP_ENABLE b.val ≠ 1 → exec (.chopOn b vm) s = .next s) ∧
    (pdOn → (vm.toNat : Int) < s.level100 Pid.BANK_CHOP_OFF b →
      exec (.chopOff b vm) s = .next (s.onPdBank b fun k => { k with chop := false })) ∧
    (s.hwOn = true → (s.bank b).status.getLsbD 4 = true → (s.bank b).chopMax < onMs.toNat → (s.bank b).chopReported = false →
      exec (.chopOverload b onMs) s = .next (((s.onBank b fun k => { k with chopReported := true }).pulse
        (864 + 24 * b.val + 7)).raise 0x0405 b.val (leBytes 4 onMs.toNat))) ∧
    ((s.bank b).chopReported = true → exec (.chopOverload b onMs) s = .next s))

/-- Edges of the counting modes (R178, R181, R183, R185, R186, R188, R194, R195): a pin's comparator is at the threshold
in steps of 16 mV, with the hysteresis centred on it. In quadrature a step to the next state of the sequence 00, 10,
11, 01 counts up and one back counts down; a hall state that follows in its sequence counts up, one before down; a
tooth counts, also one whose period fails its check; a step edge selected by FB.STEP_EDGE counts by its direction.
FB.POL turns the lines and FB.COUNT_DIR the sign. A stopped interface counts nothing. An illegal transition of
quadrature or of hall lines, a skipped hall state among them (R183, R185, R197, R199; what a skip does is the model's
reading, assumption 63): the count stays and becomes suspect, the error is counted, and it is reported unless a report
of the kind was made within 10 ms. The return from an illegal hall state to a valid one moves nothing and is no error.
An index (R184, R199): the interval from the last index is kept and this count becomes the last; with FB.LINES set, an
interval over one direction that lies within the tolerance makes the count trusted, one outside is an error, counted
and reported unless a report of the kind was made within 10 ms. -/
def Obligations.EdgesErrorsAndIndexes : Prop :=
  (∀ (s : State) (c : Ch), s.hwOn = true → s.hasCh c = true →
    let f := s.fb c
    let dir : Int := if s.parB Pid.FB_COUNT_DIR c.val then -1 else 1
    let mode := s.parN Pid.FB_MODE c.val
    let hyst : Int := [0, 25, 50, 100].getD (s.parN Pid.FB_HYST c.val) 100
    let out := fun (i : Nat) (before : Bool) (mv : BitVec 16) =>
      let t := 2 * (s.par (Pid.FB_THRESH_A + i) c.val / 16 * 16)
      if before = true then decide (t - hyst ≤ 2 * (mv.toNat : Int)) else decide (t + hyst < 2 * (mv.toNat : Int))
    let lineA := out 0 f.lineA
    let lineB := out 1 f.lineB
    let lineI := out 2 f.lineI
    let pol := fun (i : Nat) (x : Bool) => x != (s.parN Pid.FB_POL c.val).testBit i
    let quad := fun a b => quadPlace (pol 0 a) (pol 1 b)
    let hall := fun u v w => hallPlace (pol 0 u) (pol 1 v) (pol 2 w)
    let counted := fun (t : State) (n : Int) =>
      (t.fb c).count = f.count + BitVec.ofInt 32 n ∧ (t.fb c).neg = decide (n < 0) ∧ (t.fb c).lastEdge = s.fc ∧
        (t.fb c).standstill = false ∧ (∀ d, d ≠ c → t.fb d = s.fb d) ∧ t.chans = s.chans ∧ t.params = s.params ∧ t.pd = s.pd
    (∀ a b, f.running = true → mode = 1 →
      let step := (quad (lineA a) (lineB b) + 4 - quad f.lineA f.lineB) % 4
      (step = 1 ∨ step = 3) → ∃ t : State, exec (.quadTransition c a b) s = .next t ∧
        counted t (if step = 1 then dir else -dir) ∧ (t.fb c).lineA = lineA a ∧ (t.fb c).lineB = lineB b) ∧
    (∀ a b, f.running = false → exec (.quadTransition c a b) s = .next (s.onFb c fun f =>
      { f with lineA := lineA a, lineB := lineB b })) ∧
    (∀ (u v w : BitVec 16) (p q : Nat), f.running = true → mode = 2 → f.hallOk = true →
      hall (lineA u) (lineB v) (lineI w) = some p →
      hall f.lineA f.lineB f.lineI = some q → ((p + 6 - q) % 6 = 1 ∨ (p + 6 - q) % 6 = 5) →
      ∃ t : State, exec (.hallChange c u v w) s = .next t ∧ counted t (if (p + 6 - q) % 6 = 1 then dir else -dir) ∧
        (t.fb c).lineA = lineA u ∧ (t.fb c).lineB = lineB v ∧ (t.fb c).lineI = lineI w) ∧
    (∀ (u v w : BitVec 16), f.running = false → exec (.hallChange c u v w) s = .next (s.onFb c fun f =>
      { f with lineA := lineA u, lineB := lineB v, lineI := lineI w })) ∧
    (f.running = true → mode = 6 → ∃ t : State, exec (.wssTooth c) s = .next t ∧ counted t dir) ∧
    (f.running = false → exec (.wssTooth c) s = .next s) ∧
    (∀ (rising : Bool) (b : BitVec 16), f.running = true → mode = 5 →
      let kind := s.parN Pid.FB_STEP_EDGE c.val
      let up := pol 0 rising
      ((kind = 2 ∨ (kind = 0 ∧ up = true) ∨ (kind = 1 ∧ up = false)) →
        ∃ t : State, exec (.stepEdge c rising b) s = .next t ∧ counted t (if pol 1 (lineB b) then dir else -dir) ∧
          (t.fb c).lineA = rising ∧ (t.fb c).lineB = lineB b) ∧
      (¬(kind = 2 ∨ (kind = 0 ∧ up = true) ∨ (kind = 1 ∧ up = false)) →
        exec (.stepEdge c rising b) s = .next (s.onFb c fun f => { f with lineA := rising, lineB := lineB b })))) ∧
  (∀ (s : State) (c : Ch) (a b w : BitVec 16) (i : Instr), s.hwOn = true → s.hasCh c = true → (s.fb c).running = true →
    let f := s.fb c
    let x := s.fbLine c 0 a
    let y := s.fbLine c 1 b
    let z := s.fbLine c 2 w
    let pol := fun (i : Nat) (x : Bool) => x != (s.parN Pid.FB_POL c.val).testBit i
    let quad := fun a b => quadPlace (pol 0 a) (pol 1 b)
    let hall := fun u v w => hallPlace (pol 0 u) (pol 1 v) (pol 2 w)
    (((i = .quadTransition c a b ∧ s.parN Pid.FB_MODE c.val = 1 ∧ (quad x y + 4 - quad f.lineA f.lineB) % 4 = 2) ∨
      (i = .hallChange c a b w ∧ s.parN Pid.FB_MODE c.val = 2 ∧ hall x y z = none) ∨
      (i = .hallChange c a b w ∧ s.parN Pid.FB_MODE c.val = 2 ∧ f.hallOk = true ∧
        ∃ p q : Fin 6, hall x y z = some p.val ∧ hall f.lineA f.lineB f.lineI = some q.val ∧ 2 ≤ (p.val + 6 - q.val) % 6 ∧
          (p.val + 6 - q.val) % 6 ≤ 4)) →
      ∃ t : State, exec i s = .next t ∧
        t = { s with fbs := t.fbs, pulses := t.pulses, mbx := t.mbx } ∧
        (t.fb c).count = f.count ∧ (t.fb c).suspect = true ∧
        (t.fb c).errCount = min (2 ^ 32 - 1) (f.errCount + 1) ∧ (t.fb c).trustRun = 0 ∧
        (f.limited.getD 0 false = true → t.mbx = s.mbx) ∧
        (f.limited.getD 0 false = false → f.occ.length = 5 → f.limited.length = 5 → (t.fb c).limited.getD 0 false = true ∧
          t.mbx = (s.raise 0x0501 c.val (leBytes 4 (f.occ.getD 0 0 + 1) ++ leBytes 4 f.count.toNat)).mbx)) ∧
    (∀ p, s.parN Pid.FB_MODE c.val = 2 → f.hallOk = false → hall x y z = some p →
      exec (.hallChange c a b w) s = .next (s.onFb c fun f =>
        { f with lineA := x, lineB := y, lineI := z, hallOk := true, absSeen := true, suspect := f.suspect && f.absSeen }))) ∧
  (∀ (s : State) (c : Ch), s.hwOn = true → s.hasCh c = true → (s.fb c).running = true → s.parN Pid.FB_MODE c.val = 1 →
    let f := s.fb c
    let interval := (f.count - f.indexPos).toInt
    let lines := s.par Pid.FB_LINES c.val
    let ok := |(|interval| - 4 * lines)| ≤ s.par Pid.FB_LINES_TOL c.val
    ∃ t : State, exec (.index c) s = .next t ∧ t = { s with fbs := t.fbs, pulses := t.pulses, mbx := t.mbx } ∧
      (t.fb c).indexPos = f.count ∧ (t.fb c).indexSeen = true ∧ (t.fb c).dirChanged = false ∧ (t.fb c).count = f.count ∧
      (f.indexSeen = true → (t.fb c).indexInterval = interval) ∧ (∀ d, d ≠ c → t.fb d = s.fb d) ∧
      (lines ≠ 0 → f.indexSeen = true → f.dirChanged = false → ok → (t.fb c).suspect = false ∧ t.mbx = s.mbx) ∧
      (lines ≠ 0 → f.indexSeen = true → f.dirChanged = false → ¬ok → (t.fb c).suspect = true ∧
        (t.fb c).errCount = min (2 ^ 32 - 1) (f.errCount + 1) ∧ (f.limited.getD 1 false = true → t.mbx = s.mbx) ∧
        (f.limited.getD 1 false = false → f.occ.length = 5 → t.mbx = (s.raise 0x0502 c.val
          (leBytes 4 (f.occ.getD 1 0 + 1) ++ leBytes 4 f.count.toNat ++ leInt 4 interval)).mbx)) ∧
      ((lines = 0 ∨ f.indexSeen = false ∨ f.dirChanged = true) → (t.fb c).suspect = f.suspect ∧ t.mbx = s.mbx))

/-- Frames of the absolute modes (R190, R191, R193, R194, R197): the first good one sets the count to its position, a
later one adds the signed change, and either makes it trusted; one that fails its checks sets CHECK_ERR and makes the
count suspect. The nibbles of a SENT frame are read from its pulse widths; FB.POL turns the levels of a serial one
(R178). The forms of the frames are those of the standards that the spec names (assumption 12). The line monitor and
standstill (R187, R196, R197): a line fault that appears makes the count suspect and is reported, one that goes is
reported; with no edge for FB.SPEED_TIMEOUT the speed is 0 and the next period starts anew, and an absolute mode's
count becomes suspect. -/
def Obligations.AbsoluteFramesAndLineMonitor : Prop :=
  (∀ (s : State) (c : Ch), s.hwOn = true → s.hasCh c = true → (s.fb c).running = true →
    let f := s.fb c
    let bits := s.parN Pid.FB_ABS_BITS c.val
    let dir : Int := if s.parB Pid.FB_COUNT_DIR c.val then -1 else 1
    let good := fun (t : State) (value : Nat) =>
      (f.absSeen = false → (t.fb c).count = BitVec.ofNat 32 (s.absField c value)) ∧
      (f.absSeen = true → (t.fb c).count =
        f.count + BitVec.ofInt 32 (dir * sint bits (uint bits ((s.absField c value : Int) - f.absPos)))) ∧
      (t.fb c).absRaw = BitVec.ofNat 64 value ∧ (t.fb c).absPos = s.absField c value ∧ (t.fb c).absSeen = true ∧
      (t.fb c).suspect = false ∧ (t.fb c).checkErr = false ∧ (t.fb c).latched = (t.fb c).count ∧ (∀ d, d ≠ c → t.fb d = s.fb d)
    let bad := fun (t : State) => (t.fb c).count = f.count ∧ (t.fb c).checkErr = true ∧ (t.fb c).suspect = true
    (∀ rx : SentRx, s.parN Pid.FB_MODE c.val = 3 → s.sentOk c rx = true →
      ∃ t : State, exec (.sentFrame c rx) s = .next t ∧
        good t ((sentNibbles rx (s.parN Pid.FB_SENT_NIBBLES c.val)).foldl (fun (a : Nat) n => 16 * a + n.toNat) 0) ∧
        (t.fb c).lastCal = some rx.calNs) ∧
    (∀ rx : SentRx, s.parN Pid.FB_MODE c.val = 3 → s.sentOk c rx = false →
      ∃ t : State, exec (.sentFrame c rx) s = .next t ∧ bad t ∧ (t.fb c).slowBits = []) ∧
    (∀ (x : BitVec 40) (idleHigh : Bool), s.parN Pid.FB_MODE c.val = 4 → f.ssiBusy = true →
      let turned := (s.parN Pid.FB_POL c.val).testBit 0
      let value := (if turned then ~~~x else x).toNat % 2 ^ s.parN Pid.FB_SSI_BITS c.val
      (s.serialOk c value (idleHigh != turned) = true →
        ∃ t : State, exec (.serialFrameEnd c x idleHigh) s = .next t ∧ good t value ∧ (t.fb c).ssiBusy = false) ∧
      (s.serialOk c value (idleHigh != turned) = false →
        ∃ t : State, exec (.serialFrameEnd c x idleHigh) s = .next t ∧ bad t ∧ (t.fb c).ssiBusy = false))) ∧
  (∀ (s : State) (c : Ch) (on : Bool), s.hwOn = true → s.hasCh c = true → (s.fb c).running = true →
    let f := s.fb c
    let mode := s.parN Pid.FB_MODE c.val
    (mode = 6 → s.parB Pid.FB_WSS_MONITOR c.val = true → f.lineOpen ≠ on →
      exec (.lineOpen c on) s = .next ((s.onFb c fun f =>
        { f with lineOpen := on, suspect := f.suspect || on, trustRun := if on then 0 else f.trustRun }).raise 0x0508 c.val
          [BitVec.ofNat 8 (b2n on)])) ∧
    (mode = 6 → s.parB Pid.FB_WSS_MONITOR c.val = true → f.lineShort ≠ on →
      exec (.lineShort c on) s = .next ((s.onFb c fun f =>
        { f with lineShort := on, suspect := f.suspect || on, trustRun := if on then 0 else f.trustRun }).raise 0x0509 c.val
          [BitVec.ofNat 8 (b2n on)])) ∧
    (s.parB Pid.FB_WSS_MONITOR c.val = false →
      exec (.lineOpen c on) s = .next s ∧ exec (.lineShort c on) s = .next s) ∧
    (mode ≠ 0 → exec (.speedTimeout c) s = .next (s.onFb c fun f =>
      { f with periods := [], standstill := true, haveEdge := false, firstPeriod := true,
               suspect := f.suspect || mode == 3 || mode == 4 })))

/-! ### The reflex matrix, converters and filters -/

/-- A firing (R213, R216, R221, R225, R230): it is called, with the members newly active, and takes place at the end of
its fabric cycle (the model's reading, assumption 56), with those that have become active by then: capture, count and
time are kept, and a latched rule is armed. A rule that does not fire, or whose disable was written in the cycle,
captures and counts nothing. What a pulse firing does to its targets at the end of its fabric cycle (R214, R215, R217,
R218, R220): a ramp stop is asked for; an immediate stop, with HOLD ordered; a channel that SOFT_OFF hits is in FAULT
with its FETs off, and SOFT_OFF is ordered, one in DISABLED is not affected; one that PARK hits is in PARKED, and PARK
is ordered. Of SOFT_OFF and PARK in one cycle the lower-numbered rule's governs, and the other rule reads OVERRIDDEN.
A held or latched stop is asked for where its assertion begins. -/
def Obligations.FiringIsCapturedAndActs : Prop :=
  (∀ (s : State) (r : RuleIx), s.hwOn = true →
    let k := s.rule r
    (s.fires r = false → exec (.rfxFiring r) s = .next s) ∧
    (k.enableNext = some false → exec (.rfxFiring r) s = .next s) ∧
    (s.fires r = true → exec (.rfxFiring r) s = .next (s.onRule r fun k =>
      { k with due := true, members := k.members ||| s.newly r })) ∧
    (s.pending = [] → s.fabOn = true →
      ∃ t : State, step s = .next t ∧ (t.rule r).due = false ∧
        (k.due = true → k.enabled = true → k.enableNext ≠ some false →
          (t.rule r).capture = (k.members ||| (if s.condition r = true then s.newly r else 0)) ∧
          (t.rule r).fireCount = min (2 ^ 32 - 1) (k.fireCount + 1) ∧ (t.rule r).fireTime = s.time ∧
          (k.enableNext = none → k.releaseNext = false → (s.ruleWord r).dur = 2 → (t.rule r).armed = true)) ∧
        ((k.due = false ∨ k.enabled = false ∨ k.enableNext = some false) →
          (t.rule r).capture = k.capture ∧ (t.rule r).fireCount = k.fireCount ∧ (t.rule r).fireTime = k.fireTime))) ∧
  (∀ (s : State) (r : RuleIx) (c : Ch), s.hwOn = true → s.fabOn = true → s.pending = [] → s.link.txOn = true →
    let goes := fun q : RuleIx => (s.rule q).due = true ∧ (s.rule q).enabled = true ∧ (s.rule q).enableNext ≠ some false
    let hit := fun q : RuleIx =>
      (s.ruleWord q).dur = 0 ∧
        maskBit (s.extend (s.ruleWord q) (s.targets (s.ruleWord q)
          ((s.rule q).members ||| (if s.condition q = true then s.newly q else 0)))) c = true
    let w := s.ruleWord r
    ∃ t : State, step s = .next t ∧
      (goes r → hit r → (∀ q, q ≠ r → (s.rule q).due = false) →
        (w.action = 1 → (s.chan c).motion.rampReq = none → (t.chan c).motion.rampReq = some .reflex) ∧
        (w.action = 2 → (s.chan c).motion.immReq = none → (t.chan c).motion.immReq = some .reflex ∧ maskBit t.link.hold c = true) ∧
        (w.action = 5 → (s.chan c).state.energised = true →
          (t.chan c).faulted ∧ (t.chan c).causes.rfxOff = true ∧ maskBit t.link.softOff c = true) ∧
        (w.action = 5 → (s.chan c).state = .disabled → maskBit t.link.softOff c = maskBit s.link.softOff c) ∧
        (w.action = 6 → (s.chan c).state ≠ .parked →
          (t.chan c).state = .parked ∧ (t.chan c).parkCause = 2 ∧ maskBit t.link.park c = true) ∧
        (w.action = 0 → (∀ q, q ≠ r → (s.rule q).enabled = false) → t.chans = s.chans ∧ t.link = s.link)) ∧
      (∀ q, r < q → goes r → goes q → hit r → hit q → (∀ p, p ≠ r → p ≠ q → (s.rule p).due = false) →
        (s.chan c).state.energised = true →
        (w.action = 5 → (s.ruleWord q).action = 6 → (t.chan c).faulted ∧ (t.chan c).causes.rfxOff = true ∧
          (t.rule r).overridden = false ∧ (t.rule q).overridden = true) ∧
        (w.action = 6 → (s.ruleWord q).action = 5 → (t.chan c).state = .parked ∧ (t.chan c).parkCause = 2 ∧
          (t.rule r).overridden = false ∧ (t.rule q).overridden = true)) ∧
      (maskBit (s.begun r) c = true → (∀ q, (s.rule q).due = false) →
        (w.action = 1 → (s.chan c).motion.rampReq = none → (t.chan c).motion.rampReq = some .reflex) ∧
        (w.action = 2 → (s.chan c).motion.immReq = none → (t.chan c).motion.immReq = some .reflex ∧ maskBit t.link.hold c = true)))

/-- Triggers (R246, R247, R259): one that is due books a pass at the first CLK_MOD edge at or after it plus
ADC.TRIG_DELAY; inside a pass it is counted as an overrun and reported unless a report was made within 10 ms, but not
under an endless entry, which also ignores one that comes with a pass booked. Edges at multiples of 24 fabric cycles
are the model's choice (assumption 83). A booked pass begins at its edge with entry 0 (R244, R247 to R249): the
multiplexer selects the entry's input and gain at once, or, where the front end was off, after 400 clocks, and then
the first result is discarded; the decimator ignores the bits on their way and those of ADC.E_SETTLE. One whose edge
comes while a pass runs is ignored and counted (the model's choice, assumption 115), and those booked behind it wait
for their own edges. The odd member of an interleaved pair begins half a ratio later. -/
def Obligations.TriggersStartPassesOrOverrun : Prop :=
  (∀ (s : State) (m : ModIx), s.hwOn = true → (s.modu m).running = true → s.triggerDue m = true →
    ((s.modu m).paired = false ∨ m.val % 2 = 0) →
    let k := s.modu m
    let taken := fun (k : Modulator) =>
      { k with pwmEvents := 0
               nextTimer := if s.parN Pid.ADC_TRIG_SRC m.val = 0 then k.nextTimer + 24 * s.parN Pid.ADC_TIMER_PERIOD m.val
                 else k.nextTimer }
    (k.inPass = false → (s.endless m = false ∨ k.due = []) →
      exec (.adcTrigger m) s = .next (s.onMod m fun k =>
        { taken k with due := k.due ++ [(s.fc + s.parN Pid.ADC_TRIG_DELAY m.val + 23) / 24 * 24] })) ∧
    ((k.inPass = true ∨ k.due ≠ []) → s.endless m = true → exec (.adcTrigger m) s = .next (s.onMod m taken)) ∧
    (k.inPass = true → s.endless m = false → k.ovrLimited = true →
      exec (.adcTrigger m) s = .next (s.onMod m fun k =>
        { taken k with overrun := min (2 ^ 32 - 1) (k.overrun + 1), overrunNew := k.overrunNew + 1 })) ∧
    (k.inPass = true → s.endless m = false → k.ovrLimited = false →
      exec (.adcTrigger m) s = .next ((s.onMod m fun k =>
        { taken k with overrun := min (2 ^ 32 - 1) (k.overrun + 1), overrunNew := 0, ovrLimited := true }).raise
          0x0702 m.val (leBytes 4 (k.overrunNew + 1))))) ∧
  (∀ (s : State) (m : ModIx), s.hwOn = true → (s.modu m).running = true →
    let k := s.modu m
    let delay := if k.powered then 0 else 400
    (∀ edge rest, k.due = edge :: rest → edge ≤ s.fc → k.inPass = false → k.paired = false →
      ∃ t : State, exec (.passStart m) s = .next t ∧ t = { s with mods := t.mods, pd := { s.pd with mux := t.pd.mux } } ∧
        t.modu m = { k with
          due := rest, inPass := true, entry := 0, done := 0, ended := false, discard := !k.powered, powered := true
          wait := s.inFlight + delay + (s.ePar m 0 Pid.ADC_E_SETTLE).toNat
          sinc := Sinc.init (s.ePar m 0 Pid.ADC_E_ORDER).toNat } ∧
        (∀ d, d ≠ m → t.modu d = s.modu d ∧ t.pd.mux[d] = s.pd.mux[d]) ∧ t.pd.mux[m].frontEnd = true ∧
        (k.powered = true → t.pd.mux[m].phase = .entry ∧ t.pd.mux[m].entry = 0 ∧
          t.pd.mux[m].input = s.muxPar m 0 Pid.ADC_E_INPUT ∧ t.pd.mux[m].gain = s.muxPar m 0 Pid.ADC_E_GAIN) ∧
        (k.powered = false → t.pd.mux[m].phase = .startUp ∧ t.pd.mux[m].left = 400)) ∧
    (∀ edge rest, k.due = edge :: rest → edge ≤ s.fc → k.inPass = false → k.paired = true → m.val % 2 = 0 →
      (s.modu (oddOf m)).paired = true → (s.modu (oddOf m)).powered = true →
      ∃ t : State, exec (.passStart m) s = .next t ∧ (t.modu m).inPass = true ∧ (t.modu (oddOf m)).inPass = true ∧
        (t.modu (oddOf m)).entry = 0 ∧
        (t.modu (oddOf m)).wait =
          s.inFlight + (s.ePar m 0 Pid.ADC_E_RATIO).toNat / 2 + (s.ePar m 0 Pid.ADC_E_SETTLE).toNat) ∧
    (∀ edge rest, k.due = edge :: rest → edge ≤ s.fc → k.inPass = true → k.ovrLimited = true →
      exec (.passStart m) s = .next (s.onMod m fun k =>
        { k with due := rest, overrun := min (2 ^ 32 - 1) (k.overrun + 1), overrunNew := k.overrunNew + 1 })) ∧
    (∀ edge rest, k.due = edge :: rest → s.fc < edge → exec (.passStart m) s = .next s) ∧
    (k.due = [] → exec (.passStart m) s = .next s))

/-- A finished calibration step that nothing cut short (R254, R255): a zero step that passes keeps the mean, a full-scale
step that passes stores the offset at once and the gain in a later fabric cycle (R367, assumption 118), a step that
fails keeps the values; each is reported with its reason. A window boundary of a Gradebook entry, taken once at its
device time (R257, R258, R260): the window in progress keeps its length; where it ends, its accumulators are published
and cleared under the next number; an enabled entry whose windows begin here begins to accumulate, a disabled one
ends; a device time that is no multiple is no boundary. -/
def Obligations.CalibrationStepsAndGradebookWindows : Prop :=
  (∀ (s : State) (m : ModIx) (e : Fin 16) (k : CalRun), s.fwOn = true → s.entries[entryIx m e.val].cal = some k →
    (∀ d : Fin 16, d < e → ∀ q, s.entries[entryIx m d.val].cal = some q → q.done = false) →
    64 ≤ k.values.length → k.ended = none →
    let i := entryIx m e.val
    let x := s.entries[i]
    let f := meanOf k.values
    let reason := s.calReason i k x.zero
    let report := fun (t : State) (code : Byte) => t.raise 0x0701 m.val
      ([BitVec.ofNat 8 e.val, BitVec.ofNat 8 k.step, code, BitVec.ofNat 8 reason] ++ leBytes 4 (BitVec.ofInt 32 f).toNat)
    (reason = 0 → k.step = 1 →
      exec (.calibrationStepComplete m) s = .next (report (s.onEntry i fun _ => ⟨some f, 0, none⟩) Result.ok.code)) ∧
    (∀ z, reason = 0 → k.step = 2 → x.zero = some z → s.freeUnit Pid.ADC_CAL_OFFSET i.val →
      let gain := (Pid.ADC_CAL_GAIN, i.val, divNear (s.par Pid.ADC_CAL_TARGET i.val * 4194304) (f - z))
      let t := ((s.onEntry i fun _ => ⟨none, 0, none⟩).setPar Pid.ADC_CAL_OFFSET i.val z).noteWrite (unitOf Pid.ADC_CAL_OFFSET i.val)
      exec (.calibrationStepComplete m) s = .next (report { t with mbx := { t.mbx with later := s.mbx.later ++ [gain] } } Result.ok.code)) ∧
    (reason ≠ 0 →
      exec (.calibrationStepComplete m) s = .next
        (report (s.onEntry i fun _ => ⟨x.zero, reason, none⟩) Result.calReject.code))) ∧
  (∀ (s : State) (g : EntryIx), s.hwOn = true →
    let k := s.gb g
    let w := s.parN Pid.GB_WINDOW g.val
    let ends := k.active = true ∧ k.window ≠ 0 ∧ s.time % k.window = 0
    let begins := k.enabled = true ∧ w ≠ 0 ∧ s.time % w = 0
    (k.closed = some s.time → exec (.gbWindowBoundary g) s = .next s) ∧
    (k.closed ≠ some s.time → ends →
      ∃ t : State, exec (.gbWindowBoundary g) s = .next t ∧ t = { s with gbs := t.gbs } ∧ (∀ d, d ≠ g → t.gb d = s.gb d) ∧
        (t.gb g).pub = some ⟨s.time, k.acc, false, k.pub.isSome && !k.read, (k.seq + 1) % 65536⟩ ∧ (t.gb g).read = false ∧
        (t.gb g).seq = (k.seq + 1) % 65536 ∧ (t.gb g).acc = GbAcc.init ∧ (t.gb g).closed = some s.time ∧
        (t.gb g).enabled = k.enabled ∧ ((t.gb g).active = true ↔ begins) ∧
        (begins → (t.gb g).window = w ∧ (t.gb g).src = s.parN Pid.GB_SOURCE g.val)) ∧
    (k.closed ≠ some s.time → k.active = false → begins →
      exec (.gbWindowBoundary g) s = .next (s.onGb g fun k =>
        { k with closed := some s.time, active := true, window := w, src := s.parN Pid.GB_SOURCE g.val, acc := GbAcc.init })) ∧
    (k.closed ≠ some s.time → ¬ends → (k.active = true ∨ ¬begins) →
      exec (.gbWindowBoundary g) s = .next (s.onGb g fun k => { k with closed := some s.time })))

/-- A slot of a filter channel, at its write cycle in an active frame (R266 to R277, R291): the stage of the running page
takes the input, a DIRECT channel's newest result that left before the slot's start, the others counted as dropped, or
a RESAMPLE channel's sum of 16 results at its phase, and writes bypass, the cascade of sections or the FIR sum,
rounded to even and saturated. Settling outputs are not written. With no new result DIRECT uses the last value again,
16 times, and then the channel starves, as a RESAMPLE channel does without 8 results on either side; a starved one
takes the figures of its feeder's latest start. A stop applied before the slot's start ends the channel, and a stopped
channel, or one outside its slot or its active frames, does nothing. The resampler's coefficients are free within R271
(assumption 4). -/
def Obligations.FilterSlotWritesItsOutput : Prop :=
  ∀ (s : State) (f : FltIx), s.hwOn = true → s.hasFlt = true →
    let k := s.flt f
    let p := s.page f k.page1
    let direct := s.parN Pid.FLT_INPUT_MODE f.val ≠ 1
    let atSlot := k.running = true ∧ s.atWrite f = true ∧ s.frameActive f = true ∧ k.stopReq = none ∧ k.swapPending = none
    let plain := atSlot ∧ k.primed = true ∧ k.starved = false
    let rest := fun (t : State) => t = { s with flts := t.flts, gbs := t.gbs, cmps := t.cmps, mbx := t.mbx } ∧
      ∀ g, g ≠ f → t.flt g = s.flt g
    let code := fun y : Int => clamp (-8388607) 8388607 (roundEven y 8)
    let wide := fun y : Int => clamp (-(2 ^ 31 - 1)) (2 ^ 31 - 1) (roundEven y 22)
    (k.running = false → exec (.filterSlot f) s = .next s) ∧
    (s.atWrite f = false → exec (.filterSlot f) s = .next s) ∧
    (s.frameActive f = false → s.stopDue f = false → exec (.filterSlot f) s = .next s) ∧
    (∀ fc, k.running = true → s.atWrite f = true → k.stopReq = some fc → fc + 720 ≤ s.fc → k.swapPending = none →
      exec (.filterSlot f) s = .next (s.onFlt f fun k =>
        { k with running := false, stopReq := none, starved := false, settleLeft := 0 })) ∧
    (∀ late r older, plain → direct → k.inputs.take k.fresh = late ++ r :: older → (∀ q, q ∈ late → s.fc ≤ q.fc + 720) →
      (∀ q, q ∈ r :: older → q.fc + 720 < s.fc) → r.lost = false →
      ∃ t : State, exec (.filterSlot f) s = .next t ∧ rest t ∧
        (t.flt f).fresh = late.length ∧ (t.flt f).dropped = min (2 ^ 32 - 1) (k.dropped + (k.fresh - late.length - 1)) ∧
        (t.flt f).lastIn = r.code ∧ (t.flt f).heldRun = 0 ∧ (t.flt f).underrun = k.underrun ∧
        (p.ty = 1 → k.biquad.length = p.len → (t.flt f).biquad = (cascade p 0 (r.code * 256) k.biquad).2.1) ∧
        (p.ty = 2 → (t.flt f).fir = (r.code * 256 :: k.fir).take 64) ∧
        (0 < k.settleLeft → (t.flt f).settleLeft = k.settleLeft - 1 ∧ (t.flt f).output = k.output ∧
          (t.flt f).written = k.written ∧ t.gbs = s.gbs ∧ t.cmps = s.cmps) ∧
        (k.settleLeft = 0 → (t.flt f).heldOut = false ∧ (t.flt f).lostOut = decide (0 < k.lostLeft) ∧
          (t.flt f).written = ((t.flt f).output :: k.written).take 256 ∧
          (p.ty = 0 → (t.flt f).output = clamp (-8388607) 8388607 r.code) ∧
          (p.ty = 1 → k.biquad.length = p.len → (t.flt f).output = code (cascade p 0 (r.code * 256) k.biquad).1) ∧
          (p.ty = 2 → (t.flt f).output =
            code (wide ((List.zipWith (· * ·) (p.coef.take p.len) ((r.code * 256 :: k.fir).take 64)).foldl (· + ·) 0))))) ∧
    (∀ i x z zs, cascade p i x [] = (x, [], 0) ∧
      (cascade p i x (z :: zs)).1 = (cascade p (i + 1)
        (wide (p.c (5 * i) * x + p.c (5 * i + 1) * z.1 + p.c (5 * i + 2) * z.2.1 - p.c (5 * i + 3) * z.2.2.1 -
          p.c (5 * i + 4) * z.2.2.2)) zs).1) ∧
    (∀ late r older, atSlot → k.primed = false → direct → k.inputs.take k.fresh = late ++ r :: older →
      (∀ q, q ∈ late → s.fc ≤ q.fc + 720) → (∀ q, q ∈ r :: older → q.fc + 720 < s.fc) → r.lost = false → k.starved = false →
      0 < k.settleInForce →
      ∃ t : State, exec (.filterSlot f) s = .next t ∧ rest t ∧ (t.flt f).primed = true ∧ (t.flt f).output = k.output ∧
        (t.flt f).settleLeft = k.settleInForce - 1 ∧ t.gbs = s.gbs ∧
        (p.ty = 2 → (t.flt f).fir = List.replicate 64 (r.code * 256))) ∧
    (plain → direct → k.fresh = 0 → p.ty = 0 → k.heldRun < 16 → k.settleLeft = 0 →
      ∃ t : State, exec (.filterSlot f) s = .next t ∧ rest t ∧ (t.flt f).output = clamp (-8388607) 8388607 k.lastIn ∧
        (t.flt f).heldOut = true ∧ (t.flt f).underrun = min (2 ^ 32 - 1) (k.underrun + 1) ∧ (t.flt f).heldRun = k.heldRun + 1) ∧
    (let newest := k.inputs.filter fun q => q.fc + 720 < s.fc
     let x : Int := (s.fc : Int) - 720 - 8 * k.rsRatio
     let n := (newest.takeWhile fun q => x < q.fc).length
     let starves := (direct ∧ k.fresh = 0 ∧ 16 ≤ k.heldRun) ∨ (¬direct ∧ (n < 8 ∨ newest.length < n + 8))
     (plain → starves →
      ∃ t : State, exec (.filterSlot f) s = .next t ∧ t = { s with flts := t.flts } ∧ (t.flt f).starved = true ∧
        (t.flt f).underrun = min (2 ^ 32 - 1) (k.underrun + 1) ∧ (t.flt f).output = k.output ∧ (t.flt f).written = k.written ∧
        ((k.figures = none ∨ s.fwOn = false) → (t.flt f).rsRatio = k.rsRatio ∧ (t.flt f).rsLag = k.rsLag) ∧
        (∀ q, k.figures = some q → s.fwOn = true → (t.flt f).rsRatio = q.1 ∧ (t.flt f).rsLag = q.2)) ∧
     (∀ rj, plain → ¬direct → 8 ≤ n → n + 8 ≤ newest.length → newest[n]? = some rj → 0 < k.rsRatio →
      let num := (x - rj.fc) * 64
      let phase := (num / k.rsRatio).toNat
      2 * (num % k.rsRatio) < k.rsRatio → phase < 64 → k.settleLeft = 0 → p.ty = 0 →
      ∃ t : State, exec (.filterSlot f) s = .next t ∧ rest t ∧ (t.flt f).fresh = 0 ∧ (t.flt f).heldOut = false ∧
        (t.flt f).output = code (wide (((List.range 16).map fun i =>
          ((newest[n + 7 - i]?).elim 0 fun q : ResultIn => q.code) * 256 * resampleTap phase i).foldl (· + ·) 0))))

/-! ### CAN and auxiliary outputs -/

/-- A received frame (R379 to R382, R391, R392, R378): every filter that matches counts a hit and the lowest governs; a
frame to be stored joins the ring under the next number, or is lost to a full ring that does not overwrite, a gateway
frame joins the gateway's queue, and the gateway refuses and counts a remote frame as every classic one; in a search a
frame counts while the candidate's timing is in use, and the last one that is asked for locks the bit rate, in an
Eclipse at the restart (R397). The frame of another node is what a leaving controller waits for (R376). That a remote
frame passes the filters and is counted, and stored under none, is the model's reading (assumption 35). -/
def Obligations.ReceivedFrameIsGovernedByItsFilter : Prop :=
  ∀ (s : State) (c : CanIx) (f : CanFrame) (ago : Nat), s.hwOn = true → (s.can c).active = true →
    (f.fd = true → s.canB c Pid.CAN_FD_ENABLE = true) →
    let k := s.can c
    let ms := s.matching c f
    let next := if k.nextRxSeq = 65535 then 1 else k.nextRxSeq + 1
    ∃ t : State, exec (.canFrameReceived c f ago) s = .next t ∧
      t = { s with cans := t.cans, params := t.params, pulses := t.pulses, mbx := t.mbx } ∧ (∀ d, d ≠ c → t.can d = s.can d) ∧
      (∀ i : Fin 128, (t.can c).hits[i] = if ms.contains i then min (2 ^ 32 - 1) (k.hits[i] + 1) else k.hits[i]) ∧
      (k.detecting = false → t.params = s.params) ∧ (t.can c).tec = k.tec ∧ (t.can c).tx = k.tx ∧
      (k.phase = .leaving → (t.can c).phase = .stopped ∧ (t.can c).detecting = false) ∧ (k.phase = .onBus → (t.can c).phase = .onBus) ∧
      (f.rtr = true → (t.can c).ring = k.ring) ∧
      ((s.canB c Pid.CAN_GW_ENABLE = false ∨
          ∀ i rest, ms = i :: rest → s.parN Pid.CAN_FLT_ACTION (c.val * 128 + i.val) % 4 ≠ 2) →
        (t.can c).gwQueue = k.gwQueue ∧ (t.can c).gwRefused = k.gwRefused) ∧
      (ms = [] → s.canB c Pid.CAN_RX_DEFAULT = false → (t.can c).ring = k.ring ∧ t.mbx = s.mbx) ∧
      (ms = [] → s.canB c Pid.CAN_RX_DEFAULT = true → f.rtr = false → k.ring.length < 64 →
        (t.can c).ring = k.ring ++ [⟨k.nextRxSeq, 0, true, f, s.time - ago⟩] ∧ (t.can c).nextRxSeq = next) ∧
      (∀ i rest, ms = i :: rest → f.rtr = false → s.parN Pid.CAN_FLT_ACTION (c.val * 128 + i.val) % 4 = 1 →
        (k.ring.length < 64 → (t.can c).ring = k.ring ++ [⟨k.nextRxSeq, i.val, false, f, s.time - ago⟩] ∧
          (t.can c).nextRxSeq = next) ∧
        (64 ≤ k.ring.length → s.canB c Pid.CAN_RX_OVERWRITE = false →
          (t.can c).ring = k.ring ∧ (t.can c).overruns = min (2 ^ 32 - 1) (k.overruns + 1)) ∧
        (64 ≤ k.ring.length → s.canB c Pid.CAN_RX_OVERWRITE = true →
          (t.can c).ring = k.ring.drop 1 ++ [⟨k.nextRxSeq, i.val, false, f, s.time - ago⟩] ∧
          (t.can c).overruns = min (2 ^ 32 - 1) (k.overruns + 1))) ∧
      (∀ i rest, ms = i :: rest → s.parN Pid.CAN_FLT_ACTION (c.val * 128 + i.val) % 4 = 2 →
        s.canB c Pid.CAN_GW_ENABLE = true →
        (t.can c).ring = k.ring ∧
        (f.fd = true → 8 ≤ f.data.length → k.restricted = false → k.gwQueue.length < 8 →
          (t.can c).gwQueue = k.gwQueue ++ [(f.data, s.boot.eclipse || s.boot.halted)]) ∧
        ((f.fd = false ∨ f.data.length < 8 ∨ k.restricted = true ∨ 8 ≤ k.gwQueue.length) →
          (t.can c).gwQueue = k.gwQueue ∧ (t.can c).gwRefused = min (2 ^ 32 - 1) (k.gwRefused + 1))) ∧
      (k.phase = .onBus → k.detecting = true → k.lockDue = false → k.dwellDue = false →
        k.timing.toNat ≠ candidateWord k.candidate → (t.can c).detecting = true ∧ (t.can c).validRun = k.validRun) ∧
      (k.phase = .onBus → k.detecting = true → k.timing.toNat = candidateWord k.candidate →
        s.parN Pid.CAN_DETECT_FRAMES c.val ≤ k.validRun + 1 →
        (s.fwOn = true → s.canonical = true →
          (t.can c).detecting = false ∧ (t.can c).detectResult = k.candidate + 2 ∧
          t.par Pid.CAN_NOMINAL c.val = candidateWord k.candidate) ∧
        (s.fwOn = false → (t.can c).detecting = true ∧ (t.can c).lockDue = true ∧ (t.can c).detectResult = k.detectResult ∧
          t.params = s.params))

/-- Joining and leaving traffic (R376, R378, R388 to R390): integration ends on the bus; BUS_STUCK is reported as it
changes; a search goes on to the next candidate; an error counts, beyond 255 takes the controller off the bus, and
under restricted operation makes it integrate anew, and it ends the frame in progress that a leaving controller waits
for; recovery clears the counters and, unless they are kept, the buffers. A dwell that expires in an Eclipse takes its
step at the restart (R397). An error adds 8 or 1 by ISO 11898-1 (PRESUMED, assumption 12); that the counters stop at
65,535, BUS_OFF with 0 comes before REINTEGRATED, and BUS_STUCK counts in a stopped controller too, is the model's
reading (assumption 35). -/
def Obligations.CanJoinsErrsAndRejoins : Prop :=
  ∀ (s : State) (c : CanIx), s.hwOn = true →
    let k := s.can c
    (k.phase = .integrating → exec (.canIntegrated c) s = .next (s.onCan c fun k => { k with phase := .onBus })) ∧
    (k.phase ≠ .integrating → exec (.canIntegrated c) s = .next s) ∧
    (∀ on, s.hasCan c = true → k.stuck ≠ on → exec (.busStuck c on) s = .next ((s.onCan c fun k =>
      { k with stuck := on }).raise 0x0904 c.val [BitVec.ofNat 8 (b2n on)])) ∧
    (exec (.busStuck c k.stuck) s = .next s) ∧ (s.hasCan c = false → ∀ on, exec (.busStuck c on) s = .next s) ∧
    (s.fwOn = true → k.detecting = true → k.lockDue = false → exec (.detectDwellExpiry c) s = .next (s.onCan c fun k =>
      { k with candidate := nextCandidate (s.parN Pid.CAN_DETECT_SET c.val) k.candidate, validRun := 0, dwellDue := false,
               changePending := true })) ∧
    (s.fwOn = false → k.detecting = true →
      exec (.detectDwellExpiry c) s = .next (s.onCan c fun k => { k with dwellDue := true })) ∧
    (k.detecting = false → exec (.detectDwellExpiry c) s = .next s) ∧
    (∀ e : CanErr, k.phase = .leaving → k.busOff = false →
      ∃ t : State, exec (.canBusError c e) s = .next t ∧ (t.can c).phase = .stopped ∧ (∀ d, d ≠ c → t.can d = s.can d)) ∧
    (∀ e : CanErr, k.phase = .onBus → k.busOff = false → k.restricted = false →
      let rec' := match e with
        | .receiver => min 65535 (k.recv + 1)
        | .receiverPrimary => min 65535 (k.recv + 8)
        | .transmitter => k.recv
      let tec' := match e with
        | .transmitter => min 65535 (k.tec + 8)
        | _ => k.tec
      (tec' ≤ 255 → exec (.canBusError c e) s = .next (s.onCan c fun k => { k with validRun := 0, recv := rec', tec := tec' })) ∧
      (255 < tec' → exec (.canBusError c e) s = .next ((s.onCan c fun k =>
        { k with validRun := 0, recv := rec', tec := tec', busOff := true,
                 recovering := s.canB c Pid.CAN_BUSOFF_AUTO }).raise 0x0903 c.val [1]))) ∧
    (∀ e : CanErr, k.phase = .onBus → k.busOff = false → k.restricted = true →
      exec (.canBusError c e) s = .next (s.onCan c fun k => { k with validRun := 0, phase := .integrating })) ∧
    (k.busOff = true → k.recovering = true →
      let keep := s.canB c Pid.CAN_KEEP_TX_ON_REJOIN
      ∃ t : State, exec (.reintegrated c) s = .next ((t.raise 0x0903 c.val [0]).raise 0x0905 c.val [BitVec.ofNat 8 (b2n keep)]) ∧
        t = { s with cans := t.cans, pulses := t.pulses } ∧
        t.can c = { k with tec := 0, recv := 0, busOff := false, recovering := false,
                           sending := if keep then k.sending else none, sofAt := if keep then k.sofAt else none,
                           tx := if keep then k.tx else Vector.replicate 32 none }) ∧
    (k.busOff = false → exec (.reintegrated c) s = .next s)

/-- Transmission (R382, R384 to R386, R388): a frame becomes pending at its time; the one offered begins with the stamp of
its SOF; a success frees the buffer, lowers TEC by 1 (ISO 11898-1; PRESUMED, assumption 12) and is reported as
CAN.TX_REPORT selects; a lost or failed attempt is offered again; a frame past its late limit is withdrawn, or marked
while its attempt runs. A controller that is leaving stops with the end, but after lost arbitration with that of the
winner's frame (R376). The stamp is the device time of the fabric cycle that holds the sample point of the SOF, and an
FD frame says whether the controller is error-passive (R373). A frame whose start waits in the queue has begun for the
other commands of its fabric cycle: that they are of one cycle is the model's reading (assumption 7). -/
def Obligations.TransmissionBeginsEndsOrIsWithdrawn : Prop :=
  ∀ (s : State) (c : CanIx) (b : Fin 32) (f : TxFrame), s.hwOn = true → (s.can c).tx[b] = some f →
    let k := s.can c
    let limit := s.parN Pid.CAN_LATE_LIMIT c.val
    let report := s.parN Pid.CAN_TX_REPORT c.val
    let bufs := fun (t : State) (x : Option TxFrame) => t = { s with cans := t.cans, pulses := t.pulses } ∧
      (∀ d, d ≠ c → t.can d = s.can d) ∧ (t.can c).tx = k.tx.set b x
    (f.timed = true → f.txTime ≤ s.time → exec (.txTimeReached c b) s = .next (s.onCan c fun k =>
      { k with tx := k.tx.set b (some { f with pending := true }) })) ∧
    (f.timed = true → s.time < f.txTime → exec (.txTimeReached c b) s = .next s) ∧
    (k.phase = .onBus → k.busOff = false → k.restricted = false → k.sending = none → k.offered b = true →
      ∃ t : State, exec (.txTimedStart c b) s = .next t ∧
        bufs t (some { f with begun := true, frame := { f.frame with
          esi := f.frame.fd && (decide (128 ≤ k.tec) || decide (128 ≤ k.recv)) } }) ∧
        (t.can c).sending = some b ∧ (t.can c).tec = k.tec ∧
        (t.can c).sofAt = some (s.fc + 3 * ((k.timing.toNat / 2 ^ 16 % 2 ^ 9 + 2) * (k.timing.toNat % 2 ^ 9 + 1)))) ∧
    (∀ a fc time, k.sofAt = some a → k.sending = some b → a ≤ fc →
      (k.stampSof fc time).tx = k.tx.set b (some { f with sof := time }) ∧ (k.stampSof fc time).sofAt = none) ∧
    (∀ a fc time, k.sofAt = some a → fc < a → k.stampSof fc time = k) ∧
    (k.offered b = false → exec (.txTimedStart c b) s = .next s) ∧
    (k.sending = some b → k.phase ≠ .leaving →
      ∃ t : State, bufs t none ∧ (t.can c).sending = none ∧ (t.can c).tec = k.tec - 1 ∧ (t.can c).phase = k.phase ∧
        t.pulses.contains (1104 + 16 * c.val + 1) = true ∧
        ((report = 2 ∨ (report = 1 ∧ f.timed = true)) →
          exec (.txAttemptEnd c .success) s = .next (t.raiseAt f.sof 0x0901 c.val (leBytes 2 f.handle))) ∧
        (¬(report = 2 ∨ (report = 1 ∧ f.timed = true)) → exec (.txAttemptEnd c .success) s = .next t)) ∧
    (k.sending = some b → k.phase ≠ .leaving → f.late = false → ∀ e : TxEnd, e ≠ .success →
      exec (.txAttemptEnd c e) s = .next (s.onCan c fun k =>
        { k with sending := none, sofAt := none, tx := k.tx.set b (some { f with begun := false }) })) ∧
    (k.sending = some b → k.phase ≠ .leaving → f.late = true → ∀ e : TxEnd, e ≠ .success →
      ∃ t : State, bufs t none ∧ (t.can c).sending = none ∧
        exec (.txAttemptEnd c e) s = .next (t.raise 0x0902 c.val (leBytes 2 f.handle))) ∧
    (k.sending = some b → k.phase = .leaving → ∀ e : TxEnd,
      ∃ t : State, exec (.txAttemptEnd c e) s = .next t ∧ (t.can c).sending = none ∧
        (t.can c).phase = (if e = .lostArbitration then .leaving else .stopped) ∧
        (e = .success → (t.can c).tx[b] = none) ∧ (∀ d, d ≠ c → t.can d = s.can d)) ∧
    (f.timed = true → limit ≠ 4294967295 → f.txTime + limit ≤ s.time → f.begun = false → Instr.txTimedStart c b ∉ s.pending →
      ∃ t : State, bufs t none ∧ exec (.txLateDropped c b) s = .next (t.raise 0x0902 c.val (leBytes 2 f.handle))) ∧
    (f.timed = true → limit ≠ 4294967295 → f.txTime + limit ≤ s.time →
      (f.begun = true ∨ (Instr.txTimedStart c b ∈ s.pending ∧ s.canBegin c b = true)) →
      exec (.txLateDropped c b) s = .next (s.onCan c fun k => { k with tx := k.tx.set b (some { f with late := true }) })) ∧
    ((f.timed = false ∨ limit = 4294967295 ∨ s.time < f.txTime + limit) → exec (.txLateDropped c b) s = .next s)

/-- Period starts and trips (R401 to R403, R405 to R410). A period start that lies in a fabric cycle to come, or of an
output without one, does nothing. One that is due always takes place: an output that stops is stopped there and drops
its copies; one that goes on begins its period at its place on the grid, with the copy and the force that were written
before this fabric cycle, AUX_SAFE as it was asserted at the end of the cycle before and the trips as they stand, and
keeps how the ball was driven before. A comparator judges the level at its input against its threshold, without the
error and the hysteresis of R488 (assumption 117). One that becomes active always shows itself; with its trip enabled
it latches and holds its mapped outputs at the safe level, in a debug halt too; one that returns clears no latch. A
variant without the unit has no trips: nothing changes (the model's reading, assumption 64). That a stop before period
0 takes effect there, and that a stopped output is not held by a trip, are the model's reading (assumption 57). -/
def Obligations.AuxPeriodsAndTrips : Prop :=
  ∀ (s : State),
    (∀ k : AuxIx, let o := s.aux k
      let grid := o.run ≠ .stopped ∧ o.run ≠ .armed
      let pulsed := fun t : State => if k.val % 4 = 0 then t.pulse (1144 + k.val / 4) else t
      let begun := { o with
        before := o.drive (s.parB Pid.AUX_ALIGN k.val), startAt := o.nextAt, rfxSafe := o.safeSeen, tripHeld := s.tripped k
        force := o.forceNext.getD o.force, forceNext := none, copy := none }
      let act := o.copy.getD (o.periodAct, o.dutyAct)
      ((s.hwOn = false ∨ ¬grid ∨ 32 * (s.fc + 1) ≤ o.nextAt) → exec (.auxPeriodStart k) s = .next s) ∧
      (s.hwOn = true → o.run = .stopping ∨ o.run = .withdrawn → o.nextAt < 32 * (s.fc + 1) →
        exec (.auxPeriodStart k) s = .next (pulsed (s.onAux k fun _ => { begun with run := .stopped, copyNew := none }))) ∧
      (s.hwOn = true → o.run = .running ∨ o.run = .starting → o.nextAt < 32 * (s.fc + 1) →
        exec (.auxPeriodStart k) s = .next (pulsed (s.onAux k fun _ =>
          { begun with run := .running, periodAct := act.1, dutyAct := act.2, nextAt := o.nextAt + act.1 })))) ∧
    (∀ x : TripLevel, let i := x.trip
      let k := s.trip i
      let threshold := 25 * s.parN Pid.AUX_TRIP_THRESH i.val
      let active := if s.parB Pid.AUX_TRIP_POL i.val = true then 2 * x.mv.toNat < threshold else threshold < 2 * x.mv.toNat
      (s.hasTrip = true → active → s.phase = .runtime → k.enabled = true → k.latch = false →
        ∃ t : State, exec (.auxTrip x) s = .next t ∧ t = { s with auxs := t.auxs, trips := t.trips } ∧
          (∀ j, j ≠ i → t.trip j = s.trip j) ∧ t.trip i = { k with level := x.mv, latch := true } ∧
          ∀ o : AuxIx, t.aux o =
            if (s.parN Pid.AUX_TRIP_MAP i.val).testBit o.val = true ∧ (s.aux o).run ≠ .stopped
              then { s.aux o with tripHeld := true } else s.aux o) ∧
      (s.hasTrip = true → active → s.phase ≠ .runtime ∨ k.enabled = false ∨ k.latch = true →
        exec (.auxTrip x) s = .next (s.onTrip i fun k => { k with level := x.mv })) ∧
      (s.hasTrip = true → ¬active → exec (.tripComparatorInactive x) s = .next (s.onTrip i fun k => { k with level := x.mv })) ∧
      ((s.hasTrip = false ∨ ¬active) → exec (.auxTrip x) s = .next s) ∧
      ((s.hasTrip = false ∨ active) → exec (.tripComparatorInactive x) s = .next s))

/-! ### Power, reset and firmware -/

/-- The causes of a reset (R418 to R420, R423, R424, R426, R429, R432, R434): each holds the control die in reset, every
unit of it at its reset state and VEXC off, and is noted for the next DEV.RESET_DETAIL; that detail takes every cause
since the last runtime start, that of causes in one guard cycle the lowest is the first, and that a low of RESET_N
adds none while only a release is awaited, are the model's reading (assumption 43). A supervisor that trips in deep
standby resets nothing; a loss of VSTBY resets the die, drops a latched wake and ends the pulse on RESET_N (R420,
R429). That feedback line levels, the voltages at the trip inputs and the safe-input levels are kept, and limit inputs
read inactive, is the model's choice (assumption 42). Out of reset (R423 to R425, R429, R432, R451): the pulse on
RESET_N that a cause asks for comes once every supply is released and the root is qualified; the cold boot, once
RESET_N reads high behind it, leaves every unit at its reset state, unless boundary scan holds the die; a wake in deep
standby starts the same sequence with cause 2. During the entry a wake is latched from its beginning on (the model's
reading, assumption 44). The temperature reads 0 until the first report (the model's choice, assumption 1). -/
def Obligations.ResetCausesAndTheColdBoot : Prop :=
  (∀ s : State,
    let dark := { s.pd with banks := s.pd.banks.map fun b => { b with vexc := false } }
    let noted := fun (n : Nat) (p : Power) =>
      { p with arose := p.arose ||| BitVec.ofNat 6 (2 ^ n), pulseDue := p.pulseDue || decide (n = 0 ∨ n = 2 ∨ n = 3 ∨ n = 4)
               first := some (match p.first with
                 | none => n
                 | some m => if p.guarding = true then min m n else m)
               guarding := p.guarding || p.first.isNone }
    let held := fun (p : Power) (pd : PowerDie) => ({ State.reset with
      phase := .reset, pending := s.pending, fc := s.fc, otp := s.otp, boot := s.boot, pd := pd
      power := { p with entering := .none, auxDomain := false }, sec := { s.sec with debugHalt := false }
      fbs := s.fbs.map fun f => { Fb.init with lineA := f.lineA, lineB := f.lineB, lineI := f.lineI }
      trips := s.trips.map fun k => { Trip.init with level := k.level } } : State)
    let low := fun (t : State) (p : Power) => t = held { p with extLow := true } t.pd ∧ t.pd.running = s.pd.running ∧
      t.pd.config = [] ∧ (∀ b : BankIx, (t.pdBank b).safe = (s.pdBank b).safe ∧ (t.pdBank b).vexc = false) ∧
      ∀ c : Ch, t.pdChan c = { PdChan.init with turnOff := if s.fetsOn c then .plateau else .none }
    let tripped := fun v => let p := s.power.setSupply v false; { p with tripped := p.tripped ||| supplyBit v }
    (∀ v : Supply, s.power.supply v = true → s.power.vstby = true →
      (s.phase ≠ .standby → exec (.supplySupervisorTrip v) s = .next (held (noted 3 (tripped v)) dark)) ∧
      (s.phase = .standby → exec (.supplySupervisorTrip v) s = .next { s with power := s.power.setSupply v false })) ∧
    (∀ v : Supply, s.power.supply v = false → exec (.supplySupervisorTrip v) s = .next s) ∧
    (s.power.vstby = true → s.power.rootOk = true → s.phase ≠ .standby →
      exec .clockLoss s = .next (held (noted 4 { s.power with rootOk := false }) dark)) ∧
    ((s.power.rootOk = false ∨ s.phase = .standby) → exec .clockLoss s = .next s) ∧
    (s.power.resetLow = false → (s.phase ≠ .standby ∨ s.power.supplied = true) →
      ∃ t : State, exec .resetNLow s = .next t ∧ low t (noted 1 s.power)) ∧
    (s.power.resetLow = true → (s.phase ≠ .standby ∨ s.power.supplied = true) →
      exec .resetNLow s = .next { s with power := { s.power with extLow := true } }) ∧
    (s.phase = .standby → s.power.supplied = false → exec .resetNLow s = .next s) ∧
    (s.power.vstby = false →
      exec .vstbyPowerOn s = .next (held (noted 0 { s.power with
        vstby := true, arose := 0, first := none, tripped := 0, rootOk := false, wakeLatch := false, pulseLeft := 0
        pulseDue := false, guarding := false }) dark)) ∧
    (s.power.vstby = true → exec .vstbyPowerOn s = .next s) ∧
    exec .vstbyPowerLoss s = .next (held { s.power with vstby := false, rootOk := false, wakeLatch := false, pulseLeft := 0 } dark)) ∧
  (∀ s : State,
    (∀ (i : Instr) (p : Power), (i = .rootQualified ∧ p = { s.power with rootOk := true } ∧ s.power.vstby = true ∧ s.phase ≠ .standby) ∨
        (∃ v, i = .supplySupervisorRelease v ∧ p = s.power.setSupply v true) →
      ((s.phase ≠ .reset ∨ p.qualified = false ∨ p.pulseDue = false) → exec i s = .next { s with power := p }) ∧
      (s.phase = .reset → p.qualified = true → p.pulseDue = true →
        ∃ t : State, exec i s = .next t ∧ t = { s with power := { p with pulseLeft := 1600, pulseDue := false }, pd := t.pd } ∧
          t.pd.running = s.pd.running ∧
          ∀ c : Ch, t.pdChan c = { PdChan.init with turnOff := if s.fetsOn c then .plateau else .none })) ∧
    (s.phase = .reset → s.power.qualified = true → s.power.pulseDue = false →
      jtagHolds s.sec.jtag = false →
      ∃ t : State, exec .coldBoot s = .next t ∧ t.phase = .boot ∧ t.boot.st = .ready ∧ t.boot.staging = [] ∧ t.params = [] ∧
        t.time = 0 ∧ t.pending = s.pending ∧ t.pd = s.pd ∧ t.link = Link.init ∧ t.hp = HostPort.init ∧ t.mbx = Mailbox.init ∧
        t.chans = State.reset.chans ∧ t.rules = State.reset.rules ∧ t.cans = State.reset.cans ∧ t.auxs = State.reset.auxs ∧
        (∀ i : Fin 16, t.sec.vault[i] = none) ∧ t.power.resetLow = false ∧ t.power.cause = s.power.first.getD 0 ∧
        t.power.temp = 0 ∧ t.otp = (if s.otp.debug then { s.otp with kill := true, deviceKey := 0 } else s.otp)) ∧
    (s.phase = .reset → (s.power.qualified = false ∨ s.power.pulseDue = true ∨ jtagHolds s.sec.jtag = true) →
      exec .coldBoot s = .next { s with power := { s.power with extLow := false, pulseLeft := 0 } }) ∧
    (s.phase ≠ .reset → exec .coldBoot s = .next s) ∧
    (s.power.vstby = true → s.phase = .standby →
      ∃ t : State, exec .wake s = .next t ∧ t.phase = .reset ∧ t.power.wakeLevel = true ∧
        t.power.arose = s.power.arose ||| 4 ∧ (s.power.first = none → t.power.first = some 2) ∧
        (s.power.qualified = false → t.power.pulseDue = true ∧ t.power.pulseLeft = s.power.pulseLeft) ∧
        (s.power.qualified = true → t.power.pulseDue = false ∧ t.power.pulseLeft = 1600)) ∧
    (let entry := s.power.entering = .armed ∨ s.power.entering = .unitsStopped
     (s.power.vstby = true → s.phase ≠ .standby → entry →
      exec .wake s = .next { s with power := { s.power with wakeLevel := true, wakeLatch := true } }) ∧
     (s.power.vstby = true → s.phase ≠ .standby → ¬entry →
      exec .wake s = .next { s with power := { s.power with wakeLevel := true } })) ∧
    (s.power.vstby = false → exec .wake s = .next s) ∧
    (∀ high, s.power.vstby = true → exec (.wakeLevelChange high) s = .next { s with power := { s.power with wakeLevel := high } }))

/-- The power die starts and stops (R306, R417, R493): with a VM above 6 V it starts with every latch clear, and the
running firmware begins its start-up write and reports it; when it stops, no configuration write is left, and a
command other than SET that waited for one has no effect. The safe-input levels outlast both (the model's choice,
assumption 42). -/
def Obligations.PowerDieStartsAndStops : Prop :=
  ∀ (s : State) (vmA vmB : BitVec 16),
    let fresh := fun (t : State) (on : Bool) => t.pd.running = on ∧ (∀ c : Ch, t.pdChan c = PdChan.init) ∧ t.pd.config = [] ∧
      t.pd.ot = false ∧ (∀ b : BankIx, (t.pdBank b).safe = (s.pdBank b).safe) ∧ t.chans = s.chans ∧ t.params = s.params
    (s.pd.running = true → exec (.powerDieUp vmA vmB) s = .next s) ∧
    (s.pd.running = false → (6000 < vmA.toNat ∨ 6000 < vmB.toNat) →
      ∃ t : State, exec (.powerDieUp vmA vmB) s = .next t ∧ fresh t true ∧ t.power.vmA = decide (6000 < vmA.toNat) ∧
        t.power.vmB = decide (6000 < vmB.toNat) ∧
        (s.phase ≠ .runtime → t.link = s.link ∧ t.mbx = s.mbx) ∧
        (s.phase = .runtime → s.fwOn = false → t.link = { s.link with upPending := true } ∧ t.mbx = s.mbx) ∧
        (s.fwOn = true → t.link.answers = true ∧ t.link.startedOnce = true ∧ t.link.upPending = false ∧
          (s.link.cfg = [] → s.link.backlog = [] → s.link.freeTag ≠ 0 → t.link.cfg.head? = some ⟨s.link.freeTag, .startUp⟩))) ∧
    (s.pd.running = false → exec .powerDieStop s = .next s) ∧
    (s.pd.running = true → s.mbx.waiting = none →
      ∃ t : State, exec .powerDieStop s = .next t ∧ fresh t false ∧ t.power = { s.power with vmA := false, vmB := false } ∧
        t.link = { s.link with
          cfg := [], backlog := [], answers := false, upPending := false, goodDown := 0, goodUp := 0 } ∧ t.mbx = s.mbx) ∧
    (∀ w, s.pd.running = true → s.mbx.waiting = some w → recOp w.record ≠ 2 → w.via = none → s.fwOn = true → s.sec.otpOp = 0 →
      s.boot.testPending = false → s.mbx.held = [] →
      ∃ t : State, exec .powerDieStop s = .next t ∧ fresh t false ∧ t.link.cfg = [] ∧ t.link.answers = false ∧
        t.mbx = { s.mbx with
          waiting := none
          doneSeq := w.seq
          responses := s.mbx.responses ++ [respRecord w.record w.seq .wrongState 0 []] })

/-- Eclipses (R254, R261, R309 to R312, R315, R316): a cause halts the processor for a restart attempt, and the fourth
within the bound leaves it halted; collecting calibration steps end; the end of the restart resumes, and a failed
image or data check does not; at the autonomy bound a channel in ROLLCALL is in FAULT and the rest are left or
ramp-stop. Before runtime start an uncorrectable RAM error counts for the verification (R304); in runtime it may
strike queued records (R439), which ones is free (assumption 60). The result of a fourth attempt and the figure in
ELAPSED are the model's reading (assumption 53). Host silence (R341, R342): a timer that has run out acts once: by the
action selected at that time (R344) every channel parks, or the energised ones ramp-stop. Before it has run out
nothing happens. That the action comes with HOST_SILENT behind the end of the timer's fabric cycle is the model's
reading (assumption 7). -/
def Obligations.EclipsesAndHostSilence : Prop :=
  (∀ s : State,
    (∀ cause : Fin 7, s.hwOn = true → cause.val ≠ 0 → s.boot.halted = false →
      let n := s.nextAttempt
      let fresh := !s.boot.eclipse
      ∃ t : State, exec (.eclipseStart cause) s = .next t ∧ t = { s with boot := t.boot, entries := t.entries, mbx := t.mbx } ∧
        t.mbx = { s.mbx with queue := t.mbx.queue } ∧ (cause.val ≠ 2 → t.mbx.queue = s.mbx.queue) ∧
        (cause.val = 2 → t.mbx.queue = s.mbx.queue.map fun q =>
          { q with sound := q.sound && !Config.strikes s.sec.draws s.fc q.seq }) ∧
        t.boot.cause = cause.val ∧ t.boot.count = min (2 ^ 32 - 1) (s.boot.count + b2n fresh) ∧
        (n ≤ 3 → t.boot.eclipse = true ∧ t.boot.halted = false ∧ t.boot.attempts = n ∧ t.boot.result = 0) ∧
        (3 < n → t.boot.eclipse = false ∧ t.boot.halted = true ∧ t.boot.attempts = 3 ∧ t.boot.result = 3) ∧
        (fresh = true → t.boot.elapsed = 0 ∧ t.boot.expired = false) ∧
        (∀ (i : EntryIx) (k : CalRun), s.entries[i].cal = some k →
          t.entries[i].cal = some (if k.done then k else { k with ended := some 6 }))) ∧
    (∀ cause : Fin 7, s.phase = .boot → s.sec.debugHalt = false → cause.val = 2 →
      exec (.eclipseStart cause) s = .next { s with boot := { s.boot with stagingError := true } }) ∧
    (∀ ms : BitVec 16, s.hwOn = true → s.boot.eclipse = true → s.boot.halted = false → s.mbx.waiting = none →
      s.link.upPending = false → (∀ c, (s.chan c).est.rcWait = none) →
      ∃ t : State, exec (.eclipseEnd ms) s = .next t ∧
        t.boot = { s.boot with eclipse := false, result := 1, elapsed := ms.toNat * 240000, lastEnd := some s.fc } ∧
        t.fwOn = true ∧ t.mbx.deferred = [] ∧ t.mbx.queue = s.mbx.queue ∧ t.pd = s.pd ∧
        (s.link.answers = true → t.link = s.link) ∧ ((∀ c, (s.can c).detecting = false) → t.params = s.params) ∧
        ∀ c : Ch, (t.chan c).state = (s.chan c).state ∧ (t.chan c).motion = (s.chan c).motion) ∧
    (∀ e : RestartFail, s.hwOn = true → s.boot.eclipse = true →
      exec (.eclipseRestartFailed e) s = .next { s with boot := { s.boot with eclipse := false, halted := true, result := 2 } }) ∧
    (s.hwOn = true → (s.boot.eclipse = true ∨ s.boot.halted = true) → s.boot.expired = false →
      ∃ t : State, exec .eclipseExpired s = .next t ∧ t.boot.expired = true ∧
        t.boot.expiries = min (2 ^ 32 - 1) (s.boot.expiries + 1) ∧ t.pd = s.pd ∧ t.params = s.params ∧
        ∀ c : Ch,
          ((s.chan c).state = .rollcall → (t.chan c).faulted ∧ (t.chan c).causes.rollCall = true ∧ (t.chan c).causes.eclipse = true) ∧
          ((s.chan c).state.energised = true → (t.chan c).state = (s.chan c).state ∧ (t.chan c).causes.eclipse = true ∧
            (t.chan c).motion = { (s.chan c).motion with armed := none, stopFault := true, rampReq := some .fault }) ∧
          ((s.chan c).state ≠ .rollcall → (s.chan c).state.energised = false → (t.chan c).state = (s.chan c).state ∧
            (t.chan c).causes = (s.chan c).causes ∧ (t.chan c).motion = (s.chan c).motion))) ∧
  (∀ s : State,
    (s.hp.silenceDue = none → exec .hostSilent s = .next s) ∧
    (∀ action, s.hwOn = true → s.hp.silenceDue = some action →
      ∃ t : State, exec .hostSilent s = .next t ∧
        t.hp = { s.hp with silent := true, silenceDue := none, silenceCount := min (2 ^ 32 - 1) (s.hp.silenceCount + 1) } ∧
        t.pd = s.pd ∧ t.params = s.params ∧
        (action = 1 → (s.link.txOn = true → ∀ c, maskBit t.link.park c = true) ∧
          ∀ c : Ch, s.hasCh c = true → (t.chan c).state = .parked ∧ ((s.chan c).state ≠ .parked → (t.chan c).parkCause = 2)) ∧
        (action ≠ 1 → t.link = s.link ∧ ∀ c : Ch,
          ((s.chan c).state.energised = true → (t.chan c).state = (s.chan c).state ∧ (t.chan c).causes.silent = true ∧
            (t.chan c).motion = { (s.chan c).motion with armed := none, stopFault := true, rampReq := some .fault }) ∧
          ((s.chan c).state = .rollcall → (t.chan c).faulted) ∧
          ((s.chan c).state.energised = false → (s.chan c).state ≠ .rollcall → (t.chan c).state = (s.chan c).state ∧
            (t.chan c).causes = (s.chan c).causes ∧ (t.chan c).motion = (s.chan c).motion))))

/-- The debug access path and boundary scan (R449 to R451): an open port halts, resumes and resets the die, a closed one
does nothing; a halt takes the controllers off the bus to integrate anew, and with the link transmitter it stops what
it had still to order; EXTEST, CLAMP and HIGHZ hold the die in reset, any other instruction only replaces the last,
and TRST_N selects IDCODE. -/
def Obligations.DebugPortAndBoundaryScan : Prop :=
  ∀ s : State,
    (s.debugOpen = false → exec .debugHalt s = .next s ∧ exec .debugResume s = .next s ∧ exec .debugReset s = .next s) ∧
    (s.debugOpen = true →
      (s.sec.debugHalt = false →
        ∃ t : State, exec .debugHalt s = .next t ∧ t = { s with sec := { s.sec with debugHalt := true }, cans := t.cans, link := { s.link with softOff := 0, park := 0, hold := 0 } } ∧
          ∀ c : CanIx, (t.can c).sending = none ∧
            ((s.can c).phase = .stopped ∨ (s.can c).phase = .leaving → (t.can c).phase = .stopped) ∧
            ((s.can c).phase = .onBus ∨ (s.can c).phase = .integrating → (t.can c).phase = .integrating)) ∧
      exec .debugResume s = .next { s with sec := { s.sec with debugHalt := false } } ∧
      ∃ t : State, exec .debugReset s = .next t ∧ t.phase = .reset ∧ t.power.pulseLeft = 1600 ∧
        t.power.arose = s.power.arose ||| 32 ∧ t.sec.debugHalt = false ∧ t.otp = s.otp) ∧
    (s.tapOn = true →
      (∀ i, jtagHolds i = false → exec (.jtagInstructionLoad i) s = .next { s with sec := { s.sec with jtag := i } }) ∧
      (∀ i, jtagHolds i = true → ∃ t : State, exec (.jtagInstructionLoad i) s = .next t ∧ t.phase = .reset ∧
        t.inReset = true ∧ t.sec.jtag = i ∧ t.power.arose = s.power.arose ||| 32) ∧
      exec .trstNLow s = .next { s with sec := { s.sec with jtag := .idcode } }) ∧
    (s.tapOn = false → (∀ i, exec (.jtagInstructionLoad i) s = .next s) ∧ exec .trstNLow s = .next s)
end

