-- ==== Sys2Proof/Laws/State.lean ====
section
/-! SUPPORT. What each update of one unit leaves as it was, field by field, and what reading a unit gives after it. -/

namespace Sys2Proof.Machine

variable (s : State)

/-! ### onChan -/

@[simp] theorem State.onChan_pending (c : Ch) (f : Channel → Channel) : (s.onChan c f).pending = s.pending := rfl
@[simp] theorem State.onChan_phase (c : Ch) (f : Channel → Channel) : (s.onChan c f).phase = s.phase := rfl
@[simp] theorem State.onChan_fc (c : Ch) (f : Channel → Channel) : (s.onChan c f).fc = s.fc := rfl
@[simp] theorem State.onChan_runFc (c : Ch) (f : Channel → Channel) : (s.onChan c f).runFc = s.runFc := rfl
@[simp] theorem State.onChan_time (c : Ch) (f : Channel → Channel) : (s.onChan c f).time = s.time := rfl
@[simp] theorem State.onChan_timeFrac (c : Ch) (f : Channel → Channel) : (s.onChan c f).timeFrac = s.timeFrac := rfl
@[simp] theorem State.onChan_slotTime (c : Ch) (f : Channel → Channel) : (s.onChan c f).slotTime = s.slotTime := rfl
@[simp] theorem State.onChan_istep (c : Ch) (f : Channel → Channel) : (s.onChan c f).istep = s.istep := rfl
@[simp] theorem State.onChan_pulses (c : Ch) (f : Channel → Channel) : (s.onChan c f).pulses = s.pulses := rfl
@[simp] theorem State.onChan_params (c : Ch) (f : Channel → Channel) : (s.onChan c f).params = s.params := rfl
@[simp] theorem State.onChan_pairs (c : Ch) (f : Channel → Channel) : (s.onChan c f).pairs = s.pairs := rfl
@[simp] theorem State.onChan_groups (c : Ch) (f : Channel → Channel) : (s.onChan c f).groups = s.groups := rfl
@[simp] theorem State.onChan_banks (c : Ch) (f : Channel → Channel) : (s.onChan c f).banks = s.banks := rfl
@[simp] theorem State.onChan_pd (c : Ch) (f : Channel → Channel) : (s.onChan c f).pd = s.pd := rfl
@[simp] theorem State.onChan_link (c : Ch) (f : Channel → Channel) : (s.onChan c f).link = s.link := rfl
@[simp] theorem State.onChan_fbs (c : Ch) (f : Channel → Channel) : (s.onChan c f).fbs = s.fbs := rfl
@[simp] theorem State.onChan_rules (c : Ch) (f : Channel → Channel) : (s.onChan c f).rules = s.rules := rfl
@[simp] theorem State.onChan_modClk (c : Ch) (f : Channel → Channel) : (s.onChan c f).modClk = s.modClk := rfl
@[simp] theorem State.onChan_slotFc (c : Ch) (f : Channel → Channel) : (s.onChan c f).slotFc = s.slotFc := rfl
@[simp] theorem State.onChan_lostClks (c : Ch) (f : Channel → Channel) : (s.onChan c f).lostClks = s.lostClks := rfl
@[simp] theorem State.onChan_mods (c : Ch) (f : Channel → Channel) : (s.onChan c f).mods = s.mods := rfl
@[simp] theorem State.onChan_entries (c : Ch) (f : Channel → Channel) : (s.onChan c f).entries = s.entries := rfl
@[simp] theorem State.onChan_gbs (c : Ch) (f : Channel → Channel) : (s.onChan c f).gbs = s.gbs := rfl
@[simp] theorem State.onChan_flts (c : Ch) (f : Channel → Channel) : (s.onChan c f).flts = s.flts := rfl
@[simp] theorem State.onChan_cmps (c : Ch) (f : Channel → Channel) : (s.onChan c f).cmps = s.cmps := rfl
@[simp] theorem State.onChan_cans (c : Ch) (f : Channel → Channel) : (s.onChan c f).cans = s.cans := rfl
@[simp] theorem State.onChan_auxs (c : Ch) (f : Channel → Channel) : (s.onChan c f).auxs = s.auxs := rfl
@[simp] theorem State.onChan_trips (c : Ch) (f : Channel → Channel) : (s.onChan c f).trips = s.trips := rfl
@[simp] theorem State.onChan_mbx (c : Ch) (f : Channel → Channel) : (s.onChan c f).mbx = s.mbx := rfl
@[simp] theorem State.onChan_hp (c : Ch) (f : Channel → Channel) : (s.onChan c f).hp = s.hp := rfl
@[simp] theorem State.onChan_boot (c : Ch) (f : Channel → Channel) : (s.onChan c f).boot = s.boot := rfl
@[simp] theorem State.onChan_power (c : Ch) (f : Channel → Channel) : (s.onChan c f).power = s.power := rfl
@[simp] theorem State.onChan_sec (c : Ch) (f : Channel → Channel) : (s.onChan c f).sec = s.sec := rfl
@[simp] theorem State.onChan_otp (c : Ch) (f : Channel → Channel) : (s.onChan c f).otp = s.otp := rfl
@[simp] theorem State.onChan_bank (c : Ch) (f : Channel → Channel) (i : BankIx) : (s.onChan c f).bank i = s.bank i := rfl
@[simp] theorem State.onChan_pdChan (c : Ch) (f : Channel → Channel) (i : Ch) : (s.onChan c f).pdChan i = s.pdChan i := rfl
@[simp] theorem State.onChan_pdBank (c : Ch) (f : Channel → Channel) (i : BankIx) : (s.onChan c f).pdBank i = s.pdBank i := rfl
@[simp] theorem State.onChan_fb (c : Ch) (f : Channel → Channel) (i : Ch) : (s.onChan c f).fb i = s.fb i := rfl
@[simp] theorem State.onChan_rule (c : Ch) (f : Channel → Channel) (i : RuleIx) : (s.onChan c f).rule i = s.rule i := rfl
@[simp] theorem State.onChan_modu (c : Ch) (f : Channel → Channel) (i : ModIx) : (s.onChan c f).modu i = s.modu i := rfl
@[simp] theorem State.onChan_gb (c : Ch) (f : Channel → Channel) (i : EntryIx) : (s.onChan c f).gb i = s.gb i := rfl
@[simp] theorem State.onChan_flt (c : Ch) (f : Channel → Channel) (i : FltIx) : (s.onChan c f).flt i = s.flt i := rfl
@[simp] theorem State.onChan_can (c : Ch) (f : Channel → Channel) (i : CanIx) : (s.onChan c f).can i = s.can i := rfl
@[simp] theorem State.onChan_aux (c : Ch) (f : Channel → Channel) (i : AuxIx) : (s.onChan c f).aux i = s.aux i := rfl
@[simp] theorem State.onChan_trip (c : Ch) (f : Channel → Channel) (i : TripIx) : (s.onChan c f).trip i = s.trip i := rfl
@[simp] theorem State.onChan_par (c : Ch) (f : Channel → Channel) (x y : Nat) : (s.onChan c f).par x y = s.par x y := rfl
@[simp] theorem State.onChan_hwOn (c : Ch) (f : Channel → Channel) : (s.onChan c f).hwOn = s.hwOn := rfl
@[simp] theorem State.onChan_fwOn (c : Ch) (f : Channel → Channel) : (s.onChan c f).fwOn = s.fwOn := rfl
@[simp] theorem State.onChan_caps (c : Ch) (f : Channel → Channel) : (s.onChan c f).caps = s.caps := rfl
@[simp] theorem State.onChan_suppressed (c : Ch) (f : Channel → Channel) (x : Nat) : (s.onChan c f).suppressed x = s.suppressed x := rfl

/-! ### onMotion -/

@[simp] theorem State.onMotion_pending (c : Ch) (f : Motion → Motion) : (s.onMotion c f).pending = s.pending := rfl
@[simp] theorem State.onMotion_phase (c : Ch) (f : Motion → Motion) : (s.onMotion c f).phase = s.phase := rfl
@[simp] theorem State.onMotion_fc (c : Ch) (f : Motion → Motion) : (s.onMotion c f).fc = s.fc := rfl
@[simp] theorem State.onMotion_runFc (c : Ch) (f : Motion → Motion) : (s.onMotion c f).runFc = s.runFc := rfl
@[simp] theorem State.onMotion_time (c : Ch) (f : Motion → Motion) : (s.onMotion c f).time = s.time := rfl
@[simp] theorem State.onMotion_timeFrac (c : Ch) (f : Motion → Motion) : (s.onMotion c f).timeFrac = s.timeFrac := rfl
@[simp] theorem State.onMotion_slotTime (c : Ch) (f : Motion → Motion) : (s.onMotion c f).slotTime = s.slotTime := rfl
@[simp] theorem State.onMotion_istep (c : Ch) (f : Motion → Motion) : (s.onMotion c f).istep = s.istep := rfl
@[simp] theorem State.onMotion_pulses (c : Ch) (f : Motion → Motion) : (s.onMotion c f).pulses = s.pulses := rfl
@[simp] theorem State.onMotion_params (c : Ch) (f : Motion → Motion) : (s.onMotion c f).params = s.params := rfl
@[simp] theorem State.onMotion_pairs (c : Ch) (f : Motion → Motion) : (s.onMotion c f).pairs = s.pairs := rfl
@[simp] theorem State.onMotion_groups (c : Ch) (f : Motion → Motion) : (s.onMotion c f).groups = s.groups := rfl
@[simp] theorem State.onMotion_banks (c : Ch) (f : Motion → Motion) : (s.onMotion c f).banks = s.banks := rfl
@[simp] theorem State.onMotion_pd (c : Ch) (f : Motion → Motion) : (s.onMotion c f).pd = s.pd := rfl
@[simp] theorem State.onMotion_link (c : Ch) (f : Motion → Motion) : (s.onMotion c f).link = s.link := rfl
@[simp] theorem State.onMotion_fbs (c : Ch) (f : Motion → Motion) : (s.onMotion c f).fbs = s.fbs := rfl
@[simp] theorem State.onMotion_rules (c : Ch) (f : Motion → Motion) : (s.onMotion c f).rules = s.rules := rfl
@[simp] theorem State.onMotion_modClk (c : Ch) (f : Motion → Motion) : (s.onMotion c f).modClk = s.modClk := rfl
@[simp] theorem State.onMotion_slotFc (c : Ch) (f : Motion → Motion) : (s.onMotion c f).slotFc = s.slotFc := rfl
@[simp] theorem State.onMotion_lostClks (c : Ch) (f : Motion → Motion) : (s.onMotion c f).lostClks = s.lostClks := rfl
@[simp] theorem State.onMotion_mods (c : Ch) (f : Motion → Motion) : (s.onMotion c f).mods = s.mods := rfl
@[simp] theorem State.onMotion_entries (c : Ch) (f : Motion → Motion) : (s.onMotion c f).entries = s.entries := rfl
@[simp] theorem State.onMotion_gbs (c : Ch) (f : Motion → Motion) : (s.onMotion c f).gbs = s.gbs := rfl
@[simp] theorem State.onMotion_flts (c : Ch) (f : Motion → Motion) : (s.onMotion c f).flts = s.flts := rfl
@[simp] theorem State.onMotion_cmps (c : Ch) (f : Motion → Motion) : (s.onMotion c f).cmps = s.cmps := rfl
@[simp] theorem State.onMotion_cans (c : Ch) (f : Motion → Motion) : (s.onMotion c f).cans = s.cans := rfl
@[simp] theorem State.onMotion_auxs (c : Ch) (f : Motion → Motion) : (s.onMotion c f).auxs = s.auxs := rfl
@[simp] theorem State.onMotion_trips (c : Ch) (f : Motion → Motion) : (s.onMotion c f).trips = s.trips := rfl
@[simp] theorem State.onMotion_mbx (c : Ch) (f : Motion → Motion) : (s.onMotion c f).mbx = s.mbx := rfl
@[simp] theorem State.onMotion_hp (c : Ch) (f : Motion → Motion) : (s.onMotion c f).hp = s.hp := rfl
@[simp] theorem State.onMotion_boot (c : Ch) (f : Motion → Motion) : (s.onMotion c f).boot = s.boot := rfl
@[simp] theorem State.onMotion_power (c : Ch) (f : Motion → Motion) : (s.onMotion c f).power = s.power := rfl
@[simp] theorem State.onMotion_sec (c : Ch) (f : Motion → Motion) : (s.onMotion c f).sec = s.sec := rfl
@[simp] theorem State.onMotion_otp (c : Ch) (f : Motion → Motion) : (s.onMotion c f).otp = s.otp := rfl
@[simp] theorem State.onMotion_bank (c : Ch) (f : Motion → Motion) (i : BankIx) : (s.onMotion c f).bank i = s.bank i := rfl
@[simp] theorem State.onMotion_pdChan (c : Ch) (f : Motion → Motion) (i : Ch) : (s.onMotion c f).pdChan i = s.pdChan i := rfl
@[simp] theorem State.onMotion_pdBank (c : Ch) (f : Motion → Motion) (i : BankIx) : (s.onMotion c f).pdBank i = s.pdBank i := rfl
@[simp] theorem State.onMotion_fb (c : Ch) (f : Motion → Motion) (i : Ch) : (s.onMotion c f).fb i = s.fb i := rfl
@[simp] theorem State.onMotion_rule (c : Ch) (f : Motion → Motion) (i : RuleIx) : (s.onMotion c f).rule i = s.rule i := rfl
@[simp] theorem State.onMotion_modu (c : Ch) (f : Motion → Motion) (i : ModIx) : (s.onMotion c f).modu i = s.modu i := rfl
@[simp] theorem State.onMotion_gb (c : Ch) (f : Motion → Motion) (i : EntryIx) : (s.onMotion c f).gb i = s.gb i := rfl
@[simp] theorem State.onMotion_flt (c : Ch) (f : Motion → Motion) (i : FltIx) : (s.onMotion c f).flt i = s.flt i := rfl
@[simp] theorem State.onMotion_can (c : Ch) (f : Motion → Motion) (i : CanIx) : (s.onMotion c f).can i = s.can i := rfl
@[simp] theorem State.onMotion_aux (c : Ch) (f : Motion → Motion) (i : AuxIx) : (s.onMotion c f).aux i = s.aux i := rfl
@[simp] theorem State.onMotion_trip (c : Ch) (f : Motion → Motion) (i : TripIx) : (s.onMotion c f).trip i = s.trip i := rfl
@[simp] theorem State.onMotion_par (c : Ch) (f : Motion → Motion) (x y : Nat) : (s.onMotion c f).par x y = s.par x y := rfl
@[simp] theorem State.onMotion_hwOn (c : Ch) (f : Motion → Motion) : (s.onMotion c f).hwOn = s.hwOn := rfl
@[simp] theorem State.onMotion_fwOn (c : Ch) (f : Motion → Motion) : (s.onMotion c f).fwOn = s.fwOn := rfl
@[simp] theorem State.onMotion_caps (c : Ch) (f : Motion → Motion) : (s.onMotion c f).caps = s.caps := rfl
@[simp] theorem State.onMotion_suppressed (c : Ch) (f : Motion → Motion) (x : Nat) : (s.onMotion c f).suppressed x = s.suppressed x := rfl

/-! ### onCauses -/

@[simp] theorem State.onCauses_pending (c : Ch) (f : Causes → Causes) : (s.onCauses c f).pending = s.pending := rfl
@[simp] theorem State.onCauses_phase (c : Ch) (f : Causes → Causes) : (s.onCauses c f).phase = s.phase := rfl
@[simp] theorem State.onCauses_fc (c : Ch) (f : Causes → Causes) : (s.onCauses c f).fc = s.fc := rfl
@[simp] theorem State.onCauses_runFc (c : Ch) (f : Causes → Causes) : (s.onCauses c f).runFc = s.runFc := rfl
@[simp] theorem State.onCauses_time (c : Ch) (f : Causes → Causes) : (s.onCauses c f).time = s.time := rfl
@[simp] theorem State.onCauses_timeFrac (c : Ch) (f : Causes → Causes) : (s.onCauses c f).timeFrac = s.timeFrac := rfl
@[simp] theorem State.onCauses_slotTime (c : Ch) (f : Causes → Causes) : (s.onCauses c f).slotTime = s.slotTime := rfl
@[simp] theorem State.onCauses_istep (c : Ch) (f : Causes → Causes) : (s.onCauses c f).istep = s.istep := rfl
@[simp] theorem State.onCauses_pulses (c : Ch) (f : Causes → Causes) : (s.onCauses c f).pulses = s.pulses := rfl
@[simp] theorem State.onCauses_params (c : Ch) (f : Causes → Causes) : (s.onCauses c f).params = s.params := rfl
@[simp] theorem State.onCauses_pairs (c : Ch) (f : Causes → Causes) : (s.onCauses c f).pairs = s.pairs := rfl
@[simp] theorem State.onCauses_groups (c : Ch) (f : Causes → Causes) : (s.onCauses c f).groups = s.groups := rfl
@[simp] theorem State.onCauses_banks (c : Ch) (f : Causes → Causes) : (s.onCauses c f).banks = s.banks := rfl
@[simp] theorem State.onCauses_pd (c : Ch) (f : Causes → Causes) : (s.onCauses c f).pd = s.pd := rfl
@[simp] theorem State.onCauses_link (c : Ch) (f : Causes → Causes) : (s.onCauses c f).link = s.link := rfl
@[simp] theorem State.onCauses_fbs (c : Ch) (f : Causes → Causes) : (s.onCauses c f).fbs = s.fbs := rfl
@[simp] theorem State.onCauses_rules (c : Ch) (f : Causes → Causes) : (s.onCauses c f).rules = s.rules := rfl
@[simp] theorem State.onCauses_modClk (c : Ch) (f : Causes → Causes) : (s.onCauses c f).modClk = s.modClk := rfl
@[simp] theorem State.onCauses_slotFc (c : Ch) (f : Causes → Causes) : (s.onCauses c f).slotFc = s.slotFc := rfl
@[simp] theorem State.onCauses_lostClks (c : Ch) (f : Causes → Causes) : (s.onCauses c f).lostClks = s.lostClks := rfl
@[simp] theorem State.onCauses_mods (c : Ch) (f : Causes → Causes) : (s.onCauses c f).mods = s.mods := rfl
@[simp] theorem State.onCauses_entries (c : Ch) (f : Causes → Causes) : (s.onCauses c f).entries = s.entries := rfl
@[simp] theorem State.onCauses_gbs (c : Ch) (f : Causes → Causes) : (s.onCauses c f).gbs = s.gbs := rfl
@[simp] theorem State.onCauses_flts (c : Ch) (f : Causes → Causes) : (s.onCauses c f).flts = s.flts := rfl
@[simp] theorem State.onCauses_cmps (c : Ch) (f : Causes → Causes) : (s.onCauses c f).cmps = s.cmps := rfl
@[simp] theorem State.onCauses_cans (c : Ch) (f : Causes → Causes) : (s.onCauses c f).cans = s.cans := rfl
@[simp] theorem State.onCauses_auxs (c : Ch) (f : Causes → Causes) : (s.onCauses c f).auxs = s.auxs := rfl
@[simp] theorem State.onCauses_trips (c : Ch) (f : Causes → Causes) : (s.onCauses c f).trips = s.trips := rfl
@[simp] theorem State.onCauses_mbx (c : Ch) (f : Causes → Causes) : (s.onCauses c f).mbx = s.mbx := rfl
@[simp] theorem State.onCauses_hp (c : Ch) (f : Causes → Causes) : (s.onCauses c f).hp = s.hp := rfl
@[simp] theorem State.onCauses_boot (c : Ch) (f : Causes → Causes) : (s.onCauses c f).boot = s.boot := rfl
@[simp] theorem State.onCauses_power (c : Ch) (f : Causes → Causes) : (s.onCauses c f).power = s.power := rfl
@[simp] theorem State.onCauses_sec (c : Ch) (f : Causes → Causes) : (s.onCauses c f).sec = s.sec := rfl
@[simp] theorem State.onCauses_otp (c : Ch) (f : Causes → Causes) : (s.onCauses c f).otp = s.otp := rfl
@[simp] theorem State.onCauses_bank (c : Ch) (f : Causes → Causes) (i : BankIx) : (s.onCauses c f).bank i = s.bank i := rfl
@[simp] theorem State.onCauses_pdChan (c : Ch) (f : Causes → Causes) (i : Ch) : (s.onCauses c f).pdChan i = s.pdChan i := rfl
@[simp] theorem State.onCauses_pdBank (c : Ch) (f : Causes → Causes) (i : BankIx) : (s.onCauses c f).pdBank i = s.pdBank i := rfl
@[simp] theorem State.onCauses_fb (c : Ch) (f : Causes → Causes) (i : Ch) : (s.onCauses c f).fb i = s.fb i := rfl
@[simp] theorem State.onCauses_rule (c : Ch) (f : Causes → Causes) (i : RuleIx) : (s.onCauses c f).rule i = s.rule i := rfl
@[simp] theorem State.onCauses_modu (c : Ch) (f : Causes → Causes) (i : ModIx) : (s.onCauses c f).modu i = s.modu i := rfl
@[simp] theorem State.onCauses_gb (c : Ch) (f : Causes → Causes) (i : EntryIx) : (s.onCauses c f).gb i = s.gb i := rfl
@[simp] theorem State.onCauses_flt (c : Ch) (f : Causes → Causes) (i : FltIx) : (s.onCauses c f).flt i = s.flt i := rfl
@[simp] theorem State.onCauses_can (c : Ch) (f : Causes → Causes) (i : CanIx) : (s.onCauses c f).can i = s.can i := rfl
@[simp] theorem State.onCauses_aux (c : Ch) (f : Causes → Causes) (i : AuxIx) : (s.onCauses c f).aux i = s.aux i := rfl
@[simp] theorem State.onCauses_trip (c : Ch) (f : Causes → Causes) (i : TripIx) : (s.onCauses c f).trip i = s.trip i := rfl
@[simp] theorem State.onCauses_par (c : Ch) (f : Causes → Causes) (x y : Nat) : (s.onCauses c f).par x y = s.par x y := rfl
@[simp] theorem State.onCauses_hwOn (c : Ch) (f : Causes → Causes) : (s.onCauses c f).hwOn = s.hwOn := rfl
@[simp] theorem State.onCauses_fwOn (c : Ch) (f : Causes → Causes) : (s.onCauses c f).fwOn = s.fwOn := rfl
@[simp] theorem State.onCauses_caps (c : Ch) (f : Causes → Causes) : (s.onCauses c f).caps = s.caps := rfl
@[simp] theorem State.onCauses_suppressed (c : Ch) (f : Causes → Causes) (x : Nat) : (s.onCauses c f).suppressed x = s.suppressed x := rfl

/-! ### onEst -/

@[simp] theorem State.onEst_pending (c : Ch) (f : Estim → Estim) : (s.onEst c f).pending = s.pending := rfl
@[simp] theorem State.onEst_phase (c : Ch) (f : Estim → Estim) : (s.onEst c f).phase = s.phase := rfl
@[simp] theorem State.onEst_fc (c : Ch) (f : Estim → Estim) : (s.onEst c f).fc = s.fc := rfl
@[simp] theorem State.onEst_runFc (c : Ch) (f : Estim → Estim) : (s.onEst c f).runFc = s.runFc := rfl
@[simp] theorem State.onEst_time (c : Ch) (f : Estim → Estim) : (s.onEst c f).time = s.time := rfl
@[simp] theorem State.onEst_timeFrac (c : Ch) (f : Estim → Estim) : (s.onEst c f).timeFrac = s.timeFrac := rfl
@[simp] theorem State.onEst_slotTime (c : Ch) (f : Estim → Estim) : (s.onEst c f).slotTime = s.slotTime := rfl
@[simp] theorem State.onEst_istep (c : Ch) (f : Estim → Estim) : (s.onEst c f).istep = s.istep := rfl
@[simp] theorem State.onEst_pulses (c : Ch) (f : Estim → Estim) : (s.onEst c f).pulses = s.pulses := rfl
@[simp] theorem State.onEst_params (c : Ch) (f : Estim → Estim) : (s.onEst c f).params = s.params := rfl
@[simp] theorem State.onEst_pairs (c : Ch) (f : Estim → Estim) : (s.onEst c f).pairs = s.pairs := rfl
@[simp] theorem State.onEst_groups (c : Ch) (f : Estim → Estim) : (s.onEst c f).groups = s.groups := rfl
@[simp] theorem State.onEst_banks (c : Ch) (f : Estim → Estim) : (s.onEst c f).banks = s.banks := rfl
@[simp] theorem State.onEst_pd (c : Ch) (f : Estim → Estim) : (s.onEst c f).pd = s.pd := rfl
@[simp] theorem State.onEst_link (c : Ch) (f : Estim → Estim) : (s.onEst c f).link = s.link := rfl
@[simp] theorem State.onEst_fbs (c : Ch) (f : Estim → Estim) : (s.onEst c f).fbs = s.fbs := rfl
@[simp] theorem State.onEst_rules (c : Ch) (f : Estim → Estim) : (s.onEst c f).rules = s.rules := rfl
@[simp] theorem State.onEst_modClk (c : Ch) (f : Estim → Estim) : (s.onEst c f).modClk = s.modClk := rfl
@[simp] theorem State.onEst_slotFc (c : Ch) (f : Estim → Estim) : (s.onEst c f).slotFc = s.slotFc := rfl
@[simp] theorem State.onEst_lostClks (c : Ch) (f : Estim → Estim) : (s.onEst c f).lostClks = s.lostClks := rfl
@[simp] theorem State.onEst_mods (c : Ch) (f : Estim → Estim) : (s.onEst c f).mods = s.mods := rfl
@[simp] theorem State.onEst_entries (c : Ch) (f : Estim → Estim) : (s.onEst c f).entries = s.entries := rfl
@[simp] theorem State.onEst_gbs (c : Ch) (f : Estim → Estim) : (s.onEst c f).gbs = s.gbs := rfl
@[simp] theorem State.onEst_flts (c : Ch) (f : Estim → Estim) : (s.onEst c f).flts = s.flts := rfl
@[simp] theorem State.onEst_cmps (c : Ch) (f : Estim → Estim) : (s.onEst c f).cmps = s.cmps := rfl
@[simp] theorem State.onEst_cans (c : Ch) (f : Estim → Estim) : (s.onEst c f).cans = s.cans := rfl
@[simp] theorem State.onEst_auxs (c : Ch) (f : Estim → Estim) : (s.onEst c f).auxs = s.auxs := rfl
@[simp] theorem State.onEst_trips (c : Ch) (f : Estim → Estim) : (s.onEst c f).trips = s.trips := rfl
@[simp] theorem State.onEst_mbx (c : Ch) (f : Estim → Estim) : (s.onEst c f).mbx = s.mbx := rfl
@[simp] theorem State.onEst_hp (c : Ch) (f : Estim → Estim) : (s.onEst c f).hp = s.hp := rfl
@[simp] theorem State.onEst_boot (c : Ch) (f : Estim → Estim) : (s.onEst c f).boot = s.boot := rfl
@[simp] theorem State.onEst_power (c : Ch) (f : Estim → Estim) : (s.onEst c f).power = s.power := rfl
@[simp] theorem State.onEst_sec (c : Ch) (f : Estim → Estim) : (s.onEst c f).sec = s.sec := rfl
@[simp] theorem State.onEst_otp (c : Ch) (f : Estim → Estim) : (s.onEst c f).otp = s.otp := rfl
@[simp] theorem State.onEst_bank (c : Ch) (f : Estim → Estim) (i : BankIx) : (s.onEst c f).bank i = s.bank i := rfl
@[simp] theorem State.onEst_pdChan (c : Ch) (f : Estim → Estim) (i : Ch) : (s.onEst c f).pdChan i = s.pdChan i := rfl
@[simp] theorem State.onEst_pdBank (c : Ch) (f : Estim → Estim) (i : BankIx) : (s.onEst c f).pdBank i = s.pdBank i := rfl
@[simp] theorem State.onEst_fb (c : Ch) (f : Estim → Estim) (i : Ch) : (s.onEst c f).fb i = s.fb i := rfl
@[simp] theorem State.onEst_rule (c : Ch) (f : Estim → Estim) (i : RuleIx) : (s.onEst c f).rule i = s.rule i := rfl
@[simp] theorem State.onEst_modu (c : Ch) (f : Estim → Estim) (i : ModIx) : (s.onEst c f).modu i = s.modu i := rfl
@[simp] theorem State.onEst_gb (c : Ch) (f : Estim → Estim) (i : EntryIx) : (s.onEst c f).gb i = s.gb i := rfl
@[simp] theorem State.onEst_flt (c : Ch) (f : Estim → Estim) (i : FltIx) : (s.onEst c f).flt i = s.flt i := rfl
@[simp] theorem State.onEst_can (c : Ch) (f : Estim → Estim) (i : CanIx) : (s.onEst c f).can i = s.can i := rfl
@[simp] theorem State.onEst_aux (c : Ch) (f : Estim → Estim) (i : AuxIx) : (s.onEst c f).aux i = s.aux i := rfl
@[simp] theorem State.onEst_trip (c : Ch) (f : Estim → Estim) (i : TripIx) : (s.onEst c f).trip i = s.trip i := rfl
@[simp] theorem State.onEst_par (c : Ch) (f : Estim → Estim) (x y : Nat) : (s.onEst c f).par x y = s.par x y := rfl
@[simp] theorem State.onEst_hwOn (c : Ch) (f : Estim → Estim) : (s.onEst c f).hwOn = s.hwOn := rfl
@[simp] theorem State.onEst_fwOn (c : Ch) (f : Estim → Estim) : (s.onEst c f).fwOn = s.fwOn := rfl
@[simp] theorem State.onEst_caps (c : Ch) (f : Estim → Estim) : (s.onEst c f).caps = s.caps := rfl
@[simp] theorem State.onEst_suppressed (c : Ch) (f : Estim → Estim) (x : Nat) : (s.onEst c f).suppressed x = s.suppressed x := rfl

/-! ### onCoil -/

@[simp] theorem State.onCoil_pending (c : Ch) (f : Coil → Coil) : (s.onCoil c f).pending = s.pending := rfl
@[simp] theorem State.onCoil_phase (c : Ch) (f : Coil → Coil) : (s.onCoil c f).phase = s.phase := rfl
@[simp] theorem State.onCoil_fc (c : Ch) (f : Coil → Coil) : (s.onCoil c f).fc = s.fc := rfl
@[simp] theorem State.onCoil_runFc (c : Ch) (f : Coil → Coil) : (s.onCoil c f).runFc = s.runFc := rfl
@[simp] theorem State.onCoil_time (c : Ch) (f : Coil → Coil) : (s.onCoil c f).time = s.time := rfl
@[simp] theorem State.onCoil_timeFrac (c : Ch) (f : Coil → Coil) : (s.onCoil c f).timeFrac = s.timeFrac := rfl
@[simp] theorem State.onCoil_slotTime (c : Ch) (f : Coil → Coil) : (s.onCoil c f).slotTime = s.slotTime := rfl
@[simp] theorem State.onCoil_istep (c : Ch) (f : Coil → Coil) : (s.onCoil c f).istep = s.istep := rfl
@[simp] theorem State.onCoil_pulses (c : Ch) (f : Coil → Coil) : (s.onCoil c f).pulses = s.pulses := rfl
@[simp] theorem State.onCoil_params (c : Ch) (f : Coil → Coil) : (s.onCoil c f).params = s.params := rfl
@[simp] theorem State.onCoil_pairs (c : Ch) (f : Coil → Coil) : (s.onCoil c f).pairs = s.pairs := rfl
@[simp] theorem State.onCoil_groups (c : Ch) (f : Coil → Coil) : (s.onCoil c f).groups = s.groups := rfl
@[simp] theorem State.onCoil_banks (c : Ch) (f : Coil → Coil) : (s.onCoil c f).banks = s.banks := rfl
@[simp] theorem State.onCoil_pd (c : Ch) (f : Coil → Coil) : (s.onCoil c f).pd = s.pd := rfl
@[simp] theorem State.onCoil_link (c : Ch) (f : Coil → Coil) : (s.onCoil c f).link = s.link := rfl
@[simp] theorem State.onCoil_fbs (c : Ch) (f : Coil → Coil) : (s.onCoil c f).fbs = s.fbs := rfl
@[simp] theorem State.onCoil_rules (c : Ch) (f : Coil → Coil) : (s.onCoil c f).rules = s.rules := rfl
@[simp] theorem State.onCoil_modClk (c : Ch) (f : Coil → Coil) : (s.onCoil c f).modClk = s.modClk := rfl
@[simp] theorem State.onCoil_slotFc (c : Ch) (f : Coil → Coil) : (s.onCoil c f).slotFc = s.slotFc := rfl
@[simp] theorem State.onCoil_lostClks (c : Ch) (f : Coil → Coil) : (s.onCoil c f).lostClks = s.lostClks := rfl
@[simp] theorem State.onCoil_mods (c : Ch) (f : Coil → Coil) : (s.onCoil c f).mods = s.mods := rfl
@[simp] theorem State.onCoil_entries (c : Ch) (f : Coil → Coil) : (s.onCoil c f).entries = s.entries := rfl
@[simp] theorem State.onCoil_gbs (c : Ch) (f : Coil → Coil) : (s.onCoil c f).gbs = s.gbs := rfl
@[simp] theorem State.onCoil_flts (c : Ch) (f : Coil → Coil) : (s.onCoil c f).flts = s.flts := rfl
@[simp] theorem State.onCoil_cmps (c : Ch) (f : Coil → Coil) : (s.onCoil c f).cmps = s.cmps := rfl
@[simp] theorem State.onCoil_cans (c : Ch) (f : Coil → Coil) : (s.onCoil c f).cans = s.cans := rfl
@[simp] theorem State.onCoil_auxs (c : Ch) (f : Coil → Coil) : (s.onCoil c f).auxs = s.auxs := rfl
@[simp] theorem State.onCoil_trips (c : Ch) (f : Coil → Coil) : (s.onCoil c f).trips = s.trips := rfl
@[simp] theorem State.onCoil_mbx (c : Ch) (f : Coil → Coil) : (s.onCoil c f).mbx = s.mbx := rfl
@[simp] theorem State.onCoil_hp (c : Ch) (f : Coil → Coil) : (s.onCoil c f).hp = s.hp := rfl
@[simp] theorem State.onCoil_boot (c : Ch) (f : Coil → Coil) : (s.onCoil c f).boot = s.boot := rfl
@[simp] theorem State.onCoil_power (c : Ch) (f : Coil → Coil) : (s.onCoil c f).power = s.power := rfl
@[simp] theorem State.onCoil_sec (c : Ch) (f : Coil → Coil) : (s.onCoil c f).sec = s.sec := rfl
@[simp] theorem State.onCoil_otp (c : Ch) (f : Coil → Coil) : (s.onCoil c f).otp = s.otp := rfl
@[simp] theorem State.onCoil_bank (c : Ch) (f : Coil → Coil) (i : BankIx) : (s.onCoil c f).bank i = s.bank i := rfl
@[simp] theorem State.onCoil_pdChan (c : Ch) (f : Coil → Coil) (i : Ch) : (s.onCoil c f).pdChan i = s.pdChan i := rfl
@[simp] theorem State.onCoil_pdBank (c : Ch) (f : Coil → Coil) (i : BankIx) : (s.onCoil c f).pdBank i = s.pdBank i := rfl
@[simp] theorem State.onCoil_fb (c : Ch) (f : Coil → Coil) (i : Ch) : (s.onCoil c f).fb i = s.fb i := rfl
@[simp] theorem State.onCoil_rule (c : Ch) (f : Coil → Coil) (i : RuleIx) : (s.onCoil c f).rule i = s.rule i := rfl
@[simp] theorem State.onCoil_modu (c : Ch) (f : Coil → Coil) (i : ModIx) : (s.onCoil c f).modu i = s.modu i := rfl
@[simp] theorem State.onCoil_gb (c : Ch) (f : Coil → Coil) (i : EntryIx) : (s.onCoil c f).gb i = s.gb i := rfl
@[simp] theorem State.onCoil_flt (c : Ch) (f : Coil → Coil) (i : FltIx) : (s.onCoil c f).flt i = s.flt i := rfl
@[simp] theorem State.onCoil_can (c : Ch) (f : Coil → Coil) (i : CanIx) : (s.onCoil c f).can i = s.can i := rfl
@[simp] theorem State.onCoil_aux (c : Ch) (f : Coil → Coil) (i : AuxIx) : (s.onCoil c f).aux i = s.aux i := rfl
@[simp] theorem State.onCoil_trip (c : Ch) (f : Coil → Coil) (i : TripIx) : (s.onCoil c f).trip i = s.trip i := rfl
@[simp] theorem State.onCoil_par (c : Ch) (f : Coil → Coil) (x y : Nat) : (s.onCoil c f).par x y = s.par x y := rfl
@[simp] theorem State.onCoil_hwOn (c : Ch) (f : Coil → Coil) : (s.onCoil c f).hwOn = s.hwOn := rfl
@[simp] theorem State.onCoil_fwOn (c : Ch) (f : Coil → Coil) : (s.onCoil c f).fwOn = s.fwOn := rfl
@[simp] theorem State.onCoil_caps (c : Ch) (f : Coil → Coil) : (s.onCoil c f).caps = s.caps := rfl
@[simp] theorem State.onCoil_suppressed (c : Ch) (f : Coil → Coil) (x : Nat) : (s.onCoil c f).suppressed x = s.suppressed x := rfl

/-! ### onBank -/

@[simp] theorem State.onBank_pending (b : BankIx) (f : Bank → Bank) : (s.onBank b f).pending = s.pending := rfl
@[simp] theorem State.onBank_phase (b : BankIx) (f : Bank → Bank) : (s.onBank b f).phase = s.phase := rfl
@[simp] theorem State.onBank_fc (b : BankIx) (f : Bank → Bank) : (s.onBank b f).fc = s.fc := rfl
@[simp] theorem State.onBank_runFc (b : BankIx) (f : Bank → Bank) : (s.onBank b f).runFc = s.runFc := rfl
@[simp] theorem State.onBank_time (b : BankIx) (f : Bank → Bank) : (s.onBank b f).time = s.time := rfl
@[simp] theorem State.onBank_timeFrac (b : BankIx) (f : Bank → Bank) : (s.onBank b f).timeFrac = s.timeFrac := rfl
@[simp] theorem State.onBank_slotTime (b : BankIx) (f : Bank → Bank) : (s.onBank b f).slotTime = s.slotTime := rfl
@[simp] theorem State.onBank_istep (b : BankIx) (f : Bank → Bank) : (s.onBank b f).istep = s.istep := rfl
@[simp] theorem State.onBank_pulses (b : BankIx) (f : Bank → Bank) : (s.onBank b f).pulses = s.pulses := rfl
@[simp] theorem State.onBank_params (b : BankIx) (f : Bank → Bank) : (s.onBank b f).params = s.params := rfl
@[simp] theorem State.onBank_chans (b : BankIx) (f : Bank → Bank) : (s.onBank b f).chans = s.chans := rfl
@[simp] theorem State.onBank_pairs (b : BankIx) (f : Bank → Bank) : (s.onBank b f).pairs = s.pairs := rfl
@[simp] theorem State.onBank_groups (b : BankIx) (f : Bank → Bank) : (s.onBank b f).groups = s.groups := rfl
@[simp] theorem State.onBank_pd (b : BankIx) (f : Bank → Bank) : (s.onBank b f).pd = s.pd := rfl
@[simp] theorem State.onBank_link (b : BankIx) (f : Bank → Bank) : (s.onBank b f).link = s.link := rfl
@[simp] theorem State.onBank_fbs (b : BankIx) (f : Bank → Bank) : (s.onBank b f).fbs = s.fbs := rfl
@[simp] theorem State.onBank_rules (b : BankIx) (f : Bank → Bank) : (s.onBank b f).rules = s.rules := rfl
@[simp] theorem State.onBank_modClk (b : BankIx) (f : Bank → Bank) : (s.onBank b f).modClk = s.modClk := rfl
@[simp] theorem State.onBank_slotFc (b : BankIx) (f : Bank → Bank) : (s.onBank b f).slotFc = s.slotFc := rfl
@[simp] theorem State.onBank_lostClks (b : BankIx) (f : Bank → Bank) : (s.onBank b f).lostClks = s.lostClks := rfl
@[simp] theorem State.onBank_mods (b : BankIx) (f : Bank → Bank) : (s.onBank b f).mods = s.mods := rfl
@[simp] theorem State.onBank_entries (b : BankIx) (f : Bank → Bank) : (s.onBank b f).entries = s.entries := rfl
@[simp] theorem State.onBank_gbs (b : BankIx) (f : Bank → Bank) : (s.onBank b f).gbs = s.gbs := rfl
@[simp] theorem State.onBank_flts (b : BankIx) (f : Bank → Bank) : (s.onBank b f).flts = s.flts := rfl
@[simp] theorem State.onBank_cmps (b : BankIx) (f : Bank → Bank) : (s.onBank b f).cmps = s.cmps := rfl
@[simp] theorem State.onBank_cans (b : BankIx) (f : Bank → Bank) : (s.onBank b f).cans = s.cans := rfl
@[simp] theorem State.onBank_auxs (b : BankIx) (f : Bank → Bank) : (s.onBank b f).auxs = s.auxs := rfl
@[simp] theorem State.onBank_trips (b : BankIx) (f : Bank → Bank) : (s.onBank b f).trips = s.trips := rfl
@[simp] theorem State.onBank_mbx (b : BankIx) (f : Bank → Bank) : (s.onBank b f).mbx = s.mbx := rfl
@[simp] theorem State.onBank_hp (b : BankIx) (f : Bank → Bank) : (s.onBank b f).hp = s.hp := rfl
@[simp] theorem State.onBank_boot (b : BankIx) (f : Bank → Bank) : (s.onBank b f).boot = s.boot := rfl
@[simp] theorem State.onBank_power (b : BankIx) (f : Bank → Bank) : (s.onBank b f).power = s.power := rfl
@[simp] theorem State.onBank_sec (b : BankIx) (f : Bank → Bank) : (s.onBank b f).sec = s.sec := rfl
@[simp] theorem State.onBank_otp (b : BankIx) (f : Bank → Bank) : (s.onBank b f).otp = s.otp := rfl
@[simp] theorem State.onBank_chan (b : BankIx) (f : Bank → Bank) (i : Ch) : (s.onBank b f).chan i = s.chan i := rfl
@[simp] theorem State.onBank_pdChan (b : BankIx) (f : Bank → Bank) (i : Ch) : (s.onBank b f).pdChan i = s.pdChan i := rfl
@[simp] theorem State.onBank_pdBank (b : BankIx) (f : Bank → Bank) (i : BankIx) : (s.onBank b f).pdBank i = s.pdBank i := rfl
@[simp] theorem State.onBank_fb (b : BankIx) (f : Bank → Bank) (i : Ch) : (s.onBank b f).fb i = s.fb i := rfl
@[simp] theorem State.onBank_rule (b : BankIx) (f : Bank → Bank) (i : RuleIx) : (s.onBank b f).rule i = s.rule i := rfl
@[simp] theorem State.onBank_modu (b : BankIx) (f : Bank → Bank) (i : ModIx) : (s.onBank b f).modu i = s.modu i := rfl
@[simp] theorem State.onBank_gb (b : BankIx) (f : Bank → Bank) (i : EntryIx) : (s.onBank b f).gb i = s.gb i := rfl
@[simp] theorem State.onBank_flt (b : BankIx) (f : Bank → Bank) (i : FltIx) : (s.onBank b f).flt i = s.flt i := rfl
@[simp] theorem State.onBank_can (b : BankIx) (f : Bank → Bank) (i : CanIx) : (s.onBank b f).can i = s.can i := rfl
@[simp] theorem State.onBank_aux (b : BankIx) (f : Bank → Bank) (i : AuxIx) : (s.onBank b f).aux i = s.aux i := rfl
@[simp] theorem State.onBank_trip (b : BankIx) (f : Bank → Bank) (i : TripIx) : (s.onBank b f).trip i = s.trip i := rfl
@[simp] theorem State.onBank_par (b : BankIx) (f : Bank → Bank) (x y : Nat) : (s.onBank b f).par x y = s.par x y := rfl
@[simp] theorem State.onBank_hwOn (b : BankIx) (f : Bank → Bank) : (s.onBank b f).hwOn = s.hwOn := rfl
@[simp] theorem State.onBank_fwOn (b : BankIx) (f : Bank → Bank) : (s.onBank b f).fwOn = s.fwOn := rfl
@[simp] theorem State.onBank_caps (b : BankIx) (f : Bank → Bank) : (s.onBank b f).caps = s.caps := rfl
@[simp] theorem State.onBank_suppressed (b : BankIx) (f : Bank → Bank) (x : Nat) : (s.onBank b f).suppressed x = s.suppressed x := rfl

/-! ### onPdChan -/

@[simp] theorem State.onPdChan_pending (c : Ch) (f : PdChan → PdChan) : (s.onPdChan c f).pending = s.pending := rfl
@[simp] theorem State.onPdChan_phase (c : Ch) (f : PdChan → PdChan) : (s.onPdChan c f).phase = s.phase := rfl
@[simp] theorem State.onPdChan_fc (c : Ch) (f : PdChan → PdChan) : (s.onPdChan c f).fc = s.fc := rfl
@[simp] theorem State.onPdChan_runFc (c : Ch) (f : PdChan → PdChan) : (s.onPdChan c f).runFc = s.runFc := rfl
@[simp] theorem State.onPdChan_time (c : Ch) (f : PdChan → PdChan) : (s.onPdChan c f).time = s.time := rfl
@[simp] theorem State.onPdChan_timeFrac (c : Ch) (f : PdChan → PdChan) : (s.onPdChan c f).timeFrac = s.timeFrac := rfl
@[simp] theorem State.onPdChan_slotTime (c : Ch) (f : PdChan → PdChan) : (s.onPdChan c f).slotTime = s.slotTime := rfl
@[simp] theorem State.onPdChan_istep (c : Ch) (f : PdChan → PdChan) : (s.onPdChan c f).istep = s.istep := rfl
@[simp] theorem State.onPdChan_pulses (c : Ch) (f : PdChan → PdChan) : (s.onPdChan c f).pulses = s.pulses := rfl
@[simp] theorem State.onPdChan_params (c : Ch) (f : PdChan → PdChan) : (s.onPdChan c f).params = s.params := rfl
@[simp] theorem State.onPdChan_chans (c : Ch) (f : PdChan → PdChan) : (s.onPdChan c f).chans = s.chans := rfl
@[simp] theorem State.onPdChan_pairs (c : Ch) (f : PdChan → PdChan) : (s.onPdChan c f).pairs = s.pairs := rfl
@[simp] theorem State.onPdChan_groups (c : Ch) (f : PdChan → PdChan) : (s.onPdChan c f).groups = s.groups := rfl
@[simp] theorem State.onPdChan_banks (c : Ch) (f : PdChan → PdChan) : (s.onPdChan c f).banks = s.banks := rfl
@[simp] theorem State.onPdChan_link (c : Ch) (f : PdChan → PdChan) : (s.onPdChan c f).link = s.link := rfl
@[simp] theorem State.onPdChan_fbs (c : Ch) (f : PdChan → PdChan) : (s.onPdChan c f).fbs = s.fbs := rfl
@[simp] theorem State.onPdChan_rules (c : Ch) (f : PdChan → PdChan) : (s.onPdChan c f).rules = s.rules := rfl
@[simp] theorem State.onPdChan_modClk (c : Ch) (f : PdChan → PdChan) : (s.onPdChan c f).modClk = s.modClk := rfl
@[simp] theorem State.onPdChan_slotFc (c : Ch) (f : PdChan → PdChan) : (s.onPdChan c f).slotFc = s.slotFc := rfl
@[simp] theorem State.onPdChan_lostClks (c : Ch) (f : PdChan → PdChan) : (s.onPdChan c f).lostClks = s.lostClks := rfl
@[simp] theorem State.onPdChan_mods (c : Ch) (f : PdChan → PdChan) : (s.onPdChan c f).mods = s.mods := rfl
@[simp] theorem State.onPdChan_entries (c : Ch) (f : PdChan → PdChan) : (s.onPdChan c f).entries = s.entries := rfl
@[simp] theorem State.onPdChan_gbs (c : Ch) (f : PdChan → PdChan) : (s.onPdChan c f).gbs = s.gbs := rfl
@[simp] theorem State.onPdChan_flts (c : Ch) (f : PdChan → PdChan) : (s.onPdChan c f).flts = s.flts := rfl
@[simp] theorem State.onPdChan_cmps (c : Ch) (f : PdChan → PdChan) : (s.onPdChan c f).cmps = s.cmps := rfl
@[simp] theorem State.onPdChan_cans (c : Ch) (f : PdChan → PdChan) : (s.onPdChan c f).cans = s.cans := rfl
@[simp] theorem State.onPdChan_auxs (c : Ch) (f : PdChan → PdChan) : (s.onPdChan c f).auxs = s.auxs := rfl
@[simp] theorem State.onPdChan_trips (c : Ch) (f : PdChan → PdChan) : (s.onPdChan c f).trips = s.trips := rfl
@[simp] theorem State.onPdChan_mbx (c : Ch) (f : PdChan → PdChan) : (s.onPdChan c f).mbx = s.mbx := rfl
@[simp] theorem State.onPdChan_hp (c : Ch) (f : PdChan → PdChan) : (s.onPdChan c f).hp = s.hp := rfl
@[simp] theorem State.onPdChan_boot (c : Ch) (f : PdChan → PdChan) : (s.onPdChan c f).boot = s.boot := rfl
@[simp] theorem State.onPdChan_power (c : Ch) (f : PdChan → PdChan) : (s.onPdChan c f).power = s.power := rfl
@[simp] theorem State.onPdChan_sec (c : Ch) (f : PdChan → PdChan) : (s.onPdChan c f).sec = s.sec := rfl
@[simp] theorem State.onPdChan_otp (c : Ch) (f : PdChan → PdChan) : (s.onPdChan c f).otp = s.otp := rfl
@[simp] theorem State.onPdChan_chan (c : Ch) (f : PdChan → PdChan) (i : Ch) : (s.onPdChan c f).chan i = s.chan i := rfl
@[simp] theorem State.onPdChan_bank (c : Ch) (f : PdChan → PdChan) (i : BankIx) : (s.onPdChan c f).bank i = s.bank i := rfl
@[simp] theorem State.onPdChan_fb (c : Ch) (f : PdChan → PdChan) (i : Ch) : (s.onPdChan c f).fb i = s.fb i := rfl
@[simp] theorem State.onPdChan_rule (c : Ch) (f : PdChan → PdChan) (i : RuleIx) : (s.onPdChan c f).rule i = s.rule i := rfl
@[simp] theorem State.onPdChan_modu (c : Ch) (f : PdChan → PdChan) (i : ModIx) : (s.onPdChan c f).modu i = s.modu i := rfl
@[simp] theorem State.onPdChan_gb (c : Ch) (f : PdChan → PdChan) (i : EntryIx) : (s.onPdChan c f).gb i = s.gb i := rfl
@[simp] theorem State.onPdChan_flt (c : Ch) (f : PdChan → PdChan) (i : FltIx) : (s.onPdChan c f).flt i = s.flt i := rfl
@[simp] theorem State.onPdChan_can (c : Ch) (f : PdChan → PdChan) (i : CanIx) : (s.onPdChan c f).can i = s.can i := rfl
@[simp] theorem State.onPdChan_aux (c : Ch) (f : PdChan → PdChan) (i : AuxIx) : (s.onPdChan c f).aux i = s.aux i := rfl
@[simp] theorem State.onPdChan_trip (c : Ch) (f : PdChan → PdChan) (i : TripIx) : (s.onPdChan c f).trip i = s.trip i := rfl
@[simp] theorem State.onPdChan_pdBank (c : Ch) (f : PdChan → PdChan) (i : BankIx) : (s.onPdChan c f).pdBank i = s.pdBank i := rfl
@[simp] theorem State.onPdChan_par (c : Ch) (f : PdChan → PdChan) (x y : Nat) : (s.onPdChan c f).par x y = s.par x y := rfl
@[simp] theorem State.onPdChan_hwOn (c : Ch) (f : PdChan → PdChan) : (s.onPdChan c f).hwOn = s.hwOn := rfl
@[simp] theorem State.onPdChan_fwOn (c : Ch) (f : PdChan → PdChan) : (s.onPdChan c f).fwOn = s.fwOn := rfl
@[simp] theorem State.onPdChan_caps (c : Ch) (f : PdChan → PdChan) : (s.onPdChan c f).caps = s.caps := rfl
@[simp] theorem State.onPdChan_suppressed (c : Ch) (f : PdChan → PdChan) (x : Nat) : (s.onPdChan c f).suppressed x = s.suppressed x := rfl

/-! ### onPdBank -/

@[simp] theorem State.onPdBank_pending (b : BankIx) (f : PdBank → PdBank) : (s.onPdBank b f).pending = s.pending := rfl
@[simp] theorem State.onPdBank_phase (b : BankIx) (f : PdBank → PdBank) : (s.onPdBank b f).phase = s.phase := rfl
@[simp] theorem State.onPdBank_fc (b : BankIx) (f : PdBank → PdBank) : (s.onPdBank b f).fc = s.fc := rfl
@[simp] theorem State.onPdBank_runFc (b : BankIx) (f : PdBank → PdBank) : (s.onPdBank b f).runFc = s.runFc := rfl
@[simp] theorem State.onPdBank_time (b : BankIx) (f : PdBank → PdBank) : (s.onPdBank b f).time = s.time := rfl
@[simp] theorem State.onPdBank_timeFrac (b : BankIx) (f : PdBank → PdBank) : (s.onPdBank b f).timeFrac = s.timeFrac := rfl
@[simp] theorem State.onPdBank_slotTime (b : BankIx) (f : PdBank → PdBank) : (s.onPdBank b f).slotTime = s.slotTime := rfl
@[simp] theorem State.onPdBank_istep (b : BankIx) (f : PdBank → PdBank) : (s.onPdBank b f).istep = s.istep := rfl
@[simp] theorem State.onPdBank_pulses (b : BankIx) (f : PdBank → PdBank) : (s.onPdBank b f).pulses = s.pulses := rfl
@[simp] theorem State.onPdBank_params (b : BankIx) (f : PdBank → PdBank) : (s.onPdBank b f).params = s.params := rfl
@[simp] theorem State.onPdBank_chans (b : BankIx) (f : PdBank → PdBank) : (s.onPdBank b f).chans = s.chans := rfl
@[simp] theorem State.onPdBank_pairs (b : BankIx) (f : PdBank → PdBank) : (s.onPdBank b f).pairs = s.pairs := rfl
@[simp] theorem State.onPdBank_groups (b : BankIx) (f : PdBank → PdBank) : (s.onPdBank b f).groups = s.groups := rfl
@[simp] theorem State.onPdBank_banks (b : BankIx) (f : PdBank → PdBank) : (s.onPdBank b f).banks = s.banks := rfl
@[simp] theorem State.onPdBank_link (b : BankIx) (f : PdBank → PdBank) : (s.onPdBank b f).link = s.link := rfl
@[simp] theorem State.onPdBank_fbs (b : BankIx) (f : PdBank → PdBank) : (s.onPdBank b f).fbs = s.fbs := rfl
@[simp] theorem State.onPdBank_rules (b : BankIx) (f : PdBank → PdBank) : (s.onPdBank b f).rules = s.rules := rfl
@[simp] theorem State.onPdBank_modClk (b : BankIx) (f : PdBank → PdBank) : (s.onPdBank b f).modClk = s.modClk := rfl
@[simp] theorem State.onPdBank_slotFc (b : BankIx) (f : PdBank → PdBank) : (s.onPdBank b f).slotFc = s.slotFc := rfl
@[simp] theorem State.onPdBank_lostClks (b : BankIx) (f : PdBank → PdBank) : (s.onPdBank b f).lostClks = s.lostClks := rfl
@[simp] theorem State.onPdBank_mods (b : BankIx) (f : PdBank → PdBank) : (s.onPdBank b f).mods = s.mods := rfl
@[simp] theorem State.onPdBank_entries (b : BankIx) (f : PdBank → PdBank) : (s.onPdBank b f).entries = s.entries := rfl
@[simp] theorem State.onPdBank_gbs (b : BankIx) (f : PdBank → PdBank) : (s.onPdBank b f).gbs = s.gbs := rfl
@[simp] theorem State.onPdBank_flts (b : BankIx) (f : PdBank → PdBank) : (s.onPdBank b f).flts = s.flts := rfl
@[simp] theorem State.onPdBank_cmps (b : BankIx) (f : PdBank → PdBank) : (s.onPdBank b f).cmps = s.cmps := rfl
@[simp] theorem State.onPdBank_cans (b : BankIx) (f : PdBank → PdBank) : (s.onPdBank b f).cans = s.cans := rfl
@[simp] theorem State.onPdBank_auxs (b : BankIx) (f : PdBank → PdBank) : (s.onPdBank b f).auxs = s.auxs := rfl
@[simp] theorem State.onPdBank_trips (b : BankIx) (f : PdBank → PdBank) : (s.onPdBank b f).trips = s.trips := rfl
@[simp] theorem State.onPdBank_mbx (b : BankIx) (f : PdBank → PdBank) : (s.onPdBank b f).mbx = s.mbx := rfl
@[simp] theorem State.onPdBank_hp (b : BankIx) (f : PdBank → PdBank) : (s.onPdBank b f).hp = s.hp := rfl
@[simp] theorem State.onPdBank_boot (b : BankIx) (f : PdBank → PdBank) : (s.onPdBank b f).boot = s.boot := rfl
@[simp] theorem State.onPdBank_power (b : BankIx) (f : PdBank → PdBank) : (s.onPdBank b f).power = s.power := rfl
@[simp] theorem State.onPdBank_sec (b : BankIx) (f : PdBank → PdBank) : (s.onPdBank b f).sec = s.sec := rfl
@[simp] theorem State.onPdBank_otp (b : BankIx) (f : PdBank → PdBank) : (s.onPdBank b f).otp = s.otp := rfl
@[simp] theorem State.onPdBank_chan (b : BankIx) (f : PdBank → PdBank) (i : Ch) : (s.onPdBank b f).chan i = s.chan i := rfl
@[simp] theorem State.onPdBank_bank (b : BankIx) (f : PdBank → PdBank) (i : BankIx) : (s.onPdBank b f).bank i = s.bank i := rfl
@[simp] theorem State.onPdBank_fb (b : BankIx) (f : PdBank → PdBank) (i : Ch) : (s.onPdBank b f).fb i = s.fb i := rfl
@[simp] theorem State.onPdBank_rule (b : BankIx) (f : PdBank → PdBank) (i : RuleIx) : (s.onPdBank b f).rule i = s.rule i := rfl
@[simp] theorem State.onPdBank_modu (b : BankIx) (f : PdBank → PdBank) (i : ModIx) : (s.onPdBank b f).modu i = s.modu i := rfl
@[simp] theorem State.onPdBank_gb (b : BankIx) (f : PdBank → PdBank) (i : EntryIx) : (s.onPdBank b f).gb i = s.gb i := rfl
@[simp] theorem State.onPdBank_flt (b : BankIx) (f : PdBank → PdBank) (i : FltIx) : (s.onPdBank b f).flt i = s.flt i := rfl
@[simp] theorem State.onPdBank_can (b : BankIx) (f : PdBank → PdBank) (i : CanIx) : (s.onPdBank b f).can i = s.can i := rfl
@[simp] theorem State.onPdBank_aux (b : BankIx) (f : PdBank → PdBank) (i : AuxIx) : (s.onPdBank b f).aux i = s.aux i := rfl
@[simp] theorem State.onPdBank_trip (b : BankIx) (f : PdBank → PdBank) (i : TripIx) : (s.onPdBank b f).trip i = s.trip i := rfl
@[simp] theorem State.onPdBank_pdChan (b : BankIx) (f : PdBank → PdBank) (i : Ch) : (s.onPdBank b f).pdChan i = s.pdChan i := rfl
@[simp] theorem State.onPdBank_par (b : BankIx) (f : PdBank → PdBank) (x y : Nat) : (s.onPdBank b f).par x y = s.par x y := rfl
@[simp] theorem State.onPdBank_hwOn (b : BankIx) (f : PdBank → PdBank) : (s.onPdBank b f).hwOn = s.hwOn := rfl
@[simp] theorem State.onPdBank_fwOn (b : BankIx) (f : PdBank → PdBank) : (s.onPdBank b f).fwOn = s.fwOn := rfl
@[simp] theorem State.onPdBank_caps (b : BankIx) (f : PdBank → PdBank) : (s.onPdBank b f).caps = s.caps := rfl
@[simp] theorem State.onPdBank_suppressed (b : BankIx) (f : PdBank → PdBank) (x : Nat) : (s.onPdBank b f).suppressed x = s.suppressed x := rfl

/-! ### onFb -/

@[simp] theorem State.onFb_pending (c : Ch) (f : Fb → Fb) : (s.onFb c f).pending = s.pending := rfl
@[simp] theorem State.onFb_phase (c : Ch) (f : Fb → Fb) : (s.onFb c f).phase = s.phase := rfl
@[simp] theorem State.onFb_fc (c : Ch) (f : Fb → Fb) : (s.onFb c f).fc = s.fc := rfl
@[simp] theorem State.onFb_runFc (c : Ch) (f : Fb → Fb) : (s.onFb c f).runFc = s.runFc := rfl
@[simp] theorem State.onFb_time (c : Ch) (f : Fb → Fb) : (s.onFb c f).time = s.time := rfl
@[simp] theorem State.onFb_timeFrac (c : Ch) (f : Fb → Fb) : (s.onFb c f).timeFrac = s.timeFrac := rfl
@[simp] theorem State.onFb_slotTime (c : Ch) (f : Fb → Fb) : (s.onFb c f).slotTime = s.slotTime := rfl
@[simp] theorem State.onFb_istep (c : Ch) (f : Fb → Fb) : (s.onFb c f).istep = s.istep := rfl
@[simp] theorem State.onFb_pulses (c : Ch) (f : Fb → Fb) : (s.onFb c f).pulses = s.pulses := rfl
@[simp] theorem State.onFb_params (c : Ch) (f : Fb → Fb) : (s.onFb c f).params = s.params := rfl
@[simp] theorem State.onFb_chans (c : Ch) (f : Fb → Fb) : (s.onFb c f).chans = s.chans := rfl
@[simp] theorem State.onFb_pairs (c : Ch) (f : Fb → Fb) : (s.onFb c f).pairs = s.pairs := rfl
@[simp] theorem State.onFb_groups (c : Ch) (f : Fb → Fb) : (s.onFb c f).groups = s.groups := rfl
@[simp] theorem State.onFb_banks (c : Ch) (f : Fb → Fb) : (s.onFb c f).banks = s.banks := rfl
@[simp] theorem State.onFb_pd (c : Ch) (f : Fb → Fb) : (s.onFb c f).pd = s.pd := rfl
@[simp] theorem State.onFb_link (c : Ch) (f : Fb → Fb) : (s.onFb c f).link = s.link := rfl
@[simp] theorem State.onFb_rules (c : Ch) (f : Fb → Fb) : (s.onFb c f).rules = s.rules := rfl
@[simp] theorem State.onFb_modClk (c : Ch) (f : Fb → Fb) : (s.onFb c f).modClk = s.modClk := rfl
@[simp] theorem State.onFb_slotFc (c : Ch) (f : Fb → Fb) : (s.onFb c f).slotFc = s.slotFc := rfl
@[simp] theorem State.onFb_lostClks (c : Ch) (f : Fb → Fb) : (s.onFb c f).lostClks = s.lostClks := rfl
@[simp] theorem State.onFb_mods (c : Ch) (f : Fb → Fb) : (s.onFb c f).mods = s.mods := rfl
@[simp] theorem State.onFb_entries (c : Ch) (f : Fb → Fb) : (s.onFb c f).entries = s.entries := rfl
@[simp] theorem State.onFb_gbs (c : Ch) (f : Fb → Fb) : (s.onFb c f).gbs = s.gbs := rfl
@[simp] theorem State.onFb_flts (c : Ch) (f : Fb → Fb) : (s.onFb c f).flts = s.flts := rfl
@[simp] theorem State.onFb_cmps (c : Ch) (f : Fb → Fb) : (s.onFb c f).cmps = s.cmps := rfl
@[simp] theorem State.onFb_cans (c : Ch) (f : Fb → Fb) : (s.onFb c f).cans = s.cans := rfl
@[simp] theorem State.onFb_auxs (c : Ch) (f : Fb → Fb) : (s.onFb c f).auxs = s.auxs := rfl
@[simp] theorem State.onFb_trips (c : Ch) (f : Fb → Fb) : (s.onFb c f).trips = s.trips := rfl
@[simp] theorem State.onFb_mbx (c : Ch) (f : Fb → Fb) : (s.onFb c f).mbx = s.mbx := rfl
@[simp] theorem State.onFb_hp (c : Ch) (f : Fb → Fb) : (s.onFb c f).hp = s.hp := rfl
@[simp] theorem State.onFb_boot (c : Ch) (f : Fb → Fb) : (s.onFb c f).boot = s.boot := rfl
@[simp] theorem State.onFb_power (c : Ch) (f : Fb → Fb) : (s.onFb c f).power = s.power := rfl
@[simp] theorem State.onFb_sec (c : Ch) (f : Fb → Fb) : (s.onFb c f).sec = s.sec := rfl
@[simp] theorem State.onFb_otp (c : Ch) (f : Fb → Fb) : (s.onFb c f).otp = s.otp := rfl
@[simp] theorem State.onFb_chan (c : Ch) (f : Fb → Fb) (i : Ch) : (s.onFb c f).chan i = s.chan i := rfl
@[simp] theorem State.onFb_bank (c : Ch) (f : Fb → Fb) (i : BankIx) : (s.onFb c f).bank i = s.bank i := rfl
@[simp] theorem State.onFb_pdChan (c : Ch) (f : Fb → Fb) (i : Ch) : (s.onFb c f).pdChan i = s.pdChan i := rfl
@[simp] theorem State.onFb_pdBank (c : Ch) (f : Fb → Fb) (i : BankIx) : (s.onFb c f).pdBank i = s.pdBank i := rfl
@[simp] theorem State.onFb_rule (c : Ch) (f : Fb → Fb) (i : RuleIx) : (s.onFb c f).rule i = s.rule i := rfl
@[simp] theorem State.onFb_modu (c : Ch) (f : Fb → Fb) (i : ModIx) : (s.onFb c f).modu i = s.modu i := rfl
@[simp] theorem State.onFb_gb (c : Ch) (f : Fb → Fb) (i : EntryIx) : (s.onFb c f).gb i = s.gb i := rfl
@[simp] theorem State.onFb_flt (c : Ch) (f : Fb → Fb) (i : FltIx) : (s.onFb c f).flt i = s.flt i := rfl
@[simp] theorem State.onFb_can (c : Ch) (f : Fb → Fb) (i : CanIx) : (s.onFb c f).can i = s.can i := rfl
@[simp] theorem State.onFb_aux (c : Ch) (f : Fb → Fb) (i : AuxIx) : (s.onFb c f).aux i = s.aux i := rfl
@[simp] theorem State.onFb_trip (c : Ch) (f : Fb → Fb) (i : TripIx) : (s.onFb c f).trip i = s.trip i := rfl
@[simp] theorem State.onFb_par (c : Ch) (f : Fb → Fb) (x y : Nat) : (s.onFb c f).par x y = s.par x y := rfl
@[simp] theorem State.onFb_hwOn (c : Ch) (f : Fb → Fb) : (s.onFb c f).hwOn = s.hwOn := rfl
@[simp] theorem State.onFb_fwOn (c : Ch) (f : Fb → Fb) : (s.onFb c f).fwOn = s.fwOn := rfl
@[simp] theorem State.onFb_caps (c : Ch) (f : Fb → Fb) : (s.onFb c f).caps = s.caps := rfl
@[simp] theorem State.onFb_suppressed (c : Ch) (f : Fb → Fb) (x : Nat) : (s.onFb c f).suppressed x = s.suppressed x := rfl

/-! ### onRule -/

@[simp] theorem State.onRule_pending (r : RuleIx) (f : Rule → Rule) : (s.onRule r f).pending = s.pending := rfl
@[simp] theorem State.onRule_phase (r : RuleIx) (f : Rule → Rule) : (s.onRule r f).phase = s.phase := rfl
@[simp] theorem State.onRule_fc (r : RuleIx) (f : Rule → Rule) : (s.onRule r f).fc = s.fc := rfl
@[simp] theorem State.onRule_runFc (r : RuleIx) (f : Rule → Rule) : (s.onRule r f).runFc = s.runFc := rfl
@[simp] theorem State.onRule_time (r : RuleIx) (f : Rule → Rule) : (s.onRule r f).time = s.time := rfl
@[simp] theorem State.onRule_timeFrac (r : RuleIx) (f : Rule → Rule) : (s.onRule r f).timeFrac = s.timeFrac := rfl
@[simp] theorem State.onRule_slotTime (r : RuleIx) (f : Rule → Rule) : (s.onRule r f).slotTime = s.slotTime := rfl
@[simp] theorem State.onRule_istep (r : RuleIx) (f : Rule → Rule) : (s.onRule r f).istep = s.istep := rfl
@[simp] theorem State.onRule_pulses (r : RuleIx) (f : Rule → Rule) : (s.onRule r f).pulses = s.pulses := rfl
@[simp] theorem State.onRule_params (r : RuleIx) (f : Rule → Rule) : (s.onRule r f).params = s.params := rfl
@[simp] theorem State.onRule_chans (r : RuleIx) (f : Rule → Rule) : (s.onRule r f).chans = s.chans := rfl
@[simp] theorem State.onRule_pairs (r : RuleIx) (f : Rule → Rule) : (s.onRule r f).pairs = s.pairs := rfl
@[simp] theorem State.onRule_groups (r : RuleIx) (f : Rule → Rule) : (s.onRule r f).groups = s.groups := rfl
@[simp] theorem State.onRule_banks (r : RuleIx) (f : Rule → Rule) : (s.onRule r f).banks = s.banks := rfl
@[simp] theorem State.onRule_pd (r : RuleIx) (f : Rule → Rule) : (s.onRule r f).pd = s.pd := rfl
@[simp] theorem State.onRule_link (r : RuleIx) (f : Rule → Rule) : (s.onRule r f).link = s.link := rfl
@[simp] theorem State.onRule_fbs (r : RuleIx) (f : Rule → Rule) : (s.onRule r f).fbs = s.fbs := rfl
@[simp] theorem State.onRule_modClk (r : RuleIx) (f : Rule → Rule) : (s.onRule r f).modClk = s.modClk := rfl
@[simp] theorem State.onRule_slotFc (r : RuleIx) (f : Rule → Rule) : (s.onRule r f).slotFc = s.slotFc := rfl
@[simp] theorem State.onRule_lostClks (r : RuleIx) (f : Rule → Rule) : (s.onRule r f).lostClks = s.lostClks := rfl
@[simp] theorem State.onRule_mods (r : RuleIx) (f : Rule → Rule) : (s.onRule r f).mods = s.mods := rfl
@[simp] theorem State.onRule_entries (r : RuleIx) (f : Rule → Rule) : (s.onRule r f).entries = s.entries := rfl
@[simp] theorem State.onRule_gbs (r : RuleIx) (f : Rule → Rule) : (s.onRule r f).gbs = s.gbs := rfl
@[simp] theorem State.onRule_flts (r : RuleIx) (f : Rule → Rule) : (s.onRule r f).flts = s.flts := rfl
@[simp] theorem State.onRule_cmps (r : RuleIx) (f : Rule → Rule) : (s.onRule r f).cmps = s.cmps := rfl
@[simp] theorem State.onRule_cans (r : RuleIx) (f : Rule → Rule) : (s.onRule r f).cans = s.cans := rfl
@[simp] theorem State.onRule_auxs (r : RuleIx) (f : Rule → Rule) : (s.onRule r f).auxs = s.auxs := rfl
@[simp] theorem State.onRule_trips (r : RuleIx) (f : Rule → Rule) : (s.onRule r f).trips = s.trips := rfl
@[simp] theorem State.onRule_mbx (r : RuleIx) (f : Rule → Rule) : (s.onRule r f).mbx = s.mbx := rfl
@[simp] theorem State.onRule_hp (r : RuleIx) (f : Rule → Rule) : (s.onRule r f).hp = s.hp := rfl
@[simp] theorem State.onRule_boot (r : RuleIx) (f : Rule → Rule) : (s.onRule r f).boot = s.boot := rfl
@[simp] theorem State.onRule_power (r : RuleIx) (f : Rule → Rule) : (s.onRule r f).power = s.power := rfl
@[simp] theorem State.onRule_sec (r : RuleIx) (f : Rule → Rule) : (s.onRule r f).sec = s.sec := rfl
@[simp] theorem State.onRule_otp (r : RuleIx) (f : Rule → Rule) : (s.onRule r f).otp = s.otp := rfl
@[simp] theorem State.onRule_chan (r : RuleIx) (f : Rule → Rule) (i : Ch) : (s.onRule r f).chan i = s.chan i := rfl
@[simp] theorem State.onRule_bank (r : RuleIx) (f : Rule → Rule) (i : BankIx) : (s.onRule r f).bank i = s.bank i := rfl
@[simp] theorem State.onRule_pdChan (r : RuleIx) (f : Rule → Rule) (i : Ch) : (s.onRule r f).pdChan i = s.pdChan i := rfl
@[simp] theorem State.onRule_pdBank (r : RuleIx) (f : Rule → Rule) (i : BankIx) : (s.onRule r f).pdBank i = s.pdBank i := rfl
@[simp] theorem State.onRule_fb (r : RuleIx) (f : Rule → Rule) (i : Ch) : (s.onRule r f).fb i = s.fb i := rfl
@[simp] theorem State.onRule_modu (r : RuleIx) (f : Rule → Rule) (i : ModIx) : (s.onRule r f).modu i = s.modu i := rfl
@[simp] theorem State.onRule_gb (r : RuleIx) (f : Rule → Rule) (i : EntryIx) : (s.onRule r f).gb i = s.gb i := rfl
@[simp] theorem State.onRule_flt (r : RuleIx) (f : Rule → Rule) (i : FltIx) : (s.onRule r f).flt i = s.flt i := rfl
@[simp] theorem State.onRule_can (r : RuleIx) (f : Rule → Rule) (i : CanIx) : (s.onRule r f).can i = s.can i := rfl
@[simp] theorem State.onRule_aux (r : RuleIx) (f : Rule → Rule) (i : AuxIx) : (s.onRule r f).aux i = s.aux i := rfl
@[simp] theorem State.onRule_trip (r : RuleIx) (f : Rule → Rule) (i : TripIx) : (s.onRule r f).trip i = s.trip i := rfl
@[simp] theorem State.onRule_par (r : RuleIx) (f : Rule → Rule) (x y : Nat) : (s.onRule r f).par x y = s.par x y := rfl
@[simp] theorem State.onRule_hwOn (r : RuleIx) (f : Rule → Rule) : (s.onRule r f).hwOn = s.hwOn := rfl
@[simp] theorem State.onRule_fwOn (r : RuleIx) (f : Rule → Rule) : (s.onRule r f).fwOn = s.fwOn := rfl
@[simp] theorem State.onRule_caps (r : RuleIx) (f : Rule → Rule) : (s.onRule r f).caps = s.caps := rfl
@[simp] theorem State.onRule_suppressed (r : RuleIx) (f : Rule → Rule) (x : Nat) : (s.onRule r f).suppressed x = s.suppressed x := rfl

/-! ### onMod -/

@[simp] theorem State.onMod_pending (m : ModIx) (f : Modulator → Modulator) : (s.onMod m f).pending = s.pending := rfl
@[simp] theorem State.onMod_phase (m : ModIx) (f : Modulator → Modulator) : (s.onMod m f).phase = s.phase := rfl
@[simp] theorem State.onMod_fc (m : ModIx) (f : Modulator → Modulator) : (s.onMod m f).fc = s.fc := rfl
@[simp] theorem State.onMod_runFc (m : ModIx) (f : Modulator → Modulator) : (s.onMod m f).runFc = s.runFc := rfl
@[simp] theorem State.onMod_time (m : ModIx) (f : Modulator → Modulator) : (s.onMod m f).time = s.time := rfl
@[simp] theorem State.onMod_timeFrac (m : ModIx) (f : Modulator → Modulator) : (s.onMod m f).timeFrac = s.timeFrac := rfl
@[simp] theorem State.onMod_slotTime (m : ModIx) (f : Modulator → Modulator) : (s.onMod m f).slotTime = s.slotTime := rfl
@[simp] theorem State.onMod_istep (m : ModIx) (f : Modulator → Modulator) : (s.onMod m f).istep = s.istep := rfl
@[simp] theorem State.onMod_pulses (m : ModIx) (f : Modulator → Modulator) : (s.onMod m f).pulses = s.pulses := rfl
@[simp] theorem State.onMod_params (m : ModIx) (f : Modulator → Modulator) : (s.onMod m f).params = s.params := rfl
@[simp] theorem State.onMod_chans (m : ModIx) (f : Modulator → Modulator) : (s.onMod m f).chans = s.chans := rfl
@[simp] theorem State.onMod_pairs (m : ModIx) (f : Modulator → Modulator) : (s.onMod m f).pairs = s.pairs := rfl
@[simp] theorem State.onMod_groups (m : ModIx) (f : Modulator → Modulator) : (s.onMod m f).groups = s.groups := rfl
@[simp] theorem State.onMod_banks (m : ModIx) (f : Modulator → Modulator) : (s.onMod m f).banks = s.banks := rfl
@[simp] theorem State.onMod_pd (m : ModIx) (f : Modulator → Modulator) : (s.onMod m f).pd = s.pd := rfl
@[simp] theorem State.onMod_link (m : ModIx) (f : Modulator → Modulator) : (s.onMod m f).link = s.link := rfl
@[simp] theorem State.onMod_fbs (m : ModIx) (f : Modulator → Modulator) : (s.onMod m f).fbs = s.fbs := rfl
@[simp] theorem State.onMod_rules (m : ModIx) (f : Modulator → Modulator) : (s.onMod m f).rules = s.rules := rfl
@[simp] theorem State.onMod_modClk (m : ModIx) (f : Modulator → Modulator) : (s.onMod m f).modClk = s.modClk := rfl
@[simp] theorem State.onMod_slotFc (m : ModIx) (f : Modulator → Modulator) : (s.onMod m f).slotFc = s.slotFc := rfl
@[simp] theorem State.onMod_lostClks (m : ModIx) (f : Modulator → Modulator) : (s.onMod m f).lostClks = s.lostClks := rfl
@[simp] theorem State.onMod_entries (m : ModIx) (f : Modulator → Modulator) : (s.onMod m f).entries = s.entries := rfl
@[simp] theorem State.onMod_gbs (m : ModIx) (f : Modulator → Modulator) : (s.onMod m f).gbs = s.gbs := rfl
@[simp] theorem State.onMod_flts (m : ModIx) (f : Modulator → Modulator) : (s.onMod m f).flts = s.flts := rfl
@[simp] theorem State.onMod_cmps (m : ModIx) (f : Modulator → Modulator) : (s.onMod m f).cmps = s.cmps := rfl
@[simp] theorem State.onMod_cans (m : ModIx) (f : Modulator → Modulator) : (s.onMod m f).cans = s.cans := rfl
@[simp] theorem State.onMod_auxs (m : ModIx) (f : Modulator → Modulator) : (s.onMod m f).auxs = s.auxs := rfl
@[simp] theorem State.onMod_trips (m : ModIx) (f : Modulator → Modulator) : (s.onMod m f).trips = s.trips := rfl
@[simp] theorem State.onMod_mbx (m : ModIx) (f : Modulator → Modulator) : (s.onMod m f).mbx = s.mbx := rfl
@[simp] theorem State.onMod_hp (m : ModIx) (f : Modulator → Modulator) : (s.onMod m f).hp = s.hp := rfl
@[simp] theorem State.onMod_boot (m : ModIx) (f : Modulator → Modulator) : (s.onMod m f).boot = s.boot := rfl
@[simp] theorem State.onMod_power (m : ModIx) (f : Modulator → Modulator) : (s.onMod m f).power = s.power := rfl
@[simp] theorem State.onMod_sec (m : ModIx) (f : Modulator → Modulator) : (s.onMod m f).sec = s.sec := rfl
@[simp] theorem State.onMod_otp (m : ModIx) (f : Modulator → Modulator) : (s.onMod m f).otp = s.otp := rfl
@[simp] theorem State.onMod_chan (m : ModIx) (f : Modulator → Modulator) (i : Ch) : (s.onMod m f).chan i = s.chan i := rfl
@[simp] theorem State.onMod_bank (m : ModIx) (f : Modulator → Modulator) (i : BankIx) : (s.onMod m f).bank i = s.bank i := rfl
@[simp] theorem State.onMod_pdChan (m : ModIx) (f : Modulator → Modulator) (i : Ch) : (s.onMod m f).pdChan i = s.pdChan i := rfl
@[simp] theorem State.onMod_pdBank (m : ModIx) (f : Modulator → Modulator) (i : BankIx) : (s.onMod m f).pdBank i = s.pdBank i := rfl
@[simp] theorem State.onMod_fb (m : ModIx) (f : Modulator → Modulator) (i : Ch) : (s.onMod m f).fb i = s.fb i := rfl
@[simp] theorem State.onMod_rule (m : ModIx) (f : Modulator → Modulator) (i : RuleIx) : (s.onMod m f).rule i = s.rule i := rfl
@[simp] theorem State.onMod_gb (m : ModIx) (f : Modulator → Modulator) (i : EntryIx) : (s.onMod m f).gb i = s.gb i := rfl
@[simp] theorem State.onMod_flt (m : ModIx) (f : Modulator → Modulator) (i : FltIx) : (s.onMod m f).flt i = s.flt i := rfl
@[simp] theorem State.onMod_can (m : ModIx) (f : Modulator → Modulator) (i : CanIx) : (s.onMod m f).can i = s.can i := rfl
@[simp] theorem State.onMod_aux (m : ModIx) (f : Modulator → Modulator) (i : AuxIx) : (s.onMod m f).aux i = s.aux i := rfl
@[simp] theorem State.onMod_trip (m : ModIx) (f : Modulator → Modulator) (i : TripIx) : (s.onMod m f).trip i = s.trip i := rfl
@[simp] theorem State.onMod_par (m : ModIx) (f : Modulator → Modulator) (x y : Nat) : (s.onMod m f).par x y = s.par x y := rfl
@[simp] theorem State.onMod_hwOn (m : ModIx) (f : Modulator → Modulator) : (s.onMod m f).hwOn = s.hwOn := rfl
@[simp] theorem State.onMod_fwOn (m : ModIx) (f : Modulator → Modulator) : (s.onMod m f).fwOn = s.fwOn := rfl
@[simp] theorem State.onMod_caps (m : ModIx) (f : Modulator → Modulator) : (s.onMod m f).caps = s.caps := rfl
@[simp] theorem State.onMod_suppressed (m : ModIx) (f : Modulator → Modulator) (x : Nat) : (s.onMod m f).suppressed x = s.suppressed x := rfl

/-! ### onEntry -/

@[simp] theorem State.onEntry_pending (e : EntryIx) (f : Entry → Entry) : (s.onEntry e f).pending = s.pending := rfl
@[simp] theorem State.onEntry_phase (e : EntryIx) (f : Entry → Entry) : (s.onEntry e f).phase = s.phase := rfl
@[simp] theorem State.onEntry_fc (e : EntryIx) (f : Entry → Entry) : (s.onEntry e f).fc = s.fc := rfl
@[simp] theorem State.onEntry_runFc (e : EntryIx) (f : Entry → Entry) : (s.onEntry e f).runFc = s.runFc := rfl
@[simp] theorem State.onEntry_time (e : EntryIx) (f : Entry → Entry) : (s.onEntry e f).time = s.time := rfl
@[simp] theorem State.onEntry_timeFrac (e : EntryIx) (f : Entry → Entry) : (s.onEntry e f).timeFrac = s.timeFrac := rfl
@[simp] theorem State.onEntry_slotTime (e : EntryIx) (f : Entry → Entry) : (s.onEntry e f).slotTime = s.slotTime := rfl
@[simp] theorem State.onEntry_istep (e : EntryIx) (f : Entry → Entry) : (s.onEntry e f).istep = s.istep := rfl
@[simp] theorem State.onEntry_pulses (e : EntryIx) (f : Entry → Entry) : (s.onEntry e f).pulses = s.pulses := rfl
@[simp] theorem State.onEntry_params (e : EntryIx) (f : Entry → Entry) : (s.onEntry e f).params = s.params := rfl
@[simp] theorem State.onEntry_chans (e : EntryIx) (f : Entry → Entry) : (s.onEntry e f).chans = s.chans := rfl
@[simp] theorem State.onEntry_pairs (e : EntryIx) (f : Entry → Entry) : (s.onEntry e f).pairs = s.pairs := rfl
@[simp] theorem State.onEntry_groups (e : EntryIx) (f : Entry → Entry) : (s.onEntry e f).groups = s.groups := rfl
@[simp] theorem State.onEntry_banks (e : EntryIx) (f : Entry → Entry) : (s.onEntry e f).banks = s.banks := rfl
@[simp] theorem State.onEntry_pd (e : EntryIx) (f : Entry → Entry) : (s.onEntry e f).pd = s.pd := rfl
@[simp] theorem State.onEntry_link (e : EntryIx) (f : Entry → Entry) : (s.onEntry e f).link = s.link := rfl
@[simp] theorem State.onEntry_fbs (e : EntryIx) (f : Entry → Entry) : (s.onEntry e f).fbs = s.fbs := rfl
@[simp] theorem State.onEntry_rules (e : EntryIx) (f : Entry → Entry) : (s.onEntry e f).rules = s.rules := rfl
@[simp] theorem State.onEntry_modClk (e : EntryIx) (f : Entry → Entry) : (s.onEntry e f).modClk = s.modClk := rfl
@[simp] theorem State.onEntry_slotFc (e : EntryIx) (f : Entry → Entry) : (s.onEntry e f).slotFc = s.slotFc := rfl
@[simp] theorem State.onEntry_lostClks (e : EntryIx) (f : Entry → Entry) : (s.onEntry e f).lostClks = s.lostClks := rfl
@[simp] theorem State.onEntry_mods (e : EntryIx) (f : Entry → Entry) : (s.onEntry e f).mods = s.mods := rfl
@[simp] theorem State.onEntry_gbs (e : EntryIx) (f : Entry → Entry) : (s.onEntry e f).gbs = s.gbs := rfl
@[simp] theorem State.onEntry_flts (e : EntryIx) (f : Entry → Entry) : (s.onEntry e f).flts = s.flts := rfl
@[simp] theorem State.onEntry_cmps (e : EntryIx) (f : Entry → Entry) : (s.onEntry e f).cmps = s.cmps := rfl
@[simp] theorem State.onEntry_cans (e : EntryIx) (f : Entry → Entry) : (s.onEntry e f).cans = s.cans := rfl
@[simp] theorem State.onEntry_auxs (e : EntryIx) (f : Entry → Entry) : (s.onEntry e f).auxs = s.auxs := rfl
@[simp] theorem State.onEntry_trips (e : EntryIx) (f : Entry → Entry) : (s.onEntry e f).trips = s.trips := rfl
@[simp] theorem State.onEntry_mbx (e : EntryIx) (f : Entry → Entry) : (s.onEntry e f).mbx = s.mbx := rfl
@[simp] theorem State.onEntry_hp (e : EntryIx) (f : Entry → Entry) : (s.onEntry e f).hp = s.hp := rfl
@[simp] theorem State.onEntry_boot (e : EntryIx) (f : Entry → Entry) : (s.onEntry e f).boot = s.boot := rfl
@[simp] theorem State.onEntry_power (e : EntryIx) (f : Entry → Entry) : (s.onEntry e f).power = s.power := rfl
@[simp] theorem State.onEntry_sec (e : EntryIx) (f : Entry → Entry) : (s.onEntry e f).sec = s.sec := rfl
@[simp] theorem State.onEntry_otp (e : EntryIx) (f : Entry → Entry) : (s.onEntry e f).otp = s.otp := rfl
@[simp] theorem State.onEntry_chan (e : EntryIx) (f : Entry → Entry) (i : Ch) : (s.onEntry e f).chan i = s.chan i := rfl
@[simp] theorem State.onEntry_bank (e : EntryIx) (f : Entry → Entry) (i : BankIx) : (s.onEntry e f).bank i = s.bank i := rfl
@[simp] theorem State.onEntry_pdChan (e : EntryIx) (f : Entry → Entry) (i : Ch) : (s.onEntry e f).pdChan i = s.pdChan i := rfl
@[simp] theorem State.onEntry_pdBank (e : EntryIx) (f : Entry → Entry) (i : BankIx) : (s.onEntry e f).pdBank i = s.pdBank i := rfl
@[simp] theorem State.onEntry_fb (e : EntryIx) (f : Entry → Entry) (i : Ch) : (s.onEntry e f).fb i = s.fb i := rfl
@[simp] theorem State.onEntry_rule (e : EntryIx) (f : Entry → Entry) (i : RuleIx) : (s.onEntry e f).rule i = s.rule i := rfl
@[simp] theorem State.onEntry_modu (e : EntryIx) (f : Entry → Entry) (i : ModIx) : (s.onEntry e f).modu i = s.modu i := rfl
@[simp] theorem State.onEntry_gb (e : EntryIx) (f : Entry → Entry) (i : EntryIx) : (s.onEntry e f).gb i = s.gb i := rfl
@[simp] theorem State.onEntry_flt (e : EntryIx) (f : Entry → Entry) (i : FltIx) : (s.onEntry e f).flt i = s.flt i := rfl
@[simp] theorem State.onEntry_can (e : EntryIx) (f : Entry → Entry) (i : CanIx) : (s.onEntry e f).can i = s.can i := rfl
@[simp] theorem State.onEntry_aux (e : EntryIx) (f : Entry → Entry) (i : AuxIx) : (s.onEntry e f).aux i = s.aux i := rfl
@[simp] theorem State.onEntry_trip (e : EntryIx) (f : Entry → Entry) (i : TripIx) : (s.onEntry e f).trip i = s.trip i := rfl
@[simp] theorem State.onEntry_par (e : EntryIx) (f : Entry → Entry) (x y : Nat) : (s.onEntry e f).par x y = s.par x y := rfl
@[simp] theorem State.onEntry_hwOn (e : EntryIx) (f : Entry → Entry) : (s.onEntry e f).hwOn = s.hwOn := rfl
@[simp] theorem State.onEntry_fwOn (e : EntryIx) (f : Entry → Entry) : (s.onEntry e f).fwOn = s.fwOn := rfl
@[simp] theorem State.onEntry_caps (e : EntryIx) (f : Entry → Entry) : (s.onEntry e f).caps = s.caps := rfl
@[simp] theorem State.onEntry_suppressed (e : EntryIx) (f : Entry → Entry) (x : Nat) : (s.onEntry e f).suppressed x = s.suppressed x := rfl

/-! ### onGb -/

@[simp] theorem State.onGb_pending (g : EntryIx) (f : Gb → Gb) : (s.onGb g f).pending = s.pending := rfl
@[simp] theorem State.onGb_phase (g : EntryIx) (f : Gb → Gb) : (s.onGb g f).phase = s.phase := rfl
@[simp] theorem State.onGb_fc (g : EntryIx) (f : Gb → Gb) : (s.onGb g f).fc = s.fc := rfl
@[simp] theorem State.onGb_runFc (g : EntryIx) (f : Gb → Gb) : (s.onGb g f).runFc = s.runFc := rfl
@[simp] theorem State.onGb_time (g : EntryIx) (f : Gb → Gb) : (s.onGb g f).time = s.time := rfl
@[simp] theorem State.onGb_timeFrac (g : EntryIx) (f : Gb → Gb) : (s.onGb g f).timeFrac = s.timeFrac := rfl
@[simp] theorem State.onGb_slotTime (g : EntryIx) (f : Gb → Gb) : (s.onGb g f).slotTime = s.slotTime := rfl
@[simp] theorem State.onGb_istep (g : EntryIx) (f : Gb → Gb) : (s.onGb g f).istep = s.istep := rfl
@[simp] theorem State.onGb_pulses (g : EntryIx) (f : Gb → Gb) : (s.onGb g f).pulses = s.pulses := rfl
@[simp] theorem State.onGb_params (g : EntryIx) (f : Gb → Gb) : (s.onGb g f).params = s.params := rfl
@[simp] theorem State.onGb_chans (g : EntryIx) (f : Gb → Gb) : (s.onGb g f).chans = s.chans := rfl
@[simp] theorem State.onGb_pairs (g : EntryIx) (f : Gb → Gb) : (s.onGb g f).pairs = s.pairs := rfl
@[simp] theorem State.onGb_groups (g : EntryIx) (f : Gb → Gb) : (s.onGb g f).groups = s.groups := rfl
@[simp] theorem State.onGb_banks (g : EntryIx) (f : Gb → Gb) : (s.onGb g f).banks = s.banks := rfl
@[simp] theorem State.onGb_pd (g : EntryIx) (f : Gb → Gb) : (s.onGb g f).pd = s.pd := rfl
@[simp] theorem State.onGb_link (g : EntryIx) (f : Gb → Gb) : (s.onGb g f).link = s.link := rfl
@[simp] theorem State.onGb_fbs (g : EntryIx) (f : Gb → Gb) : (s.onGb g f).fbs = s.fbs := rfl
@[simp] theorem State.onGb_rules (g : EntryIx) (f : Gb → Gb) : (s.onGb g f).rules = s.rules := rfl
@[simp] theorem State.onGb_modClk (g : EntryIx) (f : Gb → Gb) : (s.onGb g f).modClk = s.modClk := rfl
@[simp] theorem State.onGb_slotFc (g : EntryIx) (f : Gb → Gb) : (s.onGb g f).slotFc = s.slotFc := rfl
@[simp] theorem State.onGb_lostClks (g : EntryIx) (f : Gb → Gb) : (s.onGb g f).lostClks = s.lostClks := rfl
@[simp] theorem State.onGb_mods (g : EntryIx) (f : Gb → Gb) : (s.onGb g f).mods = s.mods := rfl
@[simp] theorem State.onGb_entries (g : EntryIx) (f : Gb → Gb) : (s.onGb g f).entries = s.entries := rfl
@[simp] theorem State.onGb_flts (g : EntryIx) (f : Gb → Gb) : (s.onGb g f).flts = s.flts := rfl
@[simp] theorem State.onGb_cmps (g : EntryIx) (f : Gb → Gb) : (s.onGb g f).cmps = s.cmps := rfl
@[simp] theorem State.onGb_cans (g : EntryIx) (f : Gb → Gb) : (s.onGb g f).cans = s.cans := rfl
@[simp] theorem State.onGb_auxs (g : EntryIx) (f : Gb → Gb) : (s.onGb g f).auxs = s.auxs := rfl
@[simp] theorem State.onGb_trips (g : EntryIx) (f : Gb → Gb) : (s.onGb g f).trips = s.trips := rfl
@[simp] theorem State.onGb_mbx (g : EntryIx) (f : Gb → Gb) : (s.onGb g f).mbx = s.mbx := rfl
@[simp] theorem State.onGb_hp (g : EntryIx) (f : Gb → Gb) : (s.onGb g f).hp = s.hp := rfl
@[simp] theorem State.onGb_boot (g : EntryIx) (f : Gb → Gb) : (s.onGb g f).boot = s.boot := rfl
@[simp] theorem State.onGb_power (g : EntryIx) (f : Gb → Gb) : (s.onGb g f).power = s.power := rfl
@[simp] theorem State.onGb_sec (g : EntryIx) (f : Gb → Gb) : (s.onGb g f).sec = s.sec := rfl
@[simp] theorem State.onGb_otp (g : EntryIx) (f : Gb → Gb) : (s.onGb g f).otp = s.otp := rfl
@[simp] theorem State.onGb_chan (g : EntryIx) (f : Gb → Gb) (i : Ch) : (s.onGb g f).chan i = s.chan i := rfl
@[simp] theorem State.onGb_bank (g : EntryIx) (f : Gb → Gb) (i : BankIx) : (s.onGb g f).bank i = s.bank i := rfl
@[simp] theorem State.onGb_pdChan (g : EntryIx) (f : Gb → Gb) (i : Ch) : (s.onGb g f).pdChan i = s.pdChan i := rfl
@[simp] theorem State.onGb_pdBank (g : EntryIx) (f : Gb → Gb) (i : BankIx) : (s.onGb g f).pdBank i = s.pdBank i := rfl
@[simp] theorem State.onGb_fb (g : EntryIx) (f : Gb → Gb) (i : Ch) : (s.onGb g f).fb i = s.fb i := rfl
@[simp] theorem State.onGb_rule (g : EntryIx) (f : Gb → Gb) (i : RuleIx) : (s.onGb g f).rule i = s.rule i := rfl
@[simp] theorem State.onGb_modu (g : EntryIx) (f : Gb → Gb) (i : ModIx) : (s.onGb g f).modu i = s.modu i := rfl
@[simp] theorem State.onGb_flt (g : EntryIx) (f : Gb → Gb) (i : FltIx) : (s.onGb g f).flt i = s.flt i := rfl
@[simp] theorem State.onGb_can (g : EntryIx) (f : Gb → Gb) (i : CanIx) : (s.onGb g f).can i = s.can i := rfl
@[simp] theorem State.onGb_aux (g : EntryIx) (f : Gb → Gb) (i : AuxIx) : (s.onGb g f).aux i = s.aux i := rfl
@[simp] theorem State.onGb_trip (g : EntryIx) (f : Gb → Gb) (i : TripIx) : (s.onGb g f).trip i = s.trip i := rfl
@[simp] theorem State.onGb_par (g : EntryIx) (f : Gb → Gb) (x y : Nat) : (s.onGb g f).par x y = s.par x y := rfl
@[simp] theorem State.onGb_hwOn (g : EntryIx) (f : Gb → Gb) : (s.onGb g f).hwOn = s.hwOn := rfl
@[simp] theorem State.onGb_fwOn (g : EntryIx) (f : Gb → Gb) : (s.onGb g f).fwOn = s.fwOn := rfl
@[simp] theorem State.onGb_caps (g : EntryIx) (f : Gb → Gb) : (s.onGb g f).caps = s.caps := rfl
@[simp] theorem State.onGb_suppressed (g : EntryIx) (f : Gb → Gb) (x : Nat) : (s.onGb g f).suppressed x = s.suppressed x := rfl

/-! ### onFlt -/

@[simp] theorem State.onFlt_pending (n : FltIx) (f : Flt → Flt) : (s.onFlt n f).pending = s.pending := rfl
@[simp] theorem State.onFlt_phase (n : FltIx) (f : Flt → Flt) : (s.onFlt n f).phase = s.phase := rfl
@[simp] theorem State.onFlt_fc (n : FltIx) (f : Flt → Flt) : (s.onFlt n f).fc = s.fc := rfl
@[simp] theorem State.onFlt_runFc (n : FltIx) (f : Flt → Flt) : (s.onFlt n f).runFc = s.runFc := rfl
@[simp] theorem State.onFlt_time (n : FltIx) (f : Flt → Flt) : (s.onFlt n f).time = s.time := rfl
@[simp] theorem State.onFlt_timeFrac (n : FltIx) (f : Flt → Flt) : (s.onFlt n f).timeFrac = s.timeFrac := rfl
@[simp] theorem State.onFlt_slotTime (n : FltIx) (f : Flt → Flt) : (s.onFlt n f).slotTime = s.slotTime := rfl
@[simp] theorem State.onFlt_istep (n : FltIx) (f : Flt → Flt) : (s.onFlt n f).istep = s.istep := rfl
@[simp] theorem State.onFlt_pulses (n : FltIx) (f : Flt → Flt) : (s.onFlt n f).pulses = s.pulses := rfl
@[simp] theorem State.onFlt_params (n : FltIx) (f : Flt → Flt) : (s.onFlt n f).params = s.params := rfl
@[simp] theorem State.onFlt_chans (n : FltIx) (f : Flt → Flt) : (s.onFlt n f).chans = s.chans := rfl
@[simp] theorem State.onFlt_pairs (n : FltIx) (f : Flt → Flt) : (s.onFlt n f).pairs = s.pairs := rfl
@[simp] theorem State.onFlt_groups (n : FltIx) (f : Flt → Flt) : (s.onFlt n f).groups = s.groups := rfl
@[simp] theorem State.onFlt_banks (n : FltIx) (f : Flt → Flt) : (s.onFlt n f).banks = s.banks := rfl
@[simp] theorem State.onFlt_pd (n : FltIx) (f : Flt → Flt) : (s.onFlt n f).pd = s.pd := rfl
@[simp] theorem State.onFlt_link (n : FltIx) (f : Flt → Flt) : (s.onFlt n f).link = s.link := rfl
@[simp] theorem State.onFlt_fbs (n : FltIx) (f : Flt → Flt) : (s.onFlt n f).fbs = s.fbs := rfl
@[simp] theorem State.onFlt_rules (n : FltIx) (f : Flt → Flt) : (s.onFlt n f).rules = s.rules := rfl
@[simp] theorem State.onFlt_modClk (n : FltIx) (f : Flt → Flt) : (s.onFlt n f).modClk = s.modClk := rfl
@[simp] theorem State.onFlt_slotFc (n : FltIx) (f : Flt → Flt) : (s.onFlt n f).slotFc = s.slotFc := rfl
@[simp] theorem State.onFlt_lostClks (n : FltIx) (f : Flt → Flt) : (s.onFlt n f).lostClks = s.lostClks := rfl
@[simp] theorem State.onFlt_mods (n : FltIx) (f : Flt → Flt) : (s.onFlt n f).mods = s.mods := rfl
@[simp] theorem State.onFlt_entries (n : FltIx) (f : Flt → Flt) : (s.onFlt n f).entries = s.entries := rfl
@[simp] theorem State.onFlt_gbs (n : FltIx) (f : Flt → Flt) : (s.onFlt n f).gbs = s.gbs := rfl
@[simp] theorem State.onFlt_cmps (n : FltIx) (f : Flt → Flt) : (s.onFlt n f).cmps = s.cmps := rfl
@[simp] theorem State.onFlt_cans (n : FltIx) (f : Flt → Flt) : (s.onFlt n f).cans = s.cans := rfl
@[simp] theorem State.onFlt_auxs (n : FltIx) (f : Flt → Flt) : (s.onFlt n f).auxs = s.auxs := rfl
@[simp] theorem State.onFlt_trips (n : FltIx) (f : Flt → Flt) : (s.onFlt n f).trips = s.trips := rfl
@[simp] theorem State.onFlt_mbx (n : FltIx) (f : Flt → Flt) : (s.onFlt n f).mbx = s.mbx := rfl
@[simp] theorem State.onFlt_hp (n : FltIx) (f : Flt → Flt) : (s.onFlt n f).hp = s.hp := rfl
@[simp] theorem State.onFlt_boot (n : FltIx) (f : Flt → Flt) : (s.onFlt n f).boot = s.boot := rfl
@[simp] theorem State.onFlt_power (n : FltIx) (f : Flt → Flt) : (s.onFlt n f).power = s.power := rfl
@[simp] theorem State.onFlt_sec (n : FltIx) (f : Flt → Flt) : (s.onFlt n f).sec = s.sec := rfl
@[simp] theorem State.onFlt_otp (n : FltIx) (f : Flt → Flt) : (s.onFlt n f).otp = s.otp := rfl
@[simp] theorem State.onFlt_chan (n : FltIx) (f : Flt → Flt) (i : Ch) : (s.onFlt n f).chan i = s.chan i := rfl
@[simp] theorem State.onFlt_bank (n : FltIx) (f : Flt → Flt) (i : BankIx) : (s.onFlt n f).bank i = s.bank i := rfl
@[simp] theorem State.onFlt_pdChan (n : FltIx) (f : Flt → Flt) (i : Ch) : (s.onFlt n f).pdChan i = s.pdChan i := rfl
@[simp] theorem State.onFlt_pdBank (n : FltIx) (f : Flt → Flt) (i : BankIx) : (s.onFlt n f).pdBank i = s.pdBank i := rfl
@[simp] theorem State.onFlt_fb (n : FltIx) (f : Flt → Flt) (i : Ch) : (s.onFlt n f).fb i = s.fb i := rfl
@[simp] theorem State.onFlt_rule (n : FltIx) (f : Flt → Flt) (i : RuleIx) : (s.onFlt n f).rule i = s.rule i := rfl
@[simp] theorem State.onFlt_modu (n : FltIx) (f : Flt → Flt) (i : ModIx) : (s.onFlt n f).modu i = s.modu i := rfl
@[simp] theorem State.onFlt_gb (n : FltIx) (f : Flt → Flt) (i : EntryIx) : (s.onFlt n f).gb i = s.gb i := rfl
@[simp] theorem State.onFlt_can (n : FltIx) (f : Flt → Flt) (i : CanIx) : (s.onFlt n f).can i = s.can i := rfl
@[simp] theorem State.onFlt_aux (n : FltIx) (f : Flt → Flt) (i : AuxIx) : (s.onFlt n f).aux i = s.aux i := rfl
@[simp] theorem State.onFlt_trip (n : FltIx) (f : Flt → Flt) (i : TripIx) : (s.onFlt n f).trip i = s.trip i := rfl
@[simp] theorem State.onFlt_par (n : FltIx) (f : Flt → Flt) (x y : Nat) : (s.onFlt n f).par x y = s.par x y := rfl
@[simp] theorem State.onFlt_hwOn (n : FltIx) (f : Flt → Flt) : (s.onFlt n f).hwOn = s.hwOn := rfl
@[simp] theorem State.onFlt_fwOn (n : FltIx) (f : Flt → Flt) : (s.onFlt n f).fwOn = s.fwOn := rfl
@[simp] theorem State.onFlt_caps (n : FltIx) (f : Flt → Flt) : (s.onFlt n f).caps = s.caps := rfl
@[simp] theorem State.onFlt_suppressed (n : FltIx) (f : Flt → Flt) (x : Nat) : (s.onFlt n f).suppressed x = s.suppressed x := rfl

/-! ### onCan -/

@[simp] theorem State.onCan_pending (c : CanIx) (f : Can → Can) : (s.onCan c f).pending = s.pending := rfl
@[simp] theorem State.onCan_phase (c : CanIx) (f : Can → Can) : (s.onCan c f).phase = s.phase := rfl
@[simp] theorem State.onCan_fc (c : CanIx) (f : Can → Can) : (s.onCan c f).fc = s.fc := rfl
@[simp] theorem State.onCan_runFc (c : CanIx) (f : Can → Can) : (s.onCan c f).runFc = s.runFc := rfl
@[simp] theorem State.onCan_time (c : CanIx) (f : Can → Can) : (s.onCan c f).time = s.time := rfl
@[simp] theorem State.onCan_timeFrac (c : CanIx) (f : Can → Can) : (s.onCan c f).timeFrac = s.timeFrac := rfl
@[simp] theorem State.onCan_slotTime (c : CanIx) (f : Can → Can) : (s.onCan c f).slotTime = s.slotTime := rfl
@[simp] theorem State.onCan_istep (c : CanIx) (f : Can → Can) : (s.onCan c f).istep = s.istep := rfl
@[simp] theorem State.onCan_pulses (c : CanIx) (f : Can → Can) : (s.onCan c f).pulses = s.pulses := rfl
@[simp] theorem State.onCan_params (c : CanIx) (f : Can → Can) : (s.onCan c f).params = s.params := rfl
@[simp] theorem State.onCan_chans (c : CanIx) (f : Can → Can) : (s.onCan c f).chans = s.chans := rfl
@[simp] theorem State.onCan_pairs (c : CanIx) (f : Can → Can) : (s.onCan c f).pairs = s.pairs := rfl
@[simp] theorem State.onCan_groups (c : CanIx) (f : Can → Can) : (s.onCan c f).groups = s.groups := rfl
@[simp] theorem State.onCan_banks (c : CanIx) (f : Can → Can) : (s.onCan c f).banks = s.banks := rfl
@[simp] theorem State.onCan_pd (c : CanIx) (f : Can → Can) : (s.onCan c f).pd = s.pd := rfl
@[simp] theorem State.onCan_link (c : CanIx) (f : Can → Can) : (s.onCan c f).link = s.link := rfl
@[simp] theorem State.onCan_fbs (c : CanIx) (f : Can → Can) : (s.onCan c f).fbs = s.fbs := rfl
@[simp] theorem State.onCan_rules (c : CanIx) (f : Can → Can) : (s.onCan c f).rules = s.rules := rfl
@[simp] theorem State.onCan_modClk (c : CanIx) (f : Can → Can) : (s.onCan c f).modClk = s.modClk := rfl
@[simp] theorem State.onCan_slotFc (c : CanIx) (f : Can → Can) : (s.onCan c f).slotFc = s.slotFc := rfl
@[simp] theorem State.onCan_lostClks (c : CanIx) (f : Can → Can) : (s.onCan c f).lostClks = s.lostClks := rfl
@[simp] theorem State.onCan_mods (c : CanIx) (f : Can → Can) : (s.onCan c f).mods = s.mods := rfl
@[simp] theorem State.onCan_entries (c : CanIx) (f : Can → Can) : (s.onCan c f).entries = s.entries := rfl
@[simp] theorem State.onCan_gbs (c : CanIx) (f : Can → Can) : (s.onCan c f).gbs = s.gbs := rfl
@[simp] theorem State.onCan_flts (c : CanIx) (f : Can → Can) : (s.onCan c f).flts = s.flts := rfl
@[simp] theorem State.onCan_cmps (c : CanIx) (f : Can → Can) : (s.onCan c f).cmps = s.cmps := rfl
@[simp] theorem State.onCan_auxs (c : CanIx) (f : Can → Can) : (s.onCan c f).auxs = s.auxs := rfl
@[simp] theorem State.onCan_trips (c : CanIx) (f : Can → Can) : (s.onCan c f).trips = s.trips := rfl
@[simp] theorem State.onCan_mbx (c : CanIx) (f : Can → Can) : (s.onCan c f).mbx = s.mbx := rfl
@[simp] theorem State.onCan_hp (c : CanIx) (f : Can → Can) : (s.onCan c f).hp = s.hp := rfl
@[simp] theorem State.onCan_boot (c : CanIx) (f : Can → Can) : (s.onCan c f).boot = s.boot := rfl
@[simp] theorem State.onCan_power (c : CanIx) (f : Can → Can) : (s.onCan c f).power = s.power := rfl
@[simp] theorem State.onCan_sec (c : CanIx) (f : Can → Can) : (s.onCan c f).sec = s.sec := rfl
@[simp] theorem State.onCan_otp (c : CanIx) (f : Can → Can) : (s.onCan c f).otp = s.otp := rfl
@[simp] theorem State.onCan_chan (c : CanIx) (f : Can → Can) (i : Ch) : (s.onCan c f).chan i = s.chan i := rfl
@[simp] theorem State.onCan_bank (c : CanIx) (f : Can → Can) (i : BankIx) : (s.onCan c f).bank i = s.bank i := rfl
@[simp] theorem State.onCan_pdChan (c : CanIx) (f : Can → Can) (i : Ch) : (s.onCan c f).pdChan i = s.pdChan i := rfl
@[simp] theorem State.onCan_pdBank (c : CanIx) (f : Can → Can) (i : BankIx) : (s.onCan c f).pdBank i = s.pdBank i := rfl
@[simp] theorem State.onCan_fb (c : CanIx) (f : Can → Can) (i : Ch) : (s.onCan c f).fb i = s.fb i := rfl
@[simp] theorem State.onCan_rule (c : CanIx) (f : Can → Can) (i : RuleIx) : (s.onCan c f).rule i = s.rule i := rfl
@[simp] theorem State.onCan_modu (c : CanIx) (f : Can → Can) (i : ModIx) : (s.onCan c f).modu i = s.modu i := rfl
@[simp] theorem State.onCan_gb (c : CanIx) (f : Can → Can) (i : EntryIx) : (s.onCan c f).gb i = s.gb i := rfl
@[simp] theorem State.onCan_flt (c : CanIx) (f : Can → Can) (i : FltIx) : (s.onCan c f).flt i = s.flt i := rfl
@[simp] theorem State.onCan_aux (c : CanIx) (f : Can → Can) (i : AuxIx) : (s.onCan c f).aux i = s.aux i := rfl
@[simp] theorem State.onCan_trip (c : CanIx) (f : Can → Can) (i : TripIx) : (s.onCan c f).trip i = s.trip i := rfl
@[simp] theorem State.onCan_par (c : CanIx) (f : Can → Can) (x y : Nat) : (s.onCan c f).par x y = s.par x y := rfl
@[simp] theorem State.onCan_hwOn (c : CanIx) (f : Can → Can) : (s.onCan c f).hwOn = s.hwOn := rfl
@[simp] theorem State.onCan_fwOn (c : CanIx) (f : Can → Can) : (s.onCan c f).fwOn = s.fwOn := rfl
@[simp] theorem State.onCan_caps (c : CanIx) (f : Can → Can) : (s.onCan c f).caps = s.caps := rfl
@[simp] theorem State.onCan_suppressed (c : CanIx) (f : Can → Can) (x : Nat) : (s.onCan c f).suppressed x = s.suppressed x := rfl

/-! ### onAux -/

@[simp] theorem State.onAux_pending (k : AuxIx) (f : AuxOut → AuxOut) : (s.onAux k f).pending = s.pending := rfl
@[simp] theorem State.onAux_phase (k : AuxIx) (f : AuxOut → AuxOut) : (s.onAux k f).phase = s.phase := rfl
@[simp] theorem State.onAux_fc (k : AuxIx) (f : AuxOut → AuxOut) : (s.onAux k f).fc = s.fc := rfl
@[simp] theorem State.onAux_runFc (k : AuxIx) (f : AuxOut → AuxOut) : (s.onAux k f).runFc = s.runFc := rfl
@[simp] theorem State.onAux_time (k : AuxIx) (f : AuxOut → AuxOut) : (s.onAux k f).time = s.time := rfl
@[simp] theorem State.onAux_timeFrac (k : AuxIx) (f : AuxOut → AuxOut) : (s.onAux k f).timeFrac = s.timeFrac := rfl
@[simp] theorem State.onAux_slotTime (k : AuxIx) (f : AuxOut → AuxOut) : (s.onAux k f).slotTime = s.slotTime := rfl
@[simp] theorem State.onAux_istep (k : AuxIx) (f : AuxOut → AuxOut) : (s.onAux k f).istep = s.istep := rfl
@[simp] theorem State.onAux_pulses (k : AuxIx) (f : AuxOut → AuxOut) : (s.onAux k f).pulses = s.pulses := rfl
@[simp] theorem State.onAux_params (k : AuxIx) (f : AuxOut → AuxOut) : (s.onAux k f).params = s.params := rfl
@[simp] theorem State.onAux_chans (k : AuxIx) (f : AuxOut → AuxOut) : (s.onAux k f).chans = s.chans := rfl
@[simp] theorem State.onAux_pairs (k : AuxIx) (f : AuxOut → AuxOut) : (s.onAux k f).pairs = s.pairs := rfl
@[simp] theorem State.onAux_groups (k : AuxIx) (f : AuxOut → AuxOut) : (s.onAux k f).groups = s.groups := rfl
@[simp] theorem State.onAux_banks (k : AuxIx) (f : AuxOut → AuxOut) : (s.onAux k f).banks = s.banks := rfl
@[simp] theorem State.onAux_pd (k : AuxIx) (f : AuxOut → AuxOut) : (s.onAux k f).pd = s.pd := rfl
@[simp] theorem State.onAux_link (k : AuxIx) (f : AuxOut → AuxOut) : (s.onAux k f).link = s.link := rfl
@[simp] theorem State.onAux_fbs (k : AuxIx) (f : AuxOut → AuxOut) : (s.onAux k f).fbs = s.fbs := rfl
@[simp] theorem State.onAux_rules (k : AuxIx) (f : AuxOut → AuxOut) : (s.onAux k f).rules = s.rules := rfl
@[simp] theorem State.onAux_modClk (k : AuxIx) (f : AuxOut → AuxOut) : (s.onAux k f).modClk = s.modClk := rfl
@[simp] theorem State.onAux_slotFc (k : AuxIx) (f : AuxOut → AuxOut) : (s.onAux k f).slotFc = s.slotFc := rfl
@[simp] theorem State.onAux_lostClks (k : AuxIx) (f : AuxOut → AuxOut) : (s.onAux k f).lostClks = s.lostClks := rfl
@[simp] theorem State.onAux_mods (k : AuxIx) (f : AuxOut → AuxOut) : (s.onAux k f).mods = s.mods := rfl
@[simp] theorem State.onAux_entries (k : AuxIx) (f : AuxOut → AuxOut) : (s.onAux k f).entries = s.entries := rfl
@[simp] theorem State.onAux_gbs (k : AuxIx) (f : AuxOut → AuxOut) : (s.onAux k f).gbs = s.gbs := rfl
@[simp] theorem State.onAux_flts (k : AuxIx) (f : AuxOut → AuxOut) : (s.onAux k f).flts = s.flts := rfl
@[simp] theorem State.onAux_cmps (k : AuxIx) (f : AuxOut → AuxOut) : (s.onAux k f).cmps = s.cmps := rfl
@[simp] theorem State.onAux_cans (k : AuxIx) (f : AuxOut → AuxOut) : (s.onAux k f).cans = s.cans := rfl
@[simp] theorem State.onAux_trips (k : AuxIx) (f : AuxOut → AuxOut) : (s.onAux k f).trips = s.trips := rfl
@[simp] theorem State.onAux_mbx (k : AuxIx) (f : AuxOut → AuxOut) : (s.onAux k f).mbx = s.mbx := rfl
@[simp] theorem State.onAux_hp (k : AuxIx) (f : AuxOut → AuxOut) : (s.onAux k f).hp = s.hp := rfl
@[simp] theorem State.onAux_boot (k : AuxIx) (f : AuxOut → AuxOut) : (s.onAux k f).boot = s.boot := rfl
@[simp] theorem State.onAux_power (k : AuxIx) (f : AuxOut → AuxOut) : (s.onAux k f).power = s.power := rfl
@[simp] theorem State.onAux_sec (k : AuxIx) (f : AuxOut → AuxOut) : (s.onAux k f).sec = s.sec := rfl
@[simp] theorem State.onAux_otp (k : AuxIx) (f : AuxOut → AuxOut) : (s.onAux k f).otp = s.otp := rfl
@[simp] theorem State.onAux_chan (k : AuxIx) (f : AuxOut → AuxOut) (i : Ch) : (s.onAux k f).chan i = s.chan i := rfl
@[simp] theorem State.onAux_bank (k : AuxIx) (f : AuxOut → AuxOut) (i : BankIx) : (s.onAux k f).bank i = s.bank i := rfl
@[simp] theorem State.onAux_pdChan (k : AuxIx) (f : AuxOut → AuxOut) (i : Ch) : (s.onAux k f).pdChan i = s.pdChan i := rfl
@[simp] theorem State.onAux_pdBank (k : AuxIx) (f : AuxOut → AuxOut) (i : BankIx) : (s.onAux k f).pdBank i = s.pdBank i := rfl
@[simp] theorem State.onAux_fb (k : AuxIx) (f : AuxOut → AuxOut) (i : Ch) : (s.onAux k f).fb i = s.fb i := rfl
@[simp] theorem State.onAux_rule (k : AuxIx) (f : AuxOut → AuxOut) (i : RuleIx) : (s.onAux k f).rule i = s.rule i := rfl
@[simp] theorem State.onAux_modu (k : AuxIx) (f : AuxOut → AuxOut) (i : ModIx) : (s.onAux k f).modu i = s.modu i := rfl
@[simp] theorem State.onAux_gb (k : AuxIx) (f : AuxOut → AuxOut) (i : EntryIx) : (s.onAux k f).gb i = s.gb i := rfl
@[simp] theorem State.onAux_flt (k : AuxIx) (f : AuxOut → AuxOut) (i : FltIx) : (s.onAux k f).flt i = s.flt i := rfl
@[simp] theorem State.onAux_can (k : AuxIx) (f : AuxOut → AuxOut) (i : CanIx) : (s.onAux k f).can i = s.can i := rfl
@[simp] theorem State.onAux_trip (k : AuxIx) (f : AuxOut → AuxOut) (i : TripIx) : (s.onAux k f).trip i = s.trip i := rfl
@[simp] theorem State.onAux_par (k : AuxIx) (f : AuxOut → AuxOut) (x y : Nat) : (s.onAux k f).par x y = s.par x y := rfl
@[simp] theorem State.onAux_hwOn (k : AuxIx) (f : AuxOut → AuxOut) : (s.onAux k f).hwOn = s.hwOn := rfl
@[simp] theorem State.onAux_fwOn (k : AuxIx) (f : AuxOut → AuxOut) : (s.onAux k f).fwOn = s.fwOn := rfl
@[simp] theorem State.onAux_caps (k : AuxIx) (f : AuxOut → AuxOut) : (s.onAux k f).caps = s.caps := rfl
@[simp] theorem State.onAux_suppressed (k : AuxIx) (f : AuxOut → AuxOut) (x : Nat) : (s.onAux k f).suppressed x = s.suppressed x := rfl

/-! ### onTrip -/

@[simp] theorem State.onTrip_pending (t : TripIx) (f : Trip → Trip) : (s.onTrip t f).pending = s.pending := rfl
@[simp] theorem State.onTrip_phase (t : TripIx) (f : Trip → Trip) : (s.onTrip t f).phase = s.phase := rfl
@[simp] theorem State.onTrip_fc (t : TripIx) (f : Trip → Trip) : (s.onTrip t f).fc = s.fc := rfl
@[simp] theorem State.onTrip_runFc (t : TripIx) (f : Trip → Trip) : (s.onTrip t f).runFc = s.runFc := rfl
@[simp] theorem State.onTrip_time (t : TripIx) (f : Trip → Trip) : (s.onTrip t f).time = s.time := rfl
@[simp] theorem State.onTrip_timeFrac (t : TripIx) (f : Trip → Trip) : (s.onTrip t f).timeFrac = s.timeFrac := rfl
@[simp] theorem State.onTrip_slotTime (t : TripIx) (f : Trip → Trip) : (s.onTrip t f).slotTime = s.slotTime := rfl
@[simp] theorem State.onTrip_istep (t : TripIx) (f : Trip → Trip) : (s.onTrip t f).istep = s.istep := rfl
@[simp] theorem State.onTrip_pulses (t : TripIx) (f : Trip → Trip) : (s.onTrip t f).pulses = s.pulses := rfl
@[simp] theorem State.onTrip_params (t : TripIx) (f : Trip → Trip) : (s.onTrip t f).params = s.params := rfl
@[simp] theorem State.onTrip_chans (t : TripIx) (f : Trip → Trip) : (s.onTrip t f).chans = s.chans := rfl
@[simp] theorem State.onTrip_pairs (t : TripIx) (f : Trip → Trip) : (s.onTrip t f).pairs = s.pairs := rfl
@[simp] theorem State.onTrip_groups (t : TripIx) (f : Trip → Trip) : (s.onTrip t f).groups = s.groups := rfl
@[simp] theorem State.onTrip_banks (t : TripIx) (f : Trip → Trip) : (s.onTrip t f).banks = s.banks := rfl
@[simp] theorem State.onTrip_pd (t : TripIx) (f : Trip → Trip) : (s.onTrip t f).pd = s.pd := rfl
@[simp] theorem State.onTrip_link (t : TripIx) (f : Trip → Trip) : (s.onTrip t f).link = s.link := rfl
@[simp] theorem State.onTrip_fbs (t : TripIx) (f : Trip → Trip) : (s.onTrip t f).fbs = s.fbs := rfl
@[simp] theorem State.onTrip_rules (t : TripIx) (f : Trip → Trip) : (s.onTrip t f).rules = s.rules := rfl
@[simp] theorem State.onTrip_modClk (t : TripIx) (f : Trip → Trip) : (s.onTrip t f).modClk = s.modClk := rfl
@[simp] theorem State.onTrip_slotFc (t : TripIx) (f : Trip → Trip) : (s.onTrip t f).slotFc = s.slotFc := rfl
@[simp] theorem State.onTrip_lostClks (t : TripIx) (f : Trip → Trip) : (s.onTrip t f).lostClks = s.lostClks := rfl
@[simp] theorem State.onTrip_mods (t : TripIx) (f : Trip → Trip) : (s.onTrip t f).mods = s.mods := rfl
@[simp] theorem State.onTrip_entries (t : TripIx) (f : Trip → Trip) : (s.onTrip t f).entries = s.entries := rfl
@[simp] theorem State.onTrip_gbs (t : TripIx) (f : Trip → Trip) : (s.onTrip t f).gbs = s.gbs := rfl
@[simp] theorem State.onTrip_flts (t : TripIx) (f : Trip → Trip) : (s.onTrip t f).flts = s.flts := rfl
@[simp] theorem State.onTrip_cmps (t : TripIx) (f : Trip → Trip) : (s.onTrip t f).cmps = s.cmps := rfl
@[simp] theorem State.onTrip_cans (t : TripIx) (f : Trip → Trip) : (s.onTrip t f).cans = s.cans := rfl
@[simp] theorem State.onTrip_auxs (t : TripIx) (f : Trip → Trip) : (s.onTrip t f).auxs = s.auxs := rfl
@[simp] theorem State.onTrip_mbx (t : TripIx) (f : Trip → Trip) : (s.onTrip t f).mbx = s.mbx := rfl
@[simp] theorem State.onTrip_hp (t : TripIx) (f : Trip → Trip) : (s.onTrip t f).hp = s.hp := rfl
@[simp] theorem State.onTrip_boot (t : TripIx) (f : Trip → Trip) : (s.onTrip t f).boot = s.boot := rfl
@[simp] theorem State.onTrip_power (t : TripIx) (f : Trip → Trip) : (s.onTrip t f).power = s.power := rfl
@[simp] theorem State.onTrip_sec (t : TripIx) (f : Trip → Trip) : (s.onTrip t f).sec = s.sec := rfl
@[simp] theorem State.onTrip_otp (t : TripIx) (f : Trip → Trip) : (s.onTrip t f).otp = s.otp := rfl
@[simp] theorem State.onTrip_chan (t : TripIx) (f : Trip → Trip) (i : Ch) : (s.onTrip t f).chan i = s.chan i := rfl
@[simp] theorem State.onTrip_bank (t : TripIx) (f : Trip → Trip) (i : BankIx) : (s.onTrip t f).bank i = s.bank i := rfl
@[simp] theorem State.onTrip_pdChan (t : TripIx) (f : Trip → Trip) (i : Ch) : (s.onTrip t f).pdChan i = s.pdChan i := rfl
@[simp] theorem State.onTrip_pdBank (t : TripIx) (f : Trip → Trip) (i : BankIx) : (s.onTrip t f).pdBank i = s.pdBank i := rfl
@[simp] theorem State.onTrip_fb (t : TripIx) (f : Trip → Trip) (i : Ch) : (s.onTrip t f).fb i = s.fb i := rfl
@[simp] theorem State.onTrip_rule (t : TripIx) (f : Trip → Trip) (i : RuleIx) : (s.onTrip t f).rule i = s.rule i := rfl
@[simp] theorem State.onTrip_modu (t : TripIx) (f : Trip → Trip) (i : ModIx) : (s.onTrip t f).modu i = s.modu i := rfl
@[simp] theorem State.onTrip_gb (t : TripIx) (f : Trip → Trip) (i : EntryIx) : (s.onTrip t f).gb i = s.gb i := rfl
@[simp] theorem State.onTrip_flt (t : TripIx) (f : Trip → Trip) (i : FltIx) : (s.onTrip t f).flt i = s.flt i := rfl
@[simp] theorem State.onTrip_can (t : TripIx) (f : Trip → Trip) (i : CanIx) : (s.onTrip t f).can i = s.can i := rfl
@[simp] theorem State.onTrip_aux (t : TripIx) (f : Trip → Trip) (i : AuxIx) : (s.onTrip t f).aux i = s.aux i := rfl
@[simp] theorem State.onTrip_par (t : TripIx) (f : Trip → Trip) (x y : Nat) : (s.onTrip t f).par x y = s.par x y := rfl
@[simp] theorem State.onTrip_hwOn (t : TripIx) (f : Trip → Trip) : (s.onTrip t f).hwOn = s.hwOn := rfl
@[simp] theorem State.onTrip_fwOn (t : TripIx) (f : Trip → Trip) : (s.onTrip t f).fwOn = s.fwOn := rfl
@[simp] theorem State.onTrip_caps (t : TripIx) (f : Trip → Trip) : (s.onTrip t f).caps = s.caps := rfl
@[simp] theorem State.onTrip_suppressed (t : TripIx) (f : Trip → Trip) (x : Nat) : (s.onTrip t f).suppressed x = s.suppressed x := rfl

/-! ### setPar -/

@[simp] theorem State.setPar_pending (id inst : Nat) (v : Int) : (s.setPar id inst v).pending = s.pending := rfl
@[simp] theorem State.setPar_phase (id inst : Nat) (v : Int) : (s.setPar id inst v).phase = s.phase := rfl
@[simp] theorem State.setPar_fc (id inst : Nat) (v : Int) : (s.setPar id inst v).fc = s.fc := rfl
@[simp] theorem State.setPar_runFc (id inst : Nat) (v : Int) : (s.setPar id inst v).runFc = s.runFc := rfl
@[simp] theorem State.setPar_time (id inst : Nat) (v : Int) : (s.setPar id inst v).time = s.time := rfl
@[simp] theorem State.setPar_timeFrac (id inst : Nat) (v : Int) : (s.setPar id inst v).timeFrac = s.timeFrac := rfl
@[simp] theorem State.setPar_slotTime (id inst : Nat) (v : Int) : (s.setPar id inst v).slotTime = s.slotTime := rfl
@[simp] theorem State.setPar_istep (id inst : Nat) (v : Int) : (s.setPar id inst v).istep = s.istep := rfl
@[simp] theorem State.setPar_pulses (id inst : Nat) (v : Int) : (s.setPar id inst v).pulses = s.pulses := rfl
@[simp] theorem State.setPar_chans (id inst : Nat) (v : Int) : (s.setPar id inst v).chans = s.chans := rfl
@[simp] theorem State.setPar_pairs (id inst : Nat) (v : Int) : (s.setPar id inst v).pairs = s.pairs := rfl
@[simp] theorem State.setPar_groups (id inst : Nat) (v : Int) : (s.setPar id inst v).groups = s.groups := rfl
@[simp] theorem State.setPar_banks (id inst : Nat) (v : Int) : (s.setPar id inst v).banks = s.banks := rfl
@[simp] theorem State.setPar_pd (id inst : Nat) (v : Int) : (s.setPar id inst v).pd = s.pd := rfl
@[simp] theorem State.setPar_link (id inst : Nat) (v : Int) : (s.setPar id inst v).link = s.link := rfl
@[simp] theorem State.setPar_fbs (id inst : Nat) (v : Int) : (s.setPar id inst v).fbs = s.fbs := rfl
@[simp] theorem State.setPar_rules (id inst : Nat) (v : Int) : (s.setPar id inst v).rules = s.rules := rfl
@[simp] theorem State.setPar_modClk (id inst : Nat) (v : Int) : (s.setPar id inst v).modClk = s.modClk := rfl
@[simp] theorem State.setPar_slotFc (id inst : Nat) (v : Int) : (s.setPar id inst v).slotFc = s.slotFc := rfl
@[simp] theorem State.setPar_lostClks (id inst : Nat) (v : Int) : (s.setPar id inst v).lostClks = s.lostClks := rfl
@[simp] theorem State.setPar_mods (id inst : Nat) (v : Int) : (s.setPar id inst v).mods = s.mods := rfl
@[simp] theorem State.setPar_entries (id inst : Nat) (v : Int) : (s.setPar id inst v).entries = s.entries := rfl
@[simp] theorem State.setPar_gbs (id inst : Nat) (v : Int) : (s.setPar id inst v).gbs = s.gbs := rfl
@[simp] theorem State.setPar_flts (id inst : Nat) (v : Int) : (s.setPar id inst v).flts = s.flts := rfl
@[simp] theorem State.setPar_cmps (id inst : Nat) (v : Int) : (s.setPar id inst v).cmps = s.cmps := rfl
@[simp] theorem State.setPar_cans (id inst : Nat) (v : Int) : (s.setPar id inst v).cans = s.cans := rfl
@[simp] theorem State.setPar_auxs (id inst : Nat) (v : Int) : (s.setPar id inst v).auxs = s.auxs := rfl
@[simp] theorem State.setPar_trips (id inst : Nat) (v : Int) : (s.setPar id inst v).trips = s.trips := rfl
@[simp] theorem State.setPar_mbx (id inst : Nat) (v : Int) : (s.setPar id inst v).mbx = s.mbx := rfl
@[simp] theorem State.setPar_hp (id inst : Nat) (v : Int) : (s.setPar id inst v).hp = s.hp := rfl
@[simp] theorem State.setPar_boot (id inst : Nat) (v : Int) : (s.setPar id inst v).boot = s.boot := rfl
@[simp] theorem State.setPar_power (id inst : Nat) (v : Int) : (s.setPar id inst v).power = s.power := rfl
@[simp] theorem State.setPar_sec (id inst : Nat) (v : Int) : (s.setPar id inst v).sec = s.sec := rfl
@[simp] theorem State.setPar_otp (id inst : Nat) (v : Int) : (s.setPar id inst v).otp = s.otp := rfl
@[simp] theorem State.setPar_chan (id inst : Nat) (v : Int) (i : Ch) : (s.setPar id inst v).chan i = s.chan i := rfl
@[simp] theorem State.setPar_bank (id inst : Nat) (v : Int) (i : BankIx) : (s.setPar id inst v).bank i = s.bank i := rfl
@[simp] theorem State.setPar_pdChan (id inst : Nat) (v : Int) (i : Ch) : (s.setPar id inst v).pdChan i = s.pdChan i := rfl
@[simp] theorem State.setPar_pdBank (id inst : Nat) (v : Int) (i : BankIx) : (s.setPar id inst v).pdBank i = s.pdBank i := rfl
@[simp] theorem State.setPar_fb (id inst : Nat) (v : Int) (i : Ch) : (s.setPar id inst v).fb i = s.fb i := rfl
@[simp] theorem State.setPar_rule (id inst : Nat) (v : Int) (i : RuleIx) : (s.setPar id inst v).rule i = s.rule i := rfl
@[simp] theorem State.setPar_modu (id inst : Nat) (v : Int) (i : ModIx) : (s.setPar id inst v).modu i = s.modu i := rfl
@[simp] theorem State.setPar_gb (id inst : Nat) (v : Int) (i : EntryIx) : (s.setPar id inst v).gb i = s.gb i := rfl
@[simp] theorem State.setPar_flt (id inst : Nat) (v : Int) (i : FltIx) : (s.setPar id inst v).flt i = s.flt i := rfl
@[simp] theorem State.setPar_can (id inst : Nat) (v : Int) (i : CanIx) : (s.setPar id inst v).can i = s.can i := rfl
@[simp] theorem State.setPar_aux (id inst : Nat) (v : Int) (i : AuxIx) : (s.setPar id inst v).aux i = s.aux i := rfl
@[simp] theorem State.setPar_trip (id inst : Nat) (v : Int) (i : TripIx) : (s.setPar id inst v).trip i = s.trip i := rfl
@[simp] theorem State.setPar_hwOn (id inst : Nat) (v : Int) : (s.setPar id inst v).hwOn = s.hwOn := rfl
@[simp] theorem State.setPar_fwOn (id inst : Nat) (v : Int) : (s.setPar id inst v).fwOn = s.fwOn := rfl
@[simp] theorem State.setPar_caps (id inst : Nat) (v : Int) : (s.setPar id inst v).caps = s.caps := rfl

/-! ### noted -/

@[simp] theorem State.noted_pending (r : Result) : (s.noted r).pending = s.pending := rfl
@[simp] theorem State.noted_phase (r : Result) : (s.noted r).phase = s.phase := rfl
@[simp] theorem State.noted_fc (r : Result) : (s.noted r).fc = s.fc := rfl
@[simp] theorem State.noted_runFc (r : Result) : (s.noted r).runFc = s.runFc := rfl
@[simp] theorem State.noted_time (r : Result) : (s.noted r).time = s.time := rfl
@[simp] theorem State.noted_timeFrac (r : Result) : (s.noted r).timeFrac = s.timeFrac := rfl
@[simp] theorem State.noted_slotTime (r : Result) : (s.noted r).slotTime = s.slotTime := rfl
@[simp] theorem State.noted_istep (r : Result) : (s.noted r).istep = s.istep := rfl
@[simp] theorem State.noted_pulses (r : Result) : (s.noted r).pulses = s.pulses := rfl
@[simp] theorem State.noted_params (r : Result) : (s.noted r).params = s.params := rfl
@[simp] theorem State.noted_chans (r : Result) : (s.noted r).chans = s.chans := rfl
@[simp] theorem State.noted_pairs (r : Result) : (s.noted r).pairs = s.pairs := rfl
@[simp] theorem State.noted_groups (r : Result) : (s.noted r).groups = s.groups := rfl
@[simp] theorem State.noted_banks (r : Result) : (s.noted r).banks = s.banks := rfl
@[simp] theorem State.noted_pd (r : Result) : (s.noted r).pd = s.pd := rfl
@[simp] theorem State.noted_link (r : Result) : (s.noted r).link = s.link := rfl
@[simp] theorem State.noted_fbs (r : Result) : (s.noted r).fbs = s.fbs := rfl
@[simp] theorem State.noted_rules (r : Result) : (s.noted r).rules = s.rules := rfl
@[simp] theorem State.noted_modClk (r : Result) : (s.noted r).modClk = s.modClk := rfl
@[simp] theorem State.noted_slotFc (r : Result) : (s.noted r).slotFc = s.slotFc := rfl
@[simp] theorem State.noted_lostClks (r : Result) : (s.noted r).lostClks = s.lostClks := rfl
@[simp] theorem State.noted_mods (r : Result) : (s.noted r).mods = s.mods := rfl
@[simp] theorem State.noted_entries (r : Result) : (s.noted r).entries = s.entries := rfl
@[simp] theorem State.noted_gbs (r : Result) : (s.noted r).gbs = s.gbs := rfl
@[simp] theorem State.noted_flts (r : Result) : (s.noted r).flts = s.flts := rfl
@[simp] theorem State.noted_cmps (r : Result) : (s.noted r).cmps = s.cmps := rfl
@[simp] theorem State.noted_cans (r : Result) : (s.noted r).cans = s.cans := rfl
@[simp] theorem State.noted_auxs (r : Result) : (s.noted r).auxs = s.auxs := rfl
@[simp] theorem State.noted_trips (r : Result) : (s.noted r).trips = s.trips := rfl
@[simp] theorem State.noted_hp (r : Result) : (s.noted r).hp = s.hp := rfl
@[simp] theorem State.noted_boot (r : Result) : (s.noted r).boot = s.boot := rfl
@[simp] theorem State.noted_power (r : Result) : (s.noted r).power = s.power := rfl
@[simp] theorem State.noted_sec (r : Result) : (s.noted r).sec = s.sec := rfl
@[simp] theorem State.noted_otp (r : Result) : (s.noted r).otp = s.otp := rfl
@[simp] theorem State.noted_chan (r : Result) (i : Ch) : (s.noted r).chan i = s.chan i := rfl
@[simp] theorem State.noted_bank (r : Result) (i : BankIx) : (s.noted r).bank i = s.bank i := rfl
@[simp] theorem State.noted_pdChan (r : Result) (i : Ch) : (s.noted r).pdChan i = s.pdChan i := rfl
@[simp] theorem State.noted_pdBank (r : Result) (i : BankIx) : (s.noted r).pdBank i = s.pdBank i := rfl
@[simp] theorem State.noted_fb (r : Result) (i : Ch) : (s.noted r).fb i = s.fb i := rfl
@[simp] theorem State.noted_rule (r : Result) (i : RuleIx) : (s.noted r).rule i = s.rule i := rfl
@[simp] theorem State.noted_modu (r : Result) (i : ModIx) : (s.noted r).modu i = s.modu i := rfl
@[simp] theorem State.noted_gb (r : Result) (i : EntryIx) : (s.noted r).gb i = s.gb i := rfl
@[simp] theorem State.noted_flt (r : Result) (i : FltIx) : (s.noted r).flt i = s.flt i := rfl
@[simp] theorem State.noted_can (r : Result) (i : CanIx) : (s.noted r).can i = s.can i := rfl
@[simp] theorem State.noted_aux (r : Result) (i : AuxIx) : (s.noted r).aux i = s.aux i := rfl
@[simp] theorem State.noted_trip (r : Result) (i : TripIx) : (s.noted r).trip i = s.trip i := rfl
@[simp] theorem State.noted_par (r : Result) (x y : Nat) : (s.noted r).par x y = s.par x y := rfl
@[simp] theorem State.noted_hwOn (r : Result) : (s.noted r).hwOn = s.hwOn := rfl
@[simp] theorem State.noted_fwOn (r : Result) : (s.noted r).fwOn = s.fwOn := rfl
@[simp] theorem State.noted_caps (r : Result) : (s.noted r).caps = s.caps := rfl
@[simp] theorem State.noted_suppressed (r : Result) (x : Nat) : (s.noted r).suppressed x = s.suppressed x := rfl

/-! ### taken -/

@[simp] theorem State.taken_pending (rest : List Queued) : (s.taken rest).pending = s.pending := rfl
@[simp] theorem State.taken_phase (rest : List Queued) : (s.taken rest).phase = s.phase := rfl
@[simp] theorem State.taken_fc (rest : List Queued) : (s.taken rest).fc = s.fc := rfl
@[simp] theorem State.taken_runFc (rest : List Queued) : (s.taken rest).runFc = s.runFc := rfl
@[simp] theorem State.taken_time (rest : List Queued) : (s.taken rest).time = s.time := rfl
@[simp] theorem State.taken_timeFrac (rest : List Queued) : (s.taken rest).timeFrac = s.timeFrac := rfl
@[simp] theorem State.taken_slotTime (rest : List Queued) : (s.taken rest).slotTime = s.slotTime := rfl
@[simp] theorem State.taken_istep (rest : List Queued) : (s.taken rest).istep = s.istep := rfl
@[simp] theorem State.taken_pulses (rest : List Queued) : (s.taken rest).pulses = s.pulses := rfl
@[simp] theorem State.taken_params (rest : List Queued) : (s.taken rest).params = s.params := rfl
@[simp] theorem State.taken_chans (rest : List Queued) : (s.taken rest).chans = s.chans := rfl
@[simp] theorem State.taken_pairs (rest : List Queued) : (s.taken rest).pairs = s.pairs := rfl
@[simp] theorem State.taken_groups (rest : List Queued) : (s.taken rest).groups = s.groups := rfl
@[simp] theorem State.taken_banks (rest : List Queued) : (s.taken rest).banks = s.banks := rfl
@[simp] theorem State.taken_pd (rest : List Queued) : (s.taken rest).pd = s.pd := rfl
@[simp] theorem State.taken_link (rest : List Queued) : (s.taken rest).link = s.link := rfl
@[simp] theorem State.taken_fbs (rest : List Queued) : (s.taken rest).fbs = s.fbs := rfl
@[simp] theorem State.taken_rules (rest : List Queued) : (s.taken rest).rules = s.rules := rfl
@[simp] theorem State.taken_modClk (rest : List Queued) : (s.taken rest).modClk = s.modClk := rfl
@[simp] theorem State.taken_slotFc (rest : List Queued) : (s.taken rest).slotFc = s.slotFc := rfl
@[simp] theorem State.taken_lostClks (rest : List Queued) : (s.taken rest).lostClks = s.lostClks := rfl
@[simp] theorem State.taken_mods (rest : List Queued) : (s.taken rest).mods = s.mods := rfl
@[simp] theorem State.taken_entries (rest : List Queued) : (s.taken rest).entries = s.entries := rfl
@[simp] theorem State.taken_gbs (rest : List Queued) : (s.taken rest).gbs = s.gbs := rfl
@[simp] theorem State.taken_flts (rest : List Queued) : (s.taken rest).flts = s.flts := rfl
@[simp] theorem State.taken_cmps (rest : List Queued) : (s.taken rest).cmps = s.cmps := rfl
@[simp] theorem State.taken_cans (rest : List Queued) : (s.taken rest).cans = s.cans := rfl
@[simp] theorem State.taken_auxs (rest : List Queued) : (s.taken rest).auxs = s.auxs := rfl
@[simp] theorem State.taken_trips (rest : List Queued) : (s.taken rest).trips = s.trips := rfl
@[simp] theorem State.taken_hp (rest : List Queued) : (s.taken rest).hp = s.hp := rfl
@[simp] theorem State.taken_boot (rest : List Queued) : (s.taken rest).boot = s.boot := rfl
@[simp] theorem State.taken_power (rest : List Queued) : (s.taken rest).power = s.power := rfl
@[simp] theorem State.taken_otp (rest : List Queued) : (s.taken rest).otp = s.otp := rfl
@[simp] theorem State.taken_chan (rest : List Queued) (i : Ch) : (s.taken rest).chan i = s.chan i := rfl
@[simp] theorem State.taken_bank (rest : List Queued) (i : BankIx) : (s.taken rest).bank i = s.bank i := rfl
@[simp] theorem State.taken_pdChan (rest : List Queued) (i : Ch) : (s.taken rest).pdChan i = s.pdChan i := rfl
@[simp] theorem State.taken_pdBank (rest : List Queued) (i : BankIx) : (s.taken rest).pdBank i = s.pdBank i := rfl
@[simp] theorem State.taken_fb (rest : List Queued) (i : Ch) : (s.taken rest).fb i = s.fb i := rfl
@[simp] theorem State.taken_rule (rest : List Queued) (i : RuleIx) : (s.taken rest).rule i = s.rule i := rfl
@[simp] theorem State.taken_modu (rest : List Queued) (i : ModIx) : (s.taken rest).modu i = s.modu i := rfl
@[simp] theorem State.taken_gb (rest : List Queued) (i : EntryIx) : (s.taken rest).gb i = s.gb i := rfl
@[simp] theorem State.taken_flt (rest : List Queued) (i : FltIx) : (s.taken rest).flt i = s.flt i := rfl
@[simp] theorem State.taken_can (rest : List Queued) (i : CanIx) : (s.taken rest).can i = s.can i := rfl
@[simp] theorem State.taken_aux (rest : List Queued) (i : AuxIx) : (s.taken rest).aux i = s.aux i := rfl
@[simp] theorem State.taken_trip (rest : List Queued) (i : TripIx) : (s.taken rest).trip i = s.trip i := rfl
@[simp] theorem State.taken_par (rest : List Queued) (x y : Nat) : (s.taken rest).par x y = s.par x y := rfl
@[simp] theorem State.taken_caps (rest : List Queued) : (s.taken rest).caps = s.caps := rfl
@[simp] theorem State.taken_suppressed (rest : List Queued) (x : Nat) : (s.taken rest).suppressed x = s.suppressed x := rfl

/-! ### replied -/

@[simp] theorem State.replied_pending (q : Queued) (r : Result) (n : Nat) (d : List Byte) : (s.replied q r n d).pending = s.pending := rfl
@[simp] theorem State.replied_phase (q : Queued) (r : Result) (n : Nat) (d : List Byte) : (s.replied q r n d).phase = s.phase := rfl
@[simp] theorem State.replied_fc (q : Queued) (r : Result) (n : Nat) (d : List Byte) : (s.replied q r n d).fc = s.fc := rfl
@[simp] theorem State.replied_runFc (q : Queued) (r : Result) (n : Nat) (d : List Byte) : (s.replied q r n d).runFc = s.runFc := rfl
@[simp] theorem State.replied_time (q : Queued) (r : Result) (n : Nat) (d : List Byte) : (s.replied q r n d).time = s.time := rfl
@[simp] theorem State.replied_timeFrac (q : Queued) (r : Result) (n : Nat) (d : List Byte) : (s.replied q r n d).timeFrac = s.timeFrac := rfl
@[simp] theorem State.replied_slotTime (q : Queued) (r : Result) (n : Nat) (d : List Byte) : (s.replied q r n d).slotTime = s.slotTime := rfl
@[simp] theorem State.replied_istep (q : Queued) (r : Result) (n : Nat) (d : List Byte) : (s.replied q r n d).istep = s.istep := rfl
@[simp] theorem State.replied_pulses (q : Queued) (r : Result) (n : Nat) (d : List Byte) : (s.replied q r n d).pulses = s.pulses := rfl
@[simp] theorem State.replied_params (q : Queued) (r : Result) (n : Nat) (d : List Byte) : (s.replied q r n d).params = s.params := rfl
@[simp] theorem State.replied_chans (q : Queued) (r : Result) (n : Nat) (d : List Byte) : (s.replied q r n d).chans = s.chans := rfl
@[simp] theorem State.replied_pairs (q : Queued) (r : Result) (n : Nat) (d : List Byte) : (s.replied q r n d).pairs = s.pairs := rfl
@[simp] theorem State.replied_groups (q : Queued) (r : Result) (n : Nat) (d : List Byte) : (s.replied q r n d).groups = s.groups := rfl
@[simp] theorem State.replied_banks (q : Queued) (r : Result) (n : Nat) (d : List Byte) : (s.replied q r n d).banks = s.banks := rfl
@[simp] theorem State.replied_pd (q : Queued) (r : Result) (n : Nat) (d : List Byte) : (s.replied q r n d).pd = s.pd := rfl
@[simp] theorem State.replied_link (q : Queued) (r : Result) (n : Nat) (d : List Byte) : (s.replied q r n d).link = s.link := rfl
@[simp] theorem State.replied_fbs (q : Queued) (r : Result) (n : Nat) (d : List Byte) : (s.replied q r n d).fbs = s.fbs := rfl
@[simp] theorem State.replied_rules (q : Queued) (r : Result) (n : Nat) (d : List Byte) : (s.replied q r n d).rules = s.rules := rfl
@[simp] theorem State.replied_modClk (q : Queued) (r : Result) (n : Nat) (d : List Byte) : (s.replied q r n d).modClk = s.modClk := rfl
@[simp] theorem State.replied_slotFc (q : Queued) (r : Result) (n : Nat) (d : List Byte) : (s.replied q r n d).slotFc = s.slotFc := rfl
@[simp] theorem State.replied_lostClks (q : Queued) (r : Result) (n : Nat) (d : List Byte) : (s.replied q r n d).lostClks = s.lostClks := rfl
@[simp] theorem State.replied_mods (q : Queued) (r : Result) (n : Nat) (d : List Byte) : (s.replied q r n d).mods = s.mods := rfl
@[simp] theorem State.replied_entries (q : Queued) (r : Result) (n : Nat) (d : List Byte) : (s.replied q r n d).entries = s.entries := rfl
@[simp] theorem State.replied_gbs (q : Queued) (r : Result) (n : Nat) (d : List Byte) : (s.replied q r n d).gbs = s.gbs := rfl
@[simp] theorem State.replied_flts (q : Queued) (r : Result) (n : Nat) (d : List Byte) : (s.replied q r n d).flts = s.flts := rfl
@[simp] theorem State.replied_cmps (q : Queued) (r : Result) (n : Nat) (d : List Byte) : (s.replied q r n d).cmps = s.cmps := rfl
@[simp] theorem State.replied_cans (q : Queued) (r : Result) (n : Nat) (d : List Byte) : (s.replied q r n d).cans = s.cans := rfl
@[simp] theorem State.replied_auxs (q : Queued) (r : Result) (n : Nat) (d : List Byte) : (s.replied q r n d).auxs = s.auxs := rfl
@[simp] theorem State.replied_trips (q : Queued) (r : Result) (n : Nat) (d : List Byte) : (s.replied q r n d).trips = s.trips := rfl
@[simp] theorem State.replied_hp (q : Queued) (r : Result) (n : Nat) (d : List Byte) : (s.replied q r n d).hp = s.hp := rfl
@[simp] theorem State.replied_boot (q : Queued) (r : Result) (n : Nat) (d : List Byte) : (s.replied q r n d).boot = s.boot := rfl
@[simp] theorem State.replied_power (q : Queued) (r : Result) (n : Nat) (d : List Byte) : (s.replied q r n d).power = s.power := rfl
@[simp] theorem State.replied_otp (q : Queued) (r : Result) (n : Nat) (d : List Byte) : (s.replied q r n d).otp = s.otp := rfl
@[simp] theorem State.replied_chan (q : Queued) (r : Result) (n : Nat) (d : List Byte) (i : Ch) : (s.replied q r n d).chan i = s.chan i := rfl
@[simp] theorem State.replied_bank (q : Queued) (r : Result) (n : Nat) (d : List Byte) (i : BankIx) : (s.replied q r n d).bank i = s.bank i := rfl
@[simp] theorem State.replied_pdChan (q : Queued) (r : Result) (n : Nat) (d : List Byte) (i : Ch) : (s.replied q r n d).pdChan i = s.pdChan i := rfl
@[simp] theorem State.replied_pdBank (q : Queued) (r : Result) (n : Nat) (d : List Byte) (i : BankIx) : (s.replied q r n d).pdBank i = s.pdBank i := rfl
@[simp] theorem State.replied_fb (q : Queued) (r : Result) (n : Nat) (d : List Byte) (i : Ch) : (s.replied q r n d).fb i = s.fb i := rfl
@[simp] theorem State.replied_rule (q : Queued) (r : Result) (n : Nat) (d : List Byte) (i : RuleIx) : (s.replied q r n d).rule i = s.rule i := rfl
@[simp] theorem State.replied_modu (q : Queued) (r : Result) (n : Nat) (d : List Byte) (i : ModIx) : (s.replied q r n d).modu i = s.modu i := rfl
@[simp] theorem State.replied_gb (q : Queued) (r : Result) (n : Nat) (d : List Byte) (i : EntryIx) : (s.replied q r n d).gb i = s.gb i := rfl
@[simp] theorem State.replied_flt (q : Queued) (r : Result) (n : Nat) (d : List Byte) (i : FltIx) : (s.replied q r n d).flt i = s.flt i := rfl
@[simp] theorem State.replied_can (q : Queued) (r : Result) (n : Nat) (d : List Byte) (i : CanIx) : (s.replied q r n d).can i = s.can i := rfl
@[simp] theorem State.replied_aux (q : Queued) (r : Result) (n : Nat) (d : List Byte) (i : AuxIx) : (s.replied q r n d).aux i = s.aux i := rfl
@[simp] theorem State.replied_trip (q : Queued) (r : Result) (n : Nat) (d : List Byte) (i : TripIx) : (s.replied q r n d).trip i = s.trip i := rfl
@[simp] theorem State.replied_par (q : Queued) (r : Result) (n : Nat) (d : List Byte) (x y : Nat) : (s.replied q r n d).par x y = s.par x y := rfl
@[simp] theorem State.replied_hwOn (q : Queued) (r : Result) (n : Nat) (d : List Byte) : (s.replied q r n d).hwOn = s.hwOn := rfl
@[simp] theorem State.replied_fwOn (q : Queued) (r : Result) (n : Nat) (d : List Byte) : (s.replied q r n d).fwOn = s.fwOn := rfl
@[simp] theorem State.replied_caps (q : Queued) (r : Result) (n : Nat) (d : List Byte) : (s.replied q r n d).caps = s.caps := rfl
@[simp] theorem State.replied_suppressed (q : Queued) (r : Result) (n : Nat) (d : List Byte) (x : Nat) : (s.replied q r n d).suppressed x = s.suppressed x := rfl

/-! ### held -/

@[simp] theorem State.held_pending (q : Queued) (ts : List Byte) (r : Result) (n : Nat) (d : List Byte) (cl st : List Ch) : (s.held q ts r n d cl st).pending = s.pending := rfl
@[simp] theorem State.held_phase (q : Queued) (ts : List Byte) (r : Result) (n : Nat) (d : List Byte) (cl st : List Ch) : (s.held q ts r n d cl st).phase = s.phase := rfl
@[simp] theorem State.held_fc (q : Queued) (ts : List Byte) (r : Result) (n : Nat) (d : List Byte) (cl st : List Ch) : (s.held q ts r n d cl st).fc = s.fc := rfl
@[simp] theorem State.held_runFc (q : Queued) (ts : List Byte) (r : Result) (n : Nat) (d : List Byte) (cl st : List Ch) : (s.held q ts r n d cl st).runFc = s.runFc := rfl
@[simp] theorem State.held_time (q : Queued) (ts : List Byte) (r : Result) (n : Nat) (d : List Byte) (cl st : List Ch) : (s.held q ts r n d cl st).time = s.time := rfl
@[simp] theorem State.held_timeFrac (q : Queued) (ts : List Byte) (r : Result) (n : Nat) (d : List Byte) (cl st : List Ch) : (s.held q ts r n d cl st).timeFrac = s.timeFrac := rfl
@[simp] theorem State.held_slotTime (q : Queued) (ts : List Byte) (r : Result) (n : Nat) (d : List Byte) (cl st : List Ch) : (s.held q ts r n d cl st).slotTime = s.slotTime := rfl
@[simp] theorem State.held_istep (q : Queued) (ts : List Byte) (r : Result) (n : Nat) (d : List Byte) (cl st : List Ch) : (s.held q ts r n d cl st).istep = s.istep := rfl
@[simp] theorem State.held_pulses (q : Queued) (ts : List Byte) (r : Result) (n : Nat) (d : List Byte) (cl st : List Ch) : (s.held q ts r n d cl st).pulses = s.pulses := rfl
@[simp] theorem State.held_params (q : Queued) (ts : List Byte) (r : Result) (n : Nat) (d : List Byte) (cl st : List Ch) : (s.held q ts r n d cl st).params = s.params := rfl
@[simp] theorem State.held_chans (q : Queued) (ts : List Byte) (r : Result) (n : Nat) (d : List Byte) (cl st : List Ch) : (s.held q ts r n d cl st).chans = s.chans := rfl
@[simp] theorem State.held_pairs (q : Queued) (ts : List Byte) (r : Result) (n : Nat) (d : List Byte) (cl st : List Ch) : (s.held q ts r n d cl st).pairs = s.pairs := rfl
@[simp] theorem State.held_groups (q : Queued) (ts : List Byte) (r : Result) (n : Nat) (d : List Byte) (cl st : List Ch) : (s.held q ts r n d cl st).groups = s.groups := rfl
@[simp] theorem State.held_banks (q : Queued) (ts : List Byte) (r : Result) (n : Nat) (d : List Byte) (cl st : List Ch) : (s.held q ts r n d cl st).banks = s.banks := rfl
@[simp] theorem State.held_pd (q : Queued) (ts : List Byte) (r : Result) (n : Nat) (d : List Byte) (cl st : List Ch) : (s.held q ts r n d cl st).pd = s.pd := rfl
@[simp] theorem State.held_link (q : Queued) (ts : List Byte) (r : Result) (n : Nat) (d : List Byte) (cl st : List Ch) : (s.held q ts r n d cl st).link = s.link := rfl
@[simp] theorem State.held_fbs (q : Queued) (ts : List Byte) (r : Result) (n : Nat) (d : List Byte) (cl st : List Ch) : (s.held q ts r n d cl st).fbs = s.fbs := rfl
@[simp] theorem State.held_rules (q : Queued) (ts : List Byte) (r : Result) (n : Nat) (d : List Byte) (cl st : List Ch) : (s.held q ts r n d cl st).rules = s.rules := rfl
@[simp] theorem State.held_modClk (q : Queued) (ts : List Byte) (r : Result) (n : Nat) (d : List Byte) (cl st : List Ch) : (s.held q ts r n d cl st).modClk = s.modClk := rfl
@[simp] theorem State.held_slotFc (q : Queued) (ts : List Byte) (r : Result) (n : Nat) (d : List Byte) (cl st : List Ch) : (s.held q ts r n d cl st).slotFc = s.slotFc := rfl
@[simp] theorem State.held_lostClks (q : Queued) (ts : List Byte) (r : Result) (n : Nat) (d : List Byte) (cl st : List Ch) : (s.held q ts r n d cl st).lostClks = s.lostClks := rfl
@[simp] theorem State.held_mods (q : Queued) (ts : List Byte) (r : Result) (n : Nat) (d : List Byte) (cl st : List Ch) : (s.held q ts r n d cl st).mods = s.mods := rfl
@[simp] theorem State.held_entries (q : Queued) (ts : List Byte) (r : Result) (n : Nat) (d : List Byte) (cl st : List Ch) : (s.held q ts r n d cl st).entries = s.entries := rfl
@[simp] theorem State.held_gbs (q : Queued) (ts : List Byte) (r : Result) (n : Nat) (d : List Byte) (cl st : List Ch) : (s.held q ts r n d cl st).gbs = s.gbs := rfl
@[simp] theorem State.held_flts (q : Queued) (ts : List Byte) (r : Result) (n : Nat) (d : List Byte) (cl st : List Ch) : (s.held q ts r n d cl st).flts = s.flts := rfl
@[simp] theorem State.held_cmps (q : Queued) (ts : List Byte) (r : Result) (n : Nat) (d : List Byte) (cl st : List Ch) : (s.held q ts r n d cl st).cmps = s.cmps := rfl
@[simp] theorem State.held_cans (q : Queued) (ts : List Byte) (r : Result) (n : Nat) (d : List Byte) (cl st : List Ch) : (s.held q ts r n d cl st).cans = s.cans := rfl
@[simp] theorem State.held_auxs (q : Queued) (ts : List Byte) (r : Result) (n : Nat) (d : List Byte) (cl st : List Ch) : (s.held q ts r n d cl st).auxs = s.auxs := rfl
@[simp] theorem State.held_trips (q : Queued) (ts : List Byte) (r : Result) (n : Nat) (d : List Byte) (cl st : List Ch) : (s.held q ts r n d cl st).trips = s.trips := rfl
@[simp] theorem State.held_hp (q : Queued) (ts : List Byte) (r : Result) (n : Nat) (d : List Byte) (cl st : List Ch) : (s.held q ts r n d cl st).hp = s.hp := rfl
@[simp] theorem State.held_boot (q : Queued) (ts : List Byte) (r : Result) (n : Nat) (d : List Byte) (cl st : List Ch) : (s.held q ts r n d cl st).boot = s.boot := rfl
@[simp] theorem State.held_power (q : Queued) (ts : List Byte) (r : Result) (n : Nat) (d : List Byte) (cl st : List Ch) : (s.held q ts r n d cl st).power = s.power := rfl
@[simp] theorem State.held_otp (q : Queued) (ts : List Byte) (r : Result) (n : Nat) (d : List Byte) (cl st : List Ch) : (s.held q ts r n d cl st).otp = s.otp := rfl
@[simp] theorem State.held_chan (q : Queued) (ts : List Byte) (r : Result) (n : Nat) (d : List Byte) (cl st : List Ch) (i : Ch) : (s.held q ts r n d cl st).chan i = s.chan i := rfl
@[simp] theorem State.held_bank (q : Queued) (ts : List Byte) (r : Result) (n : Nat) (d : List Byte) (cl st : List Ch) (i : BankIx) : (s.held q ts r n d cl st).bank i = s.bank i := rfl
@[simp] theorem State.held_pdChan (q : Queued) (ts : List Byte) (r : Result) (n : Nat) (d : List Byte) (cl st : List Ch) (i : Ch) : (s.held q ts r n d cl st).pdChan i = s.pdChan i := rfl
@[simp] theorem State.held_pdBank (q : Queued) (ts : List Byte) (r : Result) (n : Nat) (d : List Byte) (cl st : List Ch) (i : BankIx) : (s.held q ts r n d cl st).pdBank i = s.pdBank i := rfl
@[simp] theorem State.held_fb (q : Queued) (ts : List Byte) (r : Result) (n : Nat) (d : List Byte) (cl st : List Ch) (i : Ch) : (s.held q ts r n d cl st).fb i = s.fb i := rfl
@[simp] theorem State.held_rule (q : Queued) (ts : List Byte) (r : Result) (n : Nat) (d : List Byte) (cl st : List Ch) (i : RuleIx) : (s.held q ts r n d cl st).rule i = s.rule i := rfl
@[simp] theorem State.held_modu (q : Queued) (ts : List Byte) (r : Result) (n : Nat) (d : List Byte) (cl st : List Ch) (i : ModIx) : (s.held q ts r n d cl st).modu i = s.modu i := rfl
@[simp] theorem State.held_gb (q : Queued) (ts : List Byte) (r : Result) (n : Nat) (d : List Byte) (cl st : List Ch) (i : EntryIx) : (s.held q ts r n d cl st).gb i = s.gb i := rfl
@[simp] theorem State.held_flt (q : Queued) (ts : List Byte) (r : Result) (n : Nat) (d : List Byte) (cl st : List Ch) (i : FltIx) : (s.held q ts r n d cl st).flt i = s.flt i := rfl
@[simp] theorem State.held_can (q : Queued) (ts : List Byte) (r : Result) (n : Nat) (d : List Byte) (cl st : List Ch) (i : CanIx) : (s.held q ts r n d cl st).can i = s.can i := rfl
@[simp] theorem State.held_aux (q : Queued) (ts : List Byte) (r : Result) (n : Nat) (d : List Byte) (cl st : List Ch) (i : AuxIx) : (s.held q ts r n d cl st).aux i = s.aux i := rfl
@[simp] theorem State.held_trip (q : Queued) (ts : List Byte) (r : Result) (n : Nat) (d : List Byte) (cl st : List Ch) (i : TripIx) : (s.held q ts r n d cl st).trip i = s.trip i := rfl
@[simp] theorem State.held_par (q : Queued) (ts : List Byte) (r : Result) (n : Nat) (d : List Byte) (cl st : List Ch) (x y : Nat) : (s.held q ts r n d cl st).par x y = s.par x y := rfl
@[simp] theorem State.held_hwOn (q : Queued) (ts : List Byte) (r : Result) (n : Nat) (d : List Byte) (cl st : List Ch) : (s.held q ts r n d cl st).hwOn = s.hwOn := rfl
@[simp] theorem State.held_fwOn (q : Queued) (ts : List Byte) (r : Result) (n : Nat) (d : List Byte) (cl st : List Ch) : (s.held q ts r n d cl st).fwOn = s.fwOn := rfl
@[simp] theorem State.held_caps (q : Queued) (ts : List Byte) (r : Result) (n : Nat) (d : List Byte) (cl st : List Ch) : (s.held q ts r n d cl st).caps = s.caps := rfl
@[simp] theorem State.held_suppressed (q : Queued) (ts : List Byte) (r : Result) (n : Nat) (d : List Byte) (cl st : List Ch) (x : Nat) : (s.held q ts r n d cl st).suppressed x = s.suppressed x := rfl

/-! ### Reading a unit after its update -/

theorem upd_get {α : Type} {n : Nat} (v : Vector α n) (i j : Fin n) (f : α → α) :
    (upd v i f)[j] = if j = i then f v[j] else v[j] := by
  by_cases h : j = i
  · subst h; simp [upd]
  · have : i.val ≠ j.val := fun e => h (Fin.ext e.symm)
    simp [upd, h, this]

theorem State.onChan_chan (c i : Ch) (f : Channel → Channel) : (s.onChan c f).chan i = if i = c then f (s.chan i) else s.chan i :=
  upd_get _ _ _ _
@[simp] theorem State.onChan_chan_same (c : Ch) (f : Channel → Channel) : (s.onChan c f).chan c = f (s.chan c) := by
  simp [State.onChan_chan]
theorem State.onChan_chan_other (c i : Ch) (f : Channel → Channel) (h : i ≠ c) : (s.onChan c f).chan i = s.chan i := by
  simp [State.onChan_chan, h]
theorem State.onBank_bank (b i : BankIx) (f : Bank → Bank) : (s.onBank b f).bank i = if i = b then f (s.bank i) else s.bank i :=
  upd_get _ _ _ _
@[simp] theorem State.onBank_bank_same (b : BankIx) (f : Bank → Bank) : (s.onBank b f).bank b = f (s.bank b) := by
  simp [State.onBank_bank]
theorem State.onBank_bank_other (b i : BankIx) (f : Bank → Bank) (h : i ≠ b) : (s.onBank b f).bank i = s.bank i := by
  simp [State.onBank_bank, h]
theorem State.onPdChan_pdChan (c i : Ch) (f : PdChan → PdChan) : (s.onPdChan c f).pdChan i = if i = c then f (s.pdChan i) else s.pdChan i :=
  upd_get _ _ _ _
@[simp] theorem State.onPdChan_pdChan_same (c : Ch) (f : PdChan → PdChan) : (s.onPdChan c f).pdChan c = f (s.pdChan c) := by
  simp [State.onPdChan_pdChan]
theorem State.onPdChan_pdChan_other (c i : Ch) (f : PdChan → PdChan) (h : i ≠ c) : (s.onPdChan c f).pdChan i = s.pdChan i := by
  simp [State.onPdChan_pdChan, h]
theorem State.onPdBank_pdBank (b i : BankIx) (f : PdBank → PdBank) : (s.onPdBank b f).pdBank i = if i = b then f (s.pdBank i) else s.pdBank i :=
  upd_get _ _ _ _
@[simp] theorem State.onPdBank_pdBank_same (b : BankIx) (f : PdBank → PdBank) : (s.onPdBank b f).pdBank b = f (s.pdBank b) := by
  simp [State.onPdBank_pdBank]
theorem State.onPdBank_pdBank_other (b i : BankIx) (f : PdBank → PdBank) (h : i ≠ b) : (s.onPdBank b f).pdBank i = s.pdBank i := by
  simp [State.onPdBank_pdBank, h]
theorem State.onFb_fb (c i : Ch) (f : Fb → Fb) : (s.onFb c f).fb i = if i = c then f (s.fb i) else s.fb i :=
  upd_get _ _ _ _
@[simp] theorem State.onFb_fb_same (c : Ch) (f : Fb → Fb) : (s.onFb c f).fb c = f (s.fb c) := by
  simp [State.onFb_fb]
theorem State.onFb_fb_other (c i : Ch) (f : Fb → Fb) (h : i ≠ c) : (s.onFb c f).fb i = s.fb i := by
  simp [State.onFb_fb, h]
theorem State.onRule_rule (r i : RuleIx) (f : Rule → Rule) : (s.onRule r f).rule i = if i = r then f (s.rule i) else s.rule i :=
  upd_get _ _ _ _
@[simp] theorem State.onRule_rule_same (r : RuleIx) (f : Rule → Rule) : (s.onRule r f).rule r = f (s.rule r) := by
  simp [State.onRule_rule]
theorem State.onRule_rule_other (r i : RuleIx) (f : Rule → Rule) (h : i ≠ r) : (s.onRule r f).rule i = s.rule i := by
  simp [State.onRule_rule, h]
theorem State.onMod_modu (m i : ModIx) (f : Modulator → Modulator) : (s.onMod m f).modu i = if i = m then f (s.modu i) else s.modu i :=
  upd_get _ _ _ _
@[simp] theorem State.onMod_modu_same (m : ModIx) (f : Modulator → Modulator) : (s.onMod m f).modu m = f (s.modu m) := by
  simp [State.onMod_modu]
theorem State.onMod_modu_other (m i : ModIx) (f : Modulator → Modulator) (h : i ≠ m) : (s.onMod m f).modu i = s.modu i := by
  simp [State.onMod_modu, h]
theorem State.onGb_gb (g i : EntryIx) (f : Gb → Gb) : (s.onGb g f).gb i = if i = g then f (s.gb i) else s.gb i :=
  upd_get _ _ _ _
@[simp] theorem State.onGb_gb_same (g : EntryIx) (f : Gb → Gb) : (s.onGb g f).gb g = f (s.gb g) := by
  simp [State.onGb_gb]
theorem State.onGb_gb_other (g i : EntryIx) (f : Gb → Gb) (h : i ≠ g) : (s.onGb g f).gb i = s.gb i := by
  simp [State.onGb_gb, h]
theorem State.onFlt_flt (n i : FltIx) (f : Flt → Flt) : (s.onFlt n f).flt i = if i = n then f (s.flt i) else s.flt i :=
  upd_get _ _ _ _
@[simp] theorem State.onFlt_flt_same (n : FltIx) (f : Flt → Flt) : (s.onFlt n f).flt n = f (s.flt n) := by
  simp [State.onFlt_flt]
theorem State.onFlt_flt_other (n i : FltIx) (f : Flt → Flt) (h : i ≠ n) : (s.onFlt n f).flt i = s.flt i := by
  simp [State.onFlt_flt, h]
theorem State.onCan_can (c i : CanIx) (f : Can → Can) : (s.onCan c f).can i = if i = c then f (s.can i) else s.can i :=
  upd_get _ _ _ _
@[simp] theorem State.onCan_can_same (c : CanIx) (f : Can → Can) : (s.onCan c f).can c = f (s.can c) := by
  simp [State.onCan_can]
theorem State.onCan_can_other (c i : CanIx) (f : Can → Can) (h : i ≠ c) : (s.onCan c f).can i = s.can i := by
  simp [State.onCan_can, h]
theorem State.onAux_aux (k i : AuxIx) (f : AuxOut → AuxOut) : (s.onAux k f).aux i = if i = k then f (s.aux i) else s.aux i :=
  upd_get _ _ _ _
@[simp] theorem State.onAux_aux_same (k : AuxIx) (f : AuxOut → AuxOut) : (s.onAux k f).aux k = f (s.aux k) := by
  simp [State.onAux_aux]
theorem State.onAux_aux_other (k i : AuxIx) (f : AuxOut → AuxOut) (h : i ≠ k) : (s.onAux k f).aux i = s.aux i := by
  simp [State.onAux_aux, h]
theorem State.onTrip_trip (t i : TripIx) (f : Trip → Trip) : (s.onTrip t f).trip i = if i = t then f (s.trip i) else s.trip i :=
  upd_get _ _ _ _
@[simp] theorem State.onTrip_trip_same (t : TripIx) (f : Trip → Trip) : (s.onTrip t f).trip t = f (s.trip t) := by
  simp [State.onTrip_trip]
theorem State.onTrip_trip_other (t i : TripIx) (f : Trip → Trip) (h : i ≠ t) : (s.onTrip t f).trip i = s.trip i := by
  simp [State.onTrip_trip, h]
theorem State.onMotion_chan (c i : Ch) (f : Motion → Motion) :
    (s.onMotion c f).chan i = if i = c then { s.chan i with motion := f (s.chan i).motion } else s.chan i :=
  State.onChan_chan _ _ _ _
@[simp] theorem State.onMotion_chan_same (c : Ch) (f : Motion → Motion) :
    (s.onMotion c f).chan c = { s.chan c with motion := f (s.chan c).motion } := by
  simp [State.onMotion_chan]
theorem State.onCauses_chan (c i : Ch) (f : Causes → Causes) :
    (s.onCauses c f).chan i = if i = c then { s.chan i with causes := f (s.chan i).causes } else s.chan i :=
  State.onChan_chan _ _ _ _
@[simp] theorem State.onCauses_chan_same (c : Ch) (f : Causes → Causes) :
    (s.onCauses c f).chan c = { s.chan c with causes := f (s.chan c).causes } := by
  simp [State.onCauses_chan]
theorem State.onEst_chan (c i : Ch) (f : Estim → Estim) :
    (s.onEst c f).chan i = if i = c then { s.chan i with est := f (s.chan i).est } else s.chan i :=
  State.onChan_chan _ _ _ _
@[simp] theorem State.onEst_chan_same (c : Ch) (f : Estim → Estim) :
    (s.onEst c f).chan c = { s.chan c with est := f (s.chan c).est } := by
  simp [State.onEst_chan]
theorem State.onCoil_chan (c i : Ch) (f : Coil → Coil) :
    (s.onCoil c f).chan i = if i = c then { s.chan i with coil := f (s.chan i).coil } else s.chan i :=
  State.onChan_chan _ _ _ _
@[simp] theorem State.onCoil_chan_same (c : Ch) (f : Coil → Coil) :
    (s.onCoil c f).chan c = { s.chan c with coil := f (s.chan c).coil } := by
  simp [State.onCoil_chan]

end Sys2Proof.Machine
end

