-- ==== Sys2Proof/Laws/Ops.lean ====
section
/-! SUPPORT. What each shared operation can do at most: an event changes the mailboxes alone, a pulse source its list, an order
the link, and so on; each frame is stated once, and its fields follow from it. -/

namespace Sys2Proof.Machine

variable (s : State)

/-! ### Events -/

/-- Storing an event numbers it and changes the ring, its marker and its losses only (R357). -/
theorem Mailbox.store_frame (m : Mailbox) (e : Event) :
    m.store e = { m with nextEvtSeq := (m.nextEvtSeq + 1) % 2 ^ 32, ring := (m.store e).ring,
                         markerOpen := (m.store e).markerOpen, eventsLost := (m.store e).eventsLost } := by
  unfold Mailbox.store
  dsimp only
  split
  · rfl
  · split <;> rfl

/-- An event changes the mailboxes alone (R355 to R359). -/
theorem State.raiseS_frame (code inst : Nat) (sus : Bool) (p : List Byte) :
    s.raiseS code inst sus p = { s with mbx := (s.raiseS code inst sus p).mbx } := by
  unfold State.raiseS State.learn State.post State.ringUp
  dsimp only
  repeat' split
  all_goals rfl

/-- An event leaves the command queue, the responses and the waiting command as they were. -/
theorem State.raiseS_mbx (code inst : Nat) (sus : Bool) (p : List Byte) :
    (s.raiseS code inst sus p).mbx.queue = s.mbx.queue ∧ (s.raiseS code inst sus p).mbx.responses = s.mbx.responses ∧
      (s.raiseS code inst sus p).mbx.waiting = s.mbx.waiting ∧ (s.raiseS code inst sus p).mbx.acceptSeq = s.mbx.acceptSeq ∧
      (s.raiseS code inst sus p).mbx.doneSeq = s.mbx.doneSeq ∧ (s.raiseS code inst sus p).mbx.itemResult = s.mbx.itemResult := by
  unfold State.raiseS State.learn State.post State.ringUp
  dsimp only
  repeat' split
  all_goals first
    | exact ⟨rfl, rfl, rfl, rfl, rfl, rfl⟩
    | (rw [Mailbox.store_frame]; exact ⟨rfl, rfl, rfl, rfl, rfl, rfl⟩)

theorem State.raise_frame (code inst : Nat) (p : List Byte) :
    s.raise code inst p = { s with mbx := (s.raise code inst p).mbx } :=
  s.raiseS_frame code inst false p

/-- A suppressed event of the running firmware leaves no trace (R359). -/
theorem State.raise_suppressed (code inst : Nat) (p : List Byte) (hp : s.phase = .runtime) (he : s.boot.eclipse = false)
    (hh : s.boot.halted = false) (hs : s.suppressed code = true) : s.raise code inst p = s := by
  simp [State.raise, State.raiseS, State.learn, State.post, hp, he, hh, hs]

theorem State.raiseAt_frame (t code inst : Nat) (p : List Byte) :
    s.raiseAt t code inst p = { s with mbx := (s.raiseAt t code inst p).mbx } := by
  unfold State.raiseAt
  rw [State.raise_frame]

@[simp] theorem State.raiseS_pending (code inst : Nat) (sus : Bool) (p : List Byte) : (s.raiseS code inst sus p).pending = s.pending := by
  rw [State.raiseS_frame]
@[simp] theorem State.raiseS_phase (code inst : Nat) (sus : Bool) (p : List Byte) : (s.raiseS code inst sus p).phase = s.phase := by
  rw [State.raiseS_frame]
@[simp] theorem State.raiseS_fc (code inst : Nat) (sus : Bool) (p : List Byte) : (s.raiseS code inst sus p).fc = s.fc := by
  rw [State.raiseS_frame]
@[simp] theorem State.raiseS_runFc (code inst : Nat) (sus : Bool) (p : List Byte) : (s.raiseS code inst sus p).runFc = s.runFc := by
  rw [State.raiseS_frame]
@[simp] theorem State.raiseS_time (code inst : Nat) (sus : Bool) (p : List Byte) : (s.raiseS code inst sus p).time = s.time := by
  rw [State.raiseS_frame]
@[simp] theorem State.raiseS_timeFrac (code inst : Nat) (sus : Bool) (p : List Byte) : (s.raiseS code inst sus p).timeFrac = s.timeFrac := by
  rw [State.raiseS_frame]
@[simp] theorem State.raiseS_slotTime (code inst : Nat) (sus : Bool) (p : List Byte) : (s.raiseS code inst sus p).slotTime = s.slotTime := by
  rw [State.raiseS_frame]
@[simp] theorem State.raiseS_istep (code inst : Nat) (sus : Bool) (p : List Byte) : (s.raiseS code inst sus p).istep = s.istep := by
  rw [State.raiseS_frame]
@[simp] theorem State.raiseS_pulses (code inst : Nat) (sus : Bool) (p : List Byte) : (s.raiseS code inst sus p).pulses = s.pulses := by
  rw [State.raiseS_frame]
@[simp] theorem State.raiseS_params (code inst : Nat) (sus : Bool) (p : List Byte) : (s.raiseS code inst sus p).params = s.params := by
  rw [State.raiseS_frame]
@[simp] theorem State.raiseS_chans (code inst : Nat) (sus : Bool) (p : List Byte) : (s.raiseS code inst sus p).chans = s.chans := by
  rw [State.raiseS_frame]
@[simp] theorem State.raiseS_pairs (code inst : Nat) (sus : Bool) (p : List Byte) : (s.raiseS code inst sus p).pairs = s.pairs := by
  rw [State.raiseS_frame]
@[simp] theorem State.raiseS_groups (code inst : Nat) (sus : Bool) (p : List Byte) : (s.raiseS code inst sus p).groups = s.groups := by
  rw [State.raiseS_frame]
@[simp] theorem State.raiseS_banks (code inst : Nat) (sus : Bool) (p : List Byte) : (s.raiseS code inst sus p).banks = s.banks := by
  rw [State.raiseS_frame]
@[simp] theorem State.raiseS_pd (code inst : Nat) (sus : Bool) (p : List Byte) : (s.raiseS code inst sus p).pd = s.pd := by
  rw [State.raiseS_frame]
@[simp] theorem State.raiseS_link (code inst : Nat) (sus : Bool) (p : List Byte) : (s.raiseS code inst sus p).link = s.link := by
  rw [State.raiseS_frame]
@[simp] theorem State.raiseS_fbs (code inst : Nat) (sus : Bool) (p : List Byte) : (s.raiseS code inst sus p).fbs = s.fbs := by
  rw [State.raiseS_frame]
@[simp] theorem State.raiseS_rules (code inst : Nat) (sus : Bool) (p : List Byte) : (s.raiseS code inst sus p).rules = s.rules := by
  rw [State.raiseS_frame]
@[simp] theorem State.raiseS_modClk (code inst : Nat) (sus : Bool) (p : List Byte) : (s.raiseS code inst sus p).modClk = s.modClk := by
  rw [State.raiseS_frame]
@[simp] theorem State.raiseS_slotFc (code inst : Nat) (sus : Bool) (p : List Byte) : (s.raiseS code inst sus p).slotFc = s.slotFc := by
  rw [State.raiseS_frame]
@[simp] theorem State.raiseS_lostClks (code inst : Nat) (sus : Bool) (p : List Byte) : (s.raiseS code inst sus p).lostClks = s.lostClks := by
  rw [State.raiseS_frame]
@[simp] theorem State.raiseS_mods (code inst : Nat) (sus : Bool) (p : List Byte) : (s.raiseS code inst sus p).mods = s.mods := by
  rw [State.raiseS_frame]
@[simp] theorem State.raiseS_entries (code inst : Nat) (sus : Bool) (p : List Byte) : (s.raiseS code inst sus p).entries = s.entries := by
  rw [State.raiseS_frame]
@[simp] theorem State.raiseS_gbs (code inst : Nat) (sus : Bool) (p : List Byte) : (s.raiseS code inst sus p).gbs = s.gbs := by
  rw [State.raiseS_frame]
@[simp] theorem State.raiseS_flts (code inst : Nat) (sus : Bool) (p : List Byte) : (s.raiseS code inst sus p).flts = s.flts := by
  rw [State.raiseS_frame]
@[simp] theorem State.raiseS_cmps (code inst : Nat) (sus : Bool) (p : List Byte) : (s.raiseS code inst sus p).cmps = s.cmps := by
  rw [State.raiseS_frame]
@[simp] theorem State.raiseS_cans (code inst : Nat) (sus : Bool) (p : List Byte) : (s.raiseS code inst sus p).cans = s.cans := by
  rw [State.raiseS_frame]
@[simp] theorem State.raiseS_auxs (code inst : Nat) (sus : Bool) (p : List Byte) : (s.raiseS code inst sus p).auxs = s.auxs := by
  rw [State.raiseS_frame]
@[simp] theorem State.raiseS_trips (code inst : Nat) (sus : Bool) (p : List Byte) : (s.raiseS code inst sus p).trips = s.trips := by
  rw [State.raiseS_frame]
@[simp] theorem State.raiseS_hp (code inst : Nat) (sus : Bool) (p : List Byte) : (s.raiseS code inst sus p).hp = s.hp := by
  rw [State.raiseS_frame]
@[simp] theorem State.raiseS_boot (code inst : Nat) (sus : Bool) (p : List Byte) : (s.raiseS code inst sus p).boot = s.boot := by
  rw [State.raiseS_frame]
@[simp] theorem State.raiseS_power (code inst : Nat) (sus : Bool) (p : List Byte) : (s.raiseS code inst sus p).power = s.power := by
  rw [State.raiseS_frame]
@[simp] theorem State.raiseS_sec (code inst : Nat) (sus : Bool) (p : List Byte) : (s.raiseS code inst sus p).sec = s.sec := by
  rw [State.raiseS_frame]
@[simp] theorem State.raiseS_otp (code inst : Nat) (sus : Bool) (p : List Byte) : (s.raiseS code inst sus p).otp = s.otp := by
  rw [State.raiseS_frame]
@[simp] theorem State.raiseS_chan (code inst : Nat) (sus : Bool) (p : List Byte) (i : Ch) : (s.raiseS code inst sus p).chan i = s.chan i := by
  rw [State.raiseS_frame]; rfl
@[simp] theorem State.raiseS_bank (code inst : Nat) (sus : Bool) (p : List Byte) (i : BankIx) : (s.raiseS code inst sus p).bank i = s.bank i := by
  rw [State.raiseS_frame]; rfl
@[simp] theorem State.raiseS_pdChan (code inst : Nat) (sus : Bool) (p : List Byte) (i : Ch) : (s.raiseS code inst sus p).pdChan i = s.pdChan i := by
  rw [State.raiseS_frame]; rfl
@[simp] theorem State.raiseS_pdBank (code inst : Nat) (sus : Bool) (p : List Byte) (i : BankIx) : (s.raiseS code inst sus p).pdBank i = s.pdBank i := by
  rw [State.raiseS_frame]; rfl
@[simp] theorem State.raiseS_fb (code inst : Nat) (sus : Bool) (p : List Byte) (i : Ch) : (s.raiseS code inst sus p).fb i = s.fb i := by
  rw [State.raiseS_frame]; rfl
@[simp] theorem State.raiseS_rule (code inst : Nat) (sus : Bool) (p : List Byte) (i : RuleIx) : (s.raiseS code inst sus p).rule i = s.rule i := by
  rw [State.raiseS_frame]; rfl
@[simp] theorem State.raiseS_modu (code inst : Nat) (sus : Bool) (p : List Byte) (i : ModIx) : (s.raiseS code inst sus p).modu i = s.modu i := by
  rw [State.raiseS_frame]; rfl
@[simp] theorem State.raiseS_gb (code inst : Nat) (sus : Bool) (p : List Byte) (i : EntryIx) : (s.raiseS code inst sus p).gb i = s.gb i := by
  rw [State.raiseS_frame]; rfl
@[simp] theorem State.raiseS_flt (code inst : Nat) (sus : Bool) (p : List Byte) (i : FltIx) : (s.raiseS code inst sus p).flt i = s.flt i := by
  rw [State.raiseS_frame]; rfl
@[simp] theorem State.raiseS_can (code inst : Nat) (sus : Bool) (p : List Byte) (i : CanIx) : (s.raiseS code inst sus p).can i = s.can i := by
  rw [State.raiseS_frame]; rfl
@[simp] theorem State.raiseS_aux (code inst : Nat) (sus : Bool) (p : List Byte) (i : AuxIx) : (s.raiseS code inst sus p).aux i = s.aux i := by
  rw [State.raiseS_frame]; rfl
@[simp] theorem State.raiseS_trip (code inst : Nat) (sus : Bool) (p : List Byte) (i : TripIx) : (s.raiseS code inst sus p).trip i = s.trip i := by
  rw [State.raiseS_frame]; rfl
@[simp] theorem State.raiseS_par (code inst : Nat) (sus : Bool) (p : List Byte) (x y : Nat) : (s.raiseS code inst sus p).par x y = s.par x y := by
  rw [State.raiseS_frame]; rfl
@[simp] theorem State.raiseS_hwOn (code inst : Nat) (sus : Bool) (p : List Byte) : (s.raiseS code inst sus p).hwOn = s.hwOn := by rw [State.raiseS_frame]; rfl
@[simp] theorem State.raiseS_fwOn (code inst : Nat) (sus : Bool) (p : List Byte) : (s.raiseS code inst sus p).fwOn = s.fwOn := by rw [State.raiseS_frame]; rfl
@[simp] theorem State.raiseS_caps (code inst : Nat) (sus : Bool) (p : List Byte) : (s.raiseS code inst sus p).caps = s.caps := by rw [State.raiseS_frame]; rfl

@[simp] theorem State.raise_pending (code inst : Nat) (p : List Byte) : (s.raise code inst p).pending = s.pending := by
  rw [State.raise_frame]
@[simp] theorem State.raise_phase (code inst : Nat) (p : List Byte) : (s.raise code inst p).phase = s.phase := by
  rw [State.raise_frame]
@[simp] theorem State.raise_fc (code inst : Nat) (p : List Byte) : (s.raise code inst p).fc = s.fc := by
  rw [State.raise_frame]
@[simp] theorem State.raise_runFc (code inst : Nat) (p : List Byte) : (s.raise code inst p).runFc = s.runFc := by
  rw [State.raise_frame]
@[simp] theorem State.raise_time (code inst : Nat) (p : List Byte) : (s.raise code inst p).time = s.time := by
  rw [State.raise_frame]
@[simp] theorem State.raise_timeFrac (code inst : Nat) (p : List Byte) : (s.raise code inst p).timeFrac = s.timeFrac := by
  rw [State.raise_frame]
@[simp] theorem State.raise_slotTime (code inst : Nat) (p : List Byte) : (s.raise code inst p).slotTime = s.slotTime := by
  rw [State.raise_frame]
@[simp] theorem State.raise_istep (code inst : Nat) (p : List Byte) : (s.raise code inst p).istep = s.istep := by
  rw [State.raise_frame]
@[simp] theorem State.raise_pulses (code inst : Nat) (p : List Byte) : (s.raise code inst p).pulses = s.pulses := by
  rw [State.raise_frame]
@[simp] theorem State.raise_params (code inst : Nat) (p : List Byte) : (s.raise code inst p).params = s.params := by
  rw [State.raise_frame]
@[simp] theorem State.raise_chans (code inst : Nat) (p : List Byte) : (s.raise code inst p).chans = s.chans := by
  rw [State.raise_frame]
@[simp] theorem State.raise_pairs (code inst : Nat) (p : List Byte) : (s.raise code inst p).pairs = s.pairs := by
  rw [State.raise_frame]
@[simp] theorem State.raise_groups (code inst : Nat) (p : List Byte) : (s.raise code inst p).groups = s.groups := by
  rw [State.raise_frame]
@[simp] theorem State.raise_banks (code inst : Nat) (p : List Byte) : (s.raise code inst p).banks = s.banks := by
  rw [State.raise_frame]
@[simp] theorem State.raise_pd (code inst : Nat) (p : List Byte) : (s.raise code inst p).pd = s.pd := by
  rw [State.raise_frame]
@[simp] theorem State.raise_link (code inst : Nat) (p : List Byte) : (s.raise code inst p).link = s.link := by
  rw [State.raise_frame]
@[simp] theorem State.raise_fbs (code inst : Nat) (p : List Byte) : (s.raise code inst p).fbs = s.fbs := by
  rw [State.raise_frame]
@[simp] theorem State.raise_rules (code inst : Nat) (p : List Byte) : (s.raise code inst p).rules = s.rules := by
  rw [State.raise_frame]
@[simp] theorem State.raise_modClk (code inst : Nat) (p : List Byte) : (s.raise code inst p).modClk = s.modClk := by
  rw [State.raise_frame]
@[simp] theorem State.raise_slotFc (code inst : Nat) (p : List Byte) : (s.raise code inst p).slotFc = s.slotFc := by
  rw [State.raise_frame]
@[simp] theorem State.raise_lostClks (code inst : Nat) (p : List Byte) : (s.raise code inst p).lostClks = s.lostClks := by
  rw [State.raise_frame]
@[simp] theorem State.raise_mods (code inst : Nat) (p : List Byte) : (s.raise code inst p).mods = s.mods := by
  rw [State.raise_frame]
@[simp] theorem State.raise_entries (code inst : Nat) (p : List Byte) : (s.raise code inst p).entries = s.entries := by
  rw [State.raise_frame]
@[simp] theorem State.raise_gbs (code inst : Nat) (p : List Byte) : (s.raise code inst p).gbs = s.gbs := by
  rw [State.raise_frame]
@[simp] theorem State.raise_flts (code inst : Nat) (p : List Byte) : (s.raise code inst p).flts = s.flts := by
  rw [State.raise_frame]
@[simp] theorem State.raise_cmps (code inst : Nat) (p : List Byte) : (s.raise code inst p).cmps = s.cmps := by
  rw [State.raise_frame]
@[simp] theorem State.raise_cans (code inst : Nat) (p : List Byte) : (s.raise code inst p).cans = s.cans := by
  rw [State.raise_frame]
@[simp] theorem State.raise_auxs (code inst : Nat) (p : List Byte) : (s.raise code inst p).auxs = s.auxs := by
  rw [State.raise_frame]
@[simp] theorem State.raise_trips (code inst : Nat) (p : List Byte) : (s.raise code inst p).trips = s.trips := by
  rw [State.raise_frame]
@[simp] theorem State.raise_hp (code inst : Nat) (p : List Byte) : (s.raise code inst p).hp = s.hp := by
  rw [State.raise_frame]
@[simp] theorem State.raise_boot (code inst : Nat) (p : List Byte) : (s.raise code inst p).boot = s.boot := by
  rw [State.raise_frame]
@[simp] theorem State.raise_power (code inst : Nat) (p : List Byte) : (s.raise code inst p).power = s.power := by
  rw [State.raise_frame]
@[simp] theorem State.raise_sec (code inst : Nat) (p : List Byte) : (s.raise code inst p).sec = s.sec := by
  rw [State.raise_frame]
@[simp] theorem State.raise_otp (code inst : Nat) (p : List Byte) : (s.raise code inst p).otp = s.otp := by
  rw [State.raise_frame]
@[simp] theorem State.raise_chan (code inst : Nat) (p : List Byte) (i : Ch) : (s.raise code inst p).chan i = s.chan i := by
  rw [State.raise_frame]; rfl
@[simp] theorem State.raise_bank (code inst : Nat) (p : List Byte) (i : BankIx) : (s.raise code inst p).bank i = s.bank i := by
  rw [State.raise_frame]; rfl
@[simp] theorem State.raise_pdChan (code inst : Nat) (p : List Byte) (i : Ch) : (s.raise code inst p).pdChan i = s.pdChan i := by
  rw [State.raise_frame]; rfl
@[simp] theorem State.raise_pdBank (code inst : Nat) (p : List Byte) (i : BankIx) : (s.raise code inst p).pdBank i = s.pdBank i := by
  rw [State.raise_frame]; rfl
@[simp] theorem State.raise_fb (code inst : Nat) (p : List Byte) (i : Ch) : (s.raise code inst p).fb i = s.fb i := by
  rw [State.raise_frame]; rfl
@[simp] theorem State.raise_rule (code inst : Nat) (p : List Byte) (i : RuleIx) : (s.raise code inst p).rule i = s.rule i := by
  rw [State.raise_frame]; rfl
@[simp] theorem State.raise_modu (code inst : Nat) (p : List Byte) (i : ModIx) : (s.raise code inst p).modu i = s.modu i := by
  rw [State.raise_frame]; rfl
@[simp] theorem State.raise_gb (code inst : Nat) (p : List Byte) (i : EntryIx) : (s.raise code inst p).gb i = s.gb i := by
  rw [State.raise_frame]; rfl
@[simp] theorem State.raise_flt (code inst : Nat) (p : List Byte) (i : FltIx) : (s.raise code inst p).flt i = s.flt i := by
  rw [State.raise_frame]; rfl
@[simp] theorem State.raise_can (code inst : Nat) (p : List Byte) (i : CanIx) : (s.raise code inst p).can i = s.can i := by
  rw [State.raise_frame]; rfl
@[simp] theorem State.raise_aux (code inst : Nat) (p : List Byte) (i : AuxIx) : (s.raise code inst p).aux i = s.aux i := by
  rw [State.raise_frame]; rfl
@[simp] theorem State.raise_trip (code inst : Nat) (p : List Byte) (i : TripIx) : (s.raise code inst p).trip i = s.trip i := by
  rw [State.raise_frame]; rfl
@[simp] theorem State.raise_par (code inst : Nat) (p : List Byte) (x y : Nat) : (s.raise code inst p).par x y = s.par x y := by
  rw [State.raise_frame]; rfl
@[simp] theorem State.raise_hwOn (code inst : Nat) (p : List Byte) : (s.raise code inst p).hwOn = s.hwOn := by rw [State.raise_frame]; rfl
@[simp] theorem State.raise_fwOn (code inst : Nat) (p : List Byte) : (s.raise code inst p).fwOn = s.fwOn := by rw [State.raise_frame]; rfl
@[simp] theorem State.raise_caps (code inst : Nat) (p : List Byte) : (s.raise code inst p).caps = s.caps := by rw [State.raise_frame]; rfl

@[simp] theorem State.raiseAt_pending (t code inst : Nat) (p : List Byte) : (s.raiseAt t code inst p).pending = s.pending := by
  rw [State.raiseAt_frame]
@[simp] theorem State.raiseAt_phase (t code inst : Nat) (p : List Byte) : (s.raiseAt t code inst p).phase = s.phase := by
  rw [State.raiseAt_frame]
@[simp] theorem State.raiseAt_fc (t code inst : Nat) (p : List Byte) : (s.raiseAt t code inst p).fc = s.fc := by
  rw [State.raiseAt_frame]
@[simp] theorem State.raiseAt_runFc (t code inst : Nat) (p : List Byte) : (s.raiseAt t code inst p).runFc = s.runFc := by
  rw [State.raiseAt_frame]
@[simp] theorem State.raiseAt_time (t code inst : Nat) (p : List Byte) : (s.raiseAt t code inst p).time = s.time := by
  rw [State.raiseAt_frame]
@[simp] theorem State.raiseAt_timeFrac (t code inst : Nat) (p : List Byte) : (s.raiseAt t code inst p).timeFrac = s.timeFrac := by
  rw [State.raiseAt_frame]
@[simp] theorem State.raiseAt_slotTime (t code inst : Nat) (p : List Byte) : (s.raiseAt t code inst p).slotTime = s.slotTime := by
  rw [State.raiseAt_frame]
@[simp] theorem State.raiseAt_istep (t code inst : Nat) (p : List Byte) : (s.raiseAt t code inst p).istep = s.istep := by
  rw [State.raiseAt_frame]
@[simp] theorem State.raiseAt_pulses (t code inst : Nat) (p : List Byte) : (s.raiseAt t code inst p).pulses = s.pulses := by
  rw [State.raiseAt_frame]
@[simp] theorem State.raiseAt_params (t code inst : Nat) (p : List Byte) : (s.raiseAt t code inst p).params = s.params := by
  rw [State.raiseAt_frame]
@[simp] theorem State.raiseAt_chans (t code inst : Nat) (p : List Byte) : (s.raiseAt t code inst p).chans = s.chans := by
  rw [State.raiseAt_frame]
@[simp] theorem State.raiseAt_pairs (t code inst : Nat) (p : List Byte) : (s.raiseAt t code inst p).pairs = s.pairs := by
  rw [State.raiseAt_frame]
@[simp] theorem State.raiseAt_groups (t code inst : Nat) (p : List Byte) : (s.raiseAt t code inst p).groups = s.groups := by
  rw [State.raiseAt_frame]
@[simp] theorem State.raiseAt_banks (t code inst : Nat) (p : List Byte) : (s.raiseAt t code inst p).banks = s.banks := by
  rw [State.raiseAt_frame]
@[simp] theorem State.raiseAt_pd (t code inst : Nat) (p : List Byte) : (s.raiseAt t code inst p).pd = s.pd := by
  rw [State.raiseAt_frame]
@[simp] theorem State.raiseAt_link (t code inst : Nat) (p : List Byte) : (s.raiseAt t code inst p).link = s.link := by
  rw [State.raiseAt_frame]
@[simp] theorem State.raiseAt_fbs (t code inst : Nat) (p : List Byte) : (s.raiseAt t code inst p).fbs = s.fbs := by
  rw [State.raiseAt_frame]
@[simp] theorem State.raiseAt_rules (t code inst : Nat) (p : List Byte) : (s.raiseAt t code inst p).rules = s.rules := by
  rw [State.raiseAt_frame]
@[simp] theorem State.raiseAt_modClk (t code inst : Nat) (p : List Byte) : (s.raiseAt t code inst p).modClk = s.modClk := by
  rw [State.raiseAt_frame]
@[simp] theorem State.raiseAt_slotFc (t code inst : Nat) (p : List Byte) : (s.raiseAt t code inst p).slotFc = s.slotFc := by
  rw [State.raiseAt_frame]
@[simp] theorem State.raiseAt_lostClks (t code inst : Nat) (p : List Byte) : (s.raiseAt t code inst p).lostClks = s.lostClks := by
  rw [State.raiseAt_frame]
@[simp] theorem State.raiseAt_mods (t code inst : Nat) (p : List Byte) : (s.raiseAt t code inst p).mods = s.mods := by
  rw [State.raiseAt_frame]
@[simp] theorem State.raiseAt_entries (t code inst : Nat) (p : List Byte) : (s.raiseAt t code inst p).entries = s.entries := by
  rw [State.raiseAt_frame]
@[simp] theorem State.raiseAt_gbs (t code inst : Nat) (p : List Byte) : (s.raiseAt t code inst p).gbs = s.gbs := by
  rw [State.raiseAt_frame]
@[simp] theorem State.raiseAt_flts (t code inst : Nat) (p : List Byte) : (s.raiseAt t code inst p).flts = s.flts := by
  rw [State.raiseAt_frame]
@[simp] theorem State.raiseAt_cmps (t code inst : Nat) (p : List Byte) : (s.raiseAt t code inst p).cmps = s.cmps := by
  rw [State.raiseAt_frame]
@[simp] theorem State.raiseAt_cans (t code inst : Nat) (p : List Byte) : (s.raiseAt t code inst p).cans = s.cans := by
  rw [State.raiseAt_frame]
@[simp] theorem State.raiseAt_auxs (t code inst : Nat) (p : List Byte) : (s.raiseAt t code inst p).auxs = s.auxs := by
  rw [State.raiseAt_frame]
@[simp] theorem State.raiseAt_trips (t code inst : Nat) (p : List Byte) : (s.raiseAt t code inst p).trips = s.trips := by
  rw [State.raiseAt_frame]
@[simp] theorem State.raiseAt_hp (t code inst : Nat) (p : List Byte) : (s.raiseAt t code inst p).hp = s.hp := by
  rw [State.raiseAt_frame]
@[simp] theorem State.raiseAt_boot (t code inst : Nat) (p : List Byte) : (s.raiseAt t code inst p).boot = s.boot := by
  rw [State.raiseAt_frame]
@[simp] theorem State.raiseAt_power (t code inst : Nat) (p : List Byte) : (s.raiseAt t code inst p).power = s.power := by
  rw [State.raiseAt_frame]
@[simp] theorem State.raiseAt_sec (t code inst : Nat) (p : List Byte) : (s.raiseAt t code inst p).sec = s.sec := by
  rw [State.raiseAt_frame]
@[simp] theorem State.raiseAt_otp (t code inst : Nat) (p : List Byte) : (s.raiseAt t code inst p).otp = s.otp := by
  rw [State.raiseAt_frame]
@[simp] theorem State.raiseAt_chan (t code inst : Nat) (p : List Byte) (i : Ch) : (s.raiseAt t code inst p).chan i = s.chan i := by
  rw [State.raiseAt_frame]; rfl
@[simp] theorem State.raiseAt_bank (t code inst : Nat) (p : List Byte) (i : BankIx) : (s.raiseAt t code inst p).bank i = s.bank i := by
  rw [State.raiseAt_frame]; rfl
@[simp] theorem State.raiseAt_pdChan (t code inst : Nat) (p : List Byte) (i : Ch) : (s.raiseAt t code inst p).pdChan i = s.pdChan i := by
  rw [State.raiseAt_frame]; rfl
@[simp] theorem State.raiseAt_pdBank (t code inst : Nat) (p : List Byte) (i : BankIx) : (s.raiseAt t code inst p).pdBank i = s.pdBank i := by
  rw [State.raiseAt_frame]; rfl
@[simp] theorem State.raiseAt_fb (t code inst : Nat) (p : List Byte) (i : Ch) : (s.raiseAt t code inst p).fb i = s.fb i := by
  rw [State.raiseAt_frame]; rfl
@[simp] theorem State.raiseAt_rule (t code inst : Nat) (p : List Byte) (i : RuleIx) : (s.raiseAt t code inst p).rule i = s.rule i := by
  rw [State.raiseAt_frame]; rfl
@[simp] theorem State.raiseAt_modu (t code inst : Nat) (p : List Byte) (i : ModIx) : (s.raiseAt t code inst p).modu i = s.modu i := by
  rw [State.raiseAt_frame]; rfl
@[simp] theorem State.raiseAt_gb (t code inst : Nat) (p : List Byte) (i : EntryIx) : (s.raiseAt t code inst p).gb i = s.gb i := by
  rw [State.raiseAt_frame]; rfl
@[simp] theorem State.raiseAt_flt (t code inst : Nat) (p : List Byte) (i : FltIx) : (s.raiseAt t code inst p).flt i = s.flt i := by
  rw [State.raiseAt_frame]; rfl
@[simp] theorem State.raiseAt_can (t code inst : Nat) (p : List Byte) (i : CanIx) : (s.raiseAt t code inst p).can i = s.can i := by
  rw [State.raiseAt_frame]; rfl
@[simp] theorem State.raiseAt_aux (t code inst : Nat) (p : List Byte) (i : AuxIx) : (s.raiseAt t code inst p).aux i = s.aux i := by
  rw [State.raiseAt_frame]; rfl
@[simp] theorem State.raiseAt_trip (t code inst : Nat) (p : List Byte) (i : TripIx) : (s.raiseAt t code inst p).trip i = s.trip i := by
  rw [State.raiseAt_frame]; rfl
@[simp] theorem State.raiseAt_par (t code inst : Nat) (p : List Byte) (x y : Nat) : (s.raiseAt t code inst p).par x y = s.par x y := by
  rw [State.raiseAt_frame]; rfl
@[simp] theorem State.raiseAt_hwOn (t code inst : Nat) (p : List Byte) : (s.raiseAt t code inst p).hwOn = s.hwOn := by rw [State.raiseAt_frame]; rfl
@[simp] theorem State.raiseAt_fwOn (t code inst : Nat) (p : List Byte) : (s.raiseAt t code inst p).fwOn = s.fwOn := by rw [State.raiseAt_frame]; rfl
@[simp] theorem State.raiseAt_caps (t code inst : Nat) (p : List Byte) : (s.raiseAt t code inst p).caps = s.caps := by rw [State.raiseAt_frame]; rfl

/-! ### Pulse sources -/

/-- A pulse changes the list of active pulse sources alone (R207). -/
theorem State.pulse_frame (n : Nat) : s.pulse n = { s with pulses := (s.pulse n).pulses } := by
  unfold State.pulse
  split <;> rfl

/-- The source is active in this fabric cycle (R207). -/
theorem State.pulse_active (n : Nat) : (s.pulse n).pulses.contains n = true := by
  unfold State.pulse
  split
  · assumption
  · simp

/-- No pulse source becomes inactive by a pulse. -/
theorem State.pulse_keeps (n k : Nat) (h : s.pulses.contains k = true) : (s.pulse n).pulses.contains k = true := by
  unfold State.pulse
  split
  · exact h
  · simp at h ⊢
    exact .inl h

theorem State.chPulse_frame (c : Ch) (n : Nat) : s.chPulse c n = { s with pulses := (s.chPulse c n).pulses } :=
  s.pulse_frame _

@[simp] theorem State.pulse_pending (n : Nat) : (s.pulse n).pending = s.pending := by
  rw [State.pulse_frame]
@[simp] theorem State.pulse_phase (n : Nat) : (s.pulse n).phase = s.phase := by
  rw [State.pulse_frame]
@[simp] theorem State.pulse_fc (n : Nat) : (s.pulse n).fc = s.fc := by
  rw [State.pulse_frame]
@[simp] theorem State.pulse_runFc (n : Nat) : (s.pulse n).runFc = s.runFc := by
  rw [State.pulse_frame]
@[simp] theorem State.pulse_time (n : Nat) : (s.pulse n).time = s.time := by
  rw [State.pulse_frame]
@[simp] theorem State.pulse_timeFrac (n : Nat) : (s.pulse n).timeFrac = s.timeFrac := by
  rw [State.pulse_frame]
@[simp] theorem State.pulse_slotTime (n : Nat) : (s.pulse n).slotTime = s.slotTime := by
  rw [State.pulse_frame]
@[simp] theorem State.pulse_istep (n : Nat) : (s.pulse n).istep = s.istep := by
  rw [State.pulse_frame]
@[simp] theorem State.pulse_params (n : Nat) : (s.pulse n).params = s.params := by
  rw [State.pulse_frame]
@[simp] theorem State.pulse_chans (n : Nat) : (s.pulse n).chans = s.chans := by
  rw [State.pulse_frame]
@[simp] theorem State.pulse_pairs (n : Nat) : (s.pulse n).pairs = s.pairs := by
  rw [State.pulse_frame]
@[simp] theorem State.pulse_groups (n : Nat) : (s.pulse n).groups = s.groups := by
  rw [State.pulse_frame]
@[simp] theorem State.pulse_banks (n : Nat) : (s.pulse n).banks = s.banks := by
  rw [State.pulse_frame]
@[simp] theorem State.pulse_pd (n : Nat) : (s.pulse n).pd = s.pd := by
  rw [State.pulse_frame]
@[simp] theorem State.pulse_link (n : Nat) : (s.pulse n).link = s.link := by
  rw [State.pulse_frame]
@[simp] theorem State.pulse_fbs (n : Nat) : (s.pulse n).fbs = s.fbs := by
  rw [State.pulse_frame]
@[simp] theorem State.pulse_rules (n : Nat) : (s.pulse n).rules = s.rules := by
  rw [State.pulse_frame]
@[simp] theorem State.pulse_modClk (n : Nat) : (s.pulse n).modClk = s.modClk := by
  rw [State.pulse_frame]
@[simp] theorem State.pulse_slotFc (n : Nat) : (s.pulse n).slotFc = s.slotFc := by
  rw [State.pulse_frame]
@[simp] theorem State.pulse_lostClks (n : Nat) : (s.pulse n).lostClks = s.lostClks := by
  rw [State.pulse_frame]
@[simp] theorem State.pulse_mods (n : Nat) : (s.pulse n).mods = s.mods := by
  rw [State.pulse_frame]
@[simp] theorem State.pulse_entries (n : Nat) : (s.pulse n).entries = s.entries := by
  rw [State.pulse_frame]
@[simp] theorem State.pulse_gbs (n : Nat) : (s.pulse n).gbs = s.gbs := by
  rw [State.pulse_frame]
@[simp] theorem State.pulse_flts (n : Nat) : (s.pulse n).flts = s.flts := by
  rw [State.pulse_frame]
@[simp] theorem State.pulse_cmps (n : Nat) : (s.pulse n).cmps = s.cmps := by
  rw [State.pulse_frame]
@[simp] theorem State.pulse_cans (n : Nat) : (s.pulse n).cans = s.cans := by
  rw [State.pulse_frame]
@[simp] theorem State.pulse_auxs (n : Nat) : (s.pulse n).auxs = s.auxs := by
  rw [State.pulse_frame]
@[simp] theorem State.pulse_trips (n : Nat) : (s.pulse n).trips = s.trips := by
  rw [State.pulse_frame]
@[simp] theorem State.pulse_mbx (n : Nat) : (s.pulse n).mbx = s.mbx := by
  rw [State.pulse_frame]
@[simp] theorem State.pulse_hp (n : Nat) : (s.pulse n).hp = s.hp := by
  rw [State.pulse_frame]
@[simp] theorem State.pulse_boot (n : Nat) : (s.pulse n).boot = s.boot := by
  rw [State.pulse_frame]
@[simp] theorem State.pulse_power (n : Nat) : (s.pulse n).power = s.power := by
  rw [State.pulse_frame]
@[simp] theorem State.pulse_sec (n : Nat) : (s.pulse n).sec = s.sec := by
  rw [State.pulse_frame]
@[simp] theorem State.pulse_otp (n : Nat) : (s.pulse n).otp = s.otp := by
  rw [State.pulse_frame]
@[simp] theorem State.pulse_chan (n : Nat) (i : Ch) : (s.pulse n).chan i = s.chan i := by
  rw [State.pulse_frame]; rfl
@[simp] theorem State.pulse_bank (n : Nat) (i : BankIx) : (s.pulse n).bank i = s.bank i := by
  rw [State.pulse_frame]; rfl
@[simp] theorem State.pulse_pdChan (n : Nat) (i : Ch) : (s.pulse n).pdChan i = s.pdChan i := by
  rw [State.pulse_frame]; rfl
@[simp] theorem State.pulse_pdBank (n : Nat) (i : BankIx) : (s.pulse n).pdBank i = s.pdBank i := by
  rw [State.pulse_frame]; rfl
@[simp] theorem State.pulse_fb (n : Nat) (i : Ch) : (s.pulse n).fb i = s.fb i := by
  rw [State.pulse_frame]; rfl
@[simp] theorem State.pulse_rule (n : Nat) (i : RuleIx) : (s.pulse n).rule i = s.rule i := by
  rw [State.pulse_frame]; rfl
@[simp] theorem State.pulse_modu (n : Nat) (i : ModIx) : (s.pulse n).modu i = s.modu i := by
  rw [State.pulse_frame]; rfl
@[simp] theorem State.pulse_gb (n : Nat) (i : EntryIx) : (s.pulse n).gb i = s.gb i := by
  rw [State.pulse_frame]; rfl
@[simp] theorem State.pulse_flt (n : Nat) (i : FltIx) : (s.pulse n).flt i = s.flt i := by
  rw [State.pulse_frame]; rfl
@[simp] theorem State.pulse_can (n : Nat) (i : CanIx) : (s.pulse n).can i = s.can i := by
  rw [State.pulse_frame]; rfl
@[simp] theorem State.pulse_aux (n : Nat) (i : AuxIx) : (s.pulse n).aux i = s.aux i := by
  rw [State.pulse_frame]; rfl
@[simp] theorem State.pulse_trip (n : Nat) (i : TripIx) : (s.pulse n).trip i = s.trip i := by
  rw [State.pulse_frame]; rfl
@[simp] theorem State.pulse_par (n : Nat) (x y : Nat) : (s.pulse n).par x y = s.par x y := by
  rw [State.pulse_frame]; rfl
@[simp] theorem State.pulse_hwOn (n : Nat) : (s.pulse n).hwOn = s.hwOn := by rw [State.pulse_frame]; rfl
@[simp] theorem State.pulse_fwOn (n : Nat) : (s.pulse n).fwOn = s.fwOn := by rw [State.pulse_frame]; rfl
@[simp] theorem State.pulse_caps (n : Nat) : (s.pulse n).caps = s.caps := by rw [State.pulse_frame]; rfl

@[simp] theorem State.chPulse_pending (c : Ch) (n : Nat) : (s.chPulse c n).pending = s.pending := by
  rw [State.chPulse_frame]
@[simp] theorem State.chPulse_phase (c : Ch) (n : Nat) : (s.chPulse c n).phase = s.phase := by
  rw [State.chPulse_frame]
@[simp] theorem State.chPulse_fc (c : Ch) (n : Nat) : (s.chPulse c n).fc = s.fc := by
  rw [State.chPulse_frame]
@[simp] theorem State.chPulse_runFc (c : Ch) (n : Nat) : (s.chPulse c n).runFc = s.runFc := by
  rw [State.chPulse_frame]
@[simp] theorem State.chPulse_time (c : Ch) (n : Nat) : (s.chPulse c n).time = s.time := by
  rw [State.chPulse_frame]
@[simp] theorem State.chPulse_timeFrac (c : Ch) (n : Nat) : (s.chPulse c n).timeFrac = s.timeFrac := by
  rw [State.chPulse_frame]
@[simp] theorem State.chPulse_slotTime (c : Ch) (n : Nat) : (s.chPulse c n).slotTime = s.slotTime := by
  rw [State.chPulse_frame]
@[simp] theorem State.chPulse_istep (c : Ch) (n : Nat) : (s.chPulse c n).istep = s.istep := by
  rw [State.chPulse_frame]
@[simp] theorem State.chPulse_params (c : Ch) (n : Nat) : (s.chPulse c n).params = s.params := by
  rw [State.chPulse_frame]
@[simp] theorem State.chPulse_chans (c : Ch) (n : Nat) : (s.chPulse c n).chans = s.chans := by
  rw [State.chPulse_frame]
@[simp] theorem State.chPulse_pairs (c : Ch) (n : Nat) : (s.chPulse c n).pairs = s.pairs := by
  rw [State.chPulse_frame]
@[simp] theorem State.chPulse_groups (c : Ch) (n : Nat) : (s.chPulse c n).groups = s.groups := by
  rw [State.chPulse_frame]
@[simp] theorem State.chPulse_banks (c : Ch) (n : Nat) : (s.chPulse c n).banks = s.banks := by
  rw [State.chPulse_frame]
@[simp] theorem State.chPulse_pd (c : Ch) (n : Nat) : (s.chPulse c n).pd = s.pd := by
  rw [State.chPulse_frame]
@[simp] theorem State.chPulse_link (c : Ch) (n : Nat) : (s.chPulse c n).link = s.link := by
  rw [State.chPulse_frame]
@[simp] theorem State.chPulse_fbs (c : Ch) (n : Nat) : (s.chPulse c n).fbs = s.fbs := by
  rw [State.chPulse_frame]
@[simp] theorem State.chPulse_rules (c : Ch) (n : Nat) : (s.chPulse c n).rules = s.rules := by
  rw [State.chPulse_frame]
@[simp] theorem State.chPulse_modClk (c : Ch) (n : Nat) : (s.chPulse c n).modClk = s.modClk := by
  rw [State.chPulse_frame]
@[simp] theorem State.chPulse_slotFc (c : Ch) (n : Nat) : (s.chPulse c n).slotFc = s.slotFc := by
  rw [State.chPulse_frame]
@[simp] theorem State.chPulse_lostClks (c : Ch) (n : Nat) : (s.chPulse c n).lostClks = s.lostClks := by
  rw [State.chPulse_frame]
@[simp] theorem State.chPulse_mods (c : Ch) (n : Nat) : (s.chPulse c n).mods = s.mods := by
  rw [State.chPulse_frame]
@[simp] theorem State.chPulse_entries (c : Ch) (n : Nat) : (s.chPulse c n).entries = s.entries := by
  rw [State.chPulse_frame]
@[simp] theorem State.chPulse_gbs (c : Ch) (n : Nat) : (s.chPulse c n).gbs = s.gbs := by
  rw [State.chPulse_frame]
@[simp] theorem State.chPulse_flts (c : Ch) (n : Nat) : (s.chPulse c n).flts = s.flts := by
  rw [State.chPulse_frame]
@[simp] theorem State.chPulse_cmps (c : Ch) (n : Nat) : (s.chPulse c n).cmps = s.cmps := by
  rw [State.chPulse_frame]
@[simp] theorem State.chPulse_cans (c : Ch) (n : Nat) : (s.chPulse c n).cans = s.cans := by
  rw [State.chPulse_frame]
@[simp] theorem State.chPulse_auxs (c : Ch) (n : Nat) : (s.chPulse c n).auxs = s.auxs := by
  rw [State.chPulse_frame]
@[simp] theorem State.chPulse_trips (c : Ch) (n : Nat) : (s.chPulse c n).trips = s.trips := by
  rw [State.chPulse_frame]
@[simp] theorem State.chPulse_mbx (c : Ch) (n : Nat) : (s.chPulse c n).mbx = s.mbx := by
  rw [State.chPulse_frame]
@[simp] theorem State.chPulse_hp (c : Ch) (n : Nat) : (s.chPulse c n).hp = s.hp := by
  rw [State.chPulse_frame]
@[simp] theorem State.chPulse_boot (c : Ch) (n : Nat) : (s.chPulse c n).boot = s.boot := by
  rw [State.chPulse_frame]
@[simp] theorem State.chPulse_power (c : Ch) (n : Nat) : (s.chPulse c n).power = s.power := by
  rw [State.chPulse_frame]
@[simp] theorem State.chPulse_sec (c : Ch) (n : Nat) : (s.chPulse c n).sec = s.sec := by
  rw [State.chPulse_frame]
@[simp] theorem State.chPulse_otp (c : Ch) (n : Nat) : (s.chPulse c n).otp = s.otp := by
  rw [State.chPulse_frame]
@[simp] theorem State.chPulse_chan (c : Ch) (n : Nat) (i : Ch) : (s.chPulse c n).chan i = s.chan i := by
  rw [State.chPulse_frame]; rfl
@[simp] theorem State.chPulse_bank (c : Ch) (n : Nat) (i : BankIx) : (s.chPulse c n).bank i = s.bank i := by
  rw [State.chPulse_frame]; rfl
@[simp] theorem State.chPulse_pdChan (c : Ch) (n : Nat) (i : Ch) : (s.chPulse c n).pdChan i = s.pdChan i := by
  rw [State.chPulse_frame]; rfl
@[simp] theorem State.chPulse_pdBank (c : Ch) (n : Nat) (i : BankIx) : (s.chPulse c n).pdBank i = s.pdBank i := by
  rw [State.chPulse_frame]; rfl
@[simp] theorem State.chPulse_fb (c : Ch) (n : Nat) (i : Ch) : (s.chPulse c n).fb i = s.fb i := by
  rw [State.chPulse_frame]; rfl
@[simp] theorem State.chPulse_rule (c : Ch) (n : Nat) (i : RuleIx) : (s.chPulse c n).rule i = s.rule i := by
  rw [State.chPulse_frame]; rfl
@[simp] theorem State.chPulse_modu (c : Ch) (n : Nat) (i : ModIx) : (s.chPulse c n).modu i = s.modu i := by
  rw [State.chPulse_frame]; rfl
@[simp] theorem State.chPulse_gb (c : Ch) (n : Nat) (i : EntryIx) : (s.chPulse c n).gb i = s.gb i := by
  rw [State.chPulse_frame]; rfl
@[simp] theorem State.chPulse_flt (c : Ch) (n : Nat) (i : FltIx) : (s.chPulse c n).flt i = s.flt i := by
  rw [State.chPulse_frame]; rfl
@[simp] theorem State.chPulse_can (c : Ch) (n : Nat) (i : CanIx) : (s.chPulse c n).can i = s.can i := by
  rw [State.chPulse_frame]; rfl
@[simp] theorem State.chPulse_aux (c : Ch) (n : Nat) (i : AuxIx) : (s.chPulse c n).aux i = s.aux i := by
  rw [State.chPulse_frame]; rfl
@[simp] theorem State.chPulse_trip (c : Ch) (n : Nat) (i : TripIx) : (s.chPulse c n).trip i = s.trip i := by
  rw [State.chPulse_frame]; rfl
@[simp] theorem State.chPulse_par (c : Ch) (n : Nat) (x y : Nat) : (s.chPulse c n).par x y = s.par x y := by
  rw [State.chPulse_frame]; rfl
@[simp] theorem State.chPulse_hwOn (c : Ch) (n : Nat) : (s.chPulse c n).hwOn = s.hwOn := by rw [State.chPulse_frame]; rfl
@[simp] theorem State.chPulse_fwOn (c : Ch) (n : Nat) : (s.chPulse c n).fwOn = s.fwOn := by rw [State.chPulse_frame]; rfl
@[simp] theorem State.chPulse_caps (c : Ch) (n : Nat) : (s.chPulse c n).caps = s.caps := by rw [State.chPulse_frame]; rfl

/-! ### The link -/

/-- A configuration write joins the writes under the next free tag, or waits for one (R493); nothing else of the link changes. -/
theorem Link.issue_cases (l : Link) (k : CfgKind) (waited : Bool) :
    (l.freeTag ≠ 0 ∧ l.issue k waited = { l with cfg := l.cfg ++ [⟨l.freeTag, k⟩], lastTag := l.freeTag }) ∨
      (l.freeTag = 0 ∧ l.issue k waited = { l with backlog := l.backlog ++ [(k, waited)] }) := by
  unfold Link.issue
  by_cases h : l.freeTag = 0
  · exact .inr ⟨h, by simp [h]⟩
  · exact .inl ⟨h, if_pos (by simpa using h)⟩

/-- A configuration write changes the link alone, and only where the power die answers (R306). -/
theorem State.configWrite_cases (k : CfgKind) :
    ((s.link.txOn && s.link.answers) = true ∧ (s.configWrite k).1 = { s with link := s.link.issue k true }) ∨
      ((s.link.txOn && s.link.answers) = false ∧ s.configWrite k = (s, [])) := by
  unfold State.configWrite
  cases h : (s.link.txOn && s.link.answers)
  · exact .inr ⟨rfl, by simp⟩
  · exact .inl ⟨rfl, by simp⟩

theorem State.orderPark_frame (m : BitVec 24) : s.orderPark m = { s with link := (s.orderPark m).link } := by
  unfold State.orderPark; split <;> rfl

theorem State.orderSoftOff_frame (m : BitVec 24) : s.orderSoftOff m = { s with link := (s.orderSoftOff m).link } := by
  unfold State.orderSoftOff; split <;> rfl

theorem State.orderHold_frame (m : BitVec 24) : s.orderHold m = { s with link := (s.orderHold m).link } := by
  unfold State.orderHold; split <;> rfl

@[simp] theorem State.orderPark_pending (m : BitVec 24) : (s.orderPark m).pending = s.pending := by
  rw [State.orderPark_frame]
@[simp] theorem State.orderPark_phase (m : BitVec 24) : (s.orderPark m).phase = s.phase := by
  rw [State.orderPark_frame]
@[simp] theorem State.orderPark_fc (m : BitVec 24) : (s.orderPark m).fc = s.fc := by
  rw [State.orderPark_frame]
@[simp] theorem State.orderPark_runFc (m : BitVec 24) : (s.orderPark m).runFc = s.runFc := by
  rw [State.orderPark_frame]
@[simp] theorem State.orderPark_time (m : BitVec 24) : (s.orderPark m).time = s.time := by
  rw [State.orderPark_frame]
@[simp] theorem State.orderPark_timeFrac (m : BitVec 24) : (s.orderPark m).timeFrac = s.timeFrac := by
  rw [State.orderPark_frame]
@[simp] theorem State.orderPark_slotTime (m : BitVec 24) : (s.orderPark m).slotTime = s.slotTime := by
  rw [State.orderPark_frame]
@[simp] theorem State.orderPark_istep (m : BitVec 24) : (s.orderPark m).istep = s.istep := by
  rw [State.orderPark_frame]
@[simp] theorem State.orderPark_pulses (m : BitVec 24) : (s.orderPark m).pulses = s.pulses := by
  rw [State.orderPark_frame]
@[simp] theorem State.orderPark_params (m : BitVec 24) : (s.orderPark m).params = s.params := by
  rw [State.orderPark_frame]
@[simp] theorem State.orderPark_chans (m : BitVec 24) : (s.orderPark m).chans = s.chans := by
  rw [State.orderPark_frame]
@[simp] theorem State.orderPark_pairs (m : BitVec 24) : (s.orderPark m).pairs = s.pairs := by
  rw [State.orderPark_frame]
@[simp] theorem State.orderPark_groups (m : BitVec 24) : (s.orderPark m).groups = s.groups := by
  rw [State.orderPark_frame]
@[simp] theorem State.orderPark_banks (m : BitVec 24) : (s.orderPark m).banks = s.banks := by
  rw [State.orderPark_frame]
@[simp] theorem State.orderPark_pd (m : BitVec 24) : (s.orderPark m).pd = s.pd := by
  rw [State.orderPark_frame]
@[simp] theorem State.orderPark_fbs (m : BitVec 24) : (s.orderPark m).fbs = s.fbs := by
  rw [State.orderPark_frame]
@[simp] theorem State.orderPark_rules (m : BitVec 24) : (s.orderPark m).rules = s.rules := by
  rw [State.orderPark_frame]
@[simp] theorem State.orderPark_modClk (m : BitVec 24) : (s.orderPark m).modClk = s.modClk := by
  rw [State.orderPark_frame]
@[simp] theorem State.orderPark_slotFc (m : BitVec 24) : (s.orderPark m).slotFc = s.slotFc := by
  rw [State.orderPark_frame]
@[simp] theorem State.orderPark_lostClks (m : BitVec 24) : (s.orderPark m).lostClks = s.lostClks := by
  rw [State.orderPark_frame]
@[simp] theorem State.orderPark_mods (m : BitVec 24) : (s.orderPark m).mods = s.mods := by
  rw [State.orderPark_frame]
@[simp] theorem State.orderPark_entries (m : BitVec 24) : (s.orderPark m).entries = s.entries := by
  rw [State.orderPark_frame]
@[simp] theorem State.orderPark_gbs (m : BitVec 24) : (s.orderPark m).gbs = s.gbs := by
  rw [State.orderPark_frame]
@[simp] theorem State.orderPark_flts (m : BitVec 24) : (s.orderPark m).flts = s.flts := by
  rw [State.orderPark_frame]
@[simp] theorem State.orderPark_cmps (m : BitVec 24) : (s.orderPark m).cmps = s.cmps := by
  rw [State.orderPark_frame]
@[simp] theorem State.orderPark_cans (m : BitVec 24) : (s.orderPark m).cans = s.cans := by
  rw [State.orderPark_frame]
@[simp] theorem State.orderPark_auxs (m : BitVec 24) : (s.orderPark m).auxs = s.auxs := by
  rw [State.orderPark_frame]
@[simp] theorem State.orderPark_trips (m : BitVec 24) : (s.orderPark m).trips = s.trips := by
  rw [State.orderPark_frame]
@[simp] theorem State.orderPark_mbx (m : BitVec 24) : (s.orderPark m).mbx = s.mbx := by
  rw [State.orderPark_frame]
@[simp] theorem State.orderPark_hp (m : BitVec 24) : (s.orderPark m).hp = s.hp := by
  rw [State.orderPark_frame]
@[simp] theorem State.orderPark_boot (m : BitVec 24) : (s.orderPark m).boot = s.boot := by
  rw [State.orderPark_frame]
@[simp] theorem State.orderPark_power (m : BitVec 24) : (s.orderPark m).power = s.power := by
  rw [State.orderPark_frame]
@[simp] theorem State.orderPark_sec (m : BitVec 24) : (s.orderPark m).sec = s.sec := by
  rw [State.orderPark_frame]
@[simp] theorem State.orderPark_otp (m : BitVec 24) : (s.orderPark m).otp = s.otp := by
  rw [State.orderPark_frame]
@[simp] theorem State.orderPark_chan (m : BitVec 24) (i : Ch) : (s.orderPark m).chan i = s.chan i := by
  rw [State.orderPark_frame]; rfl
@[simp] theorem State.orderPark_bank (m : BitVec 24) (i : BankIx) : (s.orderPark m).bank i = s.bank i := by
  rw [State.orderPark_frame]; rfl
@[simp] theorem State.orderPark_pdChan (m : BitVec 24) (i : Ch) : (s.orderPark m).pdChan i = s.pdChan i := by
  rw [State.orderPark_frame]; rfl
@[simp] theorem State.orderPark_pdBank (m : BitVec 24) (i : BankIx) : (s.orderPark m).pdBank i = s.pdBank i := by
  rw [State.orderPark_frame]; rfl
@[simp] theorem State.orderPark_fb (m : BitVec 24) (i : Ch) : (s.orderPark m).fb i = s.fb i := by
  rw [State.orderPark_frame]; rfl
@[simp] theorem State.orderPark_rule (m : BitVec 24) (i : RuleIx) : (s.orderPark m).rule i = s.rule i := by
  rw [State.orderPark_frame]; rfl
@[simp] theorem State.orderPark_modu (m : BitVec 24) (i : ModIx) : (s.orderPark m).modu i = s.modu i := by
  rw [State.orderPark_frame]; rfl
@[simp] theorem State.orderPark_gb (m : BitVec 24) (i : EntryIx) : (s.orderPark m).gb i = s.gb i := by
  rw [State.orderPark_frame]; rfl
@[simp] theorem State.orderPark_flt (m : BitVec 24) (i : FltIx) : (s.orderPark m).flt i = s.flt i := by
  rw [State.orderPark_frame]; rfl
@[simp] theorem State.orderPark_can (m : BitVec 24) (i : CanIx) : (s.orderPark m).can i = s.can i := by
  rw [State.orderPark_frame]; rfl
@[simp] theorem State.orderPark_aux (m : BitVec 24) (i : AuxIx) : (s.orderPark m).aux i = s.aux i := by
  rw [State.orderPark_frame]; rfl
@[simp] theorem State.orderPark_trip (m : BitVec 24) (i : TripIx) : (s.orderPark m).trip i = s.trip i := by
  rw [State.orderPark_frame]; rfl
@[simp] theorem State.orderPark_par (m : BitVec 24) (x y : Nat) : (s.orderPark m).par x y = s.par x y := by
  rw [State.orderPark_frame]; rfl
@[simp] theorem State.orderPark_hwOn (m : BitVec 24) : (s.orderPark m).hwOn = s.hwOn := by rw [State.orderPark_frame]; rfl
@[simp] theorem State.orderPark_fwOn (m : BitVec 24) : (s.orderPark m).fwOn = s.fwOn := by rw [State.orderPark_frame]; rfl
@[simp] theorem State.orderPark_caps (m : BitVec 24) : (s.orderPark m).caps = s.caps := by rw [State.orderPark_frame]; rfl

@[simp] theorem State.orderSoftOff_pending (m : BitVec 24) : (s.orderSoftOff m).pending = s.pending := by
  rw [State.orderSoftOff_frame]
@[simp] theorem State.orderSoftOff_phase (m : BitVec 24) : (s.orderSoftOff m).phase = s.phase := by
  rw [State.orderSoftOff_frame]
@[simp] theorem State.orderSoftOff_fc (m : BitVec 24) : (s.orderSoftOff m).fc = s.fc := by
  rw [State.orderSoftOff_frame]
@[simp] theorem State.orderSoftOff_runFc (m : BitVec 24) : (s.orderSoftOff m).runFc = s.runFc := by
  rw [State.orderSoftOff_frame]
@[simp] theorem State.orderSoftOff_time (m : BitVec 24) : (s.orderSoftOff m).time = s.time := by
  rw [State.orderSoftOff_frame]
@[simp] theorem State.orderSoftOff_timeFrac (m : BitVec 24) : (s.orderSoftOff m).timeFrac = s.timeFrac := by
  rw [State.orderSoftOff_frame]
@[simp] theorem State.orderSoftOff_slotTime (m : BitVec 24) : (s.orderSoftOff m).slotTime = s.slotTime := by
  rw [State.orderSoftOff_frame]
@[simp] theorem State.orderSoftOff_istep (m : BitVec 24) : (s.orderSoftOff m).istep = s.istep := by
  rw [State.orderSoftOff_frame]
@[simp] theorem State.orderSoftOff_pulses (m : BitVec 24) : (s.orderSoftOff m).pulses = s.pulses := by
  rw [State.orderSoftOff_frame]
@[simp] theorem State.orderSoftOff_params (m : BitVec 24) : (s.orderSoftOff m).params = s.params := by
  rw [State.orderSoftOff_frame]
@[simp] theorem State.orderSoftOff_chans (m : BitVec 24) : (s.orderSoftOff m).chans = s.chans := by
  rw [State.orderSoftOff_frame]
@[simp] theorem State.orderSoftOff_pairs (m : BitVec 24) : (s.orderSoftOff m).pairs = s.pairs := by
  rw [State.orderSoftOff_frame]
@[simp] theorem State.orderSoftOff_groups (m : BitVec 24) : (s.orderSoftOff m).groups = s.groups := by
  rw [State.orderSoftOff_frame]
@[simp] theorem State.orderSoftOff_banks (m : BitVec 24) : (s.orderSoftOff m).banks = s.banks := by
  rw [State.orderSoftOff_frame]
@[simp] theorem State.orderSoftOff_pd (m : BitVec 24) : (s.orderSoftOff m).pd = s.pd := by
  rw [State.orderSoftOff_frame]
@[simp] theorem State.orderSoftOff_fbs (m : BitVec 24) : (s.orderSoftOff m).fbs = s.fbs := by
  rw [State.orderSoftOff_frame]
@[simp] theorem State.orderSoftOff_rules (m : BitVec 24) : (s.orderSoftOff m).rules = s.rules := by
  rw [State.orderSoftOff_frame]
@[simp] theorem State.orderSoftOff_modClk (m : BitVec 24) : (s.orderSoftOff m).modClk = s.modClk := by
  rw [State.orderSoftOff_frame]
@[simp] theorem State.orderSoftOff_slotFc (m : BitVec 24) : (s.orderSoftOff m).slotFc = s.slotFc := by
  rw [State.orderSoftOff_frame]
@[simp] theorem State.orderSoftOff_lostClks (m : BitVec 24) : (s.orderSoftOff m).lostClks = s.lostClks := by
  rw [State.orderSoftOff_frame]
@[simp] theorem State.orderSoftOff_mods (m : BitVec 24) : (s.orderSoftOff m).mods = s.mods := by
  rw [State.orderSoftOff_frame]
@[simp] theorem State.orderSoftOff_entries (m : BitVec 24) : (s.orderSoftOff m).entries = s.entries := by
  rw [State.orderSoftOff_frame]
@[simp] theorem State.orderSoftOff_gbs (m : BitVec 24) : (s.orderSoftOff m).gbs = s.gbs := by
  rw [State.orderSoftOff_frame]
@[simp] theorem State.orderSoftOff_flts (m : BitVec 24) : (s.orderSoftOff m).flts = s.flts := by
  rw [State.orderSoftOff_frame]
@[simp] theorem State.orderSoftOff_cmps (m : BitVec 24) : (s.orderSoftOff m).cmps = s.cmps := by
  rw [State.orderSoftOff_frame]
@[simp] theorem State.orderSoftOff_cans (m : BitVec 24) : (s.orderSoftOff m).cans = s.cans := by
  rw [State.orderSoftOff_frame]
@[simp] theorem State.orderSoftOff_auxs (m : BitVec 24) : (s.orderSoftOff m).auxs = s.auxs := by
  rw [State.orderSoftOff_frame]
@[simp] theorem State.orderSoftOff_trips (m : BitVec 24) : (s.orderSoftOff m).trips = s.trips := by
  rw [State.orderSoftOff_frame]
@[simp] theorem State.orderSoftOff_mbx (m : BitVec 24) : (s.orderSoftOff m).mbx = s.mbx := by
  rw [State.orderSoftOff_frame]
@[simp] theorem State.orderSoftOff_hp (m : BitVec 24) : (s.orderSoftOff m).hp = s.hp := by
  rw [State.orderSoftOff_frame]
@[simp] theorem State.orderSoftOff_boot (m : BitVec 24) : (s.orderSoftOff m).boot = s.boot := by
  rw [State.orderSoftOff_frame]
@[simp] theorem State.orderSoftOff_power (m : BitVec 24) : (s.orderSoftOff m).power = s.power := by
  rw [State.orderSoftOff_frame]
@[simp] theorem State.orderSoftOff_sec (m : BitVec 24) : (s.orderSoftOff m).sec = s.sec := by
  rw [State.orderSoftOff_frame]
@[simp] theorem State.orderSoftOff_otp (m : BitVec 24) : (s.orderSoftOff m).otp = s.otp := by
  rw [State.orderSoftOff_frame]
@[simp] theorem State.orderSoftOff_chan (m : BitVec 24) (i : Ch) : (s.orderSoftOff m).chan i = s.chan i := by
  rw [State.orderSoftOff_frame]; rfl
@[simp] theorem State.orderSoftOff_bank (m : BitVec 24) (i : BankIx) : (s.orderSoftOff m).bank i = s.bank i := by
  rw [State.orderSoftOff_frame]; rfl
@[simp] theorem State.orderSoftOff_pdChan (m : BitVec 24) (i : Ch) : (s.orderSoftOff m).pdChan i = s.pdChan i := by
  rw [State.orderSoftOff_frame]; rfl
@[simp] theorem State.orderSoftOff_pdBank (m : BitVec 24) (i : BankIx) : (s.orderSoftOff m).pdBank i = s.pdBank i := by
  rw [State.orderSoftOff_frame]; rfl
@[simp] theorem State.orderSoftOff_fb (m : BitVec 24) (i : Ch) : (s.orderSoftOff m).fb i = s.fb i := by
  rw [State.orderSoftOff_frame]; rfl
@[simp] theorem State.orderSoftOff_rule (m : BitVec 24) (i : RuleIx) : (s.orderSoftOff m).rule i = s.rule i := by
  rw [State.orderSoftOff_frame]; rfl
@[simp] theorem State.orderSoftOff_modu (m : BitVec 24) (i : ModIx) : (s.orderSoftOff m).modu i = s.modu i := by
  rw [State.orderSoftOff_frame]; rfl
@[simp] theorem State.orderSoftOff_gb (m : BitVec 24) (i : EntryIx) : (s.orderSoftOff m).gb i = s.gb i := by
  rw [State.orderSoftOff_frame]; rfl
@[simp] theorem State.orderSoftOff_flt (m : BitVec 24) (i : FltIx) : (s.orderSoftOff m).flt i = s.flt i := by
  rw [State.orderSoftOff_frame]; rfl
@[simp] theorem State.orderSoftOff_can (m : BitVec 24) (i : CanIx) : (s.orderSoftOff m).can i = s.can i := by
  rw [State.orderSoftOff_frame]; rfl
@[simp] theorem State.orderSoftOff_aux (m : BitVec 24) (i : AuxIx) : (s.orderSoftOff m).aux i = s.aux i := by
  rw [State.orderSoftOff_frame]; rfl
@[simp] theorem State.orderSoftOff_trip (m : BitVec 24) (i : TripIx) : (s.orderSoftOff m).trip i = s.trip i := by
  rw [State.orderSoftOff_frame]; rfl
@[simp] theorem State.orderSoftOff_par (m : BitVec 24) (x y : Nat) : (s.orderSoftOff m).par x y = s.par x y := by
  rw [State.orderSoftOff_frame]; rfl
@[simp] theorem State.orderSoftOff_hwOn (m : BitVec 24) : (s.orderSoftOff m).hwOn = s.hwOn := by rw [State.orderSoftOff_frame]; rfl
@[simp] theorem State.orderSoftOff_fwOn (m : BitVec 24) : (s.orderSoftOff m).fwOn = s.fwOn := by rw [State.orderSoftOff_frame]; rfl
@[simp] theorem State.orderSoftOff_caps (m : BitVec 24) : (s.orderSoftOff m).caps = s.caps := by rw [State.orderSoftOff_frame]; rfl

@[simp] theorem State.orderHold_pending (m : BitVec 24) : (s.orderHold m).pending = s.pending := by
  rw [State.orderHold_frame]
@[simp] theorem State.orderHold_phase (m : BitVec 24) : (s.orderHold m).phase = s.phase := by
  rw [State.orderHold_frame]
@[simp] theorem State.orderHold_fc (m : BitVec 24) : (s.orderHold m).fc = s.fc := by
  rw [State.orderHold_frame]
@[simp] theorem State.orderHold_runFc (m : BitVec 24) : (s.orderHold m).runFc = s.runFc := by
  rw [State.orderHold_frame]
@[simp] theorem State.orderHold_time (m : BitVec 24) : (s.orderHold m).time = s.time := by
  rw [State.orderHold_frame]
@[simp] theorem State.orderHold_timeFrac (m : BitVec 24) : (s.orderHold m).timeFrac = s.timeFrac := by
  rw [State.orderHold_frame]
@[simp] theorem State.orderHold_slotTime (m : BitVec 24) : (s.orderHold m).slotTime = s.slotTime := by
  rw [State.orderHold_frame]
@[simp] theorem State.orderHold_istep (m : BitVec 24) : (s.orderHold m).istep = s.istep := by
  rw [State.orderHold_frame]
@[simp] theorem State.orderHold_pulses (m : BitVec 24) : (s.orderHold m).pulses = s.pulses := by
  rw [State.orderHold_frame]
@[simp] theorem State.orderHold_params (m : BitVec 24) : (s.orderHold m).params = s.params := by
  rw [State.orderHold_frame]
@[simp] theorem State.orderHold_chans (m : BitVec 24) : (s.orderHold m).chans = s.chans := by
  rw [State.orderHold_frame]
@[simp] theorem State.orderHold_pairs (m : BitVec 24) : (s.orderHold m).pairs = s.pairs := by
  rw [State.orderHold_frame]
@[simp] theorem State.orderHold_groups (m : BitVec 24) : (s.orderHold m).groups = s.groups := by
  rw [State.orderHold_frame]
@[simp] theorem State.orderHold_banks (m : BitVec 24) : (s.orderHold m).banks = s.banks := by
  rw [State.orderHold_frame]
@[simp] theorem State.orderHold_pd (m : BitVec 24) : (s.orderHold m).pd = s.pd := by
  rw [State.orderHold_frame]
@[simp] theorem State.orderHold_fbs (m : BitVec 24) : (s.orderHold m).fbs = s.fbs := by
  rw [State.orderHold_frame]
@[simp] theorem State.orderHold_rules (m : BitVec 24) : (s.orderHold m).rules = s.rules := by
  rw [State.orderHold_frame]
@[simp] theorem State.orderHold_modClk (m : BitVec 24) : (s.orderHold m).modClk = s.modClk := by
  rw [State.orderHold_frame]
@[simp] theorem State.orderHold_slotFc (m : BitVec 24) : (s.orderHold m).slotFc = s.slotFc := by
  rw [State.orderHold_frame]
@[simp] theorem State.orderHold_lostClks (m : BitVec 24) : (s.orderHold m).lostClks = s.lostClks := by
  rw [State.orderHold_frame]
@[simp] theorem State.orderHold_mods (m : BitVec 24) : (s.orderHold m).mods = s.mods := by
  rw [State.orderHold_frame]
@[simp] theorem State.orderHold_entries (m : BitVec 24) : (s.orderHold m).entries = s.entries := by
  rw [State.orderHold_frame]
@[simp] theorem State.orderHold_gbs (m : BitVec 24) : (s.orderHold m).gbs = s.gbs := by
  rw [State.orderHold_frame]
@[simp] theorem State.orderHold_flts (m : BitVec 24) : (s.orderHold m).flts = s.flts := by
  rw [State.orderHold_frame]
@[simp] theorem State.orderHold_cmps (m : BitVec 24) : (s.orderHold m).cmps = s.cmps := by
  rw [State.orderHold_frame]
@[simp] theorem State.orderHold_cans (m : BitVec 24) : (s.orderHold m).cans = s.cans := by
  rw [State.orderHold_frame]
@[simp] theorem State.orderHold_auxs (m : BitVec 24) : (s.orderHold m).auxs = s.auxs := by
  rw [State.orderHold_frame]
@[simp] theorem State.orderHold_trips (m : BitVec 24) : (s.orderHold m).trips = s.trips := by
  rw [State.orderHold_frame]
@[simp] theorem State.orderHold_mbx (m : BitVec 24) : (s.orderHold m).mbx = s.mbx := by
  rw [State.orderHold_frame]
@[simp] theorem State.orderHold_hp (m : BitVec 24) : (s.orderHold m).hp = s.hp := by
  rw [State.orderHold_frame]
@[simp] theorem State.orderHold_boot (m : BitVec 24) : (s.orderHold m).boot = s.boot := by
  rw [State.orderHold_frame]
@[simp] theorem State.orderHold_power (m : BitVec 24) : (s.orderHold m).power = s.power := by
  rw [State.orderHold_frame]
@[simp] theorem State.orderHold_sec (m : BitVec 24) : (s.orderHold m).sec = s.sec := by
  rw [State.orderHold_frame]
@[simp] theorem State.orderHold_otp (m : BitVec 24) : (s.orderHold m).otp = s.otp := by
  rw [State.orderHold_frame]
@[simp] theorem State.orderHold_chan (m : BitVec 24) (i : Ch) : (s.orderHold m).chan i = s.chan i := by
  rw [State.orderHold_frame]; rfl
@[simp] theorem State.orderHold_bank (m : BitVec 24) (i : BankIx) : (s.orderHold m).bank i = s.bank i := by
  rw [State.orderHold_frame]; rfl
@[simp] theorem State.orderHold_pdChan (m : BitVec 24) (i : Ch) : (s.orderHold m).pdChan i = s.pdChan i := by
  rw [State.orderHold_frame]; rfl
@[simp] theorem State.orderHold_pdBank (m : BitVec 24) (i : BankIx) : (s.orderHold m).pdBank i = s.pdBank i := by
  rw [State.orderHold_frame]; rfl
@[simp] theorem State.orderHold_fb (m : BitVec 24) (i : Ch) : (s.orderHold m).fb i = s.fb i := by
  rw [State.orderHold_frame]; rfl
@[simp] theorem State.orderHold_rule (m : BitVec 24) (i : RuleIx) : (s.orderHold m).rule i = s.rule i := by
  rw [State.orderHold_frame]; rfl
@[simp] theorem State.orderHold_modu (m : BitVec 24) (i : ModIx) : (s.orderHold m).modu i = s.modu i := by
  rw [State.orderHold_frame]; rfl
@[simp] theorem State.orderHold_gb (m : BitVec 24) (i : EntryIx) : (s.orderHold m).gb i = s.gb i := by
  rw [State.orderHold_frame]; rfl
@[simp] theorem State.orderHold_flt (m : BitVec 24) (i : FltIx) : (s.orderHold m).flt i = s.flt i := by
  rw [State.orderHold_frame]; rfl
@[simp] theorem State.orderHold_can (m : BitVec 24) (i : CanIx) : (s.orderHold m).can i = s.can i := by
  rw [State.orderHold_frame]; rfl
@[simp] theorem State.orderHold_aux (m : BitVec 24) (i : AuxIx) : (s.orderHold m).aux i = s.aux i := by
  rw [State.orderHold_frame]; rfl
@[simp] theorem State.orderHold_trip (m : BitVec 24) (i : TripIx) : (s.orderHold m).trip i = s.trip i := by
  rw [State.orderHold_frame]; rfl
@[simp] theorem State.orderHold_par (m : BitVec 24) (x y : Nat) : (s.orderHold m).par x y = s.par x y := by
  rw [State.orderHold_frame]; rfl
@[simp] theorem State.orderHold_hwOn (m : BitVec 24) : (s.orderHold m).hwOn = s.hwOn := by rw [State.orderHold_frame]; rfl
@[simp] theorem State.orderHold_fwOn (m : BitVec 24) : (s.orderHold m).fwOn = s.fwOn := by rw [State.orderHold_frame]; rfl
@[simp] theorem State.orderHold_caps (m : BitVec 24) : (s.orderHold m).caps = s.caps := by rw [State.orderHold_frame]; rfl

/-! ### Channels -/

/-- Leaving a group changes the groups alone (R80). -/
theorem State.leaveGroup_frame (c : Ch) : s.leaveGroup c = { s with groups := (s.leaveGroup c).groups } := rfl

@[simp] theorem State.leaveGroup_pending (c : Ch) : (s.leaveGroup c).pending = s.pending := by
  rw [State.leaveGroup_frame]
@[simp] theorem State.leaveGroup_phase (c : Ch) : (s.leaveGroup c).phase = s.phase := by
  rw [State.leaveGroup_frame]
@[simp] theorem State.leaveGroup_fc (c : Ch) : (s.leaveGroup c).fc = s.fc := by
  rw [State.leaveGroup_frame]
@[simp] theorem State.leaveGroup_runFc (c : Ch) : (s.leaveGroup c).runFc = s.runFc := by
  rw [State.leaveGroup_frame]
@[simp] theorem State.leaveGroup_time (c : Ch) : (s.leaveGroup c).time = s.time := by
  rw [State.leaveGroup_frame]
@[simp] theorem State.leaveGroup_timeFrac (c : Ch) : (s.leaveGroup c).timeFrac = s.timeFrac := by
  rw [State.leaveGroup_frame]
@[simp] theorem State.leaveGroup_slotTime (c : Ch) : (s.leaveGroup c).slotTime = s.slotTime := by
  rw [State.leaveGroup_frame]
@[simp] theorem State.leaveGroup_istep (c : Ch) : (s.leaveGroup c).istep = s.istep := by
  rw [State.leaveGroup_frame]
@[simp] theorem State.leaveGroup_pulses (c : Ch) : (s.leaveGroup c).pulses = s.pulses := by
  rw [State.leaveGroup_frame]
@[simp] theorem State.leaveGroup_params (c : Ch) : (s.leaveGroup c).params = s.params := by
  rw [State.leaveGroup_frame]
@[simp] theorem State.leaveGroup_chans (c : Ch) : (s.leaveGroup c).chans = s.chans := by
  rw [State.leaveGroup_frame]
@[simp] theorem State.leaveGroup_pairs (c : Ch) : (s.leaveGroup c).pairs = s.pairs := by
  rw [State.leaveGroup_frame]
@[simp] theorem State.leaveGroup_banks (c : Ch) : (s.leaveGroup c).banks = s.banks := by
  rw [State.leaveGroup_frame]
@[simp] theorem State.leaveGroup_pd (c : Ch) : (s.leaveGroup c).pd = s.pd := by
  rw [State.leaveGroup_frame]
@[simp] theorem State.leaveGroup_link (c : Ch) : (s.leaveGroup c).link = s.link := by
  rw [State.leaveGroup_frame]
@[simp] theorem State.leaveGroup_fbs (c : Ch) : (s.leaveGroup c).fbs = s.fbs := by
  rw [State.leaveGroup_frame]
@[simp] theorem State.leaveGroup_rules (c : Ch) : (s.leaveGroup c).rules = s.rules := by
  rw [State.leaveGroup_frame]
@[simp] theorem State.leaveGroup_modClk (c : Ch) : (s.leaveGroup c).modClk = s.modClk := by
  rw [State.leaveGroup_frame]
@[simp] theorem State.leaveGroup_slotFc (c : Ch) : (s.leaveGroup c).slotFc = s.slotFc := by
  rw [State.leaveGroup_frame]
@[simp] theorem State.leaveGroup_lostClks (c : Ch) : (s.leaveGroup c).lostClks = s.lostClks := by
  rw [State.leaveGroup_frame]
@[simp] theorem State.leaveGroup_mods (c : Ch) : (s.leaveGroup c).mods = s.mods := by
  rw [State.leaveGroup_frame]
@[simp] theorem State.leaveGroup_entries (c : Ch) : (s.leaveGroup c).entries = s.entries := by
  rw [State.leaveGroup_frame]
@[simp] theorem State.leaveGroup_gbs (c : Ch) : (s.leaveGroup c).gbs = s.gbs := by
  rw [State.leaveGroup_frame]
@[simp] theorem State.leaveGroup_flts (c : Ch) : (s.leaveGroup c).flts = s.flts := by
  rw [State.leaveGroup_frame]
@[simp] theorem State.leaveGroup_cmps (c : Ch) : (s.leaveGroup c).cmps = s.cmps := by
  rw [State.leaveGroup_frame]
@[simp] theorem State.leaveGroup_cans (c : Ch) : (s.leaveGroup c).cans = s.cans := by
  rw [State.leaveGroup_frame]
@[simp] theorem State.leaveGroup_auxs (c : Ch) : (s.leaveGroup c).auxs = s.auxs := by
  rw [State.leaveGroup_frame]
@[simp] theorem State.leaveGroup_trips (c : Ch) : (s.leaveGroup c).trips = s.trips := by
  rw [State.leaveGroup_frame]
@[simp] theorem State.leaveGroup_mbx (c : Ch) : (s.leaveGroup c).mbx = s.mbx := by
  rw [State.leaveGroup_frame]
@[simp] theorem State.leaveGroup_hp (c : Ch) : (s.leaveGroup c).hp = s.hp := by
  rw [State.leaveGroup_frame]
@[simp] theorem State.leaveGroup_boot (c : Ch) : (s.leaveGroup c).boot = s.boot := by
  rw [State.leaveGroup_frame]
@[simp] theorem State.leaveGroup_power (c : Ch) : (s.leaveGroup c).power = s.power := by
  rw [State.leaveGroup_frame]
@[simp] theorem State.leaveGroup_sec (c : Ch) : (s.leaveGroup c).sec = s.sec := by
  rw [State.leaveGroup_frame]
@[simp] theorem State.leaveGroup_otp (c : Ch) : (s.leaveGroup c).otp = s.otp := by
  rw [State.leaveGroup_frame]
@[simp] theorem State.leaveGroup_chan (c : Ch) (i : Ch) : (s.leaveGroup c).chan i = s.chan i := by
  rw [State.leaveGroup_frame]; rfl
@[simp] theorem State.leaveGroup_bank (c : Ch) (i : BankIx) : (s.leaveGroup c).bank i = s.bank i := by
  rw [State.leaveGroup_frame]; rfl
@[simp] theorem State.leaveGroup_pdChan (c : Ch) (i : Ch) : (s.leaveGroup c).pdChan i = s.pdChan i := by
  rw [State.leaveGroup_frame]; rfl
@[simp] theorem State.leaveGroup_pdBank (c : Ch) (i : BankIx) : (s.leaveGroup c).pdBank i = s.pdBank i := by
  rw [State.leaveGroup_frame]; rfl
@[simp] theorem State.leaveGroup_fb (c : Ch) (i : Ch) : (s.leaveGroup c).fb i = s.fb i := by
  rw [State.leaveGroup_frame]; rfl
@[simp] theorem State.leaveGroup_rule (c : Ch) (i : RuleIx) : (s.leaveGroup c).rule i = s.rule i := by
  rw [State.leaveGroup_frame]; rfl
@[simp] theorem State.leaveGroup_modu (c : Ch) (i : ModIx) : (s.leaveGroup c).modu i = s.modu i := by
  rw [State.leaveGroup_frame]; rfl
@[simp] theorem State.leaveGroup_gb (c : Ch) (i : EntryIx) : (s.leaveGroup c).gb i = s.gb i := by
  rw [State.leaveGroup_frame]; rfl
@[simp] theorem State.leaveGroup_flt (c : Ch) (i : FltIx) : (s.leaveGroup c).flt i = s.flt i := by
  rw [State.leaveGroup_frame]; rfl
@[simp] theorem State.leaveGroup_can (c : Ch) (i : CanIx) : (s.leaveGroup c).can i = s.can i := by
  rw [State.leaveGroup_frame]; rfl
@[simp] theorem State.leaveGroup_aux (c : Ch) (i : AuxIx) : (s.leaveGroup c).aux i = s.aux i := by
  rw [State.leaveGroup_frame]; rfl
@[simp] theorem State.leaveGroup_trip (c : Ch) (i : TripIx) : (s.leaveGroup c).trip i = s.trip i := by
  rw [State.leaveGroup_frame]; rfl
@[simp] theorem State.leaveGroup_par (c : Ch) (x y : Nat) : (s.leaveGroup c).par x y = s.par x y := by
  rw [State.leaveGroup_frame]; rfl
@[simp] theorem State.leaveGroup_hwOn (c : Ch) : (s.leaveGroup c).hwOn = s.hwOn := by rw [State.leaveGroup_frame]; rfl
@[simp] theorem State.leaveGroup_fwOn (c : Ch) : (s.leaveGroup c).fwOn = s.fwOn := by rw [State.leaveGroup_frame]; rfl
@[simp] theorem State.leaveGroup_caps (c : Ch) : (s.leaveGroup c).caps = s.caps := by rw [State.leaveGroup_frame]; rfl

/-- The twin supervisor acts on the partner alone, and reports (R113). -/
theorem State.partnerOff_frame (c : Ch) (n : Nat) :
    s.partnerOff c n = { s with chans := (s.partnerOff c n).chans, mbx := (s.partnerOff c n).mbx } := by
  unfold State.partnerOff State.recompute
  dsimp only
  split
  · rw [State.raise_frame]; rfl
  · split <;> rfl

theorem State.recompute_chan (c d : Ch) : (s.recompute c).chan d = if d = c then s.recomputed c else s.chan d := by
  unfold State.recompute
  split
  · next h => subst h; rw [State.onChan_chan_same]
  · next h => rw [State.onChan_chan_other _ _ _ _ h]

/-- Of a channel whose set-point is computed anew, the coil drive and the blanking of the estimator alone can differ. -/
theorem State.recomputed_frame (c : Ch) :
    s.recomputed c = { s.chan c with coil := (s.recomputed c).coil, est := { (s.chan c).est with blank := (s.recomputed c).est.blank } } := by
  unfold State.recomputed
  dsimp only
  split <;> rfl

theorem State.partnerOff_chan (c d : Ch) (n : Nat) (h : d ≠ twinOf c) : (s.partnerOff c n).chan d = s.chan d := by
  unfold State.partnerOff
  dsimp only
  split
  · rw [State.raise_chan, State.recompute_chan, if_neg h, State.onChan_chan_other _ _ _ _ h]
  · split
    · rw [State.recompute_chan, if_neg h, State.onChan_chan_other _ _ _ _ h]
    · rfl

/-- Of the mailboxes, only the event ring can differ. -/
theorem State.partnerOff_mbx (c : Ch) (n : Nat) :
    (s.partnerOff c n).mbx.queue = s.mbx.queue ∧ (s.partnerOff c n).mbx.responses = s.mbx.responses ∧
      (s.partnerOff c n).mbx.waiting = s.mbx.waiting := by
  unfold State.partnerOff
  dsimp only
  split
  · obtain ⟨h1, h2, h3, -⟩ := State.raiseS_mbx
      ((s.onChan (twinOf c) fun k => { k.endRamp with solo := true }).recompute (twinOf c)) 0x0205 (twinOf c).val false
      [BitVec.ofNat 8 n]
    exact ⟨h1, h2, h3⟩
  · split <;> exact ⟨rfl, rfl, rfl⟩

/-- A channel is not its own twin. -/
theorem twinOf_ne (c : Ch) : c ≠ twinOf c := by
  intro h
  have := congrArg Fin.val h
  simp only [twinOf, Fin.val_add] at this
  have hc := c.isLt
  have : (12 : Fin 24).val = 12 := rfl
  omega

/-- Two steps of pairing lead back. -/
theorem twinOf_twinOf (c : Ch) : twinOf (twinOf c) = c := by
  revert c; decide

/-- Without a partner in the pair, nothing happens to it. -/
theorem State.partnerOff_untwinned (c : Ch) (n : Nat) (h : s.isTwin c = false) : s.partnerOff c n = s := by
  simp [State.partnerOff, State.paired, h]

@[simp] theorem State.partnerOff_pending (c : Ch) (n : Nat) : (s.partnerOff c n).pending = s.pending := by
  rw [State.partnerOff_frame]
@[simp] theorem State.partnerOff_phase (c : Ch) (n : Nat) : (s.partnerOff c n).phase = s.phase := by
  rw [State.partnerOff_frame]
@[simp] theorem State.partnerOff_fc (c : Ch) (n : Nat) : (s.partnerOff c n).fc = s.fc := by
  rw [State.partnerOff_frame]
@[simp] theorem State.partnerOff_runFc (c : Ch) (n : Nat) : (s.partnerOff c n).runFc = s.runFc := by
  rw [State.partnerOff_frame]
@[simp] theorem State.partnerOff_time (c : Ch) (n : Nat) : (s.partnerOff c n).time = s.time := by
  rw [State.partnerOff_frame]
@[simp] theorem State.partnerOff_timeFrac (c : Ch) (n : Nat) : (s.partnerOff c n).timeFrac = s.timeFrac := by
  rw [State.partnerOff_frame]
@[simp] theorem State.partnerOff_slotTime (c : Ch) (n : Nat) : (s.partnerOff c n).slotTime = s.slotTime := by
  rw [State.partnerOff_frame]
@[simp] theorem State.partnerOff_istep (c : Ch) (n : Nat) : (s.partnerOff c n).istep = s.istep := by
  rw [State.partnerOff_frame]
@[simp] theorem State.partnerOff_pulses (c : Ch) (n : Nat) : (s.partnerOff c n).pulses = s.pulses := by
  rw [State.partnerOff_frame]
@[simp] theorem State.partnerOff_params (c : Ch) (n : Nat) : (s.partnerOff c n).params = s.params := by
  rw [State.partnerOff_frame]
@[simp] theorem State.partnerOff_pairs (c : Ch) (n : Nat) : (s.partnerOff c n).pairs = s.pairs := by
  rw [State.partnerOff_frame]
@[simp] theorem State.partnerOff_groups (c : Ch) (n : Nat) : (s.partnerOff c n).groups = s.groups := by
  rw [State.partnerOff_frame]
@[simp] theorem State.partnerOff_banks (c : Ch) (n : Nat) : (s.partnerOff c n).banks = s.banks := by
  rw [State.partnerOff_frame]
@[simp] theorem State.partnerOff_pd (c : Ch) (n : Nat) : (s.partnerOff c n).pd = s.pd := by
  rw [State.partnerOff_frame]
@[simp] theorem State.partnerOff_link (c : Ch) (n : Nat) : (s.partnerOff c n).link = s.link := by
  rw [State.partnerOff_frame]
@[simp] theorem State.partnerOff_fbs (c : Ch) (n : Nat) : (s.partnerOff c n).fbs = s.fbs := by
  rw [State.partnerOff_frame]
@[simp] theorem State.partnerOff_rules (c : Ch) (n : Nat) : (s.partnerOff c n).rules = s.rules := by
  rw [State.partnerOff_frame]
@[simp] theorem State.partnerOff_modClk (c : Ch) (n : Nat) : (s.partnerOff c n).modClk = s.modClk := by
  rw [State.partnerOff_frame]
@[simp] theorem State.partnerOff_slotFc (c : Ch) (n : Nat) : (s.partnerOff c n).slotFc = s.slotFc := by
  rw [State.partnerOff_frame]
@[simp] theorem State.partnerOff_lostClks (c : Ch) (n : Nat) : (s.partnerOff c n).lostClks = s.lostClks := by
  rw [State.partnerOff_frame]
@[simp] theorem State.partnerOff_mods (c : Ch) (n : Nat) : (s.partnerOff c n).mods = s.mods := by
  rw [State.partnerOff_frame]
@[simp] theorem State.partnerOff_entries (c : Ch) (n : Nat) : (s.partnerOff c n).entries = s.entries := by
  rw [State.partnerOff_frame]
@[simp] theorem State.partnerOff_gbs (c : Ch) (n : Nat) : (s.partnerOff c n).gbs = s.gbs := by
  rw [State.partnerOff_frame]
@[simp] theorem State.partnerOff_flts (c : Ch) (n : Nat) : (s.partnerOff c n).flts = s.flts := by
  rw [State.partnerOff_frame]
@[simp] theorem State.partnerOff_cmps (c : Ch) (n : Nat) : (s.partnerOff c n).cmps = s.cmps := by
  rw [State.partnerOff_frame]
@[simp] theorem State.partnerOff_cans (c : Ch) (n : Nat) : (s.partnerOff c n).cans = s.cans := by
  rw [State.partnerOff_frame]
@[simp] theorem State.partnerOff_auxs (c : Ch) (n : Nat) : (s.partnerOff c n).auxs = s.auxs := by
  rw [State.partnerOff_frame]
@[simp] theorem State.partnerOff_trips (c : Ch) (n : Nat) : (s.partnerOff c n).trips = s.trips := by
  rw [State.partnerOff_frame]
@[simp] theorem State.partnerOff_hp (c : Ch) (n : Nat) : (s.partnerOff c n).hp = s.hp := by
  rw [State.partnerOff_frame]
@[simp] theorem State.partnerOff_boot (c : Ch) (n : Nat) : (s.partnerOff c n).boot = s.boot := by
  rw [State.partnerOff_frame]
@[simp] theorem State.partnerOff_power (c : Ch) (n : Nat) : (s.partnerOff c n).power = s.power := by
  rw [State.partnerOff_frame]
@[simp] theorem State.partnerOff_sec (c : Ch) (n : Nat) : (s.partnerOff c n).sec = s.sec := by
  rw [State.partnerOff_frame]
@[simp] theorem State.partnerOff_otp (c : Ch) (n : Nat) : (s.partnerOff c n).otp = s.otp := by
  rw [State.partnerOff_frame]
@[simp] theorem State.partnerOff_bank (c : Ch) (n : Nat) (i : BankIx) : (s.partnerOff c n).bank i = s.bank i := by
  rw [State.partnerOff_frame]; rfl
@[simp] theorem State.partnerOff_pdChan (c : Ch) (n : Nat) (i : Ch) : (s.partnerOff c n).pdChan i = s.pdChan i := by
  rw [State.partnerOff_frame]; rfl
@[simp] theorem State.partnerOff_pdBank (c : Ch) (n : Nat) (i : BankIx) : (s.partnerOff c n).pdBank i = s.pdBank i := by
  rw [State.partnerOff_frame]; rfl
@[simp] theorem State.partnerOff_fb (c : Ch) (n : Nat) (i : Ch) : (s.partnerOff c n).fb i = s.fb i := by
  rw [State.partnerOff_frame]; rfl
@[simp] theorem State.partnerOff_rule (c : Ch) (n : Nat) (i : RuleIx) : (s.partnerOff c n).rule i = s.rule i := by
  rw [State.partnerOff_frame]; rfl
@[simp] theorem State.partnerOff_modu (c : Ch) (n : Nat) (i : ModIx) : (s.partnerOff c n).modu i = s.modu i := by
  rw [State.partnerOff_frame]; rfl
@[simp] theorem State.partnerOff_gb (c : Ch) (n : Nat) (i : EntryIx) : (s.partnerOff c n).gb i = s.gb i := by
  rw [State.partnerOff_frame]; rfl
@[simp] theorem State.partnerOff_flt (c : Ch) (n : Nat) (i : FltIx) : (s.partnerOff c n).flt i = s.flt i := by
  rw [State.partnerOff_frame]; rfl
@[simp] theorem State.partnerOff_can (c : Ch) (n : Nat) (i : CanIx) : (s.partnerOff c n).can i = s.can i := by
  rw [State.partnerOff_frame]; rfl
@[simp] theorem State.partnerOff_aux (c : Ch) (n : Nat) (i : AuxIx) : (s.partnerOff c n).aux i = s.aux i := by
  rw [State.partnerOff_frame]; rfl
@[simp] theorem State.partnerOff_trip (c : Ch) (n : Nat) (i : TripIx) : (s.partnerOff c n).trip i = s.trip i := by
  rw [State.partnerOff_frame]; rfl
@[simp] theorem State.partnerOff_par (c : Ch) (n : Nat) (x y : Nat) : (s.partnerOff c n).par x y = s.par x y := by
  rw [State.partnerOff_frame]; rfl
@[simp] theorem State.partnerOff_hwOn (c : Ch) (n : Nat) : (s.partnerOff c n).hwOn = s.hwOn := by rw [State.partnerOff_frame]; rfl
@[simp] theorem State.partnerOff_fwOn (c : Ch) (n : Nat) : (s.partnerOff c n).fwOn = s.fwOn := by rw [State.partnerOff_frame]; rfl
@[simp] theorem State.partnerOff_caps (c : Ch) (n : Nat) : (s.partnerOff c n).caps = s.caps := by rw [State.partnerOff_frame]; rfl

/-- A fault that does not allow motion changes channels, groups and the mailboxes alone (R67, R82). -/
theorem State.faultOff_frame (c : Ch) (set : Causes → Causes) :
    s.faultOff c set = { s with chans := (s.faultOff c set).chans, groups := (s.faultOff c set).groups,
                                mbx := (s.faultOff c set).mbx } := by
  unfold State.faultOff
  dsimp only
  split
  · rfl
  · rfl
  · split
    · rfl
    · rw [State.partnerOff_frame]; rfl

@[simp] theorem State.faultOff_pending (c : Ch) (set : Causes → Causes) : (s.faultOff c set).pending = s.pending := by
  rw [State.faultOff_frame]
@[simp] theorem State.faultOff_phase (c : Ch) (set : Causes → Causes) : (s.faultOff c set).phase = s.phase := by
  rw [State.faultOff_frame]
@[simp] theorem State.faultOff_fc (c : Ch) (set : Causes → Causes) : (s.faultOff c set).fc = s.fc := by
  rw [State.faultOff_frame]
@[simp] theorem State.faultOff_runFc (c : Ch) (set : Causes → Causes) : (s.faultOff c set).runFc = s.runFc := by
  rw [State.faultOff_frame]
@[simp] theorem State.faultOff_time (c : Ch) (set : Causes → Causes) : (s.faultOff c set).time = s.time := by
  rw [State.faultOff_frame]
@[simp] theorem State.faultOff_timeFrac (c : Ch) (set : Causes → Causes) : (s.faultOff c set).timeFrac = s.timeFrac := by
  rw [State.faultOff_frame]
@[simp] theorem State.faultOff_slotTime (c : Ch) (set : Causes → Causes) : (s.faultOff c set).slotTime = s.slotTime := by
  rw [State.faultOff_frame]
@[simp] theorem State.faultOff_istep (c : Ch) (set : Causes → Causes) : (s.faultOff c set).istep = s.istep := by
  rw [State.faultOff_frame]
@[simp] theorem State.faultOff_pulses (c : Ch) (set : Causes → Causes) : (s.faultOff c set).pulses = s.pulses := by
  rw [State.faultOff_frame]
@[simp] theorem State.faultOff_params (c : Ch) (set : Causes → Causes) : (s.faultOff c set).params = s.params := by
  rw [State.faultOff_frame]
@[simp] theorem State.faultOff_pairs (c : Ch) (set : Causes → Causes) : (s.faultOff c set).pairs = s.pairs := by
  rw [State.faultOff_frame]
@[simp] theorem State.faultOff_banks (c : Ch) (set : Causes → Causes) : (s.faultOff c set).banks = s.banks := by
  rw [State.faultOff_frame]
@[simp] theorem State.faultOff_pd (c : Ch) (set : Causes → Causes) : (s.faultOff c set).pd = s.pd := by
  rw [State.faultOff_frame]
@[simp] theorem State.faultOff_link (c : Ch) (set : Causes → Causes) : (s.faultOff c set).link = s.link := by
  rw [State.faultOff_frame]
@[simp] theorem State.faultOff_fbs (c : Ch) (set : Causes → Causes) : (s.faultOff c set).fbs = s.fbs := by
  rw [State.faultOff_frame]
@[simp] theorem State.faultOff_rules (c : Ch) (set : Causes → Causes) : (s.faultOff c set).rules = s.rules := by
  rw [State.faultOff_frame]
@[simp] theorem State.faultOff_modClk (c : Ch) (set : Causes → Causes) : (s.faultOff c set).modClk = s.modClk := by
  rw [State.faultOff_frame]
@[simp] theorem State.faultOff_slotFc (c : Ch) (set : Causes → Causes) : (s.faultOff c set).slotFc = s.slotFc := by
  rw [State.faultOff_frame]
@[simp] theorem State.faultOff_lostClks (c : Ch) (set : Causes → Causes) : (s.faultOff c set).lostClks = s.lostClks := by
  rw [State.faultOff_frame]
@[simp] theorem State.faultOff_mods (c : Ch) (set : Causes → Causes) : (s.faultOff c set).mods = s.mods := by
  rw [State.faultOff_frame]
@[simp] theorem State.faultOff_entries (c : Ch) (set : Causes → Causes) : (s.faultOff c set).entries = s.entries := by
  rw [State.faultOff_frame]
@[simp] theorem State.faultOff_gbs (c : Ch) (set : Causes → Causes) : (s.faultOff c set).gbs = s.gbs := by
  rw [State.faultOff_frame]
@[simp] theorem State.faultOff_flts (c : Ch) (set : Causes → Causes) : (s.faultOff c set).flts = s.flts := by
  rw [State.faultOff_frame]
@[simp] theorem State.faultOff_cmps (c : Ch) (set : Causes → Causes) : (s.faultOff c set).cmps = s.cmps := by
  rw [State.faultOff_frame]
@[simp] theorem State.faultOff_cans (c : Ch) (set : Causes → Causes) : (s.faultOff c set).cans = s.cans := by
  rw [State.faultOff_frame]
@[simp] theorem State.faultOff_auxs (c : Ch) (set : Causes → Causes) : (s.faultOff c set).auxs = s.auxs := by
  rw [State.faultOff_frame]
@[simp] theorem State.faultOff_trips (c : Ch) (set : Causes → Causes) : (s.faultOff c set).trips = s.trips := by
  rw [State.faultOff_frame]
@[simp] theorem State.faultOff_hp (c : Ch) (set : Causes → Causes) : (s.faultOff c set).hp = s.hp := by
  rw [State.faultOff_frame]
@[simp] theorem State.faultOff_boot (c : Ch) (set : Causes → Causes) : (s.faultOff c set).boot = s.boot := by
  rw [State.faultOff_frame]
@[simp] theorem State.faultOff_power (c : Ch) (set : Causes → Causes) : (s.faultOff c set).power = s.power := by
  rw [State.faultOff_frame]
@[simp] theorem State.faultOff_sec (c : Ch) (set : Causes → Causes) : (s.faultOff c set).sec = s.sec := by
  rw [State.faultOff_frame]
@[simp] theorem State.faultOff_otp (c : Ch) (set : Causes → Causes) : (s.faultOff c set).otp = s.otp := by
  rw [State.faultOff_frame]
@[simp] theorem State.faultOff_bank (c : Ch) (set : Causes → Causes) (i : BankIx) : (s.faultOff c set).bank i = s.bank i := by
  rw [State.faultOff_frame]; rfl
@[simp] theorem State.faultOff_pdChan (c : Ch) (set : Causes → Causes) (i : Ch) : (s.faultOff c set).pdChan i = s.pdChan i := by
  rw [State.faultOff_frame]; rfl
@[simp] theorem State.faultOff_pdBank (c : Ch) (set : Causes → Causes) (i : BankIx) : (s.faultOff c set).pdBank i = s.pdBank i := by
  rw [State.faultOff_frame]; rfl
@[simp] theorem State.faultOff_fb (c : Ch) (set : Causes → Causes) (i : Ch) : (s.faultOff c set).fb i = s.fb i := by
  rw [State.faultOff_frame]; rfl
@[simp] theorem State.faultOff_rule (c : Ch) (set : Causes → Causes) (i : RuleIx) : (s.faultOff c set).rule i = s.rule i := by
  rw [State.faultOff_frame]; rfl
@[simp] theorem State.faultOff_modu (c : Ch) (set : Causes → Causes) (i : ModIx) : (s.faultOff c set).modu i = s.modu i := by
  rw [State.faultOff_frame]; rfl
@[simp] theorem State.faultOff_gb (c : Ch) (set : Causes → Causes) (i : EntryIx) : (s.faultOff c set).gb i = s.gb i := by
  rw [State.faultOff_frame]; rfl
@[simp] theorem State.faultOff_flt (c : Ch) (set : Causes → Causes) (i : FltIx) : (s.faultOff c set).flt i = s.flt i := by
  rw [State.faultOff_frame]; rfl
@[simp] theorem State.faultOff_can (c : Ch) (set : Causes → Causes) (i : CanIx) : (s.faultOff c set).can i = s.can i := by
  rw [State.faultOff_frame]; rfl
@[simp] theorem State.faultOff_aux (c : Ch) (set : Causes → Causes) (i : AuxIx) : (s.faultOff c set).aux i = s.aux i := by
  rw [State.faultOff_frame]; rfl
@[simp] theorem State.faultOff_trip (c : Ch) (set : Causes → Causes) (i : TripIx) : (s.faultOff c set).trip i = s.trip i := by
  rw [State.faultOff_frame]; rfl
@[simp] theorem State.faultOff_par (c : Ch) (set : Causes → Causes) (x y : Nat) : (s.faultOff c set).par x y = s.par x y := by
  rw [State.faultOff_frame]; rfl
@[simp] theorem State.faultOff_hwOn (c : Ch) (set : Causes → Causes) : (s.faultOff c set).hwOn = s.hwOn := by rw [State.faultOff_frame]; rfl
@[simp] theorem State.faultOff_fwOn (c : Ch) (set : Causes → Causes) : (s.faultOff c set).fwOn = s.fwOn := by rw [State.faultOff_frame]; rfl
@[simp] theorem State.faultOff_caps (c : Ch) (set : Causes → Causes) : (s.faultOff c set).caps = s.caps := by rw [State.faultOff_frame]; rfl

/-- A fault that does not allow motion: in DISABLED nothing, in PARKED the cause alone, elsewhere FAULT with the FETs off and
every motion ended (R67, R82, R170). -/
theorem State.faultOff_chan_same (c : Ch) (set : Causes → Causes) :
    (s.faultOff c set).chan c =
      match (s.chan c).state with
      | .disabled => s.chan c
      | .parked => { s.chan c with causes := set (s.chan c).causes }
      | _ => { (s.chan c).endMotion with state := .fault, fetsOff := true, causes := set (s.chan c).causes, solo := false,
                                          policy := false } := by
  have parked : (s.chan c).state = .parked → (s.faultOff c set).chan c = { s.chan c with causes := set (s.chan c).causes } := by
    intro h
    simp [State.faultOff, h]
  cases h : (s.chan c).state
  case parked => exact parked h
  all_goals
    unfold State.faultOff
    simp only [h]
    try
      (split
       · rw [State.onChan_chan_same, State.leaveGroup_chan]
       · rw [State.partnerOff_chan _ _ _ _ (twinOf_ne c), State.onChan_chan_same, State.leaveGroup_chan])

/-- It leaves every channel but the twin as it was. -/
theorem State.faultOff_chan_other (c d : Ch) (set : Causes → Causes) (h : d ≠ c) (ht : d ≠ twinOf c ∨ s.isTwin c = false) :
    (s.faultOff c set).chan d = s.chan d := by
  unfold State.faultOff
  dsimp only
  split
  · rfl
  · rw [State.onCauses_chan]; simp [h]
  · split
    · rw [State.onChan_chan_other _ _ _ _ h, State.leaveGroup_chan]
    · rcases ht with ht | ht
      · rw [State.partnerOff_chan _ _ _ _ ht, State.onChan_chan_other _ _ _ _ h, State.leaveGroup_chan]
      · rw [State.partnerOff_untwinned _ _ _ (by exact ht), State.onChan_chan_other _ _ _ _ h, State.leaveGroup_chan]

/-- Parking changes channels, groups and the mailboxes alone (R82, R161). -/
theorem State.parkCh_frame (c : Ch) (n : Nat) :
    s.parkCh c n = { s with chans := (s.parkCh c n).chans, groups := (s.parkCh c n).groups, mbx := (s.parkCh c n).mbx } := by
  unfold State.parkCh
  dsimp only
  split
  · rfl
  · split
    · rw [State.raise_frame]; rfl
    · rw [State.raise_frame]; rfl

@[simp] theorem State.parkCh_pending (c : Ch) (n : Nat) : (s.parkCh c n).pending = s.pending := by
  rw [State.parkCh_frame]
@[simp] theorem State.parkCh_phase (c : Ch) (n : Nat) : (s.parkCh c n).phase = s.phase := by
  rw [State.parkCh_frame]
@[simp] theorem State.parkCh_fc (c : Ch) (n : Nat) : (s.parkCh c n).fc = s.fc := by
  rw [State.parkCh_frame]
@[simp] theorem State.parkCh_runFc (c : Ch) (n : Nat) : (s.parkCh c n).runFc = s.runFc := by
  rw [State.parkCh_frame]
@[simp] theorem State.parkCh_time (c : Ch) (n : Nat) : (s.parkCh c n).time = s.time := by
  rw [State.parkCh_frame]
@[simp] theorem State.parkCh_timeFrac (c : Ch) (n : Nat) : (s.parkCh c n).timeFrac = s.timeFrac := by
  rw [State.parkCh_frame]
@[simp] theorem State.parkCh_slotTime (c : Ch) (n : Nat) : (s.parkCh c n).slotTime = s.slotTime := by
  rw [State.parkCh_frame]
@[simp] theorem State.parkCh_istep (c : Ch) (n : Nat) : (s.parkCh c n).istep = s.istep := by
  rw [State.parkCh_frame]
@[simp] theorem State.parkCh_pulses (c : Ch) (n : Nat) : (s.parkCh c n).pulses = s.pulses := by
  rw [State.parkCh_frame]
@[simp] theorem State.parkCh_params (c : Ch) (n : Nat) : (s.parkCh c n).params = s.params := by
  rw [State.parkCh_frame]
@[simp] theorem State.parkCh_pairs (c : Ch) (n : Nat) : (s.parkCh c n).pairs = s.pairs := by
  rw [State.parkCh_frame]
@[simp] theorem State.parkCh_banks (c : Ch) (n : Nat) : (s.parkCh c n).banks = s.banks := by
  rw [State.parkCh_frame]
@[simp] theorem State.parkCh_pd (c : Ch) (n : Nat) : (s.parkCh c n).pd = s.pd := by
  rw [State.parkCh_frame]
@[simp] theorem State.parkCh_link (c : Ch) (n : Nat) : (s.parkCh c n).link = s.link := by
  rw [State.parkCh_frame]
@[simp] theorem State.parkCh_fbs (c : Ch) (n : Nat) : (s.parkCh c n).fbs = s.fbs := by
  rw [State.parkCh_frame]
@[simp] theorem State.parkCh_rules (c : Ch) (n : Nat) : (s.parkCh c n).rules = s.rules := by
  rw [State.parkCh_frame]
@[simp] theorem State.parkCh_modClk (c : Ch) (n : Nat) : (s.parkCh c n).modClk = s.modClk := by
  rw [State.parkCh_frame]
@[simp] theorem State.parkCh_slotFc (c : Ch) (n : Nat) : (s.parkCh c n).slotFc = s.slotFc := by
  rw [State.parkCh_frame]
@[simp] theorem State.parkCh_lostClks (c : Ch) (n : Nat) : (s.parkCh c n).lostClks = s.lostClks := by
  rw [State.parkCh_frame]
@[simp] theorem State.parkCh_mods (c : Ch) (n : Nat) : (s.parkCh c n).mods = s.mods := by
  rw [State.parkCh_frame]
@[simp] theorem State.parkCh_entries (c : Ch) (n : Nat) : (s.parkCh c n).entries = s.entries := by
  rw [State.parkCh_frame]
@[simp] theorem State.parkCh_gbs (c : Ch) (n : Nat) : (s.parkCh c n).gbs = s.gbs := by
  rw [State.parkCh_frame]
@[simp] theorem State.parkCh_flts (c : Ch) (n : Nat) : (s.parkCh c n).flts = s.flts := by
  rw [State.parkCh_frame]
@[simp] theorem State.parkCh_cmps (c : Ch) (n : Nat) : (s.parkCh c n).cmps = s.cmps := by
  rw [State.parkCh_frame]
@[simp] theorem State.parkCh_cans (c : Ch) (n : Nat) : (s.parkCh c n).cans = s.cans := by
  rw [State.parkCh_frame]
@[simp] theorem State.parkCh_auxs (c : Ch) (n : Nat) : (s.parkCh c n).auxs = s.auxs := by
  rw [State.parkCh_frame]
@[simp] theorem State.parkCh_trips (c : Ch) (n : Nat) : (s.parkCh c n).trips = s.trips := by
  rw [State.parkCh_frame]
@[simp] theorem State.parkCh_hp (c : Ch) (n : Nat) : (s.parkCh c n).hp = s.hp := by
  rw [State.parkCh_frame]
@[simp] theorem State.parkCh_boot (c : Ch) (n : Nat) : (s.parkCh c n).boot = s.boot := by
  rw [State.parkCh_frame]
@[simp] theorem State.parkCh_power (c : Ch) (n : Nat) : (s.parkCh c n).power = s.power := by
  rw [State.parkCh_frame]
@[simp] theorem State.parkCh_sec (c : Ch) (n : Nat) : (s.parkCh c n).sec = s.sec := by
  rw [State.parkCh_frame]
@[simp] theorem State.parkCh_otp (c : Ch) (n : Nat) : (s.parkCh c n).otp = s.otp := by
  rw [State.parkCh_frame]
@[simp] theorem State.parkCh_bank (c : Ch) (n : Nat) (i : BankIx) : (s.parkCh c n).bank i = s.bank i := by
  rw [State.parkCh_frame]; rfl
@[simp] theorem State.parkCh_pdChan (c : Ch) (n : Nat) (i : Ch) : (s.parkCh c n).pdChan i = s.pdChan i := by
  rw [State.parkCh_frame]; rfl
@[simp] theorem State.parkCh_pdBank (c : Ch) (n : Nat) (i : BankIx) : (s.parkCh c n).pdBank i = s.pdBank i := by
  rw [State.parkCh_frame]; rfl
@[simp] theorem State.parkCh_fb (c : Ch) (n : Nat) (i : Ch) : (s.parkCh c n).fb i = s.fb i := by
  rw [State.parkCh_frame]; rfl
@[simp] theorem State.parkCh_rule (c : Ch) (n : Nat) (i : RuleIx) : (s.parkCh c n).rule i = s.rule i := by
  rw [State.parkCh_frame]; rfl
@[simp] theorem State.parkCh_modu (c : Ch) (n : Nat) (i : ModIx) : (s.parkCh c n).modu i = s.modu i := by
  rw [State.parkCh_frame]; rfl
@[simp] theorem State.parkCh_gb (c : Ch) (n : Nat) (i : EntryIx) : (s.parkCh c n).gb i = s.gb i := by
  rw [State.parkCh_frame]; rfl
@[simp] theorem State.parkCh_flt (c : Ch) (n : Nat) (i : FltIx) : (s.parkCh c n).flt i = s.flt i := by
  rw [State.parkCh_frame]; rfl
@[simp] theorem State.parkCh_can (c : Ch) (n : Nat) (i : CanIx) : (s.parkCh c n).can i = s.can i := by
  rw [State.parkCh_frame]; rfl
@[simp] theorem State.parkCh_aux (c : Ch) (n : Nat) (i : AuxIx) : (s.parkCh c n).aux i = s.aux i := by
  rw [State.parkCh_frame]; rfl
@[simp] theorem State.parkCh_trip (c : Ch) (n : Nat) (i : TripIx) : (s.parkCh c n).trip i = s.trip i := by
  rw [State.parkCh_frame]; rfl
@[simp] theorem State.parkCh_par (c : Ch) (n : Nat) (x y : Nat) : (s.parkCh c n).par x y = s.par x y := by
  rw [State.parkCh_frame]; rfl
@[simp] theorem State.parkCh_hwOn (c : Ch) (n : Nat) : (s.parkCh c n).hwOn = s.hwOn := by rw [State.parkCh_frame]; rfl
@[simp] theorem State.parkCh_fwOn (c : Ch) (n : Nat) : (s.parkCh c n).fwOn = s.fwOn := by rw [State.parkCh_frame]; rfl
@[simp] theorem State.parkCh_caps (c : Ch) (n : Nat) : (s.parkCh c n).caps = s.caps := by rw [State.parkCh_frame]; rfl

/-- A fault that allows motion changes the channels alone (R64, R82, R114). -/
theorem State.faultMotion_frame (c : Ch) (set : Causes → Causes) :
    s.faultMotion c set = { s with chans := (s.faultMotion c set).chans } := by
  unfold State.faultMotion
  dsimp only
  split
  · split <;> rfl
  · rfl

@[simp] theorem State.faultMotion_pending (c : Ch) (set : Causes → Causes) : (s.faultMotion c set).pending = s.pending := by
  rw [State.faultMotion_frame]
@[simp] theorem State.faultMotion_phase (c : Ch) (set : Causes → Causes) : (s.faultMotion c set).phase = s.phase := by
  rw [State.faultMotion_frame]
@[simp] theorem State.faultMotion_fc (c : Ch) (set : Causes → Causes) : (s.faultMotion c set).fc = s.fc := by
  rw [State.faultMotion_frame]
@[simp] theorem State.faultMotion_runFc (c : Ch) (set : Causes → Causes) : (s.faultMotion c set).runFc = s.runFc := by
  rw [State.faultMotion_frame]
@[simp] theorem State.faultMotion_time (c : Ch) (set : Causes → Causes) : (s.faultMotion c set).time = s.time := by
  rw [State.faultMotion_frame]
@[simp] theorem State.faultMotion_timeFrac (c : Ch) (set : Causes → Causes) : (s.faultMotion c set).timeFrac = s.timeFrac := by
  rw [State.faultMotion_frame]
@[simp] theorem State.faultMotion_slotTime (c : Ch) (set : Causes → Causes) : (s.faultMotion c set).slotTime = s.slotTime := by
  rw [State.faultMotion_frame]
@[simp] theorem State.faultMotion_istep (c : Ch) (set : Causes → Causes) : (s.faultMotion c set).istep = s.istep := by
  rw [State.faultMotion_frame]
@[simp] theorem State.faultMotion_pulses (c : Ch) (set : Causes → Causes) : (s.faultMotion c set).pulses = s.pulses := by
  rw [State.faultMotion_frame]
@[simp] theorem State.faultMotion_params (c : Ch) (set : Causes → Causes) : (s.faultMotion c set).params = s.params := by
  rw [State.faultMotion_frame]
@[simp] theorem State.faultMotion_pairs (c : Ch) (set : Causes → Causes) : (s.faultMotion c set).pairs = s.pairs := by
  rw [State.faultMotion_frame]
@[simp] theorem State.faultMotion_groups (c : Ch) (set : Causes → Causes) : (s.faultMotion c set).groups = s.groups := by
  rw [State.faultMotion_frame]
@[simp] theorem State.faultMotion_banks (c : Ch) (set : Causes → Causes) : (s.faultMotion c set).banks = s.banks := by
  rw [State.faultMotion_frame]
@[simp] theorem State.faultMotion_pd (c : Ch) (set : Causes → Causes) : (s.faultMotion c set).pd = s.pd := by
  rw [State.faultMotion_frame]
@[simp] theorem State.faultMotion_link (c : Ch) (set : Causes → Causes) : (s.faultMotion c set).link = s.link := by
  rw [State.faultMotion_frame]
@[simp] theorem State.faultMotion_fbs (c : Ch) (set : Causes → Causes) : (s.faultMotion c set).fbs = s.fbs := by
  rw [State.faultMotion_frame]
@[simp] theorem State.faultMotion_rules (c : Ch) (set : Causes → Causes) : (s.faultMotion c set).rules = s.rules := by
  rw [State.faultMotion_frame]
@[simp] theorem State.faultMotion_modClk (c : Ch) (set : Causes → Causes) : (s.faultMotion c set).modClk = s.modClk := by
  rw [State.faultMotion_frame]
@[simp] theorem State.faultMotion_slotFc (c : Ch) (set : Causes → Causes) : (s.faultMotion c set).slotFc = s.slotFc := by
  rw [State.faultMotion_frame]
@[simp] theorem State.faultMotion_lostClks (c : Ch) (set : Causes → Causes) : (s.faultMotion c set).lostClks = s.lostClks := by
  rw [State.faultMotion_frame]
@[simp] theorem State.faultMotion_mods (c : Ch) (set : Causes → Causes) : (s.faultMotion c set).mods = s.mods := by
  rw [State.faultMotion_frame]
@[simp] theorem State.faultMotion_entries (c : Ch) (set : Causes → Causes) : (s.faultMotion c set).entries = s.entries := by
  rw [State.faultMotion_frame]
@[simp] theorem State.faultMotion_gbs (c : Ch) (set : Causes → Causes) : (s.faultMotion c set).gbs = s.gbs := by
  rw [State.faultMotion_frame]
@[simp] theorem State.faultMotion_flts (c : Ch) (set : Causes → Causes) : (s.faultMotion c set).flts = s.flts := by
  rw [State.faultMotion_frame]
@[simp] theorem State.faultMotion_cmps (c : Ch) (set : Causes → Causes) : (s.faultMotion c set).cmps = s.cmps := by
  rw [State.faultMotion_frame]
@[simp] theorem State.faultMotion_cans (c : Ch) (set : Causes → Causes) : (s.faultMotion c set).cans = s.cans := by
  rw [State.faultMotion_frame]
@[simp] theorem State.faultMotion_auxs (c : Ch) (set : Causes → Causes) : (s.faultMotion c set).auxs = s.auxs := by
  rw [State.faultMotion_frame]
@[simp] theorem State.faultMotion_trips (c : Ch) (set : Causes → Causes) : (s.faultMotion c set).trips = s.trips := by
  rw [State.faultMotion_frame]
@[simp] theorem State.faultMotion_mbx (c : Ch) (set : Causes → Causes) : (s.faultMotion c set).mbx = s.mbx := by
  rw [State.faultMotion_frame]
@[simp] theorem State.faultMotion_hp (c : Ch) (set : Causes → Causes) : (s.faultMotion c set).hp = s.hp := by
  rw [State.faultMotion_frame]
@[simp] theorem State.faultMotion_boot (c : Ch) (set : Causes → Causes) : (s.faultMotion c set).boot = s.boot := by
  rw [State.faultMotion_frame]
@[simp] theorem State.faultMotion_power (c : Ch) (set : Causes → Causes) : (s.faultMotion c set).power = s.power := by
  rw [State.faultMotion_frame]
@[simp] theorem State.faultMotion_sec (c : Ch) (set : Causes → Causes) : (s.faultMotion c set).sec = s.sec := by
  rw [State.faultMotion_frame]
@[simp] theorem State.faultMotion_otp (c : Ch) (set : Causes → Causes) : (s.faultMotion c set).otp = s.otp := by
  rw [State.faultMotion_frame]
@[simp] theorem State.faultMotion_bank (c : Ch) (set : Causes → Causes) (i : BankIx) : (s.faultMotion c set).bank i = s.bank i := by
  rw [State.faultMotion_frame]; rfl
@[simp] theorem State.faultMotion_pdChan (c : Ch) (set : Causes → Causes) (i : Ch) : (s.faultMotion c set).pdChan i = s.pdChan i := by
  rw [State.faultMotion_frame]; rfl
@[simp] theorem State.faultMotion_pdBank (c : Ch) (set : Causes → Causes) (i : BankIx) : (s.faultMotion c set).pdBank i = s.pdBank i := by
  rw [State.faultMotion_frame]; rfl
@[simp] theorem State.faultMotion_fb (c : Ch) (set : Causes → Causes) (i : Ch) : (s.faultMotion c set).fb i = s.fb i := by
  rw [State.faultMotion_frame]; rfl
@[simp] theorem State.faultMotion_rule (c : Ch) (set : Causes → Causes) (i : RuleIx) : (s.faultMotion c set).rule i = s.rule i := by
  rw [State.faultMotion_frame]; rfl
@[simp] theorem State.faultMotion_modu (c : Ch) (set : Causes → Causes) (i : ModIx) : (s.faultMotion c set).modu i = s.modu i := by
  rw [State.faultMotion_frame]; rfl
@[simp] theorem State.faultMotion_gb (c : Ch) (set : Causes → Causes) (i : EntryIx) : (s.faultMotion c set).gb i = s.gb i := by
  rw [State.faultMotion_frame]; rfl
@[simp] theorem State.faultMotion_flt (c : Ch) (set : Causes → Causes) (i : FltIx) : (s.faultMotion c set).flt i = s.flt i := by
  rw [State.faultMotion_frame]; rfl
@[simp] theorem State.faultMotion_can (c : Ch) (set : Causes → Causes) (i : CanIx) : (s.faultMotion c set).can i = s.can i := by
  rw [State.faultMotion_frame]; rfl
@[simp] theorem State.faultMotion_aux (c : Ch) (set : Causes → Causes) (i : AuxIx) : (s.faultMotion c set).aux i = s.aux i := by
  rw [State.faultMotion_frame]; rfl
@[simp] theorem State.faultMotion_trip (c : Ch) (set : Causes → Causes) (i : TripIx) : (s.faultMotion c set).trip i = s.trip i := by
  rw [State.faultMotion_frame]; rfl
@[simp] theorem State.faultMotion_par (c : Ch) (set : Causes → Causes) (x y : Nat) : (s.faultMotion c set).par x y = s.par x y := by
  rw [State.faultMotion_frame]; rfl
@[simp] theorem State.faultMotion_hwOn (c : Ch) (set : Causes → Causes) : (s.faultMotion c set).hwOn = s.hwOn := by rw [State.faultMotion_frame]; rfl
@[simp] theorem State.faultMotion_fwOn (c : Ch) (set : Causes → Causes) : (s.faultMotion c set).fwOn = s.fwOn := by rw [State.faultMotion_frame]; rfl
@[simp] theorem State.faultMotion_caps (c : Ch) (set : Causes → Causes) : (s.faultMotion c set).caps = s.caps := by rw [State.faultMotion_frame]; rfl

/-- On an untwinned channel it latches the cause and asks for the ramp stop, where the channel is energised. -/
theorem State.faultMotion_untwinned (c : Ch) (set : Causes → Causes) (h : s.isTwin c = false) :
    s.faultMotion c set = if s.energised c then s.onChan c fun k => k.faultStop set else s := by
  simp [State.faultMotion, State.pairEnergised, State.paired, h]

/-- The end of a stop is a pulse and an event. -/
theorem State.stopDone_frame (c : Ch) (k : StopCause) :
    s.stopDone c k = { s with pulses := (s.stopDone c k).pulses, mbx := (s.stopDone c k).mbx } := by
  unfold State.stopDone
  rw [State.raise_frame, State.chPulse_frame]

@[simp] theorem State.stopDone_pending (c : Ch) (k : StopCause) : (s.stopDone c k).pending = s.pending := by
  rw [State.stopDone_frame]
@[simp] theorem State.stopDone_phase (c : Ch) (k : StopCause) : (s.stopDone c k).phase = s.phase := by
  rw [State.stopDone_frame]
@[simp] theorem State.stopDone_fc (c : Ch) (k : StopCause) : (s.stopDone c k).fc = s.fc := by
  rw [State.stopDone_frame]
@[simp] theorem State.stopDone_runFc (c : Ch) (k : StopCause) : (s.stopDone c k).runFc = s.runFc := by
  rw [State.stopDone_frame]
@[simp] theorem State.stopDone_time (c : Ch) (k : StopCause) : (s.stopDone c k).time = s.time := by
  rw [State.stopDone_frame]
@[simp] theorem State.stopDone_timeFrac (c : Ch) (k : StopCause) : (s.stopDone c k).timeFrac = s.timeFrac := by
  rw [State.stopDone_frame]
@[simp] theorem State.stopDone_slotTime (c : Ch) (k : StopCause) : (s.stopDone c k).slotTime = s.slotTime := by
  rw [State.stopDone_frame]
@[simp] theorem State.stopDone_istep (c : Ch) (k : StopCause) : (s.stopDone c k).istep = s.istep := by
  rw [State.stopDone_frame]
@[simp] theorem State.stopDone_params (c : Ch) (k : StopCause) : (s.stopDone c k).params = s.params := by
  rw [State.stopDone_frame]
@[simp] theorem State.stopDone_chans (c : Ch) (k : StopCause) : (s.stopDone c k).chans = s.chans := by
  rw [State.stopDone_frame]
@[simp] theorem State.stopDone_pairs (c : Ch) (k : StopCause) : (s.stopDone c k).pairs = s.pairs := by
  rw [State.stopDone_frame]
@[simp] theorem State.stopDone_groups (c : Ch) (k : StopCause) : (s.stopDone c k).groups = s.groups := by
  rw [State.stopDone_frame]
@[simp] theorem State.stopDone_banks (c : Ch) (k : StopCause) : (s.stopDone c k).banks = s.banks := by
  rw [State.stopDone_frame]
@[simp] theorem State.stopDone_pd (c : Ch) (k : StopCause) : (s.stopDone c k).pd = s.pd := by
  rw [State.stopDone_frame]
@[simp] theorem State.stopDone_link (c : Ch) (k : StopCause) : (s.stopDone c k).link = s.link := by
  rw [State.stopDone_frame]
@[simp] theorem State.stopDone_fbs (c : Ch) (k : StopCause) : (s.stopDone c k).fbs = s.fbs := by
  rw [State.stopDone_frame]
@[simp] theorem State.stopDone_rules (c : Ch) (k : StopCause) : (s.stopDone c k).rules = s.rules := by
  rw [State.stopDone_frame]
@[simp] theorem State.stopDone_modClk (c : Ch) (k : StopCause) : (s.stopDone c k).modClk = s.modClk := by
  rw [State.stopDone_frame]
@[simp] theorem State.stopDone_slotFc (c : Ch) (k : StopCause) : (s.stopDone c k).slotFc = s.slotFc := by
  rw [State.stopDone_frame]
@[simp] theorem State.stopDone_lostClks (c : Ch) (k : StopCause) : (s.stopDone c k).lostClks = s.lostClks := by
  rw [State.stopDone_frame]
@[simp] theorem State.stopDone_mods (c : Ch) (k : StopCause) : (s.stopDone c k).mods = s.mods := by
  rw [State.stopDone_frame]
@[simp] theorem State.stopDone_entries (c : Ch) (k : StopCause) : (s.stopDone c k).entries = s.entries := by
  rw [State.stopDone_frame]
@[simp] theorem State.stopDone_gbs (c : Ch) (k : StopCause) : (s.stopDone c k).gbs = s.gbs := by
  rw [State.stopDone_frame]
@[simp] theorem State.stopDone_flts (c : Ch) (k : StopCause) : (s.stopDone c k).flts = s.flts := by
  rw [State.stopDone_frame]
@[simp] theorem State.stopDone_cmps (c : Ch) (k : StopCause) : (s.stopDone c k).cmps = s.cmps := by
  rw [State.stopDone_frame]
@[simp] theorem State.stopDone_cans (c : Ch) (k : StopCause) : (s.stopDone c k).cans = s.cans := by
  rw [State.stopDone_frame]
@[simp] theorem State.stopDone_auxs (c : Ch) (k : StopCause) : (s.stopDone c k).auxs = s.auxs := by
  rw [State.stopDone_frame]
@[simp] theorem State.stopDone_trips (c : Ch) (k : StopCause) : (s.stopDone c k).trips = s.trips := by
  rw [State.stopDone_frame]
@[simp] theorem State.stopDone_hp (c : Ch) (k : StopCause) : (s.stopDone c k).hp = s.hp := by
  rw [State.stopDone_frame]
@[simp] theorem State.stopDone_boot (c : Ch) (k : StopCause) : (s.stopDone c k).boot = s.boot := by
  rw [State.stopDone_frame]
@[simp] theorem State.stopDone_power (c : Ch) (k : StopCause) : (s.stopDone c k).power = s.power := by
  rw [State.stopDone_frame]
@[simp] theorem State.stopDone_sec (c : Ch) (k : StopCause) : (s.stopDone c k).sec = s.sec := by
  rw [State.stopDone_frame]
@[simp] theorem State.stopDone_otp (c : Ch) (k : StopCause) : (s.stopDone c k).otp = s.otp := by
  rw [State.stopDone_frame]
@[simp] theorem State.stopDone_chan (c : Ch) (k : StopCause) (i : Ch) : (s.stopDone c k).chan i = s.chan i := by
  rw [State.stopDone_frame]; rfl
@[simp] theorem State.stopDone_bank (c : Ch) (k : StopCause) (i : BankIx) : (s.stopDone c k).bank i = s.bank i := by
  rw [State.stopDone_frame]; rfl
@[simp] theorem State.stopDone_pdChan (c : Ch) (k : StopCause) (i : Ch) : (s.stopDone c k).pdChan i = s.pdChan i := by
  rw [State.stopDone_frame]; rfl
@[simp] theorem State.stopDone_pdBank (c : Ch) (k : StopCause) (i : BankIx) : (s.stopDone c k).pdBank i = s.pdBank i := by
  rw [State.stopDone_frame]; rfl
@[simp] theorem State.stopDone_fb (c : Ch) (k : StopCause) (i : Ch) : (s.stopDone c k).fb i = s.fb i := by
  rw [State.stopDone_frame]; rfl
@[simp] theorem State.stopDone_rule (c : Ch) (k : StopCause) (i : RuleIx) : (s.stopDone c k).rule i = s.rule i := by
  rw [State.stopDone_frame]; rfl
@[simp] theorem State.stopDone_modu (c : Ch) (k : StopCause) (i : ModIx) : (s.stopDone c k).modu i = s.modu i := by
  rw [State.stopDone_frame]; rfl
@[simp] theorem State.stopDone_gb (c : Ch) (k : StopCause) (i : EntryIx) : (s.stopDone c k).gb i = s.gb i := by
  rw [State.stopDone_frame]; rfl
@[simp] theorem State.stopDone_flt (c : Ch) (k : StopCause) (i : FltIx) : (s.stopDone c k).flt i = s.flt i := by
  rw [State.stopDone_frame]; rfl
@[simp] theorem State.stopDone_can (c : Ch) (k : StopCause) (i : CanIx) : (s.stopDone c k).can i = s.can i := by
  rw [State.stopDone_frame]; rfl
@[simp] theorem State.stopDone_aux (c : Ch) (k : StopCause) (i : AuxIx) : (s.stopDone c k).aux i = s.aux i := by
  rw [State.stopDone_frame]; rfl
@[simp] theorem State.stopDone_trip (c : Ch) (k : StopCause) (i : TripIx) : (s.stopDone c k).trip i = s.trip i := by
  rw [State.stopDone_frame]; rfl
@[simp] theorem State.stopDone_par (c : Ch) (k : StopCause) (x y : Nat) : (s.stopDone c k).par x y = s.par x y := by
  rw [State.stopDone_frame]; rfl
@[simp] theorem State.stopDone_hwOn (c : Ch) (k : StopCause) : (s.stopDone c k).hwOn = s.hwOn := by rw [State.stopDone_frame]; rfl
@[simp] theorem State.stopDone_fwOn (c : Ch) (k : StopCause) : (s.stopDone c k).fwOn = s.fwOn := by rw [State.stopDone_frame]; rfl
@[simp] theorem State.stopDone_caps (c : Ch) (k : StopCause) : (s.stopDone c k).caps = s.caps := by rw [State.stopDone_frame]; rfl

/-! ### Duty entries -/

/-- The bits of a packed duty entry (R24). -/
theorem DutyEntry.pack_bit (e : DutyEntry) (i : Nat) :
    e.pack.getLsbD i =
      if i < 25 then e.d1.getLsbD i else if i < 50 then e.d2.getLsbD (i - 25) else if i < 75 then e.d3.getLsbD (i - 50)
      else if i < 100 then e.d4.getLsbD (i - 75) else if i = 100 then e.gateEn else if i = 101 then e.listen
      else if i = 102 then e.test else false := by
  obtain ⟨t, l, g, d4, d3, d2, d1⟩ := e
  have bit : ∀ (n : Nat) (b : Bool), (BitVec.ofBool b).getLsbD n = (decide (n = 0) && b) := by
    intro n b
    cases n <;> cases b <;> simp [BitVec.ofBool]
  show BitVec.getLsbD (w := 1 + 1 + 1 + 1 + 25 + 25 + 25 + 25) (BitVec.ofBool false ++ BitVec.ofBool t ++ BitVec.ofBool l ++
    BitVec.ofBool g ++ d4 ++ d3 ++ d2 ++ d1) i = _
  simp only [BitVec.getLsbD_append, bit, Nat.sub_sub]
  repeat' split
  all_goals first | rfl | omega | simp; try omega

/-- A duty entry survives its 104 bits, whose reserved bit is 0 (R24). -/
theorem DutyEntry.unpack_pack (e : DutyEntry) : DutyEntry.unpack e.pack = e ∧ e.pack.getLsbD 103 = false := by
  refine ⟨?_, by rw [DutyEntry.pack_bit]; rfl⟩
  have word : ∀ (n : Nat) (d : BitVec 25), (∀ i, i < 25 → e.pack.getLsbD (n + i) = d.getLsbD i) →
      e.pack.extractLsb' n 25 = d := by
    intro n d h
    apply BitVec.eq_of_getLsbD_eq
    intro i hi
    rw [BitVec.getLsbD_extractLsb', h i hi]
    simp [hi]
  have e4 := word 75 e.d4 fun i hi => by rw [DutyEntry.pack_bit]; repeat' split <;> first | omega | simp
  have e3 := word 50 e.d3 fun i hi => by rw [DutyEntry.pack_bit]; repeat' split <;> first | omega | simp
  have e2 := word 25 e.d2 fun i hi => by rw [DutyEntry.pack_bit]; repeat' split <;> first | omega | simp
  have e1 := word 0 e.d1 fun i hi => by rw [DutyEntry.pack_bit]; repeat' split <;> first | omega | simp
  simp only [DutyEntry.unpack, e4, e3, e2, e1, DutyEntry.pack_bit]
  rfl

end Sys2Proof.Machine
end

