-- ==== Sys2Proof/Laws/Frames.lean ====
section
/-! SUPPORT. What is laid out reads back: bytes of a number, the lanes of the host port, the superframes of the link. -/

namespace Sys2Proof.Machine

/-! ### Bytes -/

@[simp] theorem leBytes_length (n v : Nat) : (leBytes n v).length = n := by
  induction n generalizing v with
  | zero => rfl
  | succ n ih => simp [leBytes, ih]

/-- Little-endian bytes spell their number, cut to the field. -/
theorem leNat_leBytes (n v : Nat) : leNat (leBytes n v) = v % 256 ^ n := by
  induction n generalizing v with
  | zero => simp [leBytes, leNat, Nat.mod_one]
  | succ n ih =>
    simp only [leBytes, leNat, ih, BitVec.toNat_ofNat]
    rw [show (256 : Nat) ^ (n + 1) = 256 * 256 ^ n by ring, Nat.mod_mul]

@[simp] theorem padTo_length (n : Nat) (bs : List Byte) : (padTo n bs).length = n := by
  simp only [padTo, List.length_take, List.length_append, List.length_replicate]; omega

/-- A field that lies in front of what follows. -/
theorem slice_append_left {a b : List Byte} {i n : Nat} (h : i + n ≤ a.length) : slice (a ++ b) i n = slice a i n := by
  unfold slice
  rw [List.drop_append_of_le_length (by omega), List.take_append_of_le_length (by simp; omega)]

/-- A field that lies behind what precedes. -/
theorem slice_append_right {a b : List Byte} {i n : Nat} (h : a.length ≤ i) : slice (a ++ b) i n = slice b (i - a.length) n := by
  unfold slice
  rw [List.drop_append, List.drop_eq_nil_of_le h, List.nil_append]

theorem slice_all {a : List Byte} {n : Nat} (h : a.length = n) : slice a 0 n = a := by
  simp [slice, ← h]

/-- Field `i` of fields of one length. -/
theorem slice_flatMap {α : Type} {k : Nat} {f : α → List Byte} (hf : ∀ a, (f a).length = k) (xs : List α) (i : Nat) :
    slice (xs.flatMap f) (k * i) k = (xs[i]?.map f).getD [] := by
  induction xs generalizing i with
  | nil => simp [slice]
  | cons x xs ih =>
    cases i with
    | zero =>
      rw [List.flatMap_cons, Nat.mul_zero, slice_append_left (by simp [hf]), slice_all (hf x)]
      rfl
    | succ i =>
      rw [List.flatMap_cons, slice_append_right (by rw [hf, Nat.mul_succ]; omega), hf, Nat.mul_succ, Nat.add_sub_cancel, ih]
      rfl

theorem flatMap_length {α : Type} {k : Nat} {f : α → List Byte} (hf : ∀ a, (f a).length = k) (xs : List α) :
    (xs.flatMap f).length = k * xs.length := by
  induction xs with
  | nil => rfl
  | cons x xs ih => rw [List.flatMap_cons, List.length_append, hf, ih, List.length_cons]; ring

theorem byteAt_append_left {a b : List Byte} {i : Nat} (h : i < a.length) : byteAt (a ++ b) i = byteAt a i := by
  simp [byteAt, List.getD, List.getElem?_append_left h]

/-! ### The link (R22 to R26) -/

/-- Undisturbed characters arrive as they were sent. -/
@[simp] theorem noisy_nil (place : Nat → Nat) (bs : List Byte) : noisy place [] bs = bs := by
  have h : ∀ xs : List Byte, xs.mapIdx (fun _ b => b) = xs := fun xs => by
    apply List.ext_getElem? ; intro i; simp
  simpa [noisy] using h bs

/-- The CRC-32C behind a field holds. -/
theorem sealOk_sealed (bs : List Byte) {n : Nat} (h : bs.length = n) : sealOk n (sealed bs) = true := by
  have h1 : (sealed bs).take n = bs := by simp [sealed, ← h]
  have h2 : field (sealed bs) n 4 = (crc32c bs).toNat := by
    rw [field, sealed, slice_append_right (by omega), h, Nat.sub_self, slice_all (by simp), leNat_leBytes]
    exact Nat.mod_eq_of_lt (crc32c bs).isLt
  simp [sealOk, h1, h2]

/-- A disturbed first character of the CRC-32C, and none before it, is found. -/
theorem sealOk_spoilt {place : Nat → Nat} {n : Nat} {x : Byte} (bs : List Byte) (h : bs.length = n) (hx : x ≠ 0)
    (hp : ∀ i, i < n → place i ≠ place n) : sealOk n (noisy place [(place n, x)] (sealed bs)) = false := by
  have hb : ∀ i (b : Byte), ([(place n, x)].filter fun p => p.1 == place i).foldl (fun b p => b ^^^ p.2) b =
      if place n = place i then b ^^^ x else b := fun i b => by
    by_cases e : place n = place i <;> simp [e]
  have h1 : (noisy place [(place n, x)] (sealed bs)).take n = bs := by
    apply List.ext_getElem?
    intro i
    by_cases hi : i < n
    · have := (hp i hi).symm
      simp [noisy, hi, sealed, h, this]
    · rw [List.getElem?_eq_none (by simp; omega), List.getElem?_eq_none (by omega)]
  have h2 : byteAt (noisy place [(place n, x)] (sealed bs)) n = BitVec.ofNat 8 (crc32c bs).toNat ^^^ x := by
    simp [byteAt, List.getD, noisy, sealed, ← h, leBytes]
  have h3 : ∀ (l : List Byte) (i : Nat), field l i 4 % 256 = (byteAt l i).toNat := fun l i => by
    rw [field, slice, byteAt, List.getD_eq_getElem?_getD, ← List.head?_drop]
    match l.drop i with
    | [] => rfl
    | b :: _ => simp [leNat]; omega
  simp only [sealOk, h1, beq_eq_false_iff_ne]
  intro e
  apply hx
  have h4 := h3 (noisy place [(place n, x)] (sealed bs)) n
  rw [← e, h2] at h4
  have h5 : BitVec.ofNat 8 (crc32c bs).toNat = BitVec.ofNat 8 (crc32c bs).toNat ^^^ x :=
    BitVec.eq_of_toNat_eq (by rw [← h4, BitVec.toNat_ofNat])
  have h6 := congrArg (BitVec.ofNat 8 (crc32c bs).toNat ^^^ ·) h5
  simpa [← BitVec.xor_assoc] using h6.symm

@[simp] theorem DutyEntry.bytes_length (e : DutyEntry) : e.bytes.length = 13 := by simp [DutyEntry.bytes]

/-- A duty entry reads back from its 13 characters. -/
@[simp] theorem DutyEntry.ofBytes_bytes (e : DutyEntry) : DutyEntry.ofBytes e.bytes = e := by
  have h : leNat e.bytes = e.pack.toNat := by
    rw [DutyEntry.bytes, leNat_leBytes]
    exact Nat.mod_eq_of_lt e.pack.isLt
  rw [DutyEntry.ofBytes, h, BitVec.ofNat_toNat, BitVec.setWidth_eq]
  exact (DutyEntry.unpack_pack e).1

@[simp] theorem CfgWrite.bytes_length (w : CfgWrite) : w.bytes.length = 8 := by simp [CfgWrite.bytes]

/-- Fields behind a header, in front of what follows. -/
theorem slice_middle {a b c : List Byte} {i n : Nat} (h : i + n ≤ b.length) :
    slice (a ++ b ++ c) (a.length + i) n = slice b i n := by
  rw [slice_append_left (by simp; omega), slice_append_right (by omega), Nat.add_sub_cancel_left]

theorem DownFrame.body_length (f : DownFrame) (h : f.entries.length = 24) : f.body.length = 348 := by
  simp [DownFrame.body, flatMap_length DutyEntry.bytes_length, h]

/-- Duty entry of a channel (R24). -/
theorem DownFrame.entryAt_body (f : DownFrame) (c : Ch) (h : f.entries.length = 24) :
    entryAt (sealed f.body) c = f.entries[c.val] := by
  have hc := c.isLt
  have hl := flatMap_length DutyEntry.bytes_length f.entries
  rw [entryAt, sealed, slice_append_left (by rw [f.body_length h]; omega), DownFrame.body,
    show 4 + 13 * c.val = [f.seq, BitVec.ofNat 8 (b2n f.loadA + 2 * b2n f.loadB), f.frameA, f.frameB].length + 13 * c.val from rfl,
    slice_middle (by omega), slice_flatMap DutyEntry.bytes_length, List.getElem?_eq_getElem (by omega)]
  simp

/-- Slot `i` (R23); one that no write fills spells no tag (R493). -/
theorem DownFrame.slotAt_body (f : DownFrame) (i : Nat) (h : f.entries.length = 24) (hi : i < 4) (hs : f.slots.length ≤ 4) :
    slotAt (sealed f.body) i = (f.slots[i]?.map CfgWrite.bytes).getD unusedSlot := by
  have hl := flatMap_length DutyEntry.bytes_length f.entries
  have hk := flatMap_length CfgWrite.bytes_length f.slots
  have hp : padTo 32 (f.slots.flatMap CfgWrite.bytes) =
      f.slots.flatMap CfgWrite.bytes ++ List.replicate (32 - (f.slots.flatMap CfgWrite.bytes).length) 0#8 := by
    rw [padTo, List.take_of_length_le (by simp; omega)]
  have h1 : slotAt (sealed f.body) i = slice (padTo 32 (f.slots.flatMap CfgWrite.bytes)) (8 * i) 8 := by
    rw [slotAt, sealed, slice_append_left (by rw [f.body_length h]; omega), DownFrame.body,
      slice_append_right (by simp [hl, h])]
    simp [hl, h]
  rw [h1, hp]
  by_cases hlt : i < f.slots.length
  · rw [slice_append_left (by omega), slice_flatMap CfgWrite.bytes_length, List.getElem?_eq_getElem hlt]
    rfl
  · rw [slice_append_right (by omega), List.getElem?_eq_none (by omega)]
    unfold slice unusedSlot
    simp only [List.drop_replicate, List.take_replicate, Option.map_none, Option.getD_none]
    rw [show min 8 (32 - (f.slots.flatMap CfgWrite.bytes).length - (8 * i - (f.slots.flatMap CfgWrite.bytes).length)) = 8 by omega]
    rfl

/-- Two codes of 12 bits read back from their 3 characters (R26). -/
theorem codesOf_codeBytes (p : Int × Int) (h : -2048 ≤ p.1 ∧ p.1 ≤ 2047 ∧ -2048 ≤ p.2 ∧ p.2 ≤ 2047) :
    codesOf (codeBytes p) = p := by
  obtain ⟨x, y⟩ := p
  simp only at h
  have hl : leNat (codeBytes (x, y)) = uint 12 x + 4096 * uint 12 y := by
    rw [codeBytes, leNat_leBytes]
    unfold uint
    omega
  rw [codesOf, hl]
  unfold sint uint
  simp only [Prod.mk.injEq]
  constructor <;> split <;> omega

theorem codeBytes_length (p : Int × Int) : (codeBytes p).length = 3 := leBytes_length 3 _

theorem byteAt_append_right {a b : List Byte} {i : Nat} (h : a.length ≤ i) : byteAt (a ++ b) i = byteAt b (i - a.length) := by
  simp [byteAt, List.getD, List.getElem?_append_right h]

theorem UpFrame.body_length (f : UpFrame) (hc : f.current.length = 24) (hf : f.flags.length = 24) (ha : f.ack.length = 4) :
    f.body.length = 115 := by
  simp [UpFrame.body, flatMap_length codeBytes_length, hc, hf, ha]

/-- The content of an uplink superframe reads back (R26). -/
theorem UpFrame.ofBytes_sealed (f : UpFrame) (hc : f.current.length = 24) (hf : f.flags.length = 24) (ha : f.ack.length = 4)
    (hr : ∀ p ∈ f.current, -2048 ≤ p.1 ∧ p.1 ≤ 2047 ∧ -2048 ≤ p.2 ∧ p.2 ≤ 2047) : UpFrame.ofBytes (sealed f.body) = f := by
  have hl := flatMap_length codeBytes_length f.current
  generalize hcr : leBytes 4 (crc32c f.body).toNat = crc
  have e : sealed f.body = [f.seq] ++ leBytes 2 f.timeA.toNat ++ (leBytes 2 f.timeB.toNat ++ ([f.tagA] ++ ([f.tagB] ++
      (f.current.flatMap codeBytes ++ (f.flags ++ (leBytes 2 f.vmA.toNat ++ (leBytes 2 f.vmB.toNat ++ ([f.bankA] ++ ([f.bankB] ++
        (leBytes 2 f.temp.toNat ++ (f.ack ++ crc))))))))))) := by
    rw [sealed, hcr]; simp [UpFrame.body]
  have hcur : (List.range 24).map (fun i => codesOf (slice (sealed f.body) (7 + 3 * i) 3)) = f.current := by
    apply List.ext_getElem (by simp [hc])
    intro i h1 h2
    have hi : i < 24 := by simpa using h1
    rw [List.getElem_map, List.getElem_range, e]
    simp only [List.append_assoc]
    rw [slice_append_right (by simp; omega), slice_append_right (by simp; omega), slice_append_right (by simp; omega),
      slice_append_right (by simp; omega), slice_append_right (by simp; omega)]
    simp only [List.length_cons, List.length_nil, leBytes_length]
    rw [show 7 + 3 * i - (0 + 1) - 2 - 2 - (0 + 1) - (0 + 1) = 3 * i by omega, slice_append_left (by omega),
      slice_flatMap codeBytes_length, List.getElem?_eq_getElem h2]
    exact codesOf_codeBytes _ (hr _ (List.getElem_mem h2))
  have skip : ∀ {a b : List Byte} {i n : Nat}, a.length ≤ i → slice (a ++ b) i n = slice b (i - a.length) n :=
    fun h => slice_append_right h
  have whole : ∀ {a b : List Byte} {n : Nat}, a.length = n → slice (a ++ b) 0 n = a := fun h => by
    rw [slice_append_left (by omega), slice_all h]
  unfold UpFrame.ofBytes
  rw [hcur, e]
  have lt2 : ∀ x : BitVec 16, x.toNat % 256 ^ 2 = x.toNat := fun x => Nat.mod_eq_of_lt x.isLt
  have one : ∀ {x : Byte} {b : List Byte}, byteAt ([x] ++ b) 0 = x := fun {x b} => rfl
  simp (decide := true) only [field, skip, whole, byteAt_append_right, one, hl, hc, hf, ha, leNat_leBytes, leBytes_length,
    List.append_assoc, List.length_cons, List.length_nil, Nat.reduceSub, Nat.reduceAdd, Nat.reduceMul, Nat.reduceLeDiff, lt2,
    BitVec.ofNat_toNat, BitVec.setWidth_eq]

/-! ### The lanes of the host port (R320, R327) -/

/-- A byte is sent in 8 / w clocks. -/
theorem laneClocks_length (w : Nat) (b : Byte) : (laneClocks w b).length = 8 / w := by simp [laneClocks]

/-- A byte reads back from its clocks, whatever the lanes outside the width carry. -/
theorem byteFrom_laneClocks {w : Nat} (hw : w = 2 ∨ w = 4 ∨ w = 8) (b : Byte) (noise : List Nat) (hn : noise.length = 8 / w) :
    byteFrom w (((laneClocks w b).zip noise).map fun p => p.1 + 2 ^ w * p.2) = b := by
  have hb := b.isLt
  have hf : ∀ n, n = b.toNat → BitVec.ofNat 8 n = b := fun n h => by simp [h]
  rcases hw with rfl | rfl | rfl
  · match noise, hn with
    | [n1, n2, n3, n4], _ =>
      apply hf
      simp only [laneClocks, List.range, List.range.loop, List.map, List.zip, List.zipWith, List.foldl]
      omega
  · match noise, hn with
    | [n1, n2], _ =>
      apply hf
      simp only [laneClocks, List.range, List.range.loop, List.map, List.zip, List.zipWith, List.foldl]
      omega
  · match noise, hn with
    | [n1], _ =>
      apply hf
      simp only [laneClocks, List.range, List.range.loop, List.map, List.zip, List.zipWith, List.foldl]
      omega

/-- Bytes read back from their lanes. -/
theorem bytesFrom_lanesFor {w : Nat} (hw : w = 2 ∨ w = 4 ∨ w = 8) (bs : List Byte) (noise : List Nat)
    (hn : noise.length = (lanesFor w bs).length) :
    bytesFrom w bs.length (((lanesFor w bs).zip noise).map fun p => p.1 + 2 ^ w * p.2) = bs := by
  induction bs generalizing noise with
  | nil => rfl
  | cons b bs ih =>
    have hl := laneClocks_length w b
    rw [lanesFor, List.flatMap_cons, List.length_append, hl] at hn
    have h1 : (noise.take (8 / w)).length = 8 / w := by rw [List.length_take]; omega
    have h2 : (noise.drop (8 / w)).length = (lanesFor w bs).length := by rw [List.length_drop, hn, lanesFor]; omega
    have hz : (lanesFor w (b :: bs)).zip noise =
        (laneClocks w b).zip (noise.take (8 / w)) ++ (lanesFor w bs).zip (noise.drop (8 / w)) := by
      conv_lhs => rw [← List.take_append_drop (8 / w) noise]
      rw [lanesFor, List.flatMap_cons, List.zip_append (by rw [hl, h1])]
      rfl
    have hm : (((laneClocks w b).zip (noise.take (8 / w))).map fun p => p.1 + 2 ^ w * p.2).length = 8 / w := by
      rw [List.length_map, List.length_zip, hl, h1, Nat.min_self]
    rw [hz, List.map_append, List.length_cons, bytesFrom, List.take_append_of_le_length (by omega),
      List.take_of_length_le (by omega), List.drop_append_of_le_length (by omega), List.drop_of_length_le (by omega),
      List.nil_append, byteFrom_laneClocks hw b _ h1, ih _ h2]

end Sys2Proof.Machine
end

