-- ==== Sys2Proof/Laws/Mailbox.lean ====
section
/-! SUPPORT. The firmware's way from a record at the head of the queue to its answer, said once: what a ready record is executed
on, and what the answer leaves. -/

namespace Sys2Proof.Machine

variable {s : State}

/-- A record that is ready is defined for the host (R363). -/
theorem State.ready_defined {op : Nat} {q : Queued} {rest : List Queued} (h : s.ready op q rest) : q.defined = true := by
  obtain ⟨-, hv, -, hf, -, -, -, -, -, -, -, -, hsd, -⟩ := h
  simp only [Queued.defined, hv, hsd, Bool.true_and, sourceOf]
  by_contra hd
  have hn : opDefined .host (recOp q.record) = false := by simpa using hd
  cases hl : opLayout (recOp q.record) <;> simp [judgeForm, hl, hn] at hf

/-- A ready record leaves the queue and is executed with the arm of an OTP operation taken for it (R349, R445). -/
theorem State.mailbox_ready {op : Nat} {q : Queued} {rest : List Queued} (h : s.ready op q rest) :
    s.mailbox op =
      let d := (s.taken rest).runRecord .host q.record
      ({ d.state with sec := { d.state.sec with otpNow := false },
                      mbx := { d.state.mbx with waiting := some (d.waiting q), holding := false } } : State).tryComplete := by
  have hd := State.ready_defined h
  obtain ⟨hq, hv, hop, -, hfw, hw, hl, -, -, -, -, -, hsd, -⟩ := h
  have step : ∀ n, State.flushBad n s = s := by
    intro n
    induction n with
    | zero => rfl
    | succ n ih => simp [State.flushBad, State.executeHead, hq, hd, ih]
  simp only [State.mailbox, step, State.executeHead, hq]
  simp [hd, hop, State.mayStart, hfw, hw, hl, hv, hsd, State.execute, sourceOf, State.taken]

/-- A command with nothing to wait for and no event to report is answered at once (R350, R353). -/
theorem State.complete_now {q : Queued} {d : Done} (hv : q.via = none) (ht : d.tags = []) (hc : d.clears = [])
    (hs : d.starts = []) (he : d.state.mbx.held = []) (hb : d.state.link.backlog.any (·.2) = false) (ho : d.state.sec.otpOp = 0) (hf : d.state.fwOn = true)
    (hp : d.state.boot.testPending = false) (ha : d.state.power.entering ≠ .asked) (hw : d.state.mbx.waiting = none) :
    ({ d.state with sec := { d.state.sec with otpNow := false }, mbx := { d.state.mbx with waiting := some (d.waiting q), holding := false } } : State).tryComplete =
      d.state.replied q d.result d.detail d.data := by
  have go : ((d.waiting q).tags.isEmpty && !(d.state.link.backlog.any (·.2)) && d.state.sec.otpOp == 0 && d.state.fwOn) = true := by
    simp [Done.waiting, ht, hb, ho, hf]
  refine (if_pos go).trans ?_
  simp [State.complete, Done.waiting, hc, hs, he, hv, State.forAll, State.answer, State.afterResponse, State.testEclipse, State.armEntry, State.postHeld,
    hp, ha, State.replied, hw]

/-- A command that waits for tags is left waiting (R493). -/
theorem State.wait_for_tags {q : Queued} {d : Done} (ht : d.tags ≠ []) :
    ({ d.state with sec := { d.state.sec with otpNow := false },
                    mbx := { d.state.mbx with waiting := some (d.waiting q), holding := false } } : State).tryComplete =
      d.state.held q d.tags d.result d.detail d.data d.clears d.starts := by
  cases h : d.tags with
  | nil => exact absurd h ht
  | cons t ts => simp [State.tryComplete, Done.waiting, h, State.held]

/-- Taking a record out of the queue leaves what keeps the firmware running. -/
@[simp] theorem State.taken_fwOn (rest : List Queued) : (s.taken rest).fwOn = s.fwOn := rfl
@[simp] theorem State.taken_hwOn (rest : List Queued) : (s.taken rest).hwOn = s.hwOn := rfl

/-- A ready record whose command has nothing to wait for and no event to report is answered in the same step. -/
theorem State.mailbox_answers {op : Nat} {q : Queued} {rest : List Queued} (h : s.ready op q rest) {d : Done}
    (hd : (s.taken rest).runRecord .host q.record = d) (ht : d.tags = []) (hc : d.clears = [])
    (hs : d.starts = []) (he : d.state.mbx.held = s.mbx.held) (hb : d.state.link.backlog = s.link.backlog) (ho : d.state.sec.otpOp = s.sec.otpOp) (hf : d.state.fwOn = s.fwOn)
    (hp : d.state.boot.testPending = s.boot.testPending) (ha : d.state.power.entering = s.power.entering) (hw : d.state.mbx.waiting = s.mbx.waiting) :
    s.mailbox op = d.state.replied q d.result d.detail d.data := by
  rw [State.mailbox_ready h, hd]
  obtain ⟨-, hv, -, -, hfw, hwt, -, hbk, hot, htp, -, hhd, -, hen⟩ := h
  exact State.complete_now hv ht hc hs (by rw [he]; exact hhd) (by rw [hb]; exact hbk) (by rw [ho]; exact hot) (by rw [hf]; exact hfw)
    (by rw [hp]; exact htp) (by rw [ha]; exact hen) (by rw [hw]; exact hwt)

end Sys2Proof.Machine
end

