-- ==== Sys2Proof/Laws/Store.lean ====
section
/-! SUPPORT. The sparse maps: a key reads what was put under it, every other key reads as before, and every operation on a
map keeps its canonical form; so do the parameter store and the staging area. -/

namespace Sys2Proof.Machine

/-! ### Canonical form -/

/-- A lower bound that is lower still bounds the keys too. -/
theorem Sparse.wfFrom_weaken {α : Type} [DecidableEq α] {d : Nat → α} {m : List (Nat × α)} {a b : Nat} (hab : a ≤ b)
    (h : Sparse.wfFrom d (some b) m = true) : Sparse.wfFrom d (some a) m = true := by
  cases m with
  | nil => rfl
  | cons p m =>
    simp only [Sparse.wfFrom, Bool.and_eq_true, decide_eq_true_eq] at h ⊢
    exact ⟨⟨by omega, h.1.2⟩, h.2⟩

theorem Sparse.wfFrom_none {α : Type} [DecidableEq α] {d : Nat → α} {m : List (Nat × α)} {a : Nat}
    (h : Sparse.wfFrom d (some a) m = true) : Sparse.wfFrom d none m = true := by
  cases m with
  | nil => rfl
  | cons p m =>
    simp only [Sparse.wfFrom, Bool.and_eq_true, decide_eq_true_eq] at h ⊢
    exact ⟨⟨trivial, h.1.2⟩, h.2⟩

/-- A key at or below the bound is not listed. -/
theorem Sparse.get_below {α : Type} [DecidableEq α] {d : Nat → α} (x : α) {m : List (Nat × α)} {a k : Nat}
    (h : Sparse.wfFrom d (some a) m = true) (hk : k ≤ a) : Sparse.get x m k = x := by
  induction m generalizing a with
  | nil => rfl
  | cons p m ih =>
    obtain ⟨k', v⟩ := p
    simp only [Sparse.wfFrom, Bool.and_eq_true, decide_eq_true_eq] at h
    have hne : k ≠ k' := by omega
    simp only [Sparse.get, hne, if_false]
    exact ih h.2 (by omega)

theorem Sparse.del_wfFrom {α : Type} [DecidableEq α] {d : Nat → α} {m : List (Nat × α)} (k : Nat) {lo : Option Nat}
    (h : Sparse.wfFrom d lo m = true) : Sparse.wfFrom d lo (Sparse.del m k) = true := by
  induction m generalizing lo with
  | nil => exact h
  | cons p m ih =>
    obtain ⟨k', v⟩ := p
    simp only [Sparse.wfFrom, Bool.and_eq_true] at h
    by_cases e : k = k'
    · simp only [Sparse.del, e, if_true]
      cases lo with
      | none => exact Sparse.wfFrom_none h.2
      | some a => exact Sparse.wfFrom_weaken (by have := h.1.1; simp at this; omega) h.2
    · simp only [Sparse.del, e, if_false, Sparse.wfFrom, Bool.and_eq_true]
      exact ⟨h.1, ih h.2⟩

theorem Sparse.wfFrom_cons {α : Type} [DecidableEq α] {d : Nat → α} {m : List (Nat × α)} {k : Nat} {x : α} {lo : Option Nat} :
    Sparse.wfFrom d lo ((k, x) :: m) = true ↔
      (∀ a, lo = some a → a < k) ∧ x ≠ d k ∧ Sparse.wfFrom d (some k) m = true := by
  cases lo <;> simp [Sparse.wfFrom, and_assoc]

theorem Sparse.ins_wfFrom {α : Type} [DecidableEq α] {d : Nat → α} {m : List (Nat × α)} {k : Nat} {v : α} {lo : Option Nat}
    (hv : v ≠ d k) (hlo : ∀ a, lo = some a → a < k) (h : Sparse.wfFrom d lo m = true) :
    Sparse.wfFrom d lo (Sparse.ins m k v) = true := by
  induction m generalizing lo with
  | nil => exact Sparse.wfFrom_cons.2 ⟨hlo, hv, rfl⟩
  | cons p m ih =>
    obtain ⟨k', x⟩ := p
    obtain ⟨hk, hx, hm⟩ := Sparse.wfFrom_cons.1 h
    simp only [Sparse.ins]
    split
    · rename_i hlt
      exact Sparse.wfFrom_cons.2 ⟨hlo, hv, Sparse.wfFrom_cons.2 ⟨fun a ha => by cases ha; exact hlt, hx, hm⟩⟩
    · split
      · rename_i e; subst e
        exact Sparse.wfFrom_cons.2 ⟨hlo, hv, hm⟩
      · exact Sparse.wfFrom_cons.2 ⟨hk, hx, ih (fun a ha => by cases ha; omega) hm⟩

/-- A put keeps the canonical form, where the default it is given is the one of its key. -/
theorem Sparse.put_wf {α : Type} [DecidableEq α] {d : Nat → α} {m : List (Nat × α)} {k : Nat} {x v : α} (hx : x = d k)
    (h : Sparse.wf d m = true) : Sparse.wf d (Sparse.put x m k v) = true := by
  unfold Sparse.put
  split
  · exact Sparse.del_wfFrom k h
  · exact Sparse.ins_wfFrom (by rw [← hx]; assumption) (fun _ h => nomatch h) h

/-! ### Reading -/

theorem Sparse.get_del_other {α : Type} (x : α) (m : List (Nat × α)) {k j : Nat} (h : j ≠ k) :
    Sparse.get x (Sparse.del m k) j = Sparse.get x m j := by
  induction m with
  | nil => rfl
  | cons p m ih =>
    obtain ⟨k', v⟩ := p
    by_cases e : k = k'
    · subst e; simp [Sparse.del, Sparse.get, h]
    · simp only [Sparse.del, e, if_false, Sparse.get, ih]

theorem Sparse.get_ins_other {α : Type} (x v : α) (m : List (Nat × α)) {k j : Nat} (h : j ≠ k) :
    Sparse.get x (Sparse.ins m k v) j = Sparse.get x m j := by
  induction m with
  | nil => simp [Sparse.ins, Sparse.get, h]
  | cons p m ih =>
    obtain ⟨k', w⟩ := p
    simp only [Sparse.ins]
    split
    · simp [Sparse.get, h]
    · split
      · rename_i e; subst e; simp [Sparse.get, h]
      · simp only [Sparse.get, ih]

theorem Sparse.get_ins_same {α : Type} (x v : α) (m : List (Nat × α)) (k : Nat) : Sparse.get x (Sparse.ins m k v) k = v := by
  induction m with
  | nil => simp [Sparse.ins, Sparse.get]
  | cons p m ih =>
    obtain ⟨k', w⟩ := p
    simp only [Sparse.ins]
    split
    · simp [Sparse.get]
    · split
      · simp [Sparse.get]
      · rename_i e; simp only [Sparse.get, e, if_false, ih]

theorem Sparse.get_del_same {α : Type} [DecidableEq α] {d : Nat → α} (x : α) {m : List (Nat × α)} {k : Nat} {lo : Option Nat}
    (h : Sparse.wfFrom d lo m = true) : Sparse.get x (Sparse.del m k) k = x := by
  induction m generalizing lo with
  | nil => rfl
  | cons p m ih =>
    obtain ⟨k', v⟩ := p
    simp only [Sparse.wfFrom, Bool.and_eq_true] at h
    by_cases e : k = k'
    · simp only [Sparse.del, e, if_true]
      exact Sparse.get_below x h.2 (Nat.le_refl _)
    · simp only [Sparse.del, e, if_false, Sparse.get]
      exact ih h.2

/-- A key reads what was put under it. -/
theorem Sparse.get_put_same {α : Type} [DecidableEq α] {d : Nat → α} (x v : α) {m : List (Nat × α)} {k : Nat}
    (h : Sparse.wf d m = true) : Sparse.get x (Sparse.put x m k v) k = v := by
  unfold Sparse.put
  split
  · rename_i e; subst e; exact Sparse.get_del_same _ h
  · exact Sparse.get_ins_same _ _ _ _

/-- Every other key reads as before. -/
theorem Sparse.get_put_other {α : Type} [DecidableEq α] (x y v : α) (m : List (Nat × α)) {k j : Nat} (h : j ≠ k) :
    Sparse.get x (Sparse.put y m k v) j = Sparse.get x m j := by
  unfold Sparse.put
  split
  · exact Sparse.get_del_other _ _ h
  · exact Sparse.get_ins_other _ _ _ h

/-! ### The parameter store -/

/-- The key of a parameter names its identifier. -/
theorem resetOfKey_pkey (id inst : Nat) : resetOfKey (pkey id inst) = resetOf id := by
  unfold resetOfKey pkey
  congr 1
  omega

/-- Two parameters share a key only where they are one. -/
theorem pkey_inj {id inst id' inst' : Nat} (h : inst < 256) (h' : inst' < 256) :
    pkey id inst = pkey id' inst' ↔ id = id' ∧ inst = inst' := by
  unfold pkey
  omega

/-- A parameter write keeps the store canonical (R13). -/
theorem State.setPar_wf (s : State) (id inst : Nat) (v : Int) (h : Sparse.wf resetOfKey s.params = true) :
    Sparse.wf resetOfKey (s.setPar id inst v).params = true :=
  Sparse.put_wf (resetOfKey_pkey id inst).symm h

/-! ### The staging area -/

theorem stagingPut_wf (m : List Host.Cell) (a : Nat) (b : Byte) (h : stagingWf m = true) : stagingWf (stagingPut m a b) = true :=
  Sparse.put_wf rfl h

/-- A write of bytes keeps the staging area canonical (R302). -/
theorem stagingWrite_wf (m : List Host.Cell) (a : Nat) (bs : List Byte) (h : stagingWf m = true) :
    stagingWf (stagingWrite m a bs) = true := by
  induction bs generalizing m a with
  | nil => exact h
  | cons b bs ih => exact ih _ _ (stagingPut_wf m a b h)

theorem stagingByte_put_same (m : List Host.Cell) (a : Nat) (b : Byte) (h : stagingWf m = true) :
    stagingByte (stagingPut m a b) a = b :=
  Sparse.get_put_same _ _ h

theorem stagingByte_put_other (m : List Host.Cell) {a x : Nat} (b : Byte) (h : x ≠ a) :
    stagingByte (stagingPut m a b) x = stagingByte m x :=
  Sparse.get_put_other _ _ _ _ h

/-- A byte below the bytes written reads as before. -/
theorem stagingByte_write_below (m : List Host.Cell) (a : Nat) (bs : List Byte) {x : Nat} (h : x < a) :
    stagingByte (stagingWrite m a bs) x = stagingByte m x := by
  induction bs generalizing m a with
  | nil => rfl
  | cons b bs ih => exact (ih _ _ (by omega)).trans (stagingByte_put_other m b (by omega))

/-- After reset nothing is listed, and the store, the power die's settings and the staging area are canonical. -/
theorem reset_lists_nothing :
    State.reset.params = [] ∧ State.reset.pd.config = [] ∧ State.reset.boot.staging = [] := ⟨rfl, rfl, rfl⟩

end Sys2Proof.Machine
end

