-- ==== Sys2Proof/Machine/Pins.lean ====
section
/-! DEFINITION. What stands at the balls in every phase of the device, and the boundary-scan chain (R146, R319, R337, R400, R432,
R433, R450, R459, R461, R462). Nothing here changes the state. -/

namespace Sys2Proof.Machine

/-- What the device does at a ball. -/
inductive Pin where
  /-- high impedance, off or released -/
  | highZ
  | low
  | high
  /-- weak or passive pull -/
  | pullDown
  | pullUp
  /-- driven by the traffic of a frame or by the commutation of the period in progress -/
  | active
  deriving DecidableEq, Repr

def Ball.pin : Ball → Pin
  | .low => .low
  | .high => .high

/-- VIO is present and the device is not in deep standby: the balls of its domain are not as unpowered (R432). -/
def State.vioOn (s : State) : Bool := s.power.vio && s.phase != .standby

def Pin.of (b : Bool) : Pin := if b then .high else .low

/-- The good frame in progress, which the device answers (R329). -/
def State.replying (s : State) : Option CurFrame := if s.hpOn && s.vioOn then s.hp.cur.filter fun k => k.reject.isNone else none

/-- HP_D0 to HP_D7 without a reply: the pull-up of R319 from 2 ms after boot start (R432, R462). -/
def State.hpDataRest (s : State) : Pin :=
  if !s.vioOn || s.phase == .reset || (s.phase == .boot && s.fc < 480000) then .highZ else .pullUp

/-- HP_D0 to HP_D7 in clock `n` of the reply, none before the device starts to drive (R319 to R321, R324, R327): the lanes of the width
until the last clock of the reply CRC, or until HP_SEL_N rises. -/
def State.hpDataPin (s : State) (lane : Fin 8) (n : Option Nat) : Pin :=
  match s.replying, n with
  | some k, some n =>
    if n < k.drive.length && lane.val < lanesOf k.frame.flags then Pin.of ((k.drive.getD n 0).testBit lane.val) else s.hpDataRest
  | _, _ => s.hpDataRest

/-- REPLY_RATE of HP.CTRL (R336). -/
def HostPort.replyRate (h : HostPort) : Nat := bits h.ctrl.toNat 2 1

/-- Half clocks of a device-clocked reply that have passed `t` 192nds of a microsecond after the device took HP_CLK: each lasts one of
them at 96 MHz, two at 48 MHz, four at 24 MHz (R336, R339). -/
def HostPort.halfClocks (h : HostPort) (t : Nat) : Nat := t / 2 ^ h.replyRate

/-- HP_CLK, an input but for a device-clocked reply (R319, R339, R432): `t` is the time since the device took it, none before that. Each
clock of the reply is low and then high, and after the last one HP_CLK stays low until HP_SEL_N rises. -/
def State.hpClkPin (s : State) (t : Option Nat) : Pin :=
  match s.replying, t with
  | some k, some t =>
    if k.frame.flags.getLsbD 2 then
      let h := s.hp.halfClocks t
      Pin.of (h % 2 == 1 && h / 2 < k.drive.length)
    else .pullDown
  | _, _ => if s.vioOn then .pullDown else .highZ

/-- HP_SEL_N, an input (R319, R432). -/
def State.hpSelPin (s : State) : Pin := if s.vioOn then .pullUp else .highZ

/-- HP_ATTN_N, an open drain (R337, R462). -/
def State.attnPin (s : State) : Pin := if s.vioOn && s.attnLow then .low else .highZ

/-- TXD of a controller: recessive but for an attempt in progress, also of an absent one while VIO stands (R376, R432). -/
def State.txdPin (s : State) (c : CanIx) : Pin :=
  if !s.power.vio || (s.phase == .standby && s.hasCan c) then .highZ
  else if s.phase == .runtime && s.hasCan c && (s.can c).sending.isSome then .active
  else .high

/-- An auxiliary output (R400, R407, R432, R462): a weak pull-down outside the runtime, on an absent output, and while the auxiliary PWM
domain is off. -/
def State.auxPin (s : State) (k : AuxIx) (tap : Nat) : Pin :=
  if !s.power.vio || s.phase != .runtime || s.auxCount ≤ k.val || !s.power.auxDomain then .pullDown else (s.auxBallAt k tap).pin

/-- FB_A and FB_I are inputs; FB_B is the clock of SERIAL mode while its interface runs (R461). -/
def State.fbBPin (s : State) (c : Ch) : Pin :=
  if !s.power.vio then .highZ
  else match s.fbClockPin c with
    | some true => .high
    | some false => .low
    | none => .highZ

/-- FAULT_N: low without a supply and through every reset (R432, R433, R462). -/
def State.faultPin (s : State) : Pin := if !s.vioOn || s.faultLow then .low else .highZ

/-- RESET_N: driven low by the device during its own pulse, an input otherwise (R422, R432). -/
def State.resetNPin (s : State) : Pin := if s.power.vstby && s.vioOn && 0 < s.power.pulseLeft then .low else .highZ

/-- LIM_P and LIM_N: the weak pull-up to VIO is on in every state (R461). -/
def State.limPin (s : State) : Pin := if s.power.vio then .pullUp else .highZ

/-- TDO outside a shift of the chain, of which the model has no command (R432, R462). -/
def State.tdoPin (_ : State) : Pin := .highZ

/-- The gate pair of a half-bridge: the pull-downs hold both gates off unless the slice, the pump and the entry let them switch
(R146, R432). -/
def State.gatePin (s : State) (c : Ch) : Pin := if s.hasCh c && s.fetsOn c then .active else .pullDown

/-- CHOP_A and CHOP_B (R164, R432, R459). -/
def State.chopPin (s : State) (b : BankIx) : Pin :=
  if !(s.pdOn && s.vmPresent b) then .pullDown else if (s.pdBank b).chop then .high else .low

/-- VEXC_A and VEXC_B (R432, R434, R459): off, or their 5 V. -/
def State.vexcPin (s : State) (b : BankIx) : Pin :=
  if s.pdOn && s.vmPresent b && (s.pdBank b).vexc then .high else .highZ

/-! ### Boundary scan (R450) -/

/-- The part of a variant in IDCODE. -/
def Variant.part : Variant → BitVec 16
  | .clv24X => 0xC024
  | .clv16X => 0xC016
  | .clv12S => 0xC012
  | .clv08B => 0xC008

/-- IDCODE: revision B1, part, manufacturer, one (R450). -/
def Variant.idcode (v : Variant) : BitVec 32 := (0x2 : BitVec 4) ++ (v.part ++ ((0x3A9 : BitVec 11) ++ (1 : BitVec 1)))

/-- Families of balls in the scan chain's terms (R450). -/
inductive BallFamily where
  | gate | chop | controlDigital | analogue | supply
  deriving DecidableEq, Repr

/-- Cell of a ball in the chain. -/
inductive ScanCell where
  | full | observeOnly | absent
  deriving DecidableEq, Repr

def BallFamily.cell : BallFamily → ScanCell
  | .gate | .chop => .observeOnly
  | .controlDigital => .full
  | .analogue | .supply => .absent

/-- A scan instruction can drive the ball through its cell (R450): never a gate or the chopper. -/
def BallFamily.scanDrives (f : BallFamily) (i : Jtag) : Bool := f.cell == .full && jtagHolds i

end Sys2Proof.Machine
end

