-- ==== Sys2Proof/Tests/Slice0.lean ====
section
/-! SUPPORT. Tests of one step each, an ill-formed command for each check of WellFormed, and for every statement with
hypotheses a state and operands that meet them, clause by clause. Expected values come from the spec's rules and from
its named standards. -/

set_option Elab.async false

namespace Sys2Proof.Tests
open Sys2Proof Sys2Proof.Machine

/-! ### Small states -/

/-- The runtime of a 24-channel part whose power die answers. -/
def up : State :=
  { State.reset with
    phase := .runtime, boot := { State.reset.boot with st := .starting }
    pd := { State.reset.pd with
      running := true, units := true, chans := State.reset.pd.chans.map fun k => { k with slice := true }
      banks := State.reset.pd.banks.map fun b => { b with pump := true } }
    link := { Link.init with txOn := true, answers := true }
    banks := State.reset.banks.map fun b => { b with vm := 24000 } }

/-- Parameters set: identifier, instance, value. -/
def setAll (s : State) (ps : List (Nat × Nat × Int)) : State := ps.foldl (fun t p => t.setPar p.1 p.2.1 p.2.2) s

def inState (c : Ch) (st : ChState) : State := up.onChan c fun k => { k with state := st, fetsOff := false }

/-- A command record without data beyond its header. -/
def record (op inst len : Byte) (body : List Byte) : List Byte := [op, inst, len, 0, 0, 0, 0, 0] ++ body

/-- A state with one record of the host in its queue. -/
def queued (s : State) (r : List Byte) : State := { s with mbx := { s.mbx with queue := [⟨1, none, r, true⟩] } }
def entryOf (r : List Byte) : Queued := ⟨1, none, r, true⟩

/-- A frame of the host port with no data. -/
def frame (op window : Byte) (offset length : BitVec 16) (data : List Byte) : HpFrame :=
  ⟨op, 1, 0, window, offset, length, data, 0⟩

/-! ### Ill-formed commands -/

theorem test_wf_refuses_post_with_wrong_length : (Instr.commandPost (frame 0x5A 1 0 4 [])).wf = false := by decide
theorem test_wf_refuses_fetch_of_another_window : (Instr.responseFetch (frame 0xA5 1 0 16 [])).wf = false := by decide
theorem test_wf_refuses_event_fetch_that_writes : (Instr.eventFetch (frame 0x5A 3 0 0 [])).wf = false := by decide
theorem test_wf_refuses_ctrl_in_window_0 : (Instr.hpCtrl (frame 0x5A 0 0x0C 4 [0, 0, 0, 0])).wf = false := by decide
theorem test_wf_refuses_load_below_aperture :
    (Instr.loadApertureWrite (frame 0x5A 0 0x7FFC 4 [0, 0, 0, 0])).wf = false := by decide
theorem test_wf_refuses_verify_with_other_word : (Instr.verify (frame 0x5A 0 0x40 4 [2, 0, 0, 0])).wf = false := by decide
theorem test_wf_refuses_clear_with_other_word : (Instr.clear (frame 0x5A 0 0x40 4 [1, 0, 0, 0])).wf = false := by decide
theorem test_wf_refuses_own_row_as_parameter_write : (Instr.parameterWrite .host 0x2001 0 0).wf = false := by decide
theorem test_wf_refuses_eleven_codes : (Instr.periodCentre 0 (List.replicate 11 (0, 0))).wf = false := by decide
theorem test_wf_refuses_code_out_of_range : (Instr.periodCentre 0 (List.replicate 12 (2048, 0))).wf = false := by decide
theorem test_wf_refuses_sent_without_pulses : (Instr.sentFrame 0 ⟨168000, []⟩).wf = false := by decide
theorem test_wf_refuses_nine_bytes_on_can :
    (Instr.canFrameReceived 0 ⟨0, false, false, false, false, false, List.replicate 9 0⟩ 0).wf = false := by decide
theorem test_wf_refuses_listen_code : (Instr.uplinkSuperframe [] 0 0 0 [(0, -2049, 0)]).wf = false := by decide
theorem test_wf_refuses_eclipse_cause_0 : (Instr.eclipseStart 0).wf = false := by decide

/-! ### Named standards and tables -/

theorem test_sha256_of_abc : sha256 [0x61, 0x62, 0x63] =
    [0xBA, 0x78, 0x16, 0xBF, 0x8F, 0x01, 0xCF, 0xEA, 0x41, 0x41, 0x40, 0xDE, 0x5D, 0xAE, 0x22, 0x23,
     0xB0, 0x03, 0x61, 0xA3, 0x96, 0x17, 0x7A, 0x9C, 0xB4, 0x10, 0xFF, 0x61, 0xF2, 0x00, 0x15, 0xAD] := by decide +kernel

/-! ### One step -/

theorem test_step_takes_the_front :
    step { up with pending := [.limitInputActive 3 .p, .stall 0] } =
      exec (.limitInputActive 3 .p) { up with pending := [.stall 0] } := rfl
theorem test_quad_counts_up : (match exec (.quadTransition 0 5000 0)
    ((up.setPar Pid.FB_MODE 0 1).onFb 0 fun f => { f with running := true }) with
    | .next t => (t.fb 0).count
    | _ => 0) = 1 := by decide
theorem test_short_trip_latches_half_bridge : (match exec (.shortTrip 5 3 false)
    (up.onPdChan 5 fun k => { k with entry := { k.entry with gateEn := true } }) with
    | .next t => ((t.pdChan 5).sc, (t.pdChan 5).turnOff)
    | _ => (0, .none)) = (8, .plateau) := by decide +kernel
theorem test_reset_reads_defaults : State.reset.par Pid.CH_VMAX 0 = 6553600 ∧ State.reset.par Pid.BANK_PWM_FREQ 1 = 25000 := by
  decide
theorem test_crc32c_check_value : crc32c [0x31, 0x32, 0x33, 0x34, 0x35, 0x36, 0x37, 0x38, 0x39] = 0xE3069283 := by
  decide +kernel

/-! ### Hypotheses of the statements: step and stored data -/

theorem test_met_EmptyQueue : up.mbx.later = [] ∧ (∀ c : Fin 128, (up.cmps[c]).next = none) ∧ (∀ m, (up.modu m).stopping = false) ∧
    (∀ x, (up.trip x).sync1.2 = false) ∧ (up.fc + 1) % 24 ≠ 0 ∧ (∀ r, (up.rule r).due = false ∧ up.begun r = 0) ∧ up.pending = [] ∧ State.reset.fabOn = true ∧ up.fabOn = true ∧
    ({ up with sec := { up.sec with debugHalt := true } } : State).fabOn = false ∧ up.hwOn = true ∧
    ({ up with hp := { up.hp with timerOn := true } } : State).hp.timerOn = true ∧ up.timeFrac = 0 ∧
    up.par Pid.DEV_TIME_SLEW 0 = 0 ∧ up.time + 1 < 2 ^ 64 ∧
    ({ up with boot := { up.boot with eclipse := true } } : State).hwOn = true ∧ up.fwOn = true ∧
    ({ up with mbx := { up.mbx with later := [(0x2121, 23, 5)] } } : State).mbx.later = [(0x2121, 23, 5)] ∧
    (({ up with fc := 23 } : State).fc + 1) % 24 = 0 ∧ ((up.onMod 15 fun k => { k with stopping := true }).modu 15).stopping = true ∧
    (setAll up [(Pid.DEV_HOST_SILENCE, 0, 0)]).silenceLimit = 0 ∧ (setAll up [(Pid.DEV_HOST_SILENCE, 0, 10)]).silenceLimit = 2400000 := by decide +kernel

/-- Nothing has been written yet in this fabric cycle, or a unit has (R367). -/
def writtenTo (id inst : Nat) : State := { up with mbx := { up.mbx with written := [unitOf id inst] } }

theorem test_met_FreeUnits : ∀ id inst, up.freeUnit id inst := fun _ _ => rfl
theorem test_met_WrittenUnits : (writtenTo 0x2121 23).mbx.written.contains (unitOf 0x2024 23) = true ∧ ¬ (writtenTo 0x2121 0).freeUnit 0x2122 0 ∧
    (writtenTo 0x2121 0).fwOn = true ∧ (writtenTo 0x2121 0).freeUnit 0x2121 1 := by
  unfold State.freeUnit; decide +kernel
theorem test_met_Canonical : up.canonical = true ∧ (up.setPar Pid.CH_VMAX 23 1).canonical = true := by decide +kernel
theorem test_met_Fuses : up.otp.sound = true ∧ up.haltSound = true ∧
    ({ up.otp with debug := true, kill := true, deviceKey := 0 } : Otp).sound = true := by decide +kernel
theorem test_met_StoredData : (4 : Nat) ≠ 0 ∧ [(3 : Nat), 0, 0, 2].length = (lanesFor 2 [0xA5]).length ∧ up.pd.ack.length = 4 ∧
    (∀ c : Ch, -2048 ≤ (up.pdChan c).code1 ∧ (up.pdChan c).code1 ≤ 2047 ∧ -2048 ≤ (up.pdChan c).code2 ∧ (up.pdChan c).code2 ≤ 2047) ∧
    up.link.cfg.length ≤ 0 ∧ ({ up.link with cfg := [⟨9, .startUp⟩] } : Link).cfg[0]? = some ⟨9, .startUp⟩ ∧
    up.canonical = true ∧ (255 : Nat) < 256 ∧ ((0x2010, 0) : Nat × Nat) ≠ (0x2010, 255) ∧
    stagingWf [⟨0, 1⟩] = true ∧ stagingWf (stagingWrite [] 1310719 [7]) = true ∧ (0 : Nat) < [(7 : Byte)].length := by
  decide +kernel

def anEvent : Event := ⟨0x0103, 0, false, false, 0, 0, []⟩
def mute : State := up.setPar Pid.DEV_EVENT_SUPPRESS 0 (2 ^ 15)

theorem test_met_Suppressed : mute.phase = .runtime ∧ mute.boot.eclipse = false ∧ mute.boot.halted = false ∧
    (mute.parN Pid.DEV_EVENT_SUPPRESS 0).testBit (0x0F01 / 256 % 16) = true ∧
    (mute.parN Pid.DEV_EVENT_SUPPRESS 0).testBit (0x0E01 / 256 % 16) = false ∧ 0x00FF / 256 % 16 = 0 ∧
    mute.suppressed 0x0F01 = true ∧ mute.suppressed 0x0E01 = false ∧ mute.mbx.ring.length < 255 ∧
    up.mbx.holding = false ∧ up.mbx.held = [] ∧
    255 ≤ (List.replicate 254 (Slot.event anEvent) ++ [Slot.marker 7 [5]]).length ∧
    ({ up with mbx := { up.mbx with markerOpen := true } } : State).mbx.markerOpen = true ∧ up.mbx.markerOpen = false ∧
    ({ up with boot := { up.boot with eclipse := true } } : State).boot.eclipse = true := by decide +kernel

theorem test_met_LimitedReports : up.hwOn = true ∧
    ((up.onMod 0 fun k => { k with ovrLimited := true, overrunNew := 1 }).modu 0).ovrLimited = true ∧
    ((up.onMod 0 fun k => { k with ovrLimited := true }).modu 0).overrunNew = 0 ∧
    ((up.onMod 15 fun k => { k with lostLimited := true, lostNew := 1 }).modu 15).lostLimited = true ∧
    ((up.onMod 15 fun k => { k with lostLimited := true }).modu 15).lostNew = 0 ∧
    ((up.onCan 1 fun k => { k with ovrLimited := true, overrunNew := 1 }).can 1).overrunNew ≠ 0 ∧
    ((up.onCan 1 fun k => { k with ovrLimited := true }).can 1).overrunNew = 0 ∧
    [ReportKind.fbIllegal 0, .fbLines 0, .missingTooth 0, .extraPulse 0, .fbCheck 0][(4 : Fin 5)]? = some (.fbCheck 0) ∧
    ((up.onFb 0 fun f => { f with limited := f.limited.set 4 true }).fb 0).limited.getD 4 false = true ∧
    ((up.onFb 0 fun f => { f with limited := f.limited.set 4 true }).fb 0).occ.getD 4 0 = 0 ∧
    ((up.onFb 0 fun f => { f with occ := f.occ.set 0 1 }).fb 0).occ.getD 0 0 ≠ 0 ∧
    ((up.onRule 255 fun k => { k with window := true, gathered := 1 }).rule 255).window = true ∧
    ((up.onRule 255 fun k => { k with window := true }).rule 255).gathered = 0 := by decide +kernel

/-! ### Hypotheses: commands of the mailbox -/

def recGet : List Byte := record 0x01 0 16 [1, 0, 0, 0, 0x10, 0x20, 0, 0]
def recSet (id : BitVec 16) (v : Byte) : List Byte :=
  record 0x02 0 24 ([1, 0, 0, 0] ++ [id.extractLsb' 0 8, id.extractLsb' 8 8, 0, 0] ++ [v, 0, 0, 0, 0, 0, 0, 0])
def recMoveTo (flags : Byte) : List Byte := record 0x10 23 20 ([5, 0, 0, 0, 0, 0, 0, 0] ++ [flags, 0, 0, 0])
def recMoveVel (flags : Byte) : List Byte := record 0x11 0 16 ([0, 0, 0x20, 0x4E] ++ [flags, 0, 0, 0])
def recOnly (op inst : Byte) : List Byte := record op inst 8 []
def recStop : List Byte := record 0x12 0 12 [0, 0, 0, 0]
def recMasked (op : Byte) (m : Byte) : List Byte := record op 0 12 [m, 0, 0, 0]

/-- The state in which a record is ready, with a change made to it. -/
def readyOf (r : List Byte) (f : State → State) : State := queued (f up) r

theorem test_met_GetAndSet :
    (readyOf recGet id).ready 0x01 (entryOf recGet) [] ∧
    (readyOf (recSet 0x2010 1) id).ready 0x02 (entryOf (recSet 0x2010 1)) [] ∧
    (readyOf (recSet 0x2010 1) id).link.backlog.any (·.2) = false ∧ up.sec.otpOp = 0 ∧
    (State.setItems .host 0 (itemsOf (recSet 0x2010 1) 12) ⟨(readyOf (recSet 0x2010 1) id).taken [], [], []⟩).tags = [] ∧
    (let w := (State.setItems .host 0 (itemsOf (recSet 0x2010 1) 12) ⟨(readyOf (recSet 0x2010 1) id).taken [], [], []⟩).state
     w.link.backlog.any (·.2) = false ∧ w.sec.otpOp = 0 ∧ w.boot.testPending = false ∧ w.fwOn = true ∧ w.mbx.waiting = none) ∧
    (readyOf (recSet 0x1204 1) id).ready 0x02 (entryOf (recSet 0x1204 1)) [] := by
  unfold State.ready; decide +kernel
theorem test_met_SetThatWaits :
    (State.setItems .host 0 (itemsOf (recSet 0x1204 1) 12) ⟨(readyOf (recSet 0x1204 1) id).taken [], [], []⟩).tags ≠ [] := by
  decide +kernel

def idle (c : Ch) : State → State := fun s => s.onChan c fun k => { k with state := .idle, fetsOff := false }
def at_ (c : Ch) (st : ChState) : State → State := fun s => s.onChan c fun k => { k with state := st }
def twins : State → State := fun s => (s.setPar Pid.CH_TWIN 0 1).setPar Pid.CH_TWIN 12 1

theorem test_met_Moves :
    (readyOf (recMoveTo 0) (idle 23)).ready 0x10 (entryOf (recMoveTo 0)) [] ∧
    (readyOf (recMoveTo 0) (idle 23)).mine (entryOf (recMoveTo 0)) ∧ moveFieldsOk (moveToOf (recMoveTo 0)) = true ∧
    ((readyOf (recMoveTo 0) (idle 23)).chan 23).state.energised = true ∧
    ((readyOf (recMoveTo 0) (idle 23)).chan 23).motion.stopFault = false ∧
    (readyOf (recMoveTo 0) (idle 23)).paired 23 = false ∧
    (readyOf (recMoveTo 0) (idle 23)).moveBlocked 23 (moveToOf (recMoveTo 0)) = false ∧
    (moveToFlags (recMoveTo 1)).getLsbD 0 = true ∧ (moveToFlags (recMoveTo 7)).toNat < 8 ∧
    (readyOf (recMoveTo 1) (at_ 23 .rollcall)).ready 0x10 (entryOf (recMoveTo 1)) [] ∧
    (readyOf (recMoveTo 1) (at_ 23 .rollcall)).unmatched 23 = false ∧
    (readyOf (recMoveTo 1) (at_ 23 .rollcall)).moveBlocked 23 (moveToOf (recMoveTo 1)) = false ∧
    (readyOf (recMoveVel 1) (fun s => idle 12 (idle 0 (twins s)))).ready 0x11 (entryOf (recMoveVel 1)) [] ∧
    (readyOf (recMoveVel 1) (fun s => idle 12 (idle 0 (twins s)))).mine (entryOf (recMoveVel 1)) ∧
    moveFieldsOk (moveVelOf (recMoveVel 1)) = true ∧ moveVelOf (recMoveVel 1) = .vel 1310720000 ∧
    (readyOf (recMoveVel 1) (fun s => idle 12 (idle 0 (twins s)))).unmatched 0 = false ∧
    (readyOf (recMoveVel 1) (fun s => idle 12 (idle 0 (twins s)))).moveBlocked 0 (.vel 1310720000) = false := by
  unfold State.ready State.mine; decide +kernel

theorem test_met_StopAndDisable :
    (readyOf recStop (idle 0)).ready 0x12 (entryOf recStop) [] ∧ (readyOf recStop (idle 0)).mine (entryOf recStop) ∧
    byteAt recStop 8 = 0 ∧ (readyOf recStop (fun s => idle 12 (idle 0 (twins s)))).pairEnergised 0 = true ∧
    (readyOf (recOnly 0x14 0) (idle 0)).ready 0x14 (entryOf (recOnly 0x14 0)) [] ∧
    (readyOf (recOnly 0x14 0) (idle 0)).mine (entryOf (recOnly 0x14 0)) ∧
    ((readyOf (recOnly 0x14 0) (at_ 0 .rollcall)).chan 0).state = .rollcall ∧
    ((readyOf (recOnly 0x14 0) (at_ 0 .moving)).chan 0).state = .moving ∧
    ((readyOf (recOnly 0x14 0) (at_ 0 .moving)).chan 0).motion.stopFault = false ∧
    (readyOf (recOnly 0x14 0) (fun s => at_ 0 .moving (idle 12 (idle 0 (twins s))))).pairEnergised 0 = true ∧
    (readyOf (recOnly 0x14 0) (at_ 0 .moving)).pairEnergised 0 = false ∧
    ((readyOf (recOnly 0x14 0) id).chan 0).state = .disabled ∧
    ((readyOf (recOnly 0x14 0) (at_ 0 .parked)).chan 0).state = .parked := by
  unfold State.ready State.mine; decide +kernel

def latched : State → State := fun s => (s.setPar Pid.CH_I_RUN 0 1000).onPdChan 0 fun k => { k with gate := true, turnOff := .off }

theorem test_met_EnableAndRollCall :
    (readyOf (recOnly 0x13 0) id).ready 0x13 (entryOf (recOnly 0x13 0)) [] ∧
    (readyOf (recOnly 0x13 0) id).mine (entryOf (recOnly 0x13 0)) ∧ up.link.txOn = true ∧ up.link.freeTag ≠ 0 ∧
    (readyOf (recOnly 0x13 0) (fun s => s.setPar Pid.CH_I_RUN 0 1000)).judgeEnable 0 false 0 = .ok ∧ up.pdLatched 0 = false ∧
    (readyOf (recOnly 0x13 0) latched).pdLatched 0 = true ∧ (readyOf (recOnly 0x13 0) latched).judgeEnable 0 false 0 = .ok ∧
    (readyOf (recMasked 0x17 1) latched).judgeEnable 0 true 1 = .ok ∧ (readyOf (recMasked 0x17 1) latched).link.freeTag ≠ 0 ∧
    (readyOf (recMasked 0x17 1) id).ready 0x17 (entryOf (recMasked 0x17 1)) [] ∧ maskOk (recMasked 0x17 1) = true ∧
    (∀ c, maskBit (recMask (recMasked 0x17 1)) c = true → up.hasCh c = true ∧ up.owns .host c = true) ∧
    (∀ c, maskBit (recMask (recMasked 0x17 1)) c = true →
      (readyOf (recMasked 0x17 1) (fun s => s.setPar Pid.CH_I_RUN 0 1000)).judgeEnable c true 1 = .ok) ∧
    (readyOf (recMasked 0x17 1) (at_ 0 .moving)).judgeEnable 0 true 1 ≠ .ok := by
  unfold State.ready State.mine; decide +kernel

def recInterp : List Byte :=
  record 0x16 0 24 ([0, 1, 0, 0] ++ [0, 0, 0, 0] ++ [5, 0, 0, 0, 0, 0, 0, 0])
def grouped : State → State := fun s => (idle 0 s).setPar Pid.CH_INTERP_GROUP 0 0
def armedAt (c : Ch) : State → State := fun s => (idle c s).onMotion c fun m => { m with armed := some (.vel 7) }

theorem test_met_GroupStartAndInterpMove :
    (readyOf (recMasked 0x15 1) (armedAt 0)).ready 0x15 (entryOf (recMasked 0x15 1)) [] ∧ maskOk (recMasked 0x15 1) = true ∧
    (∀ c, maskBit (recMask (recMasked 0x15 1)) c = true → up.hasCh c = true ∧ up.owns .host c = true) ∧
    (∀ c, maskBit (recMask (recMasked 0x15 1)) c = true → (readyOf (recMasked 0x15 1) (armedAt 0)).startFails 1 c = false) ∧
    (readyOf (recMasked 0x15 1) id).startFails 1 0 = true ∧
    (readyOf recInterp grouped).ready 0x16 (entryOf recInterp) [] ∧ up.groupCount ≠ 0 ∧ (byteAt recInterp 8).toNat = 0 ∧
    badAxis recInterp = none ∧ axisCount recInterp = 1 ∧
    (∀ a ∈ axesOf recInterp, up.hasCh a.1 = true ∧ up.owns .host a.1 = true ∧
      ((readyOf recInterp grouped).groupMembers 0).contains a.1 = true ∧
      (readyOf recInterp grouped).axisFails (axesOf recInterp) a = false) ∧
    (∀ c ∈ (readyOf recInterp grouped).groupMembers 0, ((axesOf recInterp).filter fun a => a.1 == c).length = 1) ∧
    (axesOf recInterp).length = ((readyOf recInterp grouped).groupMembers 0).length ∧
    (readyOf recInterp grouped).groups[(0 : Fin 4)].active = false := by
  unfold State.ready; decide +kernel

def inFault (off : Bool) : State → State := fun s => s.onChan 0 fun k => { k with state := .fault, fetsOff := off }
def rClear : List Byte := recOnly 0x40 0

theorem test_met_ClearFault :
    (readyOf rClear (inFault false)).ready 0x40 (entryOf rClear) [] ∧ (readyOf rClear (inFault false)).mine (entryOf rClear) ∧
    ((readyOf rClear (inFault false)).chan 0).state = .fault ∧ ((readyOf rClear (inFault false)).chan 0).fetsOff = false ∧
    ((readyOf rClear (inFault true)).chan 0).fetsOff = true ∧ (readyOf rClear (inFault true)).judgeClear 0 = .ok ∧
    (readyOf rClear (inFault true)).link.txOn = true ∧ (readyOf rClear (inFault true)).link.freeTag ≠ 0 ∧
    (readyOf rClear (fun s => (at_ 0 .parked s).onBank 0 fun b => { b with status := 0x80 })).judgeClear 0 ≠ .ok ∧
    ((readyOf rClear (at_ 0 .moving)).chan 0).state = .moving ∧
    ((readyOf rClear (fun s => (at_ 0 .stopping s).onMotion 0 fun m => { m with stopFault := true })).chan 0).motion.stopFault = true ∧
    ((readyOf rClear (fun s => (inFault false s).onCauses 0 fun k => { k with followOff := true })).chan 0).causes.followOff = true := by
  unfold State.ready State.mine; decide +kernel

def runningMod : State → State := fun s => (s.onMod 15 fun k => { k with running := true }).setPar Pid.ADC_TABLE_LEN 15 16
def recCal : List Byte := record 0x20 0 12 [15, 15, 1, 0]
def recSnap : List Byte := record 0x21 0 12 [249, 7, 0, 0]
def recSwap : List Byte := record 0x22 0 12 [1, 0, 0, 0x80]

theorem test_met_CalibrateSnapshotSwap :
    (readyOf recCal runningMod).ready 0x20 (entryOf recCal) [] ∧
    (readyOf recCal runningMod).judgeCalibrate 15 15 1 = .queued ∧
    (readyOf recSnap id).ready 0x21 (entryOf recSnap) [] ∧ (byteAt recSnap 8).toNat + (byteAt recSnap 9).toNat = 256 ∧
    (readyOf recSwap id).ready 0x22 (entryOf recSwap) [] ∧
    (readyOf recSwap id).judgeSwap (BitVec.ofNat 32 (field recSwap 8 4)) = (.queued, 0) ∧
    ((readyOf recSwap (fun s => s.onFlt 31 fun k => { k with running := true })).flt 31).running = true ∧
    (readyOf recSwap (fun s => s.onFlt 31 fun k => { k with running := true })).judgeSwap 0x80000001 = (.queued, 0) := by
  unfold State.ready; decide +kernel

/-! ### Hypotheses: CAN commands and the gateway -/

def recTx : List Byte := record 0x30 1 24 ([0xFF, 0x07, 0, 0] ++ [0, 0, 0, 0] ++ [0, 0, 0, 0, 0, 0, 0, 0])
def recTxLate : List Byte := record 0x30 1 24 ([0xFF, 0x07, 0, 0] ++ [4, 0, 0, 0] ++ [9, 0, 0, 0, 0, 0, 0, 0])
def bus (c : CanIx) : State → State := fun s => s.onCan c fun k => { k with phase := .onBus, restricted := false }
def txAt (b : Fin 32) (begun : Bool) : TxFrame := ⟨⟨0, false, false, false, false, false, []⟩, 32 + b.val, false, 0, true, begun, false, 0, 0⟩
def full : State → State := fun s => (bus 1 s).onCan 1 fun k => { k with tx := Vector.replicate 32 (some (txAt 0 false)) }

theorem test_met_CanTx :
    (readyOf recTx (bus 1)).ready 0x30 (entryOf recTx) [] ∧ txFieldsOk recTx = true ∧ up.hasCan 1 = true ∧
    ((readyOf recTx (bus 1)).can 1).phase = .onBus ∧ ((readyOf recTx (bus 1)).can 1).restricted = false ∧
    ((readyOf recTx (bus 1)).can 1).busOff = false ∧ (txFrameOf recTx).fd = false ∧ txTimed recTx = false ∧
    (readyOf recTx (bus 1)).txFree 1 ≠ [] ∧ (readyOf recTx full).txFree 1 = [] ∧
    (readyOf recTxLate (bus 1)).ready 0x30 (entryOf recTxLate) [] ∧ txFieldsOk recTxLate = true ∧ txTimed recTxLate = true ∧
    up.time ≤ txTime recTxLate + up.parN Pid.CAN_LATE_LIMIT 1 ∧
    (up.setPar Pid.CAN_LATE_LIMIT 1 4294967295).parN Pid.CAN_LATE_LIMIT 1 = 4294967295 := by
  unfold State.ready; decide +kernel

def gwFrame : List Byte := recOnly 0x13 0
def gated (ecl : Bool) : State := up.onCan 0 fun k => { k with gwQueue := [(gwFrame, ecl)] }

theorem test_met_Gateway :
    ((gated true).can 0).gwQueue = (gwFrame, true) :: [] ∧ (gated true).fwOn = true ∧ (gated true).gwFree 0 = true ∧
    (gated true).gwBusy 0 = false ∧ ((gated false).can 0).gwQueue = (gwFrame, false) :: [] ∧
    ((gated false).can 0).gwLast = none ∧
    (((gated false).onCan 0 fun k => { k with gwLast := some (gwFrame.take (recLen gwFrame), []) }).can 0).gwLast =
      some (gwFrame.take (recLen gwFrame), []) ∧
    (queued (gated false) gwFrame).mbx.queue ≠ [] ∧ (gated false).mbx.queue = [] ∧ (gated false).mbx.waiting = none ∧
    (gated false).mbx.responses.length < 32 := by decide +kernel

def recCancel (b : Byte) : List Byte := record 0x31 0 12 [b, 0, 0, 0]
def holds (b : Fin 32) (begun : Bool) : State → State := fun s => s.onCan 0 fun k => { k with tx := k.tx.set b (some (txAt b begun)) }

theorem test_met_CanCancel :
    (readyOf (recCancel 63) (fun s => (holds 31 false s).setPar Pid.CAN_GW_ENABLE 0 1)).ready 0x31 (entryOf (recCancel 63)) [] ∧
    up.hasCan 0 = true ∧ (31 : Nat) = field (recCancel 63) 8 2 % 32 ∧ (0 : Nat) = field (recCancel 32) 8 2 % 32 ∧
    (up.setPar Pid.CAN_GW_ENABLE 0 1).canB 0 Pid.CAN_GW_ENABLE = true ∧
    (readyOf (recCancel 63) (holds 31 false)).openToTx 0 31 = true ∧
    ((readyOf (recCancel 63) (holds 31 false)).can 0).tx[(31 : Fin 32)] = some (txAt 31 false) ∧
    (txAt 31 false).handle = field (recCancel 63) 8 2 ∧
    ((readyOf (recCancel 32) (holds 0 true)).can 0).tx[(0 : Fin 32)] = some (txAt 0 true) ∧
    (readyOf (recCancel 32) id).openToTx 0 0 = true ∧ ((readyOf (recCancel 32) id).can 0).tx[(0 : Fin 32)] = none := by
  unfold State.ready; decide +kernel

/-! ### Hypotheses: the host port, boot and the opening -/

/-- A frame whose CRC is right. -/
def good (f : HpFrame) : HpFrame := { f with crc := crc32c (frameBytes f) }
def post (len : BitVec 16) (data : List Byte) : HpFrame := good (frame 0x5A 1 0 len data)
def fetch (window : Byte) (len : BitVec 16) : HpFrame := good (frame 0xA5 window 0 len [])
def again : State := { up with hp := { up.hp with valid := true, lastAlive := 1, replay := some ⟨0xA5, 2, 0, 16, .ok, []⟩ } }

theorem test_met_PresentedFrames :
    up.hpOn = true ∧ up.hp.cur = none ∧ up.hp.reject (post 8 [1, 0, 8, 0, 0, 0, 0, 0]) = none ∧
    up.hp.repeats (post 8 [1, 0, 8, 0, 0, 0, 0, 0]) = false ∧ up.phase = .runtime ∧ up.boot.eclipse = false ∧
    up.boot.halted = false ∧ (post 8 [1, 0, 8, 0, 0, 0, 0, 0]).window = 1 ∧ up.power.entering = .none ∧
    field (post 8 [1, 0, 8, 0, 0, 0, 0, 0]).data 2 2 = 8 ∧ up.hp.reject (fetch 2 16) = none ∧ up.hp.reject (fetch 3 32) = none ∧
    up.hp.reject (frame 0xA5 2 0 16 []) = some 0x01 ∧
    ({ up with boot := { up.boot with eclipse := true } } : State).boot.eclipse = true ∧
    up.boot.st = .starting ∧
    ({ up with power := { up.power with entering := .armed } } : State).power.entering = .armed ∧
    up.hp.reject (good (frame 0x5A 2 0 4 [0, 0, 0, 0])) = none ∧ up.hp.reject (fetch 3 31) = none ∧
    up.hp.reject (good (frame 0x5A 0 0 4 [0, 0, 0, 0])) = none ∧ up.hp.reject (fetch 4 0x40) = none ∧
    up.hp.reject (good (frame 0x5A 4 0x0C 4 [0x35, 0, 0, 0])) = none ∧ up.hp.reject (fetch 5 0x24) = none ∧
    up.hp.reject (good (frame 0x5A 5 0x40 4 [0, 0, 0, 0])) = none ∧ up.sec.attempts ≠ 8 ∧
    again.hp.reject (fetch 2 16) = none ∧ again.hp.repeats (fetch 2 16) = true ∧
    again.hp.replay = some ⟨0xA5, 2, 0, 16, .ok, []⟩ := by decide +kernel

def curOf (window : Byte) (r : Result) (consume seen : Nat) : CurFrame :=
  ⟨frame (if window = 1 then 0x5A else 0xA5) window 0 0 [], none, false, r, [], 0, consume, seen⟩
def holdsFrame (k : CurFrame) : State := { up with hp := { up.hp with cur := some k } }
def ringOf (xs : List Slot) (s : State) : State := { s with mbx := { s.mbx with ring := xs } }

theorem test_met_Commit :
    (holdsFrame (curOf 1 .ok 0 0)).hpOn = true ∧ (holdsFrame (curOf 1 .ok 0 0)).hp.cur = some (curOf 1 .ok 0 0) ∧
    (curOf 1 .ok 0 0).reject = none ∧ (curOf 1 .ok 0 0).duplicate = false ∧ (curOf 1 .ok 0 0).clocks ≤ 1000 ∧ 60 < (curOf 1 .ok 0 0).clocks ∧ (curOf 1 .ok 0 0).frame.window = 1 ∧
    (curOf 2 .ok 1 0).frame.window = 2 ∧ (curOf 3 .ok 1 0).frame.window = 3 ∧
    (curOf 3 .ok 1 2).markerSeen = [(5 : Nat), 6].length ∧
    ((ringOf [.event anEvent] up).mbx.ring.take 1).getLast? = some (.event anEvent) ∧ (curOf 4 .ok 0 0).frame.window = 4 ∧
    ({ curOf 4 .ok 0 0 with frame := frame 0x5A 4 0x0C 4 [0x35, 0, 0, 0] } : CurFrame).frame.op = 0x5A ∧
    (curOf 0 .ok 0 0).frame.window = 0 ∧ (curOf 5 .ok 0 0).frame.window = 5 ∧ (curOf 5 .ok 0 0).frame.op = 0xA5 ∧
    ({ curOf 5 .ok 0 0 with frame := frame 0x5A 5 0x40 132 [] } : CurFrame).frame.op = 0x5A ∧
    ((ringOf [.marker 0 [5, 6]] up).mbx.ring.take 1).getLast? = some (.marker 0 [5, 6]) ∧ (1 : Nat) < [(5 : Nat), 6].length ∧
    (curOf 1 .noCredit 0 0).result = .noCredit ∧ (curOf 1 .outOfRange 0 0).result ≠ .ok ∧
    (curOf 1 .outOfRange 0 0).result ≠ .noCredit ∧
    ({ curOf 2 .ok 0 0 with duplicate := true } : CurFrame).duplicate = true ∧
    ({ curOf 2 .ok 0 0 with reject := some 8 } : CurFrame).reject = some 8 ∧ up.hp.cur = none ∧ up.hpOn = true ∧ (20 : Nat) ≤ 20 ∧
    (9 : Nat) < 10 := by decide +kernel

/-- A high level of 9 ns on HP_SEL_N is no deselection (R331). -/
theorem test_short_high_commits_nothing :
    exec (.commit 1000 9 0) (holdsFrame (curOf 1 .ok 0 0)) = .next (holdsFrame (curOf 1 .ok 0 0)) := by rfl

def bootUp : State := State.reset
def ctrl (v : Byte) : HpFrame := good (frame 0x5A 4 0x0C 4 [v, 0, 0, 0])
def load (offset : BitVec 16) (n : Nat) : HpFrame := good (frame 0x5A 0 offset (BitVec.ofNat 16 n) (List.replicate n 7))
def bootCtrl (v : Byte) : HpFrame := good (frame 0x5A 0 0x40 4 [v, 0, 0, 0])

/-- A write of LOAD_BASE. -/
def pageWrite (v : Byte) : HpFrame := good (frame 0x5A 0 0x48 4 [0, v, 0, 0])

theorem test_met_RegisterWrites :
    bootUp.hpOn = true ∧ bootUp.hp.cur = none ∧ bootUp.hp.reject (ctrl 0x35) = none ∧ bootUp.hp.repeats (ctrl 0x35) = false ∧
    (ctrl 0x35).op = 0x5A ∧ ctrlOk (frameWord (ctrl 0x35)) = true ∧ bootUp.boot.st = .ready ∧
    bootUp.hp.reject (load 0xFFFC 4) = none ∧ (0xFFFC : Nat) + 4 ≤ 0x10000 ∧ bootUp.hp.reject (load 0x8000 4) = none ∧
    bootUp.hp.reject (bootCtrl 1) = none ∧ frameWord (bootCtrl 1) = 1 ∧ bootUp.hp.reject (bootCtrl 2) = none ∧
    frameWord (bootCtrl 2) = 2 ∧ bootUp.hp.reject (pageWrite 0x00) = none ∧ frameWord (pageWrite 0x00) % 32768 = 0 ∧
    bootUp.hp.reject (pageWrite 0x80) = none ∧ frameWord (pageWrite 0x80) = 32768 ∧ bootUp.hp.reject (bootCtrl 3) = none ∧
    ({ bootUp with boot := { bootUp.boot with st := .verifying } } : State).boot.st = .verifying ∧ up.boot.st = .starting := by
  decide +kernel

/-- A staged image that the vendor of `keyed` signed: header of 512 bytes and four bytes of image. -/
def signedHead : List Byte := beBytes 192 0x59524e4d010000020400000001000000000001000000000000000000000000009f64a747e1b97f131fabb6b447296c9b6f0201e79fb3c5356e6c77e89b6a806a8e533b6fa0bf7b4625bb30667c01fb607ef9f8b8a80fef5b300628703187b2a373eb1dbde03318366d069f83a6f5900053c73633cb041b21c55e1a86c1f400b400000000000000000000000000000000000000000000000000000000000000000000000000000000000000000000000000000000000000000000000000000000
def signature : List Byte := beBytes 64 0x51590b7a515140d2d784c85608668fdfef8c82fd1f5be52421554a0dc3d033ed6624c3caab8c070ad7f780c26878dad984e54c1c9d27e2d9f586ca10f4359222
def keyed : State :=
  { bootUp with
    otp := { bootUp.otp with vendor0 := some 0x2238f0e348c0445a60affd248bfe765db34318c0a10bfc9fc7423170e019d490, cust0 := none, cust1 := none, floor := 0 }
    boot := { bootUp.boot with st := .verifying
                               staging := stagingWrite [] 0 (signedHead ++ signature ++ List.replicate 256 0 ++ [1, 2, 3, 4]) } }

theorem test_met_Verify_fails :
    bootUp.phase = .boot ∧ bootUp.sec.debugHalt = false ∧
    ({ bootUp with boot := { bootUp.boot with st := .verifying } } : State).verifyFail = some 1 ∧
    ({ bootUp with boot := { bootUp.boot with st := .clearing } } : State).boot.st = .clearing := by decide +kernel
theorem test_met_Verify_passes : keyed.phase = .boot ∧ keyed.boot.st = .verifying ∧ keyed.verifyFail = none := by decide +kernel

/-- A request whose code word is wrong. The clause of a passing request has no evaluated state: its signature covers the
challenge, which is a free value (assumption 6). -/
def asked : State := { up with sec := { up.sec with request := some (List.replicate 132 0) } }

theorem test_met_Unlock :
    asked.sec.request = some (List.replicate 132 0) ∧ asked.fwOn = true ∧ asked.judgeUnlock (List.replicate 132 0) ≠ 3 ∧
    asked.phase = .runtime := by decide +kernel

/-! ### Hypotheses: parameter writes -/

theorem test_met_ParameterWrites :
    up.fwOn = true ∧ paramRow 0xFFFF = none ∧ (paramRow 0x2121).isSome = true ∧
    ((paramRow 0x2000).map fun r => up.judgeItem .host r 0x2121 24 0) = some .outOfRange ∧
    ((paramRow 0x2121).map fun r => (up.judgeItem .host r 0x2121 0 200001, (up.itemValue r 0x2121 0 200001).1)) =
      some (.ok, .outOfRange) ∧
    ((paramRow 0x2121).map fun r => (up.judgeItem .host r 0x2121 23 200000, up.itemValue r 0x2121 23 200000)) =
      some (.ok, .ok, 200000) ∧ plainId 0x2121 = true ∧ carried 0x1204 = true ∧
    ((paramRow 0x1204).map fun r => (up.judgeItem .host r 0x1204 1 1, up.itemValue r 0x1204 1 1)) = some (.ok, .ok, 1) ∧
    up.link.txOn = true ∧ up.link.answers = true ∧
    ({ up with link := { up.link with answers := false } } : State).link.answers = false := by decide +kernel

def okFor (id inst : Nat) (v : BitVec 64) (x : Int) : Bool :=
  ((paramRow id).map fun r => (up.judgeItem .host r id inst v, up.itemValue r id inst v)) == some (.ok, .ok, x)

theorem test_met_Settings :
    okFor 0x1100 1 50000 50000 = true ∧ okFor 0x2122 0 100 100 = true ∧ okFor 0x2212 0 8 8 = true ∧
    okFor 0x2234 0 10 10 = true ∧ okFor 0x7100 0 4194304 4194304 = true ∧ okFor 0x713F 31 1 1 = true ∧
    okFor 0x7140 0 1 1 = true ∧ okFor 0x717F 31 1 1 = true ∧ okFor 0x7200 0 1 1 = true ∧ okFor 0x7207 127 1 1 = true ∧
    okFor 0x2010 23 1310720000 1310720000 = true ∧ twinParams.contains 0x2010 = true ∧ okFor 0x2130 0 0 0 = true ∧
    okFor 0x2130 12 1 1 = true ∧ okFor 0x5200 1 1 1 = true := by
  decide +kernel

def loaded : State → State := fun s => idle 12 (idle 0 (twins s))

theorem test_met_Positions :
    up.fwOn = true ∧ up.hasCh 23 = true ∧ up.owns .host 23 = true ∧ (up.chan 23).state.stopped = true ∧
    up.pairEnergised 23 = false ∧ -(2 ^ 39) ≤ (BitVec.ofInt 64 (-(2 ^ 39))).toInt ∧
    (BitVec.ofNat 64 (2 ^ 39 - 1)).toInt < 2 ^ 39 ∧ (loaded up).pairEnergised 0 = true ∧
    ((loaded up).chan 0).state.stopped = true ∧ ((loaded up).chan 12).motion.armed = none ∧
    ((at_ 12 .moving (loaded up)).chan 12).state.stopped = false ∧
    (at_ 12 .moving (loaded up)).pairEnergised 0 = true ∧ ((at_ 0 .moving up).chan 0).state.stopped = false ∧
    up.hwOn = true ∧ (up.chan 0).motion.limP = false ∧
    ((up.onMotion 0 fun m => { m with limP := true, limN := true }).chan 0).motion.limP = true := by decide +kernel

def fbOf (mode : Int) : State := (up.setPar Pid.FB_MODE 0 mode).onFb 0 fun f => { f with running := true }

theorem test_met_Feedback :
    up.fwOn = true ∧ up.hasCh 0 = true ∧ (up.fb 0).running = false ∧ (up.setPar Pid.FB_MODE 0 1).fbStartOk 0 = true ∧
    (up.setPar Pid.FB_MODE 0 3).fbStartOk 0 = true ∧ (up.setPar Pid.FB_MODE 0 6).canonical = true ∧
    ((up.setPar Pid.FB_MODE 0 3).setPar Pid.FB_ABS_SHIFT 0 63).fbStartOk 0 = false ∧
    ((fbOf 1).fb 0).running = true ∧ ((fbOf 1).chan 0).motion.mode ≠ .follow ∧ (fbOf 1).parB Pid.CH_FE_ENABLE 0 = false ∧
    ((idle 0 (fbOf 1)).setPar Pid.CH_FE_ENABLE 0 1).energised 0 = true ∧
    ((idle 0 (fbOf 1)).setPar Pid.CH_FE_ENABLE 0 1).parB Pid.CH_FE_ENABLE 0 = true ∧
    (((fbOf 5).onMotion 0 fun m => { m with mode := .follow }).chan 0).motion.mode = .follow ∧
    (fbOf 5).parN Pid.FB_MODE 0 = 5 ∧ (fbOf 6).parN Pid.FB_MODE 0 = 6 ∧ (fbOf 0).parN Pid.FB_MODE 0 = 0 ∧
    ((up.onFb 0 fun f => { f with startNext := some true }).fb 0).startNext = some true ∧
    ((fbOf 1).onFb 0 fun f => { f with startNext := some false, trustNext := true }).fwOn = true ∧
    (((fbOf 6).onFb 0 fun f => { f with trustNext := true }).fb 0).startNext = none := by decide +kernel
/-- A rule of channel 0's STANDSTILL source with the words given. -/
def ruled (lo : Int) : State := (up.setPar Pid.RFX_RULE_LO 0 lo).setPar Pid.RFX_RULE_HI 0 1
/-- One member, NONE as action, a report. -/
def plainLo : Int := 2 ^ 17 + 2 ^ 47

theorem test_met_Rules :
    up.fwOn = true ∧ ((up.onRule 255 fun k => { k with enabled := true }).rule 255).enabled = true ∧
    ((ruled plainLo).rule 0).enabled = false ∧ (ruled plainLo).ruleCheck ((ruled plainLo).ruleWord 0) = .ok ∧
    up.ruleCheck (up.ruleWord 255) ≠ .ok ∧ ((ruled (plainLo + 2 ^ 46)).ruleWord 0).dur = 2 ∧
    (((ruled (plainLo + 2 ^ 46)).rule 0).enabled && (ruled (plainLo + 2 ^ 46)).condition 0) = false ∧
    ((ruled plainLo).ruleWord 0).dur ≠ 2 ∧
    ((up.onRule 0 fun k => { k with enableNext := some false }).rule 0).enableNext = some false ∧
    ((up.onRule 0 fun k => { k with enableNext := some true }).rule 0).enableNext = some true ∧
    (up.rule 0).enableNext = none ∧ ((up.onRule 0 fun k => { k with releaseNext := true }).rule 0).releaseNext = true := by
  decide +kernel

def paired2 : State := (up.setPar Pid.ADC_INTERLEAVE 14 1).setPar Pid.ADC_E_COUNT 224 0
def mute2 (s : State) : State := { s with link := { s.link with answers := false } }
def stopAsked (s : State) : State := s.onFlt 31 fun k => { k with running := true, stopReq := some 0 }

theorem test_met_Starts :
    up.fwOn = true ∧ up.hasMod 15 = true ∧ up.interleaves 15 = false ∧ up.link.txOn = true ∧ up.link.answers = true ∧
    (mute2 up).link.answers = false ∧ up.par Pid.ADC_RUN 15 = 0 ∧ (up.setPar Pid.ADC_E_COUNT 240 1).adcStartOk 15 = true ∧
    (up.setPar Pid.ADC_RUN 15 1).par Pid.ADC_RUN 15 ≠ 0 ∧ ((up.setPar Pid.ADC_TRIG_SRC 15 3).setPar Pid.ADC_POWER_DOWN 15 1).adcStartOk 15 = false ∧
    paired2.interleaves 14 = true ∧ paired2.interleaves 15 = true ∧ paired2.adcStartOk 14 = true ∧
    oddOf 14 = 15 ∧ paired2.par Pid.ADC_RUN 15 = 0 ∧ (paired2.setPar Pid.ADC_RUN 15 1).par Pid.ADC_RUN 15 ≠ 0 ∧
    (14 : ModIx).val % 2 = 0 ∧ (15 : ModIx).val % 2 = 1 ∧ (up.gb 255).enabled = false ∧
    ((up.onGb 255 fun k => { k with enabled := true, active := true }).gb 255).active = true := by decide +kernel

theorem test_met_FilterStarts :
    up.fwOn = true ∧ up.hasFlt = true ∧ up.canonical = true ∧ (up.flt 31).running = false ∧ up.fltRunCode 31 = .ok ∧
    ((up.setPar Pid.FLT_P0_TYPE 31 2).setPar Pid.FLT_P0_LEN 31 0).fltRunCode 31 ≠ .ok ∧ ((stopAsked up).flt 31).running = true ∧
    ((stopAsked up).flt 31).stopReq ≠ none ∧ (stopAsked up).fltRunCode 31 = .ok ∧
    (stopAsked ((up.setPar Pid.FLT_P0_TYPE 31 2).setPar Pid.FLT_P0_LEN 31 0)).fltRunCode 31 ≠ .ok ∧
    (stopAsked up).fc ≤ (stopAsked up).slotFrom 31 0 ∧
    ({ stopAsked up with fc := 23251 } : State).slotFrom 31 0 < ({ stopAsked up with fc := 23251 } : State).fc ∧
    ((up.onFlt 31 fun k => { k with running := true }).flt 31).stopReq = none ∧ up.parB Pid.FLT_RUN 31 = false ∧
    (up.flt 31).swapPending = none ∧ (up.flt 31).page1 = false := by decide +kernel

def auxOf (period duty : Int) (run : AuxRunState) : State :=
  ((up.setPar Pid.AUX_PERIOD 0 period).setPar Pid.AUX_DUTY 0 duty).onAux 0 fun o => { o with run := run }

theorem test_met_LoadAll :
    up.fwOn = true ∧ 0 < up.auxCount ∧
    ((auxOf 240 240 .running).parN Pid.AUX_DUTY 0 ≠ 0 ∧ (auxOf 240 240 .running).parN Pid.AUX_DUTY 0 ≠ 0x1FFFFFF ∧
      (auxOf 240 240 .running).parN Pid.AUX_PERIOD 0 ≤ (auxOf 240 240 .running).parN Pid.AUX_DUTY 0) ∧
    (((auxOf 240 0 .armed).setPar Pid.AUX_PHASE 0 240).aux 0).run = .armed ∧
    240 ≤ ((auxOf 240 0 .armed).setPar Pid.AUX_PHASE 0 240).parN Pid.AUX_PHASE 0 ∧
    (∀ k : AuxIx, ¬(((auxOf 240 239 .armed).parN Pid.AUX_DUTY k.val ≠ 0 ∧
        (auxOf 240 239 .armed).parN Pid.AUX_DUTY k.val ≠ 0x1FFFFFF ∧
        (auxOf 240 239 .armed).parN Pid.AUX_PERIOD k.val ≤ (auxOf 240 239 .armed).parN Pid.AUX_DUTY k.val) ∨
      (((auxOf 240 239 .armed).aux k).run = .armed ∧
        (auxOf 240 239 .armed).parN Pid.AUX_PERIOD k.val ≤ (auxOf 240 239 .armed).parN Pid.AUX_PHASE k.val))) := by
  decide +kernel

def tripOf (raw latch : Bool) : State := up.onTrip 3 fun k => { k with level := if raw then 2000 else 0, latch := latch }

theorem test_met_AuxAndTrips :
    (15 : Nat) < up.auxCount ∧ (up.aux 15).run = .stopped ∧ ((auxOf 240 0 .stopping).aux 0).run = .stopping ∧
    ((auxOf 240 0 .armed).aux 0).run = .armed ∧ ((auxOf 240 0 .running).aux 0).run = .running ∧
    ((auxOf 240 0 .starting).aux 0).run = .starting ∧ (tripOf false false).tripRaw 3 = false ∧
    ((tripOf true true).trip 3).latch = true ∧ (tripOf true false).tripRaw 3 = true ∧
    ((tripOf true false).trip 3).latch = false ∧
    ((up.onAux 0 fun o => { o with forceNew := some 2 }).aux 0).forceNew = some 2 ∧ (up.aux 0).run = .stopped ∧
    ((auxOf 240 0 .withdrawn).aux 0).run = .withdrawn ∧ (∀ q, (up.rule q).due = false ∧ up.begun q = 0) ∧
    ((up.onTrip 3 fun k => { k with sync1 := (true, true) }).trip 3).sync1.2 = true ∧
    ((up.onTrip 3 fun k => { k with sync1 := (true, true) }).trip 3).sync2.2 = false ∧ up.suppressed 0x0A01 = false ∧
    (((tripOf true false).onTrip 3 fun k => { k with enableNext := some true }).trip 3).enableNext = some true ∧
    ((tripOf false false).onTrip 3 fun k => { k with enableNext := some false, clearNext := true }).fwOn = true ∧
    ((tripOf false true).trip 3).enableNext = none ∧
    (((auxOf 240 0 .running).setPar Pid.AUX_TRIP_MAP 3 1).tripMap 3).testBit 0 = true := by decide +kernel

def held1 : RxFrame := ⟨65535, 0, true, ⟨0, false, false, false, false, false, []⟩, 0⟩
def canOf (f : Can → Can) : State := up.onCan 1 f

theorem test_met_CanWrites :
    up.fwOn = true ∧ up.hasCan 1 = true ∧ up.timingOk 1 = true ∧ up.canB 1 Pid.CAN_RUN = false ∧ (up.can 1).busOff = false ∧
    (up.can 1).phase ≠ .leaving ∧ ((canOf fun k => { k with phase := .leaving }).can 1).phase = .leaving ∧
    (up.setPar Pid.CAN_RUN 1 1).canB 1 Pid.CAN_RUN = true ∧
    up.canB 1 Pid.CAN_DETECT_ENABLE = false ∧ (up.setPar Pid.CAN_NOMINAL 1 0).timingOk 1 = false ∧
    ((canOf fun k => { k with phase := .onBus, sending := some 31 }).can 1).sending ≠ none ∧
    ((canOf fun k => { k with phase := .integrating }).can 1).active = false ∧
    ((canOf fun k => { k with phase := .leaving }).can 1).sending = none ∧
    ((canOf fun k => { k with phase := .onBus }).can 1).phase ≠ .stopped ∧
    ((canOf fun k => { k with phase := .onBus }).can 1).sending = none ∧
    ((canOf fun k => { k with phase := .onBus, changePending := true }).can 1).changePending = true ∧
    (up.can 1).detecting = false ∧ ((canOf fun k => { k with busOff := true }).can 1).busOff = true ∧
    ((canOf fun k => { k with ring := [held1] }).can 1).ring = held1 :: [] ∧ held1.seq = 65535 ∧
    (up.can 1).ring.head? = none := by decide +kernel

def standing (e : Entering) : State := { up with power := { up.power with entering := e } }

theorem test_met_SilenceAndStandby :
    up.fwOn = true ∧ up.nextAttempt ≤ 3 ∧
    3 < ({ up with boot := { up.boot with attempts := 3, lastEnd := some 0 } } : State).nextAttempt ∧
    up.allDisabled = true ∧ up.power.wakeLevel = false ∧ up.power.entering = .none ∧ (standing .armed).power.entering = .armed ∧
    (idle 0 up).allDisabled = false ∧ (standing .asked).power.entering = .asked ∧ up.power.entering ≠ .asked ∧
    (standing .armed).power.auxDomain = false ∧
    ({ standing .armed with power := { (standing .armed).power with auxDomain := true } } : State).power.auxDomain = true ∧ (standing .unitsStopped).power.entering = .unitsStopped ∧
    (∀ c : CanIx, ((standing .unitsStopped).can c).phase = .stopped) ∧ (standing .unitsStopped).power.wakeLatch = false ∧
    ({ standing .unitsStopped with power := { (standing .unitsStopped).power with wakeLatch := true } } : State).power.wakeLatch =
      true := by decide +kernel

/-! ### Hypotheses: security -/

def otpArmed (ps : List (Nat × Nat × Int)) : State :=
  let s := setAll up ps
  { s with sec := { s.sec with otpArmed := true }
           otp := { s.otp with vendor0 := some 1, vendor1 := some 2, cust0 := none, cust1 := some 3, floor := 0, kill := true }
           boot := { s.boot with imageRollback := 65535 } }
def heldSet : Waiting := ⟨1, none, recSet 0x0436 1, [], .ok, 0, [0, 0, 0, 0], [], []⟩

theorem test_met_Attest :
    ({ up with otp := { up.otp with kill := false, deviceKey := 9 } } : State).attestKey = some 9 ∧
    ({ up with otp := { up.otp with kill := true } } : State).attestKey = none ∧
    (15 : Fin 16).val + 1 = (up.setPar Pid.DEV_VAULT_SLOT 0 16).parN Pid.DEV_VAULT_SLOT 0 ∧
    (0 : Fin 16).val + 1 = up.parN Pid.DEV_VAULT_SLOT 0 ∧ up.canonical = true := by decide +kernel
theorem test_met_Otp :
    (otpArmed []).fwOn = true ∧ (otpArmed []).sec.otpOp = 0 ∧ (otpArmed []).otpJudge true 1 = .ok ∧
    (otpArmed []).otpJudge true 3 = .ok ∧ (otpArmed []).otpJudge true 4 = .ok ∧ (otpArmed []).otpJudge true 6 = .ok ∧
    (otpArmed [(Pid.DEV_OTP_VALUE, 0, 65535)]).otpJudge true 7 = .ok ∧
    (otpArmed [(Pid.DEV_OTP_VALUE, 0, 65535)]).parN Pid.DEV_OTP_VALUE 0 < 65536 ∧
    (otpArmed []).otpJudge true 2 ≠ .ok ∧ (otpArmed []).otpJudge true 5 ≠ .ok ∧ (otpArmed []).otpJudge false 7 ≠ .ok ∧
    heldSet.tags = [] ∧ heldSet.clears = [] ∧ heldSet.via = none ∧
    ({ otpArmed [] with sec := { (otpArmed []).sec with otpOp := 7 }, mbx := { up.mbx with waiting := some heldSet } } :
      State).mbx.waiting = some heldSet ∧ (otpArmed []).link.backlog.any (·.2) = false ∧ up.boot.testPending = false := by
  decide +kernel

/-! ### Hypotheses: the Shonak link -/

def echoing (w : Option Waiting) : State :=
  { up with pd := { up.pd with ack := [1, 2] }, link := { up.link with cfg := [⟨1, .startUp⟩] }, mbx := { up.mbx with waiting := w } }

theorem test_met_TagEcho :
    (echoing none).hwOn = true ∧ (echoing none).pd.ack.contains 1 = true ∧ (echoing none).link.backlog = [] ∧
    (echoing none).mbx.waiting = none ∧
    (({ heldSet with tags := [1, 2] } : Waiting).tags.filter (· != 1)) ≠ [] ∧
    (({ heldSet with tags := [1] } : Waiting).tags.filter (· != 1)) = [] ∧ heldSet.via = none ∧ heldSet.clears = [] ∧
    heldSet.starts = [] ∧ ({ heldSet with starts := [0] } : Waiting).starts = [0] ∧ (up.chan 0).state = .disabled ∧ ({ heldSet with clears := [0] } : Waiting).clears = [0] ∧ (echoing none).boot.testPending = false ∧
    (echoing (some heldSet)).fwOn = true ∧ (echoing none).sec.otpOp = 0 := by decide +kernel
theorem test_met_Superframes :
    up.hwOn = true ∧ up.link.txOn = true ∧ up.pdOn = true ∧ up.linkUp = true ∧ up.pd.ack.length = 4 ∧ up.link.slots = [] := by
  decide +kernel
theorem test_met_GoodDownlink : sealOk 348 (up.downBytes []) = true ∧ ∀ i, i < 4 → slotTag (slotAt (up.downBytes []) i) = 0 := by
  have he : up.downFrame.entries.length = 24 := by simp [State.downFrame, allCh]
  have hb := up.downFrame.body_length he
  refine ⟨?_, fun i hi => ?_⟩
  · rw [State.downBytes, noisy_nil]
    exact sealOk_sealed _ hb
  · rw [State.downBytes, noisy_nil, DownFrame.slotAt_body _ i he hi (by decide), show up.downFrame.slots = [] from rfl, List.getElem?_nil]
    rfl
theorem test_met_BadDownlink : sealOk 348 (up.downBytes [(352, 1)]) = false :=
  sealOk_spoilt _ (up.downFrame.body_length (by simp [State.downFrame, allCh])) (by decide) (by intro i h; simp; omega)
theorem test_met_GoodUplink : sealOk 115 (up.upBytes [] 0 0 0 []) = true := by
  rw [State.upBytes, noisy_nil]
  exact sealOk_sealed _ (UpFrame.body_length _ (by simp [State.upFrame, allCh]) (by simp [State.upFrame, allCh]) (by decide))
theorem test_met_BadUplink : sealOk 115 (up.upBytes [(contentChar 115, 1)] 0 0 0 []) = false :=
  sealOk_spoilt _ (UpFrame.body_length _ (by simp [State.upFrame, allCh]) (by simp [State.upFrame, allCh]) (by decide)) (by decide)
    (by intro i h; unfold contentChar; omega)

def writing (k : CfgKind) (seen : Bool) : State :=
  { up with link := { up.link with cfg := [⟨9, k⟩] }, pd := { up.pd with applied := if seen then [[9, 0, 0, 0]] else [] } }

theorem test_met_Slots :
    (writing (.param Pid.BANK_UV_TRIP 1 7) false).link.cfg = [⟨9, .param Pid.BANK_UV_TRIP 1 7⟩] ∧ (9 : Byte) ≠ 0 ∧
    (writing (.clear 23) true).pd.applied.any (fun ts => ts.contains 9) = true ∧
    (writing (.prepare 23) false).pd.applied.any (fun ts => ts.contains 9) = false ∧ (writing (.vexc 1 true) false).pdOn = true := by
  decide +kernel

def flagged (x : Byte) : UpFrame := { up.upFrame 0 0 0 [] with flags := List.replicate 24 x }

theorem test_met_UplinkFlags :
    up.hasCh 0 = true ∧ ((idle 0 up).chan 0).state.energised = true ∧ (loaded up).paired 0 = true ∧
    ((loaded up).chan (twinOf 0)).state.energised = true ∧ ((loaded up).pdChan (twinOf 0)).bankOff = false ∧
    ((flagged 0).flag (twinOf 0) &&& ~~~((loaded up).chan (twinOf 0)).psFault) = 0 ∧ ((flagged 0).flag (twinOf 0)).getLsbD 1 = false ∧
    ((idle 0 up).pdChan 0).bankOff = false ∧ ((flagged 0x10).flag 0 &&& ~~~(up.chan 0).psFault).toNat / 16 ≠ 0 ∧
    ((flagged 0x10).flag 0).getLsbD 1 = false ∧ ((flagged 4).flag 0 &&& ~~~(up.chan 0).psFault).getLsbD 2 = true ∧
    ((flagged 4).flag 0).getLsbD 1 = false ∧ ((flagged 2).flag 0 &&& ~~~(up.chan 0).psFault).toNat / 16 = 0 ∧
    ((flagged 2).flag 0).getLsbD 1 = true ∧ ((flagged 2).flag 0 &&& ~~~(up.chan 0).psFault).getLsbD 2 = false ∧
    ((up.onPdChan 0 fun k => { k with park := true, parkHold := true }).pdChan 0).parkHold = true ∧
    (up.pdChan 0).parkHold = false ∧ (up.pdChan 0).turnOff ≠ .plateau := by decide +kernel

/-- A running modulator inside a pass of a table of two entries. -/
def modOf (f : Modulator → Modulator) : State :=
  (up.onMod 0 fun k => f { k with running := true, inPass := true }).setPar Pid.ADC_TABLE_LEN 0 2
def leaving (fc : Nat) (last : Bool) : State := modOf fun k => { k with out := [⟨0, 0, 5, 100, fc, last⟩] }
/-- A filter of order 1 that ends its block with the bit to come. -/
def endsBlock (k : Modulator) : Modulator :=
  { k with sinc := { Sinc.init 1 with bits := ((modOf id).ePar 0 0 Pid.ADC_E_RATIO).toNat - 1, blocks := 5 } }

theorem test_met_Modulators :
    up.hwOn = true ∧ (crc8Slot 0 == (BitVec.ofNat 8 (crc8Slot 0)).toNat) = true ∧
    (crc8Slot 0 == (BitVec.ofNat 8 (crc8Slot 0 + 1)).toNat) = false ∧ (up.modu 15).running = false ∧
    ((modOf id).modu 0).running = true ∧ ((modOf id).modu 0).inPass = true ∧ ((modOf id).modu 0).out = [] ∧
    ((leaving 1 true).modu 0).out = ⟨0, 0, 5, 100, 1, true⟩ :: [] ∧ (leaving 1 true).fc < 1 ∧ 0 ≤ (leaving 0 false).fc ∧
    (6 : Int) ≠ 5 ∧ (101 : Nat) ≠ 100 ∧
    ({ leaving 0 true with lostClks := [98] } : State).lostClks.any (fun a => meets a 5 100 3) = true ∧
    (leaving 0 true).lostClks.any (fun a => meets a 5 100 3) = false ∧
    ((modOf fun k => { k with inPass := false }).modu 0).inPass = false := by decide +kernel

theorem test_met_Decimator :
    ((modOf fun k => { k with inPass := false }).modu 0).inPass = false ∧ 0 < ((modOf fun k => { k with wait := 3 }).modu 0).wait ∧
    ((modOf id).modu 0).ended = false ∧ ((modOf id).modu 0).source 0 = 0 ∧
    (((modOf id).modu 0).sinc.take ((modOf id).ePar 0 0 Pid.ADC_E_RATIO).toNat true).2 = none ∧
    (((modOf endsBlock).modu 0).sinc.take ((modOf endsBlock).ePar 0 0 Pid.ADC_E_RATIO).toNat true).2.isSome = true ∧
    ((modOf fun k => { endsBlock k with discard := true }).modu 0).discard = true ∧ ((modOf endsBlock).modu 0).discard = false ∧
    (((modOf endsBlock).setPar Pid.ADC_E_COUNT 0 0).ePar 0 0 Pid.ADC_E_COUNT).toNat = 0 ∧
    ((modOf endsBlock).modu 0).done + 1 < (((modOf endsBlock).setPar Pid.ADC_E_COUNT 0 2).ePar 0 0 Pid.ADC_E_COUNT).toNat ∧
    (((modOf endsBlock).setPar Pid.ADC_E_COUNT 0 1).ePar 0 0 Pid.ADC_E_COUNT).toNat ≤ ((modOf endsBlock).modu 0).done + 1 ∧
    ((modOf endsBlock).modu 0).entry + 1 < (modOf endsBlock).parN Pid.ADC_TABLE_LEN 0 ∧
    (modOf endsBlock).parN Pid.ADC_TABLE_LEN 0 ≤ ((modOf fun k => { endsBlock k with entry := 1 }).modu 0).entry + 1 := by
  decide +kernel

def ordered (off park hold : BitVec 24) : State := { up with link := { up.link with softOff := off, park := park, hold := hold } }

theorem test_met_UrgentAndLoss :
    up.hwOn = true ∧ up.link.txOn = true ∧ up.pdOn = true ∧ up.pd.units = true ∧ up.hasCh 23 = true ∧
    (maskWhere fun c => maskBit (ordered 0x800000 0 0).link.softOff c && !(up.pdChan c).softIgnore) ≠ 0 ∧
    (maskWhere fun c => maskBit (ordered 0 1 0).link.park c && !(up.pdChan c).park) ≠ 0 ∧
    (maskWhere fun c => maskBit (ordered 0 0 1).link.hold c && !(decide (0 < (up.pdChan c).hold))) ≠ 0 ∧
    (maskWhere fun c => maskBit up.link.hold c && !(decide (0 < (up.pdChan c).hold))) = 0 ∧
    (ordered 0 1 1).stillPending.link.nextSymbol = some (3, 1) ∧
    (let m := symbolWord 3 1 ^^^ 0x01#32; m.extractLsb' 4 4 ≠ ~~~(m.extractLsb' 0 4)) ∧
    (let m := symbolWord 3 1 ^^^ 0x33#32; m.extractLsb' 4 4 = 0) ∧
    (let m := symbolWord 3 1 ^^^ 0x44#32; 4 ≤ (m.extractLsb' 4 4).toNat) ∧
    up.pdPar Pid.BANK_PARK_HOLD 1 ≠ 0 ∧ (up.pdChan 23).turnOff = .none ∧ (up.pdChan 23).park = false ∧
    ({ up with link := { up.link with supervised := true } } : State).link.supervised = true ∧ (up.chan 23).state ≠ .parked ∧
    ({ up with otp := { up.otp with variant := .clv08B } } : State).hasCh 23 = false := by decide +kernel

def dueBank : State := { up with fc := 120 }.onPdBank 1 fun k => { k with load := true, frame := 1 }
def oldBank : State := up.onPdBank 1 fun k => { k with loadOld := true, frameOld := 1 }
def lateBank : State := { up.onBank 0 fun k => { k with load := true } with fc := 119 }

theorem test_met_Periods :
    dueBank.hwOn = true ∧ dueBank.pdOn = true ∧ dueBank.pd.units = true ∧ (dueBank.pdChan 12).park = false ∧
    (dueBank.pdChan 12).hold ≤ 1 ∧ (dueBank.pdBank 1).ov = false ∧ (dueBank.pdBank 1).uv = false ∧ (dueBank.pdBank 1).load = true ∧
    (dueBank.pdBank 1).frame = BitVec.ofNat 8 (((dueBank.bank 1).index + 1) % 65536) ∧
    (dueBank.pdBank 1).came + 120 ≤ dueBank.fc ∧ lateBank.hwOn = true ∧ lateBank.pdOn = true ∧ lateBank.pd.units = true ∧
    (lateBank.pdBank 0).ov = false ∧ (lateBank.pdBank 0).uv = false ∧ lateBank.fc < (lateBank.pdBank 0).came + 120 ∧
    (lateBank.pdBank 0).loadOld = false ∧ 1 < ((up.onPdChan 12 fun k => { k with hold := 2 }).pdChan 12).hold ∧
    ((oldBank.pdBank 1).loadOld = true ∧ (oldBank.pdBank 1).load = false) ∧
    (List.replicate 12 ((2047, -2048) : Int × Int)).length = 12 ∧ (fbOf 4).fbMode 0 = 4 ∧
    up.parN Pid.FB_SSI_EVERY 0 ≤ (up.fb 0).ssiCentres + 1 := by decide +kernel
/-! ### Hypotheses: motion and the coil drive -/

theorem test_met_Integration :
    up.hwOn = true ∧ (up.chan 23).state.inMotion = false ∧ (up.chan 23).motion.held = [] ∧ (up.chan 23).motion.rampReq = none ∧
    (up.chan 23).motion.immReq = none ∧ (up.chan 23).motion.capP = false ∧ (up.chan 23).motion.capN = false ∧
    (up.chan 23).motion.disablePending = false ∧ (up.chan 23).motion.stopFault = false ∧
    (∀ c, (assertsOn up.assertList c).ramp = false ∧ (assertsOn up.assertList c).imm = false) ∧
    (∀ g : Fin 4, (up.groups[g].active && up.groups[g].members.any fun x => x.1 == (23 : Ch)) = false) ∧
    up.paired 0 = false ∧ (loaded up).paired 0 = true ∧ ((loaded up).chan (twinOf 0)).motion.disablePending = false ∧
    ((idle 0 up).chan 0).state = .idle ∧ ((at_ 0 .holdReduced up).chan 0).state = .holdReduced ∧
    ((up.onMotion 0 fun m => { m with rampReq := some .stop }).chan 0).motion.rampReq = some .stop ∧
    ((up.onMotion 0 fun m => { m with immReq := some .stop }).chan 0).motion.immReq = some .stop ∧
    (up.chan 0).motion.disablePending = false ∧ up.link.txOn = true := by decide +kernel

/-- A channel that a MOVE_VEL waits for, and one in motion at half a step of VMAX, both without jerk. -/
def takesVel : State := ((idle 0 up).setPar Pid.CH_JMAX 0 0).onMotion 0 fun m => { m with held := [.vel 6553600] }
def inVelocity : State :=
  ((at_ 0 .moving up).setPar Pid.CH_JMAX 0 0).onMotion 0 fun m =>
    { m with mode := .velocity, velCmd := 6553600, vel := 3276800 * 2 ^ 24 }

theorem test_met_StepOfAnEngine :
    (takesVel.chan 0).state = .idle ∧ (takesVel.chan 0).motion.held = [.vel 6553600] ∧
    (let m := (takesVel.chan 0).motion
     (Motion.advance (takesVel.limits 0 Asserts.none) false { { m with held := [], vlimitRfx := 1310720000 } with
       mode := .velocity, velCmd := 6553600, velReported := none, target := m.position }).2 = .running) ∧
    (let m := (inVelocity.chan 0).motion
     (Motion.advance (inVelocity.limits 0 Asserts.none) false { m with held := [], vlimitRfx := 1310720000 }).2 = .running) ∧
    (inVelocity.chan 0).state = .moving ∧ (inVelocity.chan 0).motion.mode = .velocity ∧ (inVelocity.chan 0).motion.vel ≠ 0 ∧
    (let l := inVelocity.limits 0 Asserts.none
     l.j = 0 ∧ 0 ≤ l.v ∧ 0 < l.a ∧ 0 < l.d) ∧
    posMin ≤ (inVelocity.chan 0).motion.pos ∧ (inVelocity.chan 0).motion.pos ≤ posMax ∧ 0 ≤ (inVelocity.chan 0).motion.carry ∧
    (inVelocity.chan 0).motion.carry < 2 * stepRate := by decide +kernel

/-- A motion command that takes effect on a channel in IDLE at 0: it goes on, arrives, comes to rest, or brakes at the end of the
range. -/
def advanceFrom (m : Motion) : MotEnd := (m.advance ((idle 0 up).limits 0 Asserts.none) false).2

theorem test_met_HeldMoves :
    (let m := (up.chan 0).motion
     m.position = 0 ∧ advanceFrom { m with mode := .position, target := 5 } = .running ∧
     advanceFrom { m with mode := .position, target := 0 } = .arrived ∧
     advanceFrom { m with mode := .follow, target := 0 } = .running ∧
     advanceFrom { m with mode := .velocity, velCmd := 0 } = .stopped ∧
     advanceFrom { m with mode := .velocity, velCmd := 6553600, pos := posMax, vel := 2 ^ 40 } = .rangeEnd ∧
     2 ^ 39 ≤ m.position + 2 ^ 39 ∧ m.position + -(2 ^ 39 + 1) < -(2 ^ 39)) := by decide +kernel

/-- A rule whose stop is asserted on channel 0, and a channel that moves towards a captured limit. -/
def stopRule (action : Int) : State :=
  (at_ 0 .moving (ruled (plainLo + action * 2 ^ 41 + 2 ^ 46))).onRule 0 fun k => { k with enabled := true, armed := true, asserted := 1 }
def towardsLimit (mode : Int) : State :=
  ((at_ 0 .moving up).setPar Pid.CH_LIMIT_MODE 0 mode).onMotion 0 fun m => { m with capP := true, vel := 1 }

theorem test_met_Stops :
    (assertsOn (stopRule 1).assertList 0).ramp = true ∧ (assertsOn (stopRule 1).assertList 0).imm = false ∧
    (assertsOn (stopRule 2).assertList 0).imm = true ∧ ((stopRule 2).chan 0).state = .moving ∧
    ((towardsLimit 1).chan 0).motion.capP = true ∧ 0 < ((towardsLimit 1).chan 0).motion.vel ∧
    (towardsLimit 1).par Pid.CH_LIMIT_MODE 0 = 1 ∧ (towardsLimit 2).par Pid.CH_LIMIT_MODE 0 = 2 ∧
    (assertsOn (towardsLimit 2).assertList 0).ramp = false ∧ (assertsOn (towardsLimit 2).assertList 0).imm = false ∧
    ((towardsLimit 2).chan 0).motion.immReq = none ∧ ((towardsLimit 2).chan 0).motion.rampReq = none := by decide +kernel

/-- Group 3 with channels 1 and 23 as members, before its first step and on its way. -/
def groupWaits (target : Int) : State :=
  { idle 23 (idle 1 up) with
    groups := up.groups.set 3 { Group.init with active := true, members := [(1, 0, target), (23, 0, 0)] } }
def groupMoves (p : Int) (f : Motion → Motion) : State :=
  { (at_ 23 .moving (at_ 1 .moving up)).onMotion 1 (fun m => f { m with mode := .interp }) with
    groups := up.groups.set 3 { Group.init with
      active := true, started := true, members := [(1, 0, 2 ^ 24)], spans := [(1, 2 ^ 24)], len := 2 ^ 24, pos := p } }

theorem test_met_Groups :
    (groupWaits 0).groups[(3 : Fin 4)].active = true ∧ (groupWaits 0).groups[(3 : Fin 4)].stopping = false ∧
    ((groupWaits 5).groups[(3 : Fin 4)].members.map fun x => x.1).Nodup ∧ (groupWaits 5).groups[(3 : Fin 4)].started = false ∧
    ((groupWaits 5).chan 23).state = .idle ∧ (∀ c, ((groupWaits 5).chan c).motion.held = [] ∧
      ((groupWaits 5).chan c).motion.rampReq = none ∧ ((groupWaits 5).chan c).motion.immReq = none) ∧
    (∀ j : Fin 4, j ≠ 3 → (groupWaits 5).groups[j].active = false) ∧
    ((groupMoves 0 id).chan 1).state = .moving ∧ ((groupMoves 0 id).chan 1).motion.mode = .interp ∧
    (let g := (groupMoves 0 id).groups[(3 : Fin 4)]
     g.len ≠ 0 ∧ (g.advance ((groupMoves 0 id).groupLimits g (assertsOn []))).pos ≠ g.len) ∧
    (let g := (groupMoves (2 ^ 24) id).groups[(3 : Fin 4)]
     (g.advance ((groupMoves (2 ^ 24) id).groupLimits g (assertsOn []))).pos = g.len) ∧
    ((groupMoves 0 fun m => { m with rampReq := some .stop }).chan 1).motion.rampReq = some .stop ∧
    ((groupMoves 0 fun m => { m with immReq := some .reflex }).chan 1).motion.immReq ≠ none := by decide +kernel

def coilOf (f : Coil → Coil) : State := (idle 0 up).onCoil 0 f

def countOf (q : SatCount → SatCount) : State := coilOf fun w => { w with count := q { w.count with run := 500 } }

theorem test_met_Standstill :
    up.hwOn = true ∧ ((idle 0 up).chan 0).state = .idle ∧ ((inFault false up).chan 0).state = .fault ∧
    ((inFault false up).chan 0).fetsOff = false ∧ ((inFault false up).chan 0).coil.reduced = false ∧
    (∀ c, bankOf c = 1 → up.hasCh c = true → (up.chan c).state.stopped = true) ∧
    up.par Pid.CH_SAT_PERIODS 0 ≤ ((countOf id).chan 0).coil.count.run ∧ ((countOf id).chan 0).coil.count.checked = false ∧
    deficit ((countOf id).chan 0).coil.count.meas1 ((countOf id).chan 0).coil.count.set1 = false ∧
    ((countOf fun q => { q with reported := true }).chan 0).coil.count.reported = true ∧ deficit 25 100 = false ∧
    deficit 24 100 = true ∧ ((countOf fun q => { q with meas2 := 24, set2 := 100 }).chan 0).state.energised = true ∧
    (up.chan 0).coil.count.run < up.par Pid.CH_SAT_PERIODS 0 := by decide +kernel
def keOf (good : Nat) : State := up.onEst 0 fun e => { e with keSeen := 12500, keGood := good }
theorem test_met_Ke :
    (keOf 11250).fwOn = true ∧ (keOf 11250).parB Pid.CH_KE_LEARN 0 = true ∧ (keOf 11250).keFull 0 = true ∧
    9 * 12500 ≤ 10 * 11250 ∧ 10 * 11249 < 9 * 12500 ∧ (keOf 11249).keFull 0 = true := by decide +kernel

/-- A coil of 2 ohm and 2 mH at the test current of 1 A peak, as its timetable measures it. -/
def goodTrack : RcTrack := { RcTrack.init with peak := 24000, vSum := 2000000000, iSum := 1000000, endI := 707107, cross := some 1000000 }
def measured (k : RcTrack) : State :=
  ((at_ 0 .rollcall up).setPar Pid.CH_I_RUN 0 1000).onEst 0 fun e => { e with rc := ⟨2802, 1, 1, 1, goodTrack, k⟩ }

theorem test_met_RollCall :
    (measured goodTrack).hwOn = true ∧ (measured goodTrack).measuring 0 = true ∧ (measured goodTrack).rcDone 0 = true ∧
    (measured goodTrack).fwOn = true ∧ (measured goodTrack).isTwin 0 = false ∧
    (measured goodTrack).rcCode 0 ((measured goodTrack).rcMeasured 0).1 ((measured goodTrack).rcMeasured 0).2 = 0x01 ∧
    (measured { goodTrack with endI := 0 }).rcCode 0 ((measured { goodTrack with endI := 0 }).rcMeasured 0).1
      ((measured { goodTrack with endI := 0 }).rcMeasured 0).2 = 0x11 ∧
    ((measured RcTrack.init).rcMeasured 0 ≠ (measured goodTrack).rcMeasured 0) ∧
    (twins (measured goodTrack)).isTwin 0 = true ∧ (twins (measured goodTrack)).partnerOut 0 = true ∧
    ({ measured goodTrack with boot := { up.boot with eclipse := true } } : State).fwOn = false ∧
    ({ measured goodTrack with boot := { up.boot with eclipse := true } } : State).measuring 0 = true := by decide +kernel

def listenAt (c : Ch) : State → State := fun s =>
  (at_ c .rollcall s).onEst c fun e => { e with listening := true, samples := List.replicate 1000 (0, 0) }
def listening : State := listenAt 0 up
def bothListen : State := listenAt 12 (listenAt 0 (twins up))
def joining (st : ChState) : State :=
  (at_ 12 st (at_ 0 .rollcall up)).onChan 0 fun k => { k with rejoin := .loading }

/-- The fit of real samples goes through the free scale of assumption 21: it is met by a fit written out. Without R the result
is 6 whatever the samples are. -/
theorem test_met_Catch :
    listening.hwOn = true ∧ listening.isTwin 0 = false ∧ (listening.chan 0).state = .rollcall ∧
    (listening.chan 0).est.listening = true ∧ 1000 ≤ (listening.chan 0).est.samples.length ∧
    listening.catchResult 0 ⟨900, 0, 1, 0, 0, 0, 1000000000⟩ ≠ 1 ∧
    ((listening.setPar Pid.CH_MOTOR_R 0 1000).setPar Pid.CH_MOTOR_L 0 1000).catchResult 0
      ⟨900, 2 ^ 20, 1, 2 ^ 40, 0, 0, 1000000000⟩ = 1 ∧ (listening.chan 0).motion.armed = none ∧
    ((armedAt 0 up).chan 0).motion.armed = some (.vel 7) ∧ bothListen.isTwin 0 = true ∧ bothListen.isTwin 12 = true ∧
    (bothListen.chan (twinOf 0)).state = .rollcall ∧ (bothListen.chan (twinOf 0)).est.listening = true ∧
    (bothListen.chan 12).est.samples.length = (bothListen.chan 0).est.samples.length ∧ bothListen.fwOn = true ∧
    (at_ 12 .idle bothListen).isTwin 0 = true ∧ ((at_ 12 .idle bothListen).chan (twinOf 0)).state = .idle := by decide +kernel
def ramping (done : Nat) : State := up.onChan 0 fun k => { k with rejoin := .ramp done }

theorem test_met_Rejoin :
    (joining .idle).fwOn = true ∧ ((joining .idle).chan 0).state = .rollcall ∧ ((joining .idle).chan 0).rejoin = .loading ∧
    ((joining .idle).chan (twinOf 0)).state.energised = true ∧ ((joining .fault).chan (twinOf 0)).state.energised = false ∧
    (ramping 5).hwOn = true ∧ ((ramping 5).chan 0).rejoin = .ramp 5 ∧ (ramping 5).rampTotal 0 ≤ 100000 ∧
    0 < (ramping 0).rampTotal 0 := by decide +kernel

/-- A valid estimate whose angle criterion, or whose following error, has lasted long enough. -/
def stalled (latched : Bool) (action : Int) : State :=
  (((idle 0 up).onEst 0 fun e => { e with valid := true, angleCount := 262144 }).onCauses 0 fun k =>
    { k with stall := latched }).setPar Pid.CH_STALL_ACTION 0 action
def erring (latched : Bool) (action : Int) : State :=
  (((idle 0 up).onEst 0 fun e => { e with feCount := 1000 }).onCauses 0 fun k =>
    { k with follow := latched }).setPar Pid.CH_FE_ACTION 0 action

def together (stall fe : Int) : State :=
  (((stalled false stall).onEst 0 fun e => { e with feCount := 1000 }).setPar Pid.CH_FE_ACTION 0 fe)

theorem test_met_Stalls :
    (stalled false 0).hwOn = true ∧ ((stalled false 0).chan 0).est.valid = true ∧ (stalled false 0).isTwin 0 = false ∧
    ((stalled false 0).stallCounts 0).1 = true ∧ (stalled false 0).feReached 0 = false ∧
    ((stalled false 0).chan 0).est.joint = false ∧ ((stalled false 0).chan 0).state.energised = true ∧
    ((stalled true 0).chan 0).causes.stalled = true ∧ (stalled false 0).parN Pid.CH_STALL_ACTION 0 = 0 ∧
    (stalled false 1).parN Pid.CH_STALL_ACTION 0 = 1 ∧ (stalled false 2).parN Pid.CH_STALL_ACTION 0 = 2 ∧
    (erring false 0).feReached 0 = true ∧ ((erring false 0).chan 0).est.valid = false ∧
    ((erring true 0).chan 0).causes.followed = true ∧ ((erring false 0).chan 0).causes.followed = false ∧
    (erring false 1).parN Pid.CH_FE_ACTION 0 = 1 ∧ (erring false 2).parN Pid.CH_FE_ACTION 0 = 2 ∧
    (erring false 0).parN Pid.CH_FE_ACTION 0 = 0 ∧ (erring false 0).pairEnergised 0 = false := by decide +kernel
theorem test_met_StallBesideFollowing :
    (together 1 2).feReached 0 = true ∧ ((together 1 2).chan 0).causes.followed = false ∧ ((together 1 2).chan 0).est.joint = false ∧
    ((together 1 2).stallCounts 0).1 = true ∧ (together 1 2).parN Pid.CH_FE_ACTION 0 = 2 ∧
    (together 1 2).parN Pid.CH_STALL_ACTION 0 < 2 ∧ (together 2 1).parN Pid.CH_STALL_ACTION 0 = 2 ∧
    ((together 2 1).chan 0).est.valid = true ∧ ((together 2 1).chan 0).causes.stalled = false ∧
    (((together 0 0).onEst 0 fun e => { e with joint := true }).chan 0).est.joint = true := by decide +kernel

/-! ### Hypotheses: the power stage and feedback -/

def pdOf (f : PdChan → PdChan) : State := up.onPdChan 0 f
/-- An entry with its gates enabled is loaded. -/
def drives (k : PdChan) : PdChan := { k with entry := { k.entry with gateEn := true } }

theorem test_met_PowerStage :
    up.pdOn = true ∧ up.pd.units = true ∧ (pdOf drives).drives 0 = true ∧ ((pdOf drives).pdChan 0).commandedOn = true ∧
    (up.pdChan 0).commandedOn = false ∧ (up.pdChan 0).offFc ≠ some up.fc ∧
    ((pdOf fun k => { k with offFc := some 0 }).pdChan 0).offFc = some (pdOf id).fc ∧
    ({ up with power := { up.power with extLow := true } } : State).drives 0 = false ∧
    ((pdOf fun k => { k with checkFc := some 0 }).pdChan 0).checkFc = some 0 ∧ up.fc ≤ 0 + 480 ∧ (up.pdChan 0).checkFc = none ∧
    ((pdOf fun k => { k with turnOff := .plateau }).pdChan 0).turnOff = .plateau ∧ (up.pdChan 0).turnOff ≠ .plateau ∧
    ((pdOf fun k => { k with park := true, parkHold := true }).pdChan 0).parkHold = true ∧ (up.pdChan 0).parkHold = false ∧
    ({ up with pd := { up.pd with units := false } } : State).pd.units = false ∧
    1360 ≤ (1360#16).toInt ∧ (1199#16).toInt < 1200 := by decide +kernel
theorem test_met_Supply :
    up.pdOn = true ∧ up.pd.units = true ∧
    up.level100 Pid.BANK_OV_TRIP 1 < (65535#16).toNat ∧ ((6001#16).toNat : Int) < up.level100 Pid.BANK_UV_TRIP 1 ∧
    6000 < (6001#16).toNat ∧ (6000#16).toNat ≤ 6000 ∧ up.pdPar Pid.BANK_CHOP_ENABLE 1 = 1 ∧
    (pdOf drives).fetsOn 0 = true ∧ up.fetsOn 0 = false ∧
    ({ up with pd := { up.pd with config := Sparse.put 1 [] (pkey Pid.BANK_CHOP_ENABLE 1) 0 } } : State).pdPar
      Pid.BANK_CHOP_ENABLE 1 ≠ 1 ∧ up.level100 Pid.BANK_CHOP_ON 1 < (65535#16).toNat ∧
    ((0#16).toNat : Int) < up.level100 Pid.BANK_CHOP_OFF 1 ∧ up.hwOn = true ∧
    ((up.onBank 1 fun k => { k with status := 0x10 }).bank 1).status.getLsbD 4 = true ∧ (up.bank 1).chopMax < (201#32).toNat ∧
    (up.bank 1).chopReported = false ∧
    ((up.onBank 1 fun k => { k with chopReported := true }).bank 1).chopReported = true := by decide +kernel

def fbWith (mode : Int) (f : Fb → Fb) : State := (fbOf mode).onFb 0 f

theorem test_met_Edges :
    (fbOf 1).hwOn = true ∧ (fbOf 1).hasCh 0 = true ∧ ((fbOf 1).fb 0).running = true ∧ (fbOf 1).parN Pid.FB_MODE 0 = 1 ∧
    (quadPlace true false + 4 - quadPlace false false) % 4 = 1 ∧ (quadPlace false true + 4 - quadPlace false false) % 4 = 3 ∧
    (quadPlace true true + 4 - quadPlace ((fbOf 1).fb 0).lineA ((fbOf 1).fb 0).lineB) % 4 = 2 ∧ (up.fb 0).running = false ∧
    (fbOf 1).parN Pid.FB_POL 0 = 0 ∧ ((fbOf 1).setPar Pid.FB_POL 0 3).parN Pid.FB_POL 0 = 3 ∧
    ((fbWith 2 fun f => { f with hallOk := true, lineA := true }).fb 0).hallOk = true ∧
    hallPlace true true false = some 1 ∧ hallPlace true false false = some 0 ∧ hallPlace true true true = none ∧
    (fbOf 6).parN Pid.FB_MODE 0 = 6 ∧ (fbOf 5).parN Pid.FB_STEP_EDGE 0 = 0 ∧
    ((fbOf 5).setPar Pid.FB_STEP_EDGE 0 2).parN Pid.FB_STEP_EDGE 0 = 2 ∧
    ((fbOf 5).setPar Pid.FB_STEP_EDGE 0 1).parN Pid.FB_STEP_EDGE 0 = 1 ∧
    ((fbWith 1 fun f => { f with limited := f.limited.set 0 true }).fb 0).limited.getD 0 false = true := by decide +kernel
def lined : State := (fbWith 1 fun f => { f with indexSeen := true, count := 4001 }).setPar Pid.FB_LINES 0 1000
theorem test_met_Index :
    lined.par Pid.FB_LINES 0 ≠ 0 ∧ (lined.fb 0).indexSeen = true ∧ (lined.fb 0).dirChanged = false ∧
    |(|((lined.fb 0).count - (lined.fb 0).indexPos).toInt| - 4 * lined.par Pid.FB_LINES 0)| ≤
      (lined.setPar Pid.FB_LINES_TOL 0 1).par Pid.FB_LINES_TOL 0 ∧
    ¬|(|((lined.fb 0).count - (lined.fb 0).indexPos).toInt| - 4 * lined.par Pid.FB_LINES 0)| ≤
      (lined.setPar Pid.FB_LINES_TOL 0 0).par Pid.FB_LINES_TOL 0 ∧
    (fbOf 1).par Pid.FB_LINES 0 = 0 := by decide +kernel

def sentFrame : SentRx := ⟨168000, List.replicate 7 36000 ++ [3000 * (12 + sentCrc4 true (List.replicate 6 0))]⟩
def wheel : State := (fbOf 6).setPar Pid.FB_WSS_MONITOR 0 1

theorem test_met_Absolute :
    (fbOf 3).parN Pid.FB_MODE 0 = 3 ∧ ((fbOf 3).fb 0).absSeen = false ∧ (fbOf 3).sentOk 0 sentFrame = true ∧
    ((fbWith 3 fun f => { f with absSeen := true }).fb 0).absSeen = true ∧
    (fbOf 3).sentOk 0 { sentFrame with calNs := 1 } = false ∧
    ((fbWith 4 fun f => { f with ssiBusy := true }).fb 0).ssiBusy = true ∧ (fbOf 4).parN Pid.FB_MODE 0 = 4 ∧
    (fbOf 4).serialOk 0 0 true = true ∧ ((fbOf 4).setPar Pid.FB_SSI_CHECK 0 2).serialOk 0 0 false = false ∧
    wheel.parN Pid.FB_MODE 0 = 6 ∧ wheel.parB Pid.FB_WSS_MONITOR 0 = true ∧ (wheel.fb 0).lineOpen ≠ true ∧
    (wheel.fb 0).lineShort ≠ true ∧ ((fbOf 6).setPar Pid.FB_WSS_MONITOR 0 0).parB Pid.FB_WSS_MONITOR 0 = false ∧
    (fbOf 1).parN Pid.FB_MODE 0 ≠ 0 := by decide +kernel

/-! ### Hypotheses: the matrix, converters and filters -/

def firing (action dur : Int) : State :=
  (((up.setPar Pid.RFX_RULE_LO 0 (2 ^ 17 + 2 * 2 ^ 22 + action * 2 ^ 41 + dur * 2 ^ 45)).setPar Pid.RFX_RULE_HI 0 1).onRule 0
    fun k => { k with enabled := true }).onMotion 0 fun m => { m with limP := true }
/-- The same rule, called in this fabric cycle, and the next one with another action. -/
def called (action dur : Int) : State := (firing action dur).onRule 0 fun k => { k with due := true, members := 1 }
def bothCalled (a b : Int) : State :=
  ((((called a 0).setPar Pid.RFX_RULE_LO 1 (2 ^ 17 + 2 * 2 ^ 22 + b * 2 ^ 41)).setPar Pid.RFX_RULE_HI 1 1).onRule 1 fun k =>
    { k with enabled := true, due := true, members := 1 }).onChan 0 fun k => { k with state := .idle, fetsOff := false }
def hitOf (s : State) (r : RuleIx) (c : Ch) : Bool :=
  maskBit (s.extend (s.ruleWord r) (s.targets (s.ruleWord r)
    ((s.rule r).members ||| (if s.condition r = true then s.newly r else 0)))) c

theorem test_met_Firing :
    (firing 0 0).hwOn = true ∧ (firing 0 0).fires 0 = true ∧ (firing 2 2).fires 0 = true ∧ ((firing 2 2).ruleWord 0).dur = 2 ∧
    (((firing 0 0).onRule 0 fun k => { k with enableNext := some false }).rule 0).enableNext = some false ∧
    up.fires 255 = false ∧ (called 1 0).pending = [] ∧ (called 1 0).fabOn = true ∧ (called 1 0).link.txOn = true ∧
    ((called 1 0).rule 0).due = true ∧ ((called 1 0).rule 0).enabled = true ∧ ((called 1 0).rule 0).enableNext = none ∧
    ((called 1 0).rule 0).releaseNext = false ∧ ((called 1 0).ruleWord 0).dur = 0 ∧ hitOf (called 1 0) 0 0 = true ∧
    (∀ q, q ≠ 0 → ((called 1 0).rule q).due = false ∧ ((called 1 0).rule q).enabled = false) ∧
    ((called 1 0).ruleWord 0).action = 1 ∧ ((called 1 0).chan 0).motion.rampReq = none ∧
    ((called 2 0).ruleWord 0).action = 2 ∧ ((called 5 0).ruleWord 0).action = 5 ∧
    ((idle 0 (called 5 0)).chan 0).state.energised = true ∧ ((called 5 0).chan 0).state = .disabled ∧
    ((called 6 0).ruleWord 0).action = 6 ∧ ((called 6 0).chan 0).state ≠ .parked ∧ ((called 0 0).ruleWord 0).action = 0 ∧
    ((up.rule 3).due = false ∧ (up.rule 3).enabled = false) := by decide +kernel
theorem test_met_TwoFirings :
    hitOf (bothCalled 5 6) 0 0 = true ∧ hitOf (bothCalled 5 6) 1 0 = true ∧ ((bothCalled 5 6).ruleWord 1).action = 6 ∧
    ((bothCalled 6 5).ruleWord 1).action = 5 ∧ ((bothCalled 5 6).chan 0).state.energised = true ∧
    (∀ p, p ≠ 0 → p ≠ 1 → ((bothCalled 5 6).rule p).due = false) ∧ (0 : RuleIx) < 1 ∧
    maskBit ((firing 1 1).begun 0) 0 = true := by decide +kernel

def trig (f : Modulator → Modulator) : State := up.onMod 0 fun k => f { k with running := true }
def interleaved : State :=
  (trig fun k => { k with paired := true, due := [0] }).onMod 1 fun k => { k with running := true, paired := true, powered := true }

theorem test_met_Triggers :
    (trig id).hwOn = true ∧ ((trig id).modu 0).running = true ∧ (trig id).triggerDue 0 = true ∧
    ((trig id).modu 0).paired = false ∧ ((trig id).modu 0).inPass = false ∧ ((trig id).modu 0).due = [] ∧ ((trig fun k => { k with due := [24] }).modu 0).due ≠ [] ∧
    ((trig fun k => { k with due := [24, 48] }).modu 0).due = [24, 48] ∧ (trig fun k => { k with due := [24] }).fc < 24 ∧
    ((trig fun k => { k with due := [0, 24], inPass := true, ovrLimited := true }).modu 0).due = [0, 24] ∧ 0 ≤ (trig id).fc ∧
    ((trig fun k => { k with inPass := true }).modu 0).inPass = true ∧
    ((trig id).setPar Pid.ADC_E_COUNT 0 0).endless 0 = true ∧ ((trig id).setPar Pid.ADC_E_COUNT 0 1).endless 0 = false ∧
    ((trig fun k => { k with ovrLimited := true }).modu 0).ovrLimited = true ∧ ((trig id).modu 0).ovrLimited = false ∧
    ((trig fun k => { k with powered := true }).modu 0).powered = true ∧ ((trig fun k => { k with powered := false }).modu 0).powered = false ∧
    ((interleaved.modu 0).paired = true ∧ (interleaved.modu 0).due = [0] ∧ (interleaved.modu (oddOf 0)).paired = true ∧
      (interleaved.modu (oddOf 0)).powered = true) ∧ (0 : ModIx).val % 2 = 0 := by decide +kernel

def calRun (step : Nat) (x : Int) : CalRun := ⟨step, List.replicate 64 x, false, 0, none⟩
def calOf (k : CalRun) : State := up.onEntry (entryIx 0 15) fun _ => ⟨some 0, 0, some k⟩

theorem test_met_Calibration :
    (calOf (calRun 1 5)).fwOn = true ∧ (calOf (calRun 1 5)).entries[entryIx 0 15].cal = some (calRun 1 5) ∧
    (∀ d : Fin 16, d < 15 → (calOf (calRun 1 5)).entries[entryIx 0 d.val].cal = none) ∧
    64 ≤ (calRun 1 5).values.length ∧ (calRun 1 5).ended = none ∧
    (calOf (calRun 1 5)).calReason (entryIx 0 15) (calRun 1 5) (some 0) = 0 ∧ (calRun 1 5).step = 1 ∧
    (calOf (calRun 2 2097152)).calReason (entryIx 0 15) (calRun 2 2097152) (some 0) = 0 ∧
    (calOf (calRun 2 2097152)).entries[entryIx 0 15].zero = some 0 ∧
    (calOf (calRun 2 2097151)).calReason (entryIx 0 15) (calRun 2 2097151) (some 0) ≠ 0 := by decide +kernel

def booked (f : Gb → Gb) : State :=
  { (up.onGb 255 fun k => f { k with window := 1000 }).setPar Pid.GB_WINDOW 255 1000 with time := 2000 }

theorem test_met_Gradebook :
    (booked id).hwOn = true ∧ (booked id).parN Pid.GB_WINDOW 255 ≠ 0 ∧ (booked id).time % (booked id).parN Pid.GB_WINDOW 255 = 0 ∧
    ((booked id).gb 255).closed ≠ some (booked id).time ∧ ((booked id).gb 255).window ≠ 0 ∧
    ((booked fun k => { k with closed := some 2000 }).gb 255).closed = some (booked id).time ∧
    (booked id).time % ((booked id).gb 255).window = 0 ∧
    ((booked fun k => { k with active := true }).gb 255).active = true ∧ ((booked id).gb 255).active = false ∧
    ((booked fun k => { k with enabled := true }).gb 255).enabled = true ∧ ((booked id).gb 255).enabled = false ∧
    (up.setPar Pid.GB_WINDOW 255 0).parN Pid.GB_WINDOW 255 = 0 ∧
    ({ booked id with time := 1999 } : State).time % 1000 ≠ 0 := by decide +kernel

/-- Channel 31 at the write cycle of its slot, past its settling. -/
def primedOf (f : Flt → Flt) : State :=
  { up.onFlt 31 fun k => f { k with running := true, firstSlot := 23250, primed := true, fresh := 2,
                                    inputs := [⟨23251, 7, false, false⟩, ⟨0, 8388607, false, false⟩] } with fc := 23970 }
def plainSlot (s : State) : Prop :=
  (s.flt 31).running = true ∧ s.atWrite 31 = true ∧ s.frameActive 31 = true ∧ (s.flt 31).stopReq = none ∧
    (s.flt 31).swapPending = none ∧ (s.flt 31).starved = false
/-- Sixteen results, eight on either side of the instant of the output, and a ratio of 240 fc. -/
def resampling : State :=
  (primedOf fun k => { k with
    rsRatio := 240
    inputs := (List.range 16).map fun i => ⟨23130 - 240 * i, 100, false, false⟩ }).setPar Pid.FLT_INPUT_MODE 31 1

theorem test_met_Filter :
    plainSlot (primedOf id) ∧ (primedOf id).hwOn = true ∧ (primedOf id).hasFlt = true ∧ (primedOf id).parN Pid.FLT_INPUT_MODE 31 ≠ 1 ∧
    (up.flt 31).running = false ∧ up.atWrite 31 = false ∧ (primedOf fun k => { k with firstSlot := 47250 }).frameActive 31 = false ∧
    (primedOf id).stopDue 31 = false ∧ ((primedOf fun k => { k with stopReq := some 23250 }).flt 31).stopReq = some 23250 ∧
    23250 + 720 ≤ (primedOf id).fc ∧ ((primedOf id).flt 31).primed = true ∧ ((primedOf id).flt 31).settleLeft = 0 ∧
    ((primedOf id).flt 31).inputs.take ((primedOf id).flt 31).fresh =
      [⟨23251, 7, false, false⟩] ++ (⟨0, 8388607, false, false⟩ : ResultIn) :: [] ∧
    (primedOf id).fc ≤ 23251 + 720 ∧ 0 + 720 < (primedOf id).fc ∧ ((primedOf id).page 31 ((primedOf id).flt 31).page1).ty = 0 ∧
    (((primedOf id).setPar Pid.FLT_P0_TYPE 31 2).page 31 false).ty = 2 ∧
    (((primedOf id).setPar Pid.FLT_P0_TYPE 31 1).page 31 false).ty = 1 ∧
    ((primedOf fun k => { k with biquad := [(0, 0, 0, 0)] }).flt 31).biquad.length = ((primedOf id).page 31 false).len ∧
    0 < ((primedOf fun k => { k with settleLeft := 1 }).flt 31).settleLeft ∧
    ((primedOf fun k => { k with primed := false, settleInForce := 1 }).flt 31).primed = false ∧
    0 < ((primedOf fun k => { k with primed := false, settleInForce := 1 }).flt 31).settleInForce ∧
    ((primedOf fun k => { k with fresh := 0, heldRun := 15 }).flt 31).heldRun < 16 ∧
    16 ≤ ((primedOf fun k => { k with fresh := 0, heldRun := 16 }).flt 31).heldRun ∧ ((primedOf id).flt 31).figures = none ∧
    ((primedOf fun k => { k with figures := some (240, 0) }).flt 31).figures = some (240, 0) ∧ up.fwOn = true := by
  unfold plainSlot; decide +kernel
theorem test_met_Resampler :
    let k := resampling.flt 31
    let newest := k.inputs.filter fun q => q.fc + 720 < resampling.fc
    let x : Int := (resampling.fc : Int) - 720 - 8 * k.rsRatio
    let n := (newest.takeWhile fun q => x < q.fc).length
    plainSlot resampling ∧ resampling.parN Pid.FLT_INPUT_MODE 31 = 1 ∧ n = 8 ∧ n + 8 ≤ newest.length ∧
    newest[n]? = some ⟨21210, 100, false, false⟩ ∧ 0 < k.rsRatio ∧ 2 * ((x - 21210) * 64 % k.rsRatio) < k.rsRatio ∧
    ((x - 21210) * 64 / k.rsRatio).toNat < 64 ∧ k.settleLeft = 0 ∧ k.primed = true := by
  unfold plainSlot; decide +kernel


/-! ### Hypotheses: CAN and auxiliary outputs -/

def plainFrame : CanFrame := ⟨0, false, false, false, false, false, List.replicate 8 0⟩
/-- Filter 127 of controller 1 matches every standard identifier, with the action given. -/
def filtered (action : Int) (f : Can → Can) : State :=
  (((bus 1 up).onCan 1 f).setPar Pid.CAN_FLT_MATCH 255 0).setPar Pid.CAN_FLT_ACTION 255 action
def crowded (n : Nat) : Can → Can := fun k => { k with ring := List.replicate n held1 }

theorem test_met_Reception :
    (bus 1 up).hwOn = true ∧ ((bus 1 up).can 1).active = true ∧ plainFrame.fd = false ∧
    (up.setPar Pid.CAN_FD_ENABLE 1 1).canB 1 Pid.CAN_FD_ENABLE = true ∧ ((bus 1 up).can 1).detecting = false ∧
    (bus 1 up).matching 1 plainFrame = [] ∧ ((bus 1 up).setPar Pid.CAN_RX_DEFAULT 1 0).canB 1 Pid.CAN_RX_DEFAULT = false ∧
    ((bus 1 up).setPar Pid.CAN_RX_DEFAULT 1 1).canB 1 Pid.CAN_RX_DEFAULT = true ∧
    (filtered 9 id).matching 1 plainFrame = 127 :: [] ∧ (filtered 9 id).parN Pid.CAN_FLT_ACTION (1 * 128 + 127) % 4 = 1 ∧
    ((filtered 9 (crowded 63)).can 1).ring.length < 64 ∧ 64 ≤ ((filtered 9 (crowded 64)).can 1).ring.length ∧
    ((filtered 9 (crowded 64)).setPar Pid.CAN_RX_OVERWRITE 1 0).canB 1 Pid.CAN_RX_OVERWRITE = false ∧
    ((filtered 9 (crowded 64)).setPar Pid.CAN_RX_OVERWRITE 1 1).canB 1 Pid.CAN_RX_OVERWRITE = true ∧
    (filtered 10 id).parN Pid.CAN_FLT_ACTION (1 * 128 + 127) % 4 = 2 ∧ (filtered 10 id).matching 1 plainFrame = 127 :: [] ∧
    ((filtered 10 id).setPar Pid.CAN_GW_ENABLE 1 1).canB 1 Pid.CAN_GW_ENABLE = true ∧
    ((filtered 10 id).can 1).restricted = false ∧ ((filtered 10 id).can 1).gwQueue.length < 8 ∧ plainFrame.data.length = 8 ∧
    ({ plainFrame with rtr := true } : CanFrame).rtr = true ∧ (filtered 10 id).matching 1 { plainFrame with rtr := true } = 127 :: [] ∧
    (up.setPar Pid.CAN_GW_ENABLE 1 0).canB 1 Pid.CAN_GW_ENABLE = false ∧ ((bus 1 up).can 1).phase = .onBus ∧
    ((canOf fun k => { k with phase := .leaving }).can 1).active = true ∧
    ((bus 1 up).onCan 1 fun k => { k with detecting := true, validRun := 1 }).canonical = true ∧
    (let k := (((bus 1 up).onCan 1 fun k => { k with detecting := true, candidate := 3, timing := 0x1E3E1E00 }).can 1)
     k.timing.toNat = candidateWord k.candidate ∧ k.lockDue = false ∧ k.dwellDue = false) ∧
    ((bus 1 up).can 1).timing.toNat ≠ candidateWord 3 ∧
    ({ up with boot := { up.boot with eclipse := true } } : State).fwOn = false ∧
    ((bus 1 up).setPar Pid.CAN_DETECT_FRAMES 1 2).parN Pid.CAN_DETECT_FRAMES 1 ≤ 1 + 1 := by decide +kernel

theorem test_met_CanErrors :
    ((canOf fun k => { k with phase := .integrating }).can 1).phase = .integrating ∧ (up.can 1).phase ≠ .integrating ∧
    up.hasCan 1 = true ∧ ({ up with otp := { up.otp with variant := .clv08B } } : State).hasCan 1 = false ∧
    ((bus 1 up).can 1).stuck ≠ true ∧ up.fwOn = true ∧
    ((canOf fun k => { k with detecting := true }).can 1).detecting = true ∧ (up.can 1).detecting = false ∧
    ((canOf fun k => { k with phase := .leaving }).can 1).phase = .leaving ∧ ((bus 1 up).can 1).lockDue = false ∧
    ({ up with boot := { up.boot with eclipse := true } } : State).hwOn = true ∧
    ((bus 1 up).can 1).restricted = false ∧ min 65535 (247 + 8) ≤ 255 ∧ 255 < min 65535 (248 + 8) ∧
    ((bus 1 up).can 1).phase = .onBus ∧ ((bus 1 up).can 1).busOff = false ∧
    (((bus 1 up).onCan 1 fun k => { k with restricted := true }).can 1).restricted = true ∧
    ((canOf fun k => { k with busOff := true, recovering := true }).can 1).recovering = true := by decide +kernel

def sendingOf (f : TxFrame) (sending : Bool) : State :=
  { (bus 1 up).onCan 1 fun k => { k with tx := k.tx.set 31 (some f), sending := if sending then some 31 else none } with time := 9 }
def timedTx (pending begun late : Bool) : TxFrame := { txAt 31 begun with timed := true, txTime := 9, pending := pending, late := late }

theorem test_met_Transmission :
    (sendingOf (txAt 31 false) false).hwOn = true ∧
    ((sendingOf (timedTx false false false) false).can 1).tx[(31 : Fin 32)] = some (timedTx false false false) ∧
    (timedTx false false false).txTime ≤ (sendingOf (timedTx false false false) false).time ∧
    ({ sendingOf (timedTx false false false) false with time := 8 } : State).time < (timedTx false false false).txTime ∧
    ((sendingOf (txAt 31 false) false).can 1).phase = .onBus ∧ ((sendingOf (txAt 31 false) false).can 1).busOff = false ∧
    ((sendingOf (txAt 31 false) false).can 1).restricted = false ∧ ((sendingOf (txAt 31 false) false).can 1).sending = none ∧
    ((sendingOf (txAt 31 false) false).can 1).offered 31 = true ∧ ((sendingOf (timedTx false false false) false).can 1).offered 31 = false ∧
    ((sendingOf (txAt 31 true) true).can 1).sending = some 31 ∧ (up.setPar Pid.CAN_TX_REPORT 1 2).parN Pid.CAN_TX_REPORT 1 = 2 ∧
    (up.setPar Pid.CAN_TX_REPORT 1 1).parN Pid.CAN_TX_REPORT 1 = 1 ∧ (up.setPar Pid.CAN_TX_REPORT 1 0).parN Pid.CAN_TX_REPORT 1 = 0 ∧
    (((bus 1 up).onCan 1 fun k => { k with sofAt := some 5 }).can 1).sofAt = some 5 ∧
    ({ sendingOf (timedTx true false false) false with pending := [.txTimedStart 1 31] } : State).canBegin 1 31 = true ∧
    Instr.txTimedStart 1 31 ∉ up.pending ∧ (TxEnd.error : TxEnd) ≠ .lostArbitration ∧
    (txAt 31 true).late = false ∧ (timedTx true true true).late = true ∧
    (up.setPar Pid.CAN_LATE_LIMIT 1 0).parN Pid.CAN_LATE_LIMIT 1 ≠ 4294967295 ∧
    (timedTx true false false).txTime + (up.setPar Pid.CAN_LATE_LIMIT 1 0).parN Pid.CAN_LATE_LIMIT 1 ≤ 9 ∧
    (up.setPar Pid.CAN_LATE_LIMIT 1 4294967295).parN Pid.CAN_LATE_LIMIT 1 = 4294967295 := by decide +kernel

/-- An output with a copy and a force that wait, at its period start. -/
def startsAt (run : AuxRunState) : State :=
  up.onAux 0 fun o => { o with run := run, nextAt := 31, copy := some (240, 0), forceNext := some 1 }

theorem test_met_AuxPeriods :
    up.hwOn = true ∧ (up.aux 15).run = .stopped ∧ ((auxOf 240 0 .armed).aux 0).run = .armed ∧
    ((startsAt .starting).aux 0).nextAt < 32 * ((startsAt .starting).fc + 1) ∧ ((startsAt .starting).aux 0).run = .starting ∧
    ((startsAt .running).aux 0).run = .running ∧ ((startsAt .stopping).aux 0).run = .stopping ∧
    ((startsAt .withdrawn).aux 0).run = .withdrawn ∧
    32 * (up.fc + 1) ≤ ((up.onAux 0 fun o => { o with run := .running, nextAt := 32 }).aux 0).nextAt ∧
    up.hasTrip = true ∧ up.phase = .runtime ∧ ((up.onTrip 3 fun k => { k with enabled := true }).trip 3).enabled = true ∧
    (up.trip 3).latch = false ∧ (up.trip 3).enabled = false ∧ 25 * up.parN Pid.AUX_TRIP_THRESH 3 = 2 * 1600 ∧
    up.parB Pid.AUX_TRIP_POL 3 = false ∧ (up.setPar Pid.AUX_TRIP_POL 3 1).parB Pid.AUX_TRIP_POL 3 = true ∧
    ({ up with otp := { up.otp with variant := .clv08B } } : State).hasTrip = false := by decide +kernel

/-- A period start runs, a latched trip and a comparator that returns show themselves (R405, R408). -/
theorem test_aux_completes : (match exec (.auxPeriodStart 0) (startsAt .starting) with
    | .next t => ((t.aux 0).run, (t.aux 0).nextAt, (t.aux 0).force)
    | _ => (.stopped, 0, 0)) = (.running, 271, 1) ∧
    (match exec (.auxTrip ⟨3, 1601⟩) (up.onTrip 3 fun k => { k with enabled := true }) with
    | .next t => (t.tripRaw 3, (t.trip 3).latch)
    | _ => (false, false)) = (true, true) ∧
    (match exec (.tripComparatorInactive ⟨3, 1600⟩) (up.onTrip 3 fun k => { k with level := 1601 }) with
    | .next t => t.tripRaw 3
    | _ => true) = false := by decide +kernel

/-! ### Hypotheses: power, reset and firmware -/

def asleep : State := { State.reset with phase := .standby, power := { State.reset.power with wakeLatch := false } }
def inReset (p : Power) : State := { State.reset with phase := .reset, power := p }
def allGood : Power :=
  { State.reset.power with vstby := true, vcore := true, vio := true, vdda := true, rootOk := true, extLow := false, pulseLeft := 0 }

theorem test_met_Resets :
    allGood.supply .vdda = true ∧ allGood.vstby = true ∧ (inReset allGood).phase ≠ .standby ∧ asleep.phase = .standby ∧
    ({ allGood with vio := false } : Power).supply .vio = false ∧ allGood.rootOk = true ∧
    ({ allGood with rootOk := false } : Power).rootOk = false ∧ allGood.resetLow = false ∧
    allGood.supplied = true ∧ ({ allGood with vcore := false } : Power).supplied = false ∧
    ({ allGood with extLow := true } : Power).resetLow = true ∧ ({ allGood with pulseLeft := 1 } : Power).resetLow = true ∧ ({ allGood with vstby := false } : Power).vstby = false ∧
    allGood.qualified = true ∧ ({ allGood with rootOk := false } : Power).qualified = false ∧ (inReset allGood).phase = .reset ∧
    (inReset { allGood with extLow := true }).power.qualified = true ∧ jtagHolds (inReset allGood).sec.jtag = false ∧
    jtagHolds .extest = true ∧ allGood.pulseDue = false ∧ ({ allGood with pulseDue := true } : Power).pulseDue = true ∧
     asleep.power.qualified = true ∧
    ({ asleep.power with rootOk := false } : Power).qualified = false ∧ ({ allGood with first := none } : Power).first = none ∧ asleep.power.vstby = true ∧ (standing .armed).power.entering ≠ .none ∧
    up.power.entering = .none ∧ up.phase ≠ .standby ∧ up.power.vstby = true := by decide +kernel
def dieOff : State := { up with pd := PowerDie.init false }

theorem test_met_PowerDie :
    up.pd.running = true ∧ dieOff.pd.running = false ∧ 6000 < (6001#16).toNat ∧ State.reset.phase ≠ .runtime ∧
    dieOff.pd.running = false ∧ dieOff.fwOn = true ∧
    ({ up with boot := { up.boot with eclipse := true } } : State).fwOn = false ∧ up.link.cfg = [] ∧ up.link.backlog = [] ∧
    up.link.freeTag ≠ 0 ∧ up.mbx.waiting = none ∧ ({ heldSet with record := rClear } : Waiting).via = none ∧
    recOp ({ heldSet with record := rClear } : Waiting).record ≠ 2 ∧ up.mbx.held = [] := by decide +kernel

def dark (f : Boot → Boot) : State := { up with boot := f { up.boot with eclipse := true } }

theorem test_met_Eclipse :
    up.hwOn = true ∧ (6 : Fin 7).val ≠ 0 ∧ up.boot.halted = false ∧ up.nextAttempt ≤ 3 ∧
    3 < (dark fun b => { b with attempts := 3 }).nextAttempt ∧ (dark id).boot.eclipse = true ∧ bootUp.phase = .boot ∧
    bootUp.sec.debugHalt = false ∧ (2 : Fin 7).val = 2 ∧ (3 : Fin 7).val ≠ 2 ∧ (dark id).boot.halted = false ∧ (dark id).mbx.waiting = none ∧
    (dark id).link.upPending = false ∧ (∀ c, ((dark id).chan c).est.rcWait = none) ∧ (dark id).boot.expired = false ∧
    (dark id).link.answers = true ∧ (∀ c, ((dark id).can c).detecting = false) ∧
    ((at_ 0 .rollcall up).chan 0).state = .rollcall ∧
    ((idle 0 up).chan 0).state.energised = true ∧ (calOf (calRun 1 5)).entries[entryIx 0 15].cal = some (calRun 1 5) := by
  decide +kernel

def hushed (action : Nat) : State := { setAll up [(Pid.DEV_HOST_SILENCE, 0, 10)] with hp := { up.hp with silenceDue := some action } }

theorem test_met_Silence :
    (hushed 1).hwOn = true ∧ (hushed 1).hp.silenceDue = some 1 ∧ up.hp.silenceDue = none ∧ (hushed 1).link.txOn = true ∧ (hushed 1).hasCh 23 = true ∧ (hushed 0).hp.silenceDue = some 0 := by decide +kernel

def opened : State := { up with otp := { up.otp with debug := true } }

theorem test_met_Debug :
    ({ up with otp := { up.otp with debug := false } } : State).debugOpen = false ∧ opened.debugOpen = true ∧
    opened.sec.debugHalt = false ∧ up.tapOn = true ∧ jtagHolds .sample = false ∧ jtagHolds .highz = true ∧
    asleep.tapOn = false ∧ ((canOf fun k => { k with phase := .leaving }).can 1).phase = .leaving := by decide +kernel

end Sys2Proof.Tests
end

section
/-! Every step keeps the stored maps canonical. `State.stored` is what such a statement speaks of. Most operations leave it
unchanged: one `simp` lemma `stored_f` per operation says so. For the others `keeps_f` says that they lead from what is
stored to something that may follow it (`Stored.Keeps`); `step_keeps` puts them together. -/

namespace Sys2Proof.Machine

/-- The stored maps (R13, R175, R302), the fuses (R448) and the halt of the debug port (R449). -/
structure Stored where
  params : List (Nat × Int)
  config : List (Nat × Int)
  staging : List Host.Cell
  otp : Otp
  halt : Bool

def State.stored (s : State) : Stored := ⟨s.params, s.pd.config, s.boot.staging, s.otp, s.sec.debugHalt⟩

variable {s : State}

/-! `id rfl`: `dsimp` would use these two as `rfl` lemmas, and the kernel would compare whole states again. -/

@[simp] theorem Stored.mk_fields (t : State) : Stored.mk t.params t.pd.config t.boot.staging t.otp t.sec.debugHalt = t.stored := id rfl

@[simp] theorem State.stored_mk (pending phase fc runFc time timeFrac slotTime istep pulses params chans pairs groups banks pd link
    fbs rules modClk slotFc lostClks mods entries gbs flts cmps cans auxs trips mbx hp boot power sec otp) :
    (State.mk pending phase fc runFc time timeFrac slotTime istep pulses params chans pairs groups banks pd link fbs
      rules modClk slotFc lostClks mods entries gbs flts cmps cans auxs trips mbx hp boot power sec otp).stored =
      ⟨params, pd.config, boot.staging, otp, sec.debugHalt⟩ := id rfl

@[simp] theorem State.stored_ite (c : Prop) [Decidable c] (a b : State) :
    (if c then a else b).stored = if c then a.stored else b.stored := apply_ite ..
@[simp] theorem State.stored_fst_ite {α : Type} (c : Prop) [Decidable c] (a b : State × α) :
    (if c then a else b).1.stored = if c then a.1.stored else b.1.stored := apply_ite (fun p : State × α => p.1.stored) ..
@[simp] theorem Done.stored_ite (c : Prop) [Decidable c] (a b : Done) :
    (if c then a else b).state.stored = if c then a.state.stored else b.state.stored := apply_ite (fun p : Done => p.state.stored) ..
@[simp] theorem Wrote.stored_ite (c : Prop) [Decidable c] (a b : Wrote) :
    (if c then a else b).state.stored = if c then a.state.stored else b.state.stored := apply_ite (fun p : Wrote => p.state.stored) ..

/-- What is stored in the state that an outcome leaves. -/
def storedNext : Host.Outcome State Fault Refusal → Option Stored
  | .next t => some t.stored
  | _ => none

@[simp] theorem storedNext_next (t : State) : storedNext (.next t) = some t.stored := rfl

theorem State.stored_foldl {α : Type} (xs : List α) {f : State → α → State} (hf : ∀ (t : State) x, (f t x).stored = t.stored) (s : State) :
    (xs.foldl f s).stored = s.stored := by
  induction xs generalizing s with
  | nil => rfl
  | cons x xs ih => exact (ih _).trans (hf s x)

@[simp] theorem State.stored_forAll {α : Type} {xs : List α} {f : α → State → State} (hf : ∀ x (t : State), (f x t).stored = t.stored) :
    (s.forAll xs f).stored = s.stored :=
  State.stored_foldl xs (fun t x => hf x t) s

/-! ### Machine/Params -/

@[simp] theorem State.stored_noteWrite (unit : Nat × Nat) : (s.noteWrite unit).stored = s.stored := by simp [State.noteWrite]

/-! ### Machine/Ops -/

@[simp] theorem State.stored_onChan (c : Ch) (f : Channel → Channel) : (s.onChan c f).stored = s.stored := by
  simp [State.onChan]

@[simp] theorem State.stored_onMotion (c : Ch) (f : Motion → Motion) : (s.onMotion c f).stored = s.stored := by
  simp [State.onMotion]

@[simp] theorem State.stored_onCauses (c : Ch) (f : Causes → Causes) : (s.onCauses c f).stored = s.stored := by
  simp [State.onCauses]

@[simp] theorem State.stored_onEst (c : Ch) (f : Estim → Estim) : (s.onEst c f).stored = s.stored := by simp [State.onEst]
@[simp] theorem State.stored_onCoil (c : Ch) (f : Coil → Coil) : (s.onCoil c f).stored = s.stored := by simp [State.onCoil]

@[simp] theorem State.stored_onBank (b : BankIx) (f : Bank → Bank) : (s.onBank b f).stored = s.stored := by
  simp [State.onBank]

@[simp] theorem State.stored_onPdChan (c : Ch) (f : PdChan → PdChan) : (s.onPdChan c f).stored = s.stored := by
  simp [State.onPdChan]

@[simp] theorem State.stored_onPdBank (b : BankIx) (f : PdBank → PdBank) : (s.onPdBank b f).stored = s.stored := by
  simp [State.onPdBank]

@[simp] theorem State.stored_onFb (c : Ch) (f : Fb → Fb) : (s.onFb c f).stored = s.stored := by simp [State.onFb]

@[simp] theorem State.stored_onRule (r : RuleIx) (f : Rule → Rule) : (s.onRule r f).stored = s.stored := by
  simp [State.onRule]

@[simp] theorem State.stored_onMod (m : ModIx) (f : Modulator → Modulator) : (s.onMod m f).stored = s.stored := by
  simp [State.onMod]

@[simp] theorem State.stored_onGb (g : EntryIx) (f : Gb → Gb) : (s.onGb g f).stored = s.stored := by simp [State.onGb]
@[simp] theorem State.stored_onFlt (f : FltIx) (g : Flt → Flt) : (s.onFlt f g).stored = s.stored := by simp [State.onFlt]
@[simp] theorem State.stored_onCan (c : CanIx) (f : Can → Can) : (s.onCan c f).stored = s.stored := by simp [State.onCan]

@[simp] theorem State.stored_onAux (k : AuxIx) (f : AuxOut → AuxOut) : (s.onAux k f).stored = s.stored := by
  simp [State.onAux]

@[simp] theorem State.stored_onTrip (t : TripIx) (f : Trip → Trip) : (s.onTrip t f).stored = s.stored := by
  simp [State.onTrip]

@[simp] theorem State.stored_ringUp (e : Event) : (s.ringUp e).stored = s.stored := by simp [State.ringUp]
@[simp] theorem State.stored_post (e : Event) : (s.post e).stored = s.stored := by simp [State.post]
@[simp] theorem State.stored_learn (e : Event) : (s.learn e).stored = s.stored := by simp [State.learn]
@[simp] theorem State.stored_holdEvents (b : Bool) : (s.holdEvents b).stored = s.stored := by simp [State.holdEvents]

@[simp] theorem State.stored_raiseS (code inst : Nat) (suspect : Bool) (payload : List Byte) :
    (s.raiseS code inst suspect payload).stored = s.stored := by
  simp [State.raiseS]

@[simp] theorem State.stored_raise (code inst : Nat) (payload : List Byte) : (s.raise code inst payload).stored = s.stored := by
  simp [State.raise]

@[simp] theorem State.stored_raiseAt (t code inst : Nat) (payload : List Byte) :
    (s.raiseAt t code inst payload).stored = s.stored := by
  simp [State.raiseAt]

@[simp] theorem State.stored_pulse (src : Nat) : (s.pulse src).stored = s.stored := by simp [State.pulse]
@[simp] theorem State.stored_chPulse (c : Ch) (n : Nat) : (s.chPulse c n).stored = s.stored := by simp [State.chPulse]
@[simp] theorem State.stored_configWrite (k : CfgKind) : (s.configWrite k).1.stored = s.stored := by simp [State.configWrite]
@[simp] theorem State.stored_sendWrite (k : CfgKind) : (s.sendWrite k).stored = s.stored := by simp [State.sendWrite]

@[simp] theorem State.stored_orderSoftOff (m : BitVec 24) : (s.orderSoftOff m).stored = s.stored := by
  simp [State.orderSoftOff]

@[simp] theorem State.stored_orderPark (m : BitVec 24) : (s.orderPark m).stored = s.stored := by simp [State.orderPark]
@[simp] theorem State.stored_orderHold (m : BitVec 24) : (s.orderHold m).stored = s.stored := by simp [State.orderHold]

/-! ### Machine/PowerStage -/

@[simp] theorem State.stored_pdPark (m : BitVec 24) : (s.pdPark m).stored = s.stored := by simp [State.pdPark]

@[simp] theorem State.stored_shortTrip (c : Ch) (hb : Fin 4) (instant : Bool) : (s.shortTrip c hb instant).stored = s.stored := by
  simp [State.shortTrip]

@[simp] theorem State.stored_bankTurnOff (b : BankIx) (uv : Bool) : (s.bankTurnOff b uv).stored = s.stored := by
  simp [State.bankTurnOff]

@[simp] theorem State.stored_noteVm (b : BankIx) (vm : BitVec 16) : (s.noteVm b vm).stored = s.stored := by
  simp [State.noteVm]

@[simp] theorem State.stored_gatesOff (b : BankIx) (vm : BitVec 16) : (s.gatesOff b vm).stored = s.stored := by
  simp [State.gatesOff]

@[simp] theorem State.stored_sampleBank (b : BankIx) (codes : List (Int × Int)) : (s.sampleBank b codes).stored = s.stored := by
  simp [State.sampleBank]

/-! ### Machine/Adc -/

@[simp] theorem State.stored_onEntry (i : EntryIx) (f : Entry → Entry) : (s.onEntry i f).stored = s.stored := by
  simp [State.onEntry]

@[simp] theorem State.stored_onMux (m : ModIx) (f : MuxSeq → MuxSeq) : (s.onMux m f).stored = s.stored := by
  simp [State.onMux]

@[simp] theorem State.stored_modEdge : s.modEdge.stored = s.stored := by simp [State.modEdge]

@[simp] theorem State.stored_feedGb (kind ix : Nat) (code : Int) (ovr lost : Bool) :
    (s.feedGb kind ix code ovr lost).stored = s.stored := by
  simp [State.feedGb]

@[simp] theorem State.stored_reportOverrun (m : ModIx) : (s.reportOverrun m).stored = s.stored := by
  simp [State.reportOverrun]

@[simp] theorem State.stored_reportLost (m : ModIx) : (s.reportLost m).stored = s.stored := by simp [State.reportLost]
@[simp] theorem State.stored_overrun (m : ModIx) : (s.overrun m).stored = s.stored := by simp [State.overrun]
@[simp] theorem State.stored_lostResult (m : ModIx) : (s.lostResult m).stored = s.stored := by simp [State.lostResult]

@[simp] theorem State.stored_toFilters (i : EntryIx) (r : ResultIn) : (s.toFilters i r).stored = s.stored := by
  simp [State.toFilters]

@[simp] theorem State.stored_endPass (m : ModIx) : (s.endPass m).stored = s.stored := by simp [State.endPass]
@[simp] theorem State.stored_result (m : ModIx) (r : ConvOut) : (s.result m r).stored = s.stored := by simp [State.result]

@[simp] theorem State.stored_countPwm (b : BankIx) (src : Nat) : (s.countPwm b src).stored = s.stored := by
  simp [State.countPwm]

@[simp] theorem State.stored_retrigger (m : ModIx) : (s.retrigger m).stored = s.stored := by simp [State.retrigger]

@[simp] theorem State.stored_startPass (m : ModIx) (lag : Nat) : (s.startPass m lag).stored = s.stored := by
  simp [State.startPass]

@[simp] theorem State.stored_startMod (m : ModIx) (paired lead : Bool) : (s.startMod m paired lead).stored = s.stored := by
  simp [State.startMod]

@[simp] theorem State.stored_stopMod (m : ModIx) : (s.stopMod m).stored = s.stored := by simp [State.stopMod]
@[simp] theorem State.stored_endStopping (m : ModIx) : (s.endStopping m).stored = s.stored := by simp [State.endStopping]
@[simp] theorem State.stored_stopMods : s.stopMods.stored = s.stored := by simp [State.stopMods]
@[simp] theorem State.stored_orderStop (m : ModIx) : (s.orderStop m).stored = s.stored := by simp [State.orderStop]

@[simp] theorem State.stored_applyRun (m : ModIx) (on : Bool) : (s.applyRun m on).stored = s.stored := by
  simp [State.applyRun]

@[simp] theorem State.stored_startCalibrate (m : ModIx) (e step : Nat) : (s.startCalibrate m e step).stored = s.stored := by
  simp [State.startCalibrate]

@[simp] theorem State.stored_interruptCals : s.interruptCals.stored = s.stored := by simp [State.interruptCals]

@[simp] theorem State.stored_snapshot (first count : Nat) : (s.snapshot first count).1.stored = s.stored := by
  simp [State.snapshot]

/-! ### Machine/Regulator -/

@[simp] theorem State.stored_regulate (c : Ch) : (s.regulate c).stored = s.stored := by simp [State.regulate]
@[simp] theorem State.stored_recompute (c : Ch) : (s.recompute c).stored = s.stored := by simp [State.recompute]

/-! ### Machine/Channel -/

@[simp] theorem State.stored_stopDone (c : Ch) (cause : StopCause) : (s.stopDone c cause).stored = s.stored := by
  simp [State.stopDone]

@[simp] theorem State.stored_leaveGroup (c : Ch) : (s.leaveGroup c).stored = s.stored := by simp [State.leaveGroup]
@[simp] theorem State.stored_quitGroup (c : Ch) : (s.quitGroup c).stored = s.stored := by simp [State.quitGroup]

@[simp] theorem State.stored_partnerOff (c : Ch) (cause : Nat) : (s.partnerOff c cause).stored = s.stored := by
  simp [State.partnerOff]

@[simp] theorem State.stored_faultOff (c : Ch) (set : Causes → Causes) : (s.faultOff c set).stored = s.stored := by
  unfold State.faultOff
  split <;> simp

@[simp] theorem State.stored_faultMotion (c : Ch) (set : Causes → Causes) : (s.faultMotion c set).stored = s.stored := by
  simp [State.faultMotion]

@[simp] theorem State.stored_deviceStop (c : Ch) (set : Causes → Causes) : (s.deviceStop c set).stored = s.stored := by
  unfold State.deviceStop
  split <;> simp

@[simp] theorem State.stored_parkCh (c : Ch) (cause : Nat) : (s.parkCh c cause).stored = s.stored := by
  unfold State.parkCh
  split <;> simp

@[simp] theorem State.stored_parkOff (c : Ch) : (s.parkOff c).stored = s.stored := by simp [State.parkOff]
@[simp] theorem State.stored_turnOffCh (c : Ch) : (s.turnOffCh c).stored = s.stored := by simp [State.turnOffCh]

@[simp] theorem State.stored_logReflex (c : Ch) (r : RuleIx) : (s.logReflex c r).stored = s.stored := by
  simp [State.logReflex]

@[simp] theorem State.stored_noteChange (c : Ch) (x : PairChange) : (s.noteChange c x).stored = s.stored := by
  simp [State.noteChange]

@[simp] theorem State.stored_onShadow (c : Ch) (f : Motion → Motion) : (s.onShadow c f).stored = s.stored := by
  simp [State.onShadow]

@[simp] theorem State.stored_sharedStart (c : Ch) : (s.sharedStart c).stored = s.stored := by simp [State.sharedStart]

/-! ### Machine/Reflex -/

@[simp] theorem State.stored_actionBegins (r : RuleIx) (w : RuleWord) (t : BitVec 24) :
    (s.actionBegins r w t).stored = s.stored := by
  unfold State.actionBegins
  repeat' split
  all_goals simp

@[simp] theorem State.stored_beginAssertions : s.beginAssertions.stored = s.stored := by simp [State.beginAssertions]
@[simp] theorem State.stored_rememberRules : s.rememberRules.stored = s.stored := by simp [State.rememberRules]
@[simp] theorem State.stored_reportFiring (r : RuleIx) : (s.reportFiring r).stored = s.stored := by simp [State.reportFiring]

@[simp] theorem State.stored_rfxSoftOff (r : RuleIx) (c : Ch) : (s.rfxSoftOff r c).stored = s.stored := by
  simp [State.rfxSoftOff]

@[simp] theorem State.stored_rfxAct (r : RuleIx) (t lost : BitVec 24) : (s.rfxAct r t lost).stored = s.stored := by
  unfold State.rfxAct
  dsimp only
  split <;> simp

@[simp] theorem State.stored_recordFiring (fs : List Firing) (x : Firing) : (s.recordFiring fs x).stored = s.stored := by
  simp [State.recordFiring]

@[simp] theorem State.stored_actFiring (fs : List Firing) (x : Firing) : (s.actFiring fs x).stored = s.stored := by
  simp [State.actFiring]

@[simp] theorem State.stored_matrix : s.matrix.stored = s.stored := by simp [State.matrix]
@[simp] theorem State.stored_callFiring (r : RuleIx) : (s.callFiring r).stored = s.stored := by simp [State.callFiring]

@[simp] theorem State.stored_writeRfxRelease (r : RuleIx) : (s.writeRfxRelease r).1.stored = s.stored := by
  simp [State.writeRfxRelease]

/-! ### Machine/AuxPwm -/

@[simp] theorem State.stored_auxPower (on : Bool) : (s.auxPower on).stored = s.stored := by simp [State.auxPower]
@[simp] theorem State.stored_writeLoadAll : s.writeLoadAll.1.stored = s.stored := by simp [State.writeLoadAll]
@[simp] theorem State.stored_holdTripped (m : Nat) : (s.holdTripped m).stored = s.stored := by simp [State.holdTripped]
@[simp] theorem State.stored_latchTrip (t : TripIx) : (s.latchTrip t).stored = s.stored := by simp [State.latchTrip]
@[simp] theorem State.stored_tripLevel (x : TripLevel) : (s.tripLevel x).stored = s.stored := by simp [State.tripLevel]

@[simp] theorem State.stored_writeTripClear (t : TripIx) : (s.writeTripClear t).1.stored = s.stored := by
  simp [State.writeTripClear]

@[simp] theorem State.stored_settleTrip (t : TripIx) : (s.settleTrip t).stored = s.stored := by simp [State.settleTrip]
@[simp] theorem State.stored_settleDomain : s.settleDomain.stored = s.stored := by simp [State.settleDomain]
@[simp] theorem State.stored_settleAux : s.settleAux.stored = s.stored := by simp [State.settleAux]
@[simp] theorem State.stored_reportTrip (t : TripIx) : (s.reportTrip t).stored = s.stored := by simp [State.reportTrip]
@[simp] theorem State.stored_syncTrip (t : TripIx) : (s.syncTrip t).stored = s.stored := by simp [State.syncTrip]
@[simp] theorem State.stored_syncTrips : s.syncTrips.stored = s.stored := by simp [State.syncTrips]

/-! ### Machine/Motion -/

@[simp] theorem State.stored_applyHeld (c : Ch) (mv : Move) : (s.applyHeld c mv).stored = s.stored := by
  simp [State.applyHeld]

@[simp] theorem State.stored_endStop (c : Ch) (cause : StopCause) : (s.endStop c cause).stored = s.stored := by
  simp [State.endStop]

@[simp] theorem State.stored_halt (c : Ch) : (s.halt c).stored = s.stored := by simp [State.halt]
@[simp] theorem State.stored_restStop (c : Ch) : (s.restStop c).stored = s.stored := by simp [State.restStop]

@[simp] theorem State.stored_mergeStops (c : Ch) (a : Asserts) : (s.mergeStops c a).stored = s.stored := by
  unfold State.mergeStops
  dsimp only
  split <;> simp

@[simp] theorem State.stored_mergeMoves (c : Ch) : (s.mergeMoves c).stored = s.stored := by simp [State.mergeMoves]
@[simp] theorem State.stored_captureLimits (c : Ch) : (s.captureLimits c).stored = s.stored := by simp [State.captureLimits]

@[simp] theorem State.stored_reportVelocity (c : Ch) (l : Limits) : (s.reportVelocity c l).stored = s.stored := by
  simp [State.reportVelocity]

@[simp] theorem State.stored_moveDone (c : Ch) : (s.moveDone c).stored = s.stored := by simp [State.moveDone]

@[simp] theorem State.stored_integrateCh (c : Ch) (a : Asserts) : (s.integrateCh c a).stored = s.stored := by
  unfold State.integrateCh
  dsimp only
  repeat' split
  all_goals simp

@[simp] theorem State.stored_placeMember (g : Group) (m : Ch × Int × Int) : (s.placeMember g m).stored = s.stored := by
  simp [State.placeMember]

@[simp] theorem State.stored_mergeGroup (g : Group) : (s.mergeGroup g).1.stored = s.stored := by simp [State.mergeGroup]
@[simp] theorem State.stored_startGroup (i : Fin 4) : (s.startGroup i).stored = s.stored := by simp [State.startGroup]

@[simp] theorem State.stored_integrateGroup (i : Fin 4) (asserts : Ch → Asserts) :
    (s.integrateGroup i asserts).stored = s.stored := by
  simp [State.integrateGroup]

@[simp] theorem State.stored_carryPair (p : Fin 12) (a : Ch → Asserts) : (s.carryPair p a).stored = s.stored := by
  unfold State.carryPair
  dsimp only
  split <;> simp

@[simp] theorem State.stored_carryPairs (a : Ch → Asserts) : (s.carryPairs a).stored = s.stored := by simp [State.carryPairs]
@[simp] theorem State.stored_integrate : s.integrate.stored = s.stored := by simp [State.integrate]

/-! ### Machine/CoilDrive -/

@[simp] theorem State.stored_endPolicy (b : BankIx) : (s.endPolicy b).stored = s.stored := by simp [State.endPolicy]
@[simp] theorem State.stored_retract (c : Ch) : (s.retract c).stored = s.stored := by simp [State.retract]

@[simp] theorem State.stored_coilOpen (c : Ch) (coil : Nat) : (s.coilOpen c coil).stored = s.stored := by
  simp [State.coilOpen]

@[simp] theorem State.stored_satReached (c : Ch) : (s.satReached c).stored = s.stored := by simp [State.satReached]

/-! ### Machine/MotionCmd -/

@[simp] theorem State.stored_f (r : Result) : (Done.of s r).state.stored = s.stored := by simp [Done.of]

@[simp] theorem State.stored_notePairWrite (compared : Bool) (id : Nat) (c : Ch) (v : Int) :
    (s.notePairWrite compared id c v).stored = s.stored := by
  simp [State.notePairWrite]

@[simp] theorem State.stored_cmdMove (c : Ch) (mv : Move) (armed : Bool) : (s.cmdMove c mv armed).state.stored = s.stored := by
  simp [State.cmdMove]

@[simp] theorem State.stored_stopOne (c : Ch) : (s.stopOne c).stored = s.stored := by simp [State.stopOne]

@[simp] theorem State.stored_noteStop (c : Ch) (x : PairChange) (cause : StopCause) :
    (s.noteStop c x cause).stored = s.stored := by
  simp [State.noteStop]

@[simp] theorem State.stored_cmdStop (c : Ch) : (s.cmdStop c).state.stored = s.stored := by simp [State.cmdStop]

@[simp] theorem State.stored_cmdDisable (c : Ch) : (s.cmdDisable c).state.stored = s.stored := by
  unfold State.cmdDisable
  split <;> simp

@[simp] theorem State.stored_cmdGroupStart (mask : BitVec 24) : (s.cmdGroupStart mask).state.stored = s.stored := by
  unfold State.cmdGroupStart
  split <;> simp

@[simp] theorem State.stored_noteInterp (c : Ch) (target : Int) : (s.noteInterp c target).stored = s.stored := by
  simp [State.noteInterp]

@[simp] theorem State.stored_cmdInterp (g : Fin 4) (axes : List (Ch × Int)) : (s.cmdInterp g axes).state.stored = s.stored := by
  unfold State.cmdInterp
  dsimp only
  split <;> simp

@[simp] theorem State.stored_beginEnable (cs : List Ch) (c : Ch) : (s.beginEnable cs c).stored = s.stored := by
  simp [State.beginEnable]

@[simp] theorem State.stored_lateEnable (cs : List Ch) (c : Ch) : (s.lateEnable cs c).stored = s.stored := by
  simp [State.lateEnable]

@[simp] theorem State.stored_prepareAll (cs : List Ch) : (s.prepareAll cs).1.stored = s.stored := by
  suffices ∀ acc : State × List Byte, acc.1.stored = s.stored →
      (cs.foldl (fun (acc : State × List Byte) c =>
        ((acc.1.configWrite (.prepare c)).1, acc.2 ++ (acc.1.configWrite (.prepare c)).2)) acc).1.stored = s.stored from this _ rfl
  induction cs with
  | nil => exact fun _ h => h
  | cons c cs ih => exact fun _ h => ih _ ((State.stored_configWrite _).trans h)

@[simp] theorem State.stored_powerSlice (c : Ch) : (s.powerSlice c).stored = s.stored := by simp [State.powerSlice]
@[simp] theorem State.stored_enableAll (cs : List Ch) : (s.enableAll cs).state.stored = s.stored := by simp [State.enableAll]

@[simp] theorem State.stored_cmdEnable (c : Ch) : (s.cmdEnable c).state.stored = s.stored := by
  unfold State.cmdEnable
  split <;> simp

@[simp] theorem State.stored_cmdRollCall (mask : BitVec 24) : (s.cmdRollCall mask).state.stored = s.stored := by
  unfold State.cmdRollCall
  split <;> simp

@[simp] theorem State.stored_finishClear (c : Ch) : (s.finishClear c).stored = s.stored := by simp [State.finishClear]
@[simp] theorem State.stored_shareAgain (c : Ch) : (s.shareAgain c).stored = s.stored := by simp [State.shareAgain]

@[simp] theorem State.stored_cmdClear (c : Ch) : (s.cmdClear c).state.stored = s.stored := by
  unfold State.cmdClear
  dsimp only
  repeat' split
  all_goals simp

@[simp] theorem State.stored_writePosition (c : Ch) (v : Int) : (s.writePosition c v).stored = s.stored := by
  simp [State.writePosition]

@[simp] theorem State.stored_clearLimits (c : Ch) : (s.clearLimits c).stored = s.stored := by simp [State.clearLimits]

@[simp] theorem State.stored_limitActive (c : Ch) (side : Side) : (s.limitActive c side).stored = s.stored := by
  unfold State.limitActive
  split <;> simp

/-! ### Machine/Estimator -/

@[simp] theorem State.stored_collectKe (c : Ch) : (s.collectKe c).stored = s.stored := by simp [State.collectKe]
@[simp] theorem State.stored_estimate (c : Ch) : (s.estimate c).stored = s.stored := by simp [State.estimate]
@[simp] theorem State.stored_followCheck (c : Ch) : (s.followCheck c).stored = s.stored := by simp [State.followCheck]

@[simp] theorem State.stored_jamOff (c : Ch) (set : Causes → Causes) : (s.jamOff c set).stored = s.stored := by
  simp [State.jamOff]

@[simp] theorem State.stored_jamAct (c : Ch) (action : Nat) (set : Bool → Causes → Causes) :
    (s.jamAct c action set).stored = s.stored := by
  unfold State.jamAct
  split <;> simp

@[simp] theorem State.stored_flagStall (c : Ch) : (s.flagStall c).stored = s.stored := by simp [State.flagStall]
@[simp] theorem State.stored_flagFollow (c : Ch) : (s.flagFollow c).stored = s.stored := by simp [State.flagFollow]

/-! ### Machine/RollCall -/

@[simp] theorem State.stored_soloIfAlone (c : Ch) (cause : Nat) : (s.soloIfAlone c cause).stored = s.stored := by
  simp [State.soloIfAlone]

@[simp] theorem State.stored_energise (c : Ch) (st : ChState) : (s.energise c st).stored = s.stored := by
  simp [State.energise]

@[simp] theorem State.stored_catchNone (c : Ch) (result : Nat) (v : Int) : (s.catchNone c result v).stored = s.stored := by
  simp [State.catchNone]

@[simp] theorem State.stored_catchLock (c : Ch) (code : Nat) (speed : Int) : (s.catchLock c code speed).stored = s.stored := by
  simp [State.catchLock]

@[simp] theorem State.stored_catchDecide (c : Ch) : (s.catchDecide c).stored = s.stored := by simp [State.catchDecide]
@[simp] theorem State.stored_joinGroup (c : Ch) : (s.joinGroup c).stored = s.stored := by simp [State.joinGroup]
@[simp] theorem State.stored_rejoinTake (c : Ch) : (s.rejoinTake c).stored = s.stored := by simp [State.rejoinTake]

/-! ### Machine/Filter -/

@[simp] theorem State.stored_retime (f : FltIx) : (s.retime f).stored = s.stored := by simp [State.retime]

@[simp] theorem State.stored_evalCmp (f : FltIx) (c : Nat) (written : List Int) : (s.evalCmp f c written).stored = s.stored := by
  unfold State.evalCmp
  dsimp only
  split <;> simp

@[simp] theorem State.stored_settleCmp (i : Fin 128) : (s.settleCmp i).stored = s.stored := by
  unfold State.settleCmp
  repeat' split
  all_goals simp

@[simp] theorem State.stored_settleCmps : s.settleCmps.stored = s.stored := by simp [State.settleCmps]

@[simp] theorem State.stored_swapNow (f : FltIx) (atSlot : Bool) : (s.swapNow f atSlot).stored = s.stored := by
  unfold State.swapNow
  dsimp only
  split <;> simp

@[simp] theorem State.stored_startSwap (mask : BitVec 32) : (s.startSwap mask).stored = s.stored := by simp [State.startSwap]

@[simp] theorem State.stored_writeOutput (f : FltIx) (y : Int) (ovr lost held : Bool) :
    (s.writeOutput f y ovr lost held).stored = s.stored := by
  unfold State.writeOutput
  dsimp only
  repeat' split
  all_goals simp

@[simp] theorem State.stored_runSlot (f : FltIx) (x : Int) (ovr lost held : Bool) (sats : Nat) :
    (s.runSlot f x ovr lost held sats).stored = s.stored := by
  simp [State.runSlot]

@[simp] theorem State.stored_setFigures (f : FltIx) : (s.setFigures f).stored = s.stored := by simp [State.setFigures]
@[simp] theorem State.stored_applyFigures : s.applyFigures.stored = s.stored := by simp [State.applyFigures]
@[simp] theorem State.stored_markFigures (m : ModIx) : (s.markFigures m).stored = s.stored := by simp [State.markFigures]

@[simp] theorem State.stored_slot (f : FltIx) : (s.slot f).stored = s.stored := by
  unfold State.slot
  dsimp only
  split <;> simp

@[simp] theorem State.stored_beginRun (f : FltIx) (fc : Nat) : (s.beginRun f fc).stored = s.stored := by
  unfold State.beginRun
  dsimp only
  rw [State.stored_retime]
  split
  · rw [State.stored_forAll fun _ _ => State.stored_mk .., State.stored_setFigures, State.stored_onFlt]
  · rw [State.stored_forAll fun _ _ => State.stored_mk .., State.stored_onFlt]

@[simp] theorem State.stored_stopAtSlot (f : FltIx) : (s.stopAtSlot f).stored = s.stored := by simp [State.stopAtSlot]
@[simp] theorem State.stored_withdrawStop (f : FltIx) : (s.withdrawStop f).stored = s.stored := by simp [State.withdrawStop]

/-! ### Machine/Can -/

@[simp] theorem State.stored_canPulse (c : CanIx) (n : Nat) : (s.canPulse c n).stored = s.stored := by simp [State.canPulse]
@[simp] theorem State.stored_nextStep (c : CanIx) : (s.nextStep c).stored = s.stored := by simp [State.nextStep]

@[simp] theorem State.stored_reportRxOverrun (c : CanIx) : (s.reportRxOverrun c).stored = s.stored := by
  simp [State.reportRxOverrun]

@[simp] theorem State.stored_rxOverrun (c : CanIx) : (s.rxOverrun c).stored = s.stored := by simp [State.rxOverrun]

@[simp] theorem State.stored_storeRx (c : CanIx) (filter : Nat) (dflt : Bool) (f : CanFrame) (stamp : Nat) :
    (s.storeRx c filter dflt f stamp).stored = s.stored := by
  simp [State.storeRx]

@[simp] theorem State.stored_writeRxPop (c : CanIx) (v : Int) : (s.writeRxPop c v).1.stored = s.stored := by
  unfold State.writeRxPop
  split <;> simp

@[simp] theorem State.stored_gwRefuse (c : CanIx) : (s.gwRefuse c).stored = s.stored := by simp [State.gwRefuse]

@[simp] theorem State.stored_gwReceive (c : CanIx) (f : CanFrame) : (s.gwReceive c f).stored = s.stored := by
  simp [State.gwReceive]

@[simp] theorem State.stored_govern (c : CanIx) (f : CanFrame) (stamp : Nat) (g : Option (Fin 128)) :
    (s.govern c f stamp g).stored = s.stored := by
  unfold State.govern
  split <;> simp

@[simp] theorem State.stored_fillTx (c : CanIx) (b : Fin 32) (f : CanFrame) (timed : Bool) (t : Nat) :
    (s.fillTx c b f timed t).1.stored = s.stored := by
  simp [State.fillTx]

@[simp] theorem State.stored_onTx (c : CanIx) (b : Fin 32) (g : TxFrame → TxFrame) : (s.onTx c b g).stored = s.stored := by
  simp [State.onTx]

@[simp] theorem State.stored_withdraw (c : CanIx) (b : Fin 32) : (s.withdraw c b).stored = s.stored := by
  unfold State.withdraw
  split <;> simp

@[simp] theorem State.stored_reachTx (c : CanIx) (buf : Fin 32) : (s.reachTx c buf).stored = s.stored := by
  unfold State.reachTx
  split <;> simp

@[simp] theorem State.stored_beginTx (c : CanIx) (b : Fin 32) : (s.beginTx c b).stored = s.stored := by simp [State.beginTx]

@[simp] theorem State.stored_txSuccess (c : CanIx) (b : Fin 32) (f : TxFrame) : (s.txSuccess c b f).stored = s.stored := by
  simp [State.txSuccess]

@[simp] theorem State.stored_endTx (c : CanIx) (b : Fin 32) (f : TxFrame) (e : TxEnd) : (s.endTx c b f e).stored = s.stored := by
  unfold State.endTx
  split <;> simp

@[simp] theorem State.stored_canTx (c : CanIx) (f : CanFrame) (timed : Bool) (t : Nat) :
    (s.canTx c f timed t).1.stored = s.stored := by
  unfold State.canTx
  split <;> simp

@[simp] theorem State.stored_canCancel (c : CanIx) (handle : Nat) : (s.canCancel c handle).1.stored = s.stored := by
  unfold State.canCancel
  dsimp only
  split <;> simp

@[simp] theorem State.stored_canError (c : CanIx) (e : CanErr) : (s.canError c e).stored = s.stored := by
  simp [State.canError]

@[simp] theorem State.stored_writeCanRecover (c : CanIx) : (s.writeCanRecover c).1.stored = s.stored := by
  simp [State.writeCanRecover]

@[simp] theorem State.stored_reintegrate (c : CanIx) : (s.reintegrate c).stored = s.stored := by simp [State.reintegrate]

/-! ### Machine/Respond -/

@[simp] theorem State.stored_gwSend (c : CanIx) (answer : List Byte) : (s.gwSend c answer).stored = s.stored := by
  simp [State.gwSend]

@[simp] theorem State.stored_answer (via : Option CanIx) (record : List Byte) (seq : Nat) (r : Result) (detail : Nat) (data : List Byte) :
    (s.answer via record seq r detail data).stored = s.stored := by
  unfold State.answer
  split <;> simp

@[simp] theorem State.stored_eclipseStart (cause : Nat) : (s.eclipseStart cause).stored = s.stored := by
  simp [State.eclipseStart]

@[simp] theorem State.stored_testEclipse : s.testEclipse.stored = s.stored := by simp [State.testEclipse]
@[simp] theorem State.stored_armEntry : s.armEntry.stored = s.stored := by simp [State.armEntry]
@[simp] theorem State.stored_afterResponse : s.afterResponse.stored = s.stored := by simp [State.afterResponse]
@[simp] theorem State.stored_postHeld : s.postHeld.stored = s.stored := by simp [State.postHeld]
@[simp] theorem State.stored_complete (w : Waiting) : (s.complete w).stored = s.stored := by simp [State.complete]

@[simp] theorem State.stored_tryComplete : s.tryComplete.stored = s.stored := by
  unfold State.tryComplete
  split <;> simp

@[simp] theorem State.stored_echo (t : Byte) : (s.echo t).stored = s.stored := by simp [State.echo]
@[simp] theorem State.stored_abandonWaiting : s.abandonWaiting.stored = s.stored := by simp [State.abandonWaiting]
@[simp] theorem State.stored_dropWrites : s.dropWrites.stored = s.stored := by simp [State.dropWrites]

/-! ### Machine/Link -/

@[simp] theorem State.stored_pdClear (c : Ch) : (s.pdClear c).stored = s.stored := by simp [State.pdClear]
@[simp] theorem State.stored_pdPrepare (c : Ch) : (s.pdPrepare c).stored = s.stored := by simp [State.pdPrepare]

@[simp] theorem State.stored_pdStartUp : s.pdStartUp.stored = s.stored := by
  have park : ∀ (t : State) (p : Bool) (m : BitVec 24), (if p then t.pdPark m else t).stored = t.stored := fun t p m => by
    cases p <;> simp
  unfold State.pdStartUp
  extract_lets cleared pumped units on safeA safeB
  have hcleared : cleared.stored = s.stored := State.stored_forAll fun _ _ => rfl
  have hpumped : pumped.stored = s.stored := by rw [State.stored_onPdBank, State.stored_onPdBank, hcleared]
  have hon : on.stored = s.stored := by
    rw [← hpumped]
    unfold on
    rw [State.stored_mk]
    rfl
  calc _ = safeB.stored := park ..
    _ = safeA.stored := park ..
    _ = on.stored := park ..
    _ = s.stored := hon

@[simp] theorem State.stored_pdStandby : s.pdStandby.stored = s.stored := by simp [State.pdStandby]
@[simp] theorem State.stored_badDownlink : s.badDownlink.stored = s.stored := by simp [State.badDownlink]

@[simp] theorem State.stored_urgent (type : Nat) (m : BitVec 24) : (s.urgent type m).stored = s.stored := by
  unfold State.urgent
  split <;> simp

@[simp] theorem State.stored_stillPending : s.stillPending.stored = s.stored := by simp [State.stillPending]

@[simp] theorem State.stored_receiveSymbol (w : BitVec 32) : (s.receiveSymbol w).stored = s.stored := by
  simp [State.receiveSymbol]

@[simp] theorem State.stored_sendSymbol (noise : BitVec 32) : (s.sendSymbol noise).stored = s.stored := by
  unfold State.sendSymbol
  split <;> simp

@[simp] theorem State.stored_linkSilence : s.linkSilence.stored = s.stored := by simp [State.linkSilence]
@[simp] theorem State.stored_issueAll (ks : List CfgKind) : (s.issueAll ks).stored = s.stored := by simp [State.issueAll]
@[simp] theorem State.stored_resend : s.resend.stored = s.stored := by simp [State.resend]

@[simp] theorem State.stored_takeBank (f : UpFrame) (b : BankIx) : (s.takeBank f b).stored = s.stored := by
  simp [State.takeBank]

@[simp] theorem State.stored_takeCurrent (f : UpFrame) (c : Ch) : (s.takeCurrent f c).stored = s.stored := by
  simp [State.takeCurrent]

@[simp] theorem State.stored_seeBankOff (c : Ch) : (s.seeBankOff c).stored = s.stored := by simp [State.seeBankOff]

@[simp] theorem State.stored_takeFlags (f : UpFrame) (c : Ch) : (s.takeFlags f c).stored = s.stored := by
  simp [State.takeFlags]

@[simp] theorem State.stored_goodUplink (f : UpFrame) : (s.goodUplink f).stored = s.stored := by simp [State.goodUplink]
@[simp] theorem State.stored_uplinkLost : s.uplinkLost.stored = s.stored := by simp [State.uplinkLost]

/-! ### Machine/Feedback -/

@[simp] theorem State.stored_fbReport (c : Ch) (kind : Nat) : (s.fbReport c kind).stored = s.stored := by
  simp [State.fbReport]

@[simp] theorem State.stored_fbError (c : Ch) (kind : Nat) : (s.fbError c kind).stored = s.stored := by simp [State.fbError]

@[simp] theorem State.stored_fbWindowEnd (c : Ch) (kind : Nat) : (s.fbWindowEnd c kind).stored = s.stored := by
  simp [State.fbWindowEnd]

@[simp] theorem State.stored_fbCompare (c : Ch) (k : Nat) (old : BitVec 32) (n : Int) :
    (s.fbCompare c k old n).stored = s.stored := by
  simp [State.fbCompare]

@[simp] theorem State.stored_fbMove (c : Ch) (n : Int) (keep : Bool) : (s.fbMove c n keep).stored = s.stored := by
  simp [State.fbMove]

@[simp] theorem State.stored_fbStep (c : Ch) (n : Int) : (s.fbStep c n).stored = s.stored := by simp [State.fbStep]

@[simp] theorem State.stored_quad (c : Ch) (a b : Bool) : (s.quad c a b).stored = s.stored := by
  unfold State.quad
  dsimp only
  split <;> simp

@[simp] theorem State.stored_index (c : Ch) : (s.index c).stored = s.stored := by simp [State.index]
@[simp] theorem State.stored_goodRun (c : Ch) : (s.goodRun c).stored = s.stored := by simp [State.goodRun]

@[simp] theorem State.stored_hall (c : Ch) (u v w : Bool) : (s.hall c u v w).stored = s.stored := by
  unfold State.hall
  dsimp only
  repeat' split
  all_goals simp

@[simp] theorem State.stored_tooth (c : Ch) : (s.tooth c).stored = s.stored := by
  unfold State.tooth
  split <;> simp

@[simp] theorem State.stored_goodFrame (c : Ch) (value : Nat) : (s.goodFrame c value).stored = s.stored := by
  simp [State.goodFrame]

@[simp] theorem State.stored_badFrame (c : Ch) : (s.badFrame c).stored = s.stored := by simp [State.badFrame]

@[simp] theorem State.stored_slowChannel (c : Ch) (status : BitVec 4) : (s.slowChannel c status).stored = s.stored := by
  unfold State.slowChannel
  dsimp only
  split <;> simp

@[simp] theorem State.stored_sent (c : Ch) (rx : SentRx) : (s.sent c rx).stored = s.stored := by
  have cal : (if s.calOk c rx.calNs then s.onFb c fun f => { f with lastCal := some rx.calNs } else s).stored = s.stored := by
    split <;> rfl
  unfold State.sent
  dsimp only
  split
  · rw [State.stored_slowChannel, State.stored_goodFrame, cal]
  · rw [State.stored_badFrame, State.stored_onFb, cal]

@[simp] theorem State.stored_serial (c : Ch) (bits : BitVec 40) (idleHigh : Bool) :
    (s.serial c bits idleHigh).stored = s.stored := by
  simp [State.serial]

@[simp] theorem State.stored_fbCentre (b : BankIx) : (s.fbCentre b).stored = s.stored := by simp [State.fbCentre]

@[simp] theorem State.stored_fbPeriodStart (b : BankIx) : (s.fbPeriodStart b).stored = s.stored := by
  simp [State.fbPeriodStart]

@[simp] theorem State.stored_settleFbs : s.settleFbs.stored = s.stored := by simp [State.settleFbs]
@[simp] theorem State.stored_writeFbTrust (c : Ch) : (s.writeFbTrust c).1.stored = s.stored := by simp [State.writeFbTrust]

/-! ### Machine/Period -/

@[simp] theorem State.stored_loadBank (b : BankIx) : (s.loadBank b).stored = s.stored := by simp [State.loadBank]
@[simp] theorem State.stored_dropSlice (c : Ch) : (s.dropSlice c).stored = s.stored := by simp [State.dropSlice]
@[simp] theorem State.stored_controlCh (c : Ch) : (s.controlCh c).stored = s.stored := by simp [State.controlCh]

@[simp] theorem State.stored_controlPeriod (b : BankIx) : (s.controlPeriod b).stored = s.stored := by
  simp [State.controlPeriod]

@[simp] theorem State.stored_startPeriod (b : BankIx) : (s.startPeriod b).stored = s.stored := by simp [State.startPeriod]

/-! ### Machine/Security -/

@[simp] theorem State.stored_writeAttestGo : s.writeAttestGo.1.stored = s.stored := by
  unfold State.writeAttestGo
  split
  · rfl
  · rw [State.stored_mk, Stored.mk_fields]

@[simp] theorem State.stored_writeOtpArm (v : Int) : (s.writeOtpArm v).1.stored = s.stored := by simp [State.writeOtpArm]

@[simp] theorem State.stored_writeOtpOp (op item : Nat) : (s.writeOtpOp op item).1.stored = s.stored := by
  unfold State.writeOtpOp
  split <;> simp

@[simp] theorem State.stored_unlockFails (code : Nat) : (s.unlockFails code).stored = s.stored := by simp [State.unlockFails]
@[simp] theorem State.stored_endRuntime : s.endRuntime.stored = s.stored := by simp [State.endRuntime]

/-! ### Machine/Boot -/

@[simp] theorem State.stored_verifyFails (reason : Nat) : (s.verifyFails reason).stored = s.stored := by
  simp [State.verifyFails]

@[simp] theorem State.stored_latchImage : s.latchImage.stored = s.stored := by simp [State.latchImage]
@[simp] theorem State.stored_powerUp : s.powerUp.stored = s.stored := by simp [State.powerUp]
@[simp] theorem State.stored_ramError : s.ramError.stored = s.stored := by simp [State.ramError]
@[simp] theorem State.stored_postDeferred : s.postDeferred.stored = s.stored := by simp [State.postDeferred]
@[simp] theorem State.stored_expire : s.expire.stored = s.stored := by simp [State.expire]

@[simp] theorem State.stored_silenceAction (action : Nat) : (s.silenceAction action).1.stored = s.stored := by
  simp [State.silenceAction]

@[simp] theorem State.stored_hostSilent (action : Nat) : (s.hostSilent action).stored = s.stored := by
  simp [State.hostSilent]

/-! ### Machine/HostPort -/

@[simp] theorem State.stored_badFrameEnd (alive : Byte) (reason : Nat) : (s.badFrameEnd alive reason).stored = s.stored := by
  simp [State.badFrameEnd]

@[simp] theorem State.stored_acceptPost (r : List Byte) : (s.acceptPost r).stored = s.stored := by simp [State.acceptPost]

/-! ### Machine/Power -/

@[simp] theorem State.stored_cause (n : Nat) : (s.cause n).stored = s.stored := by simp [State.cause]
@[simp] theorem State.stored_releaseN : s.releaseN.stored = s.stored := by simp [State.releaseN]
@[simp] theorem State.stored_writeStandby : s.writeStandby.1.stored = s.stored := by simp [State.writeStandby]
@[simp] theorem State.stored_enterStandby : s.enterStandby.stored = s.stored := by simp [State.enterStandby]
@[simp] theorem State.stored_wakeIs (high : Bool) : (s.wakeIs high).stored = s.stored := by simp [State.wakeIs]

/-! ### Machine/Tick -/

@[simp] theorem State.stored_passTime : s.passTime.stored = s.stored := by simp [State.passTime]
@[simp] theorem State.stored_nextFc : s.nextFc.stored = s.stored := by simp [State.nextFc]
@[simp] theorem State.stored_latchView : s.latchView.stored = s.stored := by simp [State.latchView]

/-! ### Machine/Writes -/

@[simp] theorem State.stored_writeTest : s.writeTest.stored = s.stored := by simp [State.writeTest]
@[simp] theorem State.stored_disarm : s.disarm.stored = s.stored := by simp [State.disarm]

/-! ### Machine/Mailbox -/

@[simp] theorem State.stored_doGet (r : List Byte) : (s.doGet r).state.stored = s.stored := by simp [State.doGet]

@[simp] theorem State.stored_onOwned (src : Source) (c : Ch) {run : Done} (h : run.state.stored = s.stored) :
    (s.onOwned src c run).state.stored = s.stored := by
  simp [State.onOwned, h]

@[simp] theorem State.stored_doMoveTo (src : Source) (r : List Byte) : (s.doMoveTo src r).state.stored = s.stored := by
  simp [State.doMoveTo]

@[simp] theorem State.stored_doMoveVel (src : Source) (r : List Byte) : (s.doMoveVel src r).state.stored = s.stored := by
  simp [State.doMoveVel]

@[simp] theorem State.stored_doStop (src : Source) (r : List Byte) : (s.doStop src r).state.stored = s.stored := by
  simp [State.doStop]

@[simp] theorem State.stored_doEnable (src : Source) (r : List Byte) : (s.doEnable src r).state.stored = s.stored := by
  simp [State.doEnable]

@[simp] theorem State.stored_doDisable (src : Source) (r : List Byte) : (s.doDisable src r).state.stored = s.stored := by
  simp [State.doDisable]

@[simp] theorem State.stored_doClear (src : Source) (r : List Byte) : (s.doClear src r).state.stored = s.stored := by
  simp [State.doClear]

@[simp] theorem State.stored_refuseFirst (cs : List Ch) (p : Ch → Bool) (code : Result) {run : Done}
    (h : run.state.stored = s.stored) : (s.refuseFirst cs p code run).state.stored = s.stored := by
  unfold State.refuseFirst
  split
  · rfl
  · exact h

@[simp] theorem State.stored_onMask (src : Source) (r : List Byte) {run : Done} (h : run.state.stored = s.stored) :
    (s.onMask src r run).state.stored = s.stored := by
  simp [State.onMask, h]

@[simp] theorem State.stored_doGroupStart (src : Source) (r : List Byte) : (s.doGroupStart src r).state.stored = s.stored := by
  simp [State.doGroupStart]

@[simp] theorem State.stored_doRollCall (src : Source) (r : List Byte) : (s.doRollCall src r).state.stored = s.stored := by
  simp [State.doRollCall]

@[simp] theorem State.stored_doInterp (src : Source) (r : List Byte) : (s.doInterp src r).state.stored = s.stored := by
  unfold State.doInterp
  dsimp only
  split
  · rfl
  · refine State.stored_refuseFirst _ _ _ (State.stored_refuseFirst _ _ _ ?_)
    split <;> simp

@[simp] theorem State.stored_doCalibrate (r : List Byte) : (s.doCalibrate r).state.stored = s.stored := by
  unfold State.doCalibrate
  dsimp only
  split <;> simp

@[simp] theorem State.stored_doSnapshot (r : List Byte) : (s.doSnapshot r).state.stored = s.stored := by
  simp [State.doSnapshot]

@[simp] theorem State.stored_doSwap (r : List Byte) : (s.doSwap r).state.stored = s.stored := by
  unfold State.doSwap
  dsimp only
  split <;> simp

@[simp] theorem State.stored_doCanTx (r : List Byte) : (s.doCanTx r).state.stored = s.stored := by simp [State.doCanTx]
@[simp] theorem State.stored_doCancel (r : List Byte) : (s.doCancel r).state.stored = s.stored := by simp [State.doCancel]

/-! ### Machine/Reports -/

@[simp] theorem State.stored_overrunWindowEnd (m : ModIx) : (s.overrunWindowEnd m).stored = s.stored := by
  simp [State.overrunWindowEnd]

@[simp] theorem State.stored_lostWindowEnd (m : ModIx) : (s.lostWindowEnd m).stored = s.stored := by
  simp [State.lostWindowEnd]

@[simp] theorem State.stored_rxWindowEnd (c : CanIx) : (s.rxWindowEnd c).stored = s.stored := by simp [State.rxWindowEnd]

@[simp] theorem State.stored_windowEnd (k : ReportKind) : (s.windowEnd k).stored = s.stored := by
  unfold State.windowEnd
  split <;> simp

/-! ### Machine/Core -/

/-- `b` may follow `a` in a run: canonical maps stay canonical (R13, R175, R302), the fuses stay sound and no blown fuse is
unblown (R448), and the debug halt stays behind a blown debug fuse (R449). -/
structure Stored.Keeps (a b : Stored) : Prop where
  maps : (Sparse.wf resetOfKey a.params && Sparse.wf resetOfKey a.config && stagingWf a.staging) = true →
    (Sparse.wf resetOfKey b.params && Sparse.wf resetOfKey b.config && stagingWf b.staging) = true
  fuses : a.otp.sound = true → b.otp.sound = true
  debug : a.otp.debug = true → b.otp.debug = true
  kill : a.otp.kill = true → b.otp.kill = true
  halt : (!a.halt || a.otp.debug) = true → (!b.halt || b.otp.debug) = true

namespace Stored

@[simp] theorem Keeps.refl (a : Stored) : a.Keeps a := ⟨id, id, id, id, id⟩

theorem Keeps.trans {a b c : Stored} (h : a.Keeps b) (k : b.Keeps c) : a.Keeps c :=
  ⟨k.maps ∘ h.maps, k.fuses ∘ h.fuses, k.debug ∘ h.debug, k.kill ∘ h.kill, k.halt ∘ h.halt⟩

@[simp] theorem keeps_ite {a : Stored} (c : Prop) [Decidable c] (x y : Stored) :
    a.Keeps (if c then x else y) ↔ (c → a.Keeps x) ∧ (¬c → a.Keeps y) := by split <;> simp [*]

theorem keeps_of_maps {a b : Stored}
    (hm : (Sparse.wf resetOfKey a.params && Sparse.wf resetOfKey a.config && stagingWf a.staging) = true →
      (Sparse.wf resetOfKey b.params && Sparse.wf resetOfKey b.config && stagingWf b.staging) = true)
    (ho : b.otp = a.otp) (hh : b.halt = a.halt) : a.Keeps b := by
  refine ⟨hm, ?_, ?_, ?_, ?_⟩ <;> simp [ho, hh]

end Stored

variable {a : Stored} {s : State}

theorem State.keeps_foldl {α : Type} (xs : List α) {f : State → α → State} (hf : ∀ (t : State) x, t.stored.Keeps (f t x).stored)
    (h : a.Keeps s.stored) : a.Keeps (xs.foldl f s).stored := by
  induction xs generalizing s with
  | nil => exact h
  | cons x xs ih => exact ih (h.trans (hf s x))

theorem State.keeps_forAll {α : Type} {xs : List α} {f : α → State → State} (hf : ∀ x (t : State), t.stored.Keeps (f x t).stored)
    (h : a.Keeps s.stored) : a.Keeps (s.forAll xs f).stored :=
  State.keeps_foldl xs (fun t x => hf x t) h

@[simp] theorem State.keeps_setPar (h : a.Keeps s.stored) (id inst : Nat) (v : Int) : a.Keeps (s.setPar id inst v).stored :=
  h.trans <| Stored.keeps_of_maps (fun hm => by
    simp only [State.stored, Bool.and_eq_true] at hm ⊢
    exact ⟨⟨s.setPar_wf id inst v hm.1.1, hm.1.2⟩, hm.2⟩) rfl rfl

@[simp] theorem State.keeps_ownWrite (h : a.Keeps s.stored) (id inst : Nat) (v : Int) : a.Keeps (s.ownWrite id inst v).stored := by
  simp [State.ownWrite, h]

@[simp] theorem State.keeps_writeGbEnable (h : a.Keeps s.stored) (g : EntryIx) (v : Int) : a.Keeps (s.writeGbEnable g v).1.stored := by
  simp [State.writeGbEnable, h]

@[simp] theorem State.keeps_writeAdcRun (h : a.Keeps s.stored) (m : ModIx) (v : Int) : a.Keeps (s.writeAdcRun m v).1.stored := by
  simp [State.writeAdcRun, h]

@[simp] theorem State.keeps_finishCal (h : a.Keeps s.stored) (m : ModIx) (e : Nat) (k : CalRun) : a.Keeps (s.finishCal m e k).stored := by
  simp [State.finishCal, h]

@[simp] theorem State.keeps_writeRfxEnable (h : a.Keeps s.stored) (r : RuleIx) (v : Int) : a.Keeps (s.writeRfxEnable r v).1.stored := by
  unfold State.writeRfxEnable
  repeat' split
  all_goals simp [h]

@[simp] theorem State.keeps_writeAuxRun (h : a.Keeps s.stored) (k : AuxIx) (v : Int) : a.Keeps (s.writeAuxRun k v).1.stored := by
  simp [State.writeAuxRun, h]
@[simp] theorem State.keeps_writeAuxForce (h : a.Keeps s.stored) (k : AuxIx) (v : Int) : a.Keeps (s.writeAuxForce k v).1.stored := by
  simp [State.writeAuxForce, h]
@[simp] theorem State.keeps_writeTripEnable (h : a.Keeps s.stored) (t : TripIx) (v : Int) : a.Keeps (s.writeTripEnable t v).1.stored := by
  simp [State.writeTripEnable, h]

@[simp] theorem State.keeps_stopAux (h : a.Keeps s.stored) : a.Keeps s.stopAux.stored := by
  unfold State.stopAux
  rw [State.stored_forAll fun _ _ => State.stored_onAux ..]
  exact State.keeps_forAll (fun _ t => State.keeps_setPar (.refl _) ..) h

@[simp] theorem State.keeps_evaluateRollCall (h : a.Keeps s.stored) (c : Ch) (k1 k2 : RcCoil) :
    a.Keeps (s.evaluateRollCall c k1 k2).stored := by
  unfold State.evaluateRollCall
  dsimp only
  split <;> simp [h]

@[simp] theorem State.keeps_loadPreset (h : a.Keeps s.stored) (f : FltIx) (page1 : Bool) (n : Nat) :
    a.Keeps (s.loadPreset f page1 n).stored := by
  unfold State.loadPreset
  dsimp only
  split
  · exact State.keeps_setPar h ..
  · exact State.keeps_forAll (fun _ t => State.keeps_setPar (.refl _) ..)
      (State.keeps_setPar (State.keeps_setPar (State.keeps_setPar h ..) ..) ..)

@[simp] theorem State.keeps_writeFltRun (h : a.Keeps s.stored) (f : FltIx) (v : Int) : a.Keeps (s.writeFltRun f v).1.stored := by
  simp [State.writeFltRun, h]

@[simp] theorem State.keeps_startCan (h : a.Keeps s.stored) (c : CanIx) : a.Keeps (s.startCan c).stored := by
  unfold State.startCan
  dsimp only
  split <;> simp [h]

@[simp] theorem State.keeps_leaveBus (h : a.Keeps s.stored) (c : CanIx) : a.Keeps (s.leaveBus c).stored := by
  simp [State.leaveBus, h]

@[simp] theorem State.keeps_writeCanRun (h : a.Keeps s.stored) (c : CanIx) (v : Int) : a.Keeps (s.writeCanRun c v).1.stored := by
  simp [State.writeCanRun, h]

@[simp] theorem State.keeps_writeCanMode (h : a.Keeps s.stored) (c : CanIx) (v : Int) : a.Keeps (s.writeCanMode c v).1.stored := by
  simp [State.writeCanMode, h]

@[simp] theorem State.keeps_lockCandidate (h : a.Keeps s.stored) (c : CanIx) : a.Keeps (s.lockCandidate c).stored := by
  unfold State.lockCandidate
  dsimp only
  split <;> simp [h]

@[simp] theorem State.keeps_settleSearch (h : a.Keeps s.stored) (c : CanIx) : a.Keeps (s.settleSearch c).stored := by
  simp [State.settleSearch, h]

@[simp] theorem State.keeps_receiveCan (h : a.Keeps s.stored) (c : CanIx) (f : CanFrame) (stamp : Nat) :
    a.Keeps (s.receiveCan c f stamp).stored := by
  simp [State.receiveCan, State.detectFrame, h]

/-! ### The power die, the security block and the boot ROM -/

@[simp] theorem State.keeps_pdSet (h : a.Keeps s.stored) (id inst : Nat) (v : Int) : a.Keeps (s.pdSet id inst v).stored := by
  refine h.trans (Stored.keeps_of_maps (fun hm => ?_) ?_ ?_)
  · simp only [State.stored, Bool.and_eq_true] at hm ⊢
    have hc := Sparse.put_wf (v := v) (resetOfKey_pkey id inst).symm hm.1.2
    unfold State.pdSet
    dsimp only
    split <;> exact ⟨⟨hm.1.1, hc⟩, hm.2⟩
  all_goals
    unfold State.pdSet
    dsimp only
    split <;> rfl

@[simp] theorem State.keeps_applyCfg (h : a.Keeps s.stored) (k : CfgKind) : a.Keeps (s.applyCfg k).stored := by
  cases k <;> simp [State.applyCfg, h]

@[simp] theorem State.keeps_applySlot (h : a.Keeps s.stored) (slot : List Byte) : a.Keeps (s.applySlot slot).stored := by
  unfold State.applySlot
  repeat' split
  all_goals simp [h]

@[simp] theorem State.keeps_goodDownlink (h : a.Keeps s.stored) (bs : List Byte) : a.Keeps (s.goodDownlink bs).stored := by
  refine State.keeps_forAll (fun w t => State.keeps_applySlot (.refl _) w) ?_
  rw [State.stored_forAll fun _ _ => State.stored_onPdBank .., State.stored_forAll fun _ _ => State.stored_onPdChan ..]
  exact h

@[simp] theorem State.keeps_downlink (h : a.Keeps s.stored) (noise : List (Nat × Byte)) : a.Keeps (s.downlink noise).stored := by
  simp [State.downlink, h]

@[simp] theorem State.keeps_wssThresholds (h : a.Keeps s.stored) (c : Ch) : a.Keeps (s.wssThresholds c).stored :=
  State.keeps_setPar (State.keeps_setPar (State.keeps_setPar h ..) ..) ..

@[simp] theorem State.keeps_writeFbEnable (h : a.Keeps s.stored) (c : Ch) (v : Int) : a.Keeps (s.writeFbEnable c v).1.stored := by
  simp [State.writeFbEnable, h]

@[simp] theorem State.keeps_writeVaultLoad (h : a.Keeps s.stored) : a.Keeps s.writeVaultLoad.1.stored :=
  State.keeps_foldl _ (fun _ _ => State.keeps_setPar (.refl _) ..) h

@[simp] theorem State.keeps_burn (h : a.Keeps s.stored) (op : Nat) (readBack : Bool) : a.Keeps (s.burn op readBack).stored := by
  have hb : ∀ v, (s.otp.burn op v).deviceKey = s.otp.deviceKey ∧ (s.otp.burn op v).debug = s.otp.debug ∧
      (s.otp.burn op v).kill = s.otp.kill := fun v => by
    unfold Otp.burn
    dsimp only
    split <;> exact ⟨rfl, rfl, rfl⟩
  refine h.trans ⟨id, ?_, ?_, ?_, ?_⟩ <;> simp only [State.stored, State.burn, Otp.sound, hb] <;> exact id

theorem State.keeps_otpRun (h : a.Keeps s.stored) (op : Nat) (readBack : Bool) : a.Keeps (s.otpRun op readBack).stored := by
  unfold State.otpRun State.finishBurn State.directBurn
  dsimp only
  repeat' split
  all_goals simp [h]

theorem State.keeps_openPort (h : a.Keeps s.stored) : a.Keeps s.openPort.stored := by
  refine h.trans ⟨fun hm => ?_, fun _ => rfl, fun _ => rfl, fun _ => rfl, fun _ => ?_⟩
  · simp only [State.stored, Bool.and_eq_true] at hm
    simp only [State.stored, State.openPort, Boot.scrub, hm.1.2]
    rfl
  · simp only [State.stored, State.openPort, Bool.or_true]

theorem State.stored_startRuntime : s.startRuntime.stored = { s.stored with params := [] } := by
  unfold State.startRuntime
  dsimp only
  rw [State.stored_raise]
  split
  · rfl
  · rfl

/-! ### Stores that are emptied -/

theorem Stored.Keeps.dropParams {b : Stored} (h : a.Keeps b) : a.Keeps { b with params := [] } :=
  h.trans ⟨fun hm => by simp only [Bool.and_eq_true] at hm ⊢; exact ⟨⟨rfl, hm.1.2⟩, hm.2⟩, id, id, id, id⟩
theorem Stored.Keeps.dropConfig {b : Stored} (h : a.Keeps b) : a.Keeps { b with config := [] } :=
  h.trans ⟨fun hm => by simp only [Bool.and_eq_true] at hm ⊢; exact ⟨⟨hm.1.1, rfl⟩, hm.2⟩, id, id, id, id⟩
theorem Stored.Keeps.dropStaging {b : Stored} (h : a.Keeps b) : a.Keeps { b with staging := [] } :=
  h.trans ⟨fun hm => by simp only [Bool.and_eq_true] at hm ⊢; exact ⟨hm.1, rfl⟩, id, id, id, id⟩
theorem Stored.Keeps.dropHalt {b : Stored} (h : a.Keeps b) : a.Keeps { b with halt := false } :=
  h.trans ⟨id, id, id, id, fun _ => rfl⟩

theorem State.keeps_startRuntime (h : a.Keeps s.stored) : a.Keeps s.startRuntime.stored := by
  rw [State.stored_startRuntime]
  exact h.dropParams

@[simp] theorem State.keeps_freshPd (h : a.Keeps s.stored) (running : Bool) : a.Keeps (s.freshPd running).stored :=
  h.dropConfig
@[simp] theorem State.keeps_pdReset (h : a.Keeps s.stored) : a.Keeps s.pdReset.stored := h.dropConfig
@[simp] theorem State.keeps_drivePulse (h : a.Keeps s.stored) : a.Keeps s.drivePulse.stored := h.dropConfig
@[simp] theorem State.keeps_resetN (h : a.Keeps s.stored) : a.Keeps s.resetN.stored := h.dropConfig
@[simp] theorem State.keeps_controlReset (h : a.Keeps s.stored) : a.Keeps s.controlReset.stored := h.dropParams.dropHalt

/-- Completing an opening that a power loss cut off unblows no fuse (R448). -/
theorem Otp.completeKill_sound (o : Otp) :
    (o.sound = true → o.completeKill.sound = true) ∧ o.completeKill.debug = o.debug ∧ (o.kill = true → o.completeKill.kill = true) := by
  unfold Otp.completeKill
  split <;> simp [Otp.sound]

theorem State.keeps_coldBoot (h : a.Keeps s.stored) : a.Keeps s.coldBoot.stored := by
  obtain ⟨hs, hd, hk⟩ := s.otp.completeKill_sound
  exact h.dropParams.dropStaging.dropHalt.trans ⟨id, hs, fun h => hd.trans h, hk, fun _ => rfl⟩

@[simp] theorem State.keeps_tryPulse (h : a.Keeps s.stored) : a.Keeps s.tryPulse.stored := by
  simp [State.tryPulse, h]

@[simp] theorem State.keeps_startWake (h : a.Keeps s.stored) : a.Keeps s.startWake.stored := by
  simp [State.startWake, h]

theorem State.keeps_stopUnits (h : a.Keeps s.stored) : a.Keeps s.stopUnits.stored := by
  unfold State.stopUnits
  extract_lets aux vexc mods flts
  have haux : a.Keeps aux.stored := State.keeps_stopAux (State.keeps_forAll (fun _ _ => State.keeps_leaveBus (.refl _) _) h)
  have hvexc : a.Keeps vexc.stored := State.keeps_forAll (fun _ _ => State.keeps_setPar (.refl _) ..) haux
  have hmods : a.Keeps mods.stored := State.keeps_forAll (fun _ _ => State.keeps_setPar (by simp) ..) hvexc
  have hflts : a.Keeps flts.stored := State.keeps_forAll (fun _ _ => State.keeps_setPar (.refl _) ..) hmods
  rw [State.stored_mk]
  exact hflts

/-! ### The host port -/

@[simp] theorem State.keeps_commit0 (h : a.Keeps s.stored) (f : HpFrame) : a.Keeps (s.commit0 f).stored := by
  refine h.trans (Stored.keeps_of_maps (fun hm => ?_) rfl rfl)
  simp only [State.stored, Bool.and_eq_true] at hm ⊢
  refine ⟨hm.1, ?_⟩
  unfold State.commit0
  dsimp only
  split
  · exact stagingWrite_wf _ _ _ hm.2
  · repeat' split
    all_goals exact hm.2

@[simp] theorem State.keeps_commitGood (h : a.Keeps s.stored) (k : CurFrame) : a.Keeps (s.commitGood k).stored := by
  unfold State.commitGood State.commitResult State.commitOk
  dsimp only
  repeat' split
  all_goals simp [h]

@[simp] theorem State.keeps_endFrame (h : a.Keeps s.stored) (clocks : Nat) (alive : Byte) : a.Keeps (s.endFrame clocks alive).stored := by
  unfold State.endFrame
  repeat' split
  all_goals simp [h]

@[simp] theorem State.keeps_present (h : a.Keeps s.stored) (f : HpFrame) : a.Keeps (s.present f).stored := by
  simp [State.present, h]

@[simp] theorem State.keeps_wholeFrame (h : a.Keeps s.stored) (f : HpFrame) : a.Keeps (s.wholeFrame f).stored := by
  simp [State.wholeFrame, h]

/-! ### A fabric cycle -/

@[simp] theorem State.keeps_applyLater (h : a.Keeps s.stored) : a.Keeps s.applyLater.stored := by
  unfold State.applyLater
  repeat' split
  · rw [State.stored_mk]
    exact State.keeps_setPar h ..
  · simp [h]
  · simp [h]

@[simp] theorem Boot.passTime_staging (b : Boot) : b.passTime.staging = b.staging := by
  unfold Boot.passTime
  split <;> rfl

@[simp] theorem State.keeps_passUnits (h : a.Keeps s.stored) : a.Keeps s.passUnits.stored := by
  simp [State.passUnits, h]

@[simp] theorem State.keeps_cycle (h : a.Keeps s.stored) : a.Keeps s.cycle.stored := by
  simp [State.cycle, h]

/-! ### A write of an item -/

@[simp] theorem Wrote.of_state (p : State × Result) : (Wrote.of p).state = p.1 := rfl

@[simp] theorem State.keeps_store (h : a.Keeps s.stored) (id inst : Nat) (v : Int) : a.Keeps (s.store id inst v).state.stored := by
  simp [State.store, h]

@[simp] theorem State.keeps_writeBand (h : a.Keeps s.stored) (id inst : Nat) (v : Int) : a.Keeps (s.writeBand id inst v).stored :=
  State.keeps_setPar h id inst v
@[simp] theorem State.keeps_writeSilence (h : a.Keeps s.stored) (v : Int) : a.Keeps (s.writeSilence v).stored :=
  State.keeps_setPar h ..

theorem State.keeps_applyWrite (h : a.Keeps s.stored) (item id inst : Nat) (v : Int) : a.Keeps (s.applyWrite item id inst v).state.stored := by
  unfold State.applyWrite
  dsimp only
  repeat' split
  all_goals simp [h, State.writeCoef, State.writeKe, State.writeAdc, State.writeVexc]

@[simp] theorem State.keeps_writeItem (h : a.Keeps s.stored) (src : Source) (item id inst : Nat) (value : BitVec 64) :
    a.Keeps (s.writeItem src item id inst value).state.stored := by
  unfold State.writeItem State.applyItem
  dsimp only
  repeat' split
  all_goals simp [h, State.keeps_applyWrite]

@[simp] theorem State.keeps_apartGo (h : a.Keeps s.stored) (unit : Nat × Nat) (n : Nat) : a.Keeps (State.apartGo unit n s).stored := by
  induction n generalizing s with
  | zero => exact h
  | succ n ih =>
    unfold State.apartGo
    split
    · exact ih (State.keeps_cycle h)
    · exact h

@[simp] theorem State.keeps_writeApart (h : a.Keeps s.stored) (src : Source) (item id inst : Nat) (value : BitVec 64) :
    a.Keeps (s.writeApart src item id inst value).state.stored := by
  unfold State.writeApart State.apart
  dsimp only
  split <;> simp [h]

@[simp] theorem State.keeps_writeAlone (h : a.Keeps s.stored) (src : Source) (id inst : Nat) (value : BitVec 64) :
    a.Keeps (s.writeAlone src id inst value).stored := by
  simp [State.writeAlone, h]

/-! ### The mailbox -/

theorem State.keeps_setItems (src : Source) (n : Nat) (is : List Item) {q : Setting} (h : a.Keeps q.state.stored) :
    a.Keeps (State.setItems src n is q).state.stored := by
  induction is generalizing n q with
  | nil => exact h
  | cons i is ih => exact ih _ (State.keeps_writeApart h ..)

@[simp] theorem State.keeps_doSet (h : a.Keeps s.stored) (src : Source) (r : List Byte) : a.Keeps (s.doSet src r).state.stored :=
  State.keeps_setItems src 0 _ h

theorem State.keeps_runRecord (h : a.Keeps s.stored) (src : Source) (r : List Byte) : a.Keeps (s.runRecord src r).state.stored := by
  unfold State.runRecord
  repeat' split
  all_goals simp [h]

@[simp] theorem State.keeps_execute (h : a.Keeps s.stored) (q : Queued) : a.Keeps (s.execute q).stored := by
  unfold State.execute
  dsimp only
  split <;> simp [h, State.keeps_runRecord]

@[simp] theorem State.keeps_executeHead (h : a.Keeps s.stored) (p : Queued → Bool) : a.Keeps (s.executeHead p).stored := by
  unfold State.executeHead
  repeat' split
  · refine State.keeps_execute ?_ _
    exact h
  all_goals exact h

@[simp] theorem State.keeps_mailbox (h : a.Keeps s.stored) (op : Nat) : a.Keeps (s.mailbox op).stored := by
  have flush : ∀ (n : Nat) (t : State), a.Keeps t.stored → a.Keeps (State.flushBad n t).stored := fun n => by
    induction n with
    | zero => exact fun _ ht => ht
    | succ n ih => exact fun _ ht => ih _ (State.keeps_executeHead ht _)
  exact State.keeps_executeHead (flush _ _ h) _

@[simp] theorem State.keeps_gatewayTake (h : a.Keeps s.stored) (c : CanIx) : a.Keeps (s.gatewayTake c).stored := by
  unfold State.gatewayTake State.gwAccept
  dsimp only
  repeat' split
  all_goals simp [h]

/-! ### The end of an Eclipse -/

@[simp] theorem State.keeps_catchUp (h : a.Keeps s.stored) : a.Keeps s.catchUp.stored := by
  unfold State.catchUp
  extract_lets calls retimed searched powered resent
  have hcalls : a.Keeps calls.stored := by
    refine State.keeps_forAll (fun c t => ?_) h
    repeat' split
    all_goals simp
  have retime : ∀ (f : FltIx) (t : State), (if (t.flt f).retimeDue then t.retime f else t).stored = t.stored := fun f t => by
    split <;> simp
  have hretimed : retimed.stored = calls.stored := State.stored_forAll retime
  have hsearched : a.Keeps searched.stored := State.keeps_forAll (fun c t => State.keeps_settleSearch (.refl _) c) (by rwa [hretimed])
  have hresent : resent.stored = powered.stored := by
    unfold resent
    split
    · simp
    · split <;> simp
  have hpowered : powered.stored = searched.stored := State.stored_mk ..
  rw [State.stored_tryComplete, State.stored_applyFigures, hresent, hpowered]
  exact hsearched

@[simp] theorem State.keeps_eclipseEnd (h : a.Keeps s.stored) (ms : Nat) : a.Keeps (s.eclipseEnd ms).stored := by
  simp [State.eclipseEnd, h]

/-! ### Every command -/

/-- What is stored in the state that outcome `o` leaves, if any, may follow what is stored in `s`. -/
def KeepsNext (s : State) (o : Host.Outcome State Fault Refusal) : Prop := ∀ t, o = .next t → s.stored.Keeps t.stored

theorem keepsNext_next {t : State} (h : s.stored.Keeps t.stored) : KeepsNext s (.next t) := fun _ e => by
  cases e
  exact h

theorem keepsNext_of_stored {o : Host.Outcome State Fault Refusal} (h : storedNext o = some s.stored) : KeepsNext s o := fun t e => by
  subst e
  rw [Option.some.inj h]
  exact .refl _

theorem exec_keeps (i : Instr) (s : State) : KeepsNext s (exec i s) := by
  cases i
  -- mailbox commands and written items
  case get | set | moveTo | moveVel | stop | enable | disable | groupStart | interpMove | rollCall | calibrate | gbSnapshot
    | fltSwap | canTx | canCancel | clearFault =>
    exact keepsNext_next (State.keeps_mailbox (.refl _) _)
  case parameterWrite | chPositionWrite | chLimitLatchWrite | fbEnable | fbTrust | rfxEnable | rfxRelease | adcRun | gbEnable
    | fltRun | fltPresetLoad | auxRun | auxLoadAll | auxForce | auxTripEnable | auxTripClear | canRun | canMode | canRecover
    | canRxPop | devHostSilenceWrite | devEclipseTest | devStandby | devAttestGo | devVaultLoad | devOtpArm =>
    exact keepsNext_next (State.keeps_writeAlone (.refl _) ..)
  case gatewayCommand => exact keepsNext_next (by simp)
  -- host port and boot ROM
  case commandPost | responseFetch | eventFetch => exact keepsNext_next (State.keeps_present (.refl _) _)
  case hpCtrl | loadApertureWrite | verify | clear => exact keepsNext_next (State.keeps_wholeFrame (.refl _) _)
  case commit => exact keepsNext_next (by simp)
  case verifyComplete =>
    refine keepsNext_next ?_
    repeat' split
    · simp
    · exact State.keeps_startRuntime (by simp)
    · exact .refl _
  case stagingClearDone | bootProcessorFault =>
    refine keepsNext_next ?_
    split
    · exact (Stored.Keeps.refl _).dropStaging
    · exact .refl _
  -- fuses and debug port
  case otpProgramCustomerSlot | otpRevokeVendorSlot | otpRevokeCustomerSlot | otpRaiseRollbackFloor =>
    exact keepsNext_next (State.keeps_otpRun (.refl _) ..)
  case debugUnlockRequest =>
    refine keepsNext_next ?_
    repeat' split
    · exact .refl _
    · exact State.keeps_openPort (by simp)
    · exact State.keeps_openPort (.refl _)
    · simp
    · simp
  case debugHalt =>
    refine keepsNext_next ?_
    split
    · rename_i hd
      have hopen : s.otp.debug = true := by
        simp only [State.debugOpen, Bool.and_eq_true] at hd
        exact hd.1.1
      exact ⟨id, id, id, id, fun _ => hopen⟩
    · exact .refl _
  case debugResume =>
    refine keepsNext_next ?_
    split
    · exact (Stored.Keeps.refl _).dropHalt
    · exact .refl _
  case debugReset | jtagInstructionLoad => exact keepsNext_next (by simp)
  case trstNLow => exact keepsNext_of_stored (by simp [exec, execTrstNLow])
  -- link
  case downlinkSuperframe => exact keepsNext_next (by simp)
  case configTagEcho | uplinkSuperframe | urgentSymbol | downlinkSilence | linkSilenceRcCount | uplinkLost =>
    exact keepsNext_of_stored (by
      simp [exec, execConfigTagEcho, execUplinkSuperframe, execUrgentSymbol, execDownlinkSilence, execLinkSilenceRcCount,
        execUplinkLost])
  -- channels of the control die
  case keLearnUpdate | rollcallComplete => exact keepsNext_next (by simp)
  case periodStart | periodCentre | integrationStep | limitInputActive | limitInputInactive | idleDelayExpiry
    | satPeriodsCount | catchDecision | rejoinTakeUp | stall | followErr =>
    exact keepsNext_of_stored (by
      simp [exec, execPeriodStart, execPeriodCentre, execIntegrationStep, execLimitInputActive, execLimitInputInactive,
        execIdleDelayExpiry, execSatPeriodsCount, execCatchDecision, execRejoinTakeUp, execStall, execFollowErr])
  case standstillDelayExpiry =>
    refine keepsNext_next ?_
    dsimp only
    repeat' split
    all_goals simp
  case twinRejoined ch =>
    change KeepsNext s (execTwinRejoined ch s)
    unfold execTwinRejoined
    split
    · exact keepsNext_next (by simp)
    · exact keepsNext_next (.refl _)
  -- power stages
  case shortTrip | gateFault | softoffPlateauEnd | bankOv | bankUv | vmWindowReturn | chopOn | chopOff | chopOverload
    | safeInputAsserted | safeInputDeasserted | overTemperature | otClear | parkHoldEnd =>
    exact keepsNext_of_stored (by
      simp [exec, execShortTrip, execGateFault, execSoftoffPlateauEnd, execBankOv, execBankUv, execVmWindowReturn, execChopOn,
        execChopOff, execChopOverload, execSafeInputAsserted, execSafeInputDeasserted, execOverTemperature, execOtClear,
        execParkHoldEnd])
  -- feedback and rules
  case quadTransition | index | hallChange | wssTooth | stepEdge | sentFrame | serialFrameEnd | lineOpen | lineShort
    | speedTimeout =>
    exact keepsNext_of_stored (by
      simp [exec, execQuadTransition, execIndex, execHallChange, execWssTooth, execStepEdge, execSentFrame, execSerialFrameEnd,
        execLineOpen, execLineShort, execSpeedTimeout])
  case rateLimitedReport | rfxFiring | rfxReportWindowEnd =>
    exact keepsNext_of_stored (by simp [exec, execRateLimitedReport, execRfxFiring, execRfxReportWindowEnd])
  -- converters and filters
  case calibrationStepComplete | conversionResult =>
    refine keepsNext_next ?_
    repeat' split
    all_goals simp
  case passStart =>
    refine keepsNext_next ?_
    dsimp only
    split <;> simp
  case modulatorSlot | adcTrigger | gbWindowBoundary | filterSlot =>
    exact keepsNext_of_stored (by simp [exec, execModulatorSlot, execAdcTrigger, execGbWindowBoundary, execFilterSlot])
  -- CAN
  case canFrameReceived | detectDwellExpiry => exact keepsNext_next (by simp)
  case canModeChangeAtIdle | canIntegrated | txTimeReached | txTimedStart | canBusError | reintegrated | busStuck =>
    exact keepsNext_of_stored (by
      simp [exec, execCanModeChangeAtIdle, execCanIntegrated, execTxTimeReached, execTxTimedStart, execCanBusError,
        execReintegrated, execBusStuck])
  case txAttemptEnd =>
    refine keepsNext_next ?_
    repeat' split
    all_goals simp
  case txLateDropped =>
    refine keepsNext_next ?_
    split <;> simp
  -- auxiliary outputs
  case auxPeriodStart | auxTrip | tripComparatorInactive =>
    exact keepsNext_of_stored (by simp [exec, execAuxPeriodStart, execAuxTrip, execTripComparatorInactive])
  -- power, clock, reset and Eclipse
  case coldBoot =>
    refine keepsNext_next ?_
    repeat' split
    · simp
    · exact State.keeps_coldBoot (.refl _)
    · simp
  case powerDieUp | powerDieStop | eclipseEnd | supplySupervisorTrip | supplySupervisorRelease | vstbyPowerOn | vstbyPowerLoss
    | clockLoss | rootQualified | resetNLow | wake | standbyPowerDieOff =>
    exact keepsNext_next (by simp)
  case standbyUnitsStop =>
    refine keepsNext_next ?_
    split
    · exact State.keeps_stopUnits (.refl _)
    · exact .refl _
  case eclipseStart | eclipseExpired | wakeLevelChange =>
    exact keepsNext_of_stored (by simp [exec, execEclipseStart, execEclipseExpired, execWakeLevelChange])
  case eclipseRestartFailed =>
    refine keepsNext_next ?_
    split <;> simp
  case hostSilent =>
    change KeepsNext s (execHostSilent s)
    unfold execHostSilent
    split
    · exact keepsNext_next (by simp)
    · exact keepsNext_next (.refl _)

/-- Every step, of a command or of an idle fabric cycle, keeps what `Stored.Keeps` names. -/
theorem step_keeps (s : State) : KeepsNext s (step s) := by
  unfold step
  split
  · exact exec_keeps _ _
  · exact keepsNext_next (State.keeps_cycle (.refl _))

/-- Settles O3: every state operation relates what is stored before and after by `Stored.Keeps`. -/
theorem everyStepKeepsStoredMapsCanonical : Obligations.EveryStepKeepsStoredMapsCanonical := by
  unfold Obligations.EveryStepKeepsStoredMapsCanonical
  intro s t hs hstep
  exact (step_keeps s t hstep).maps hs

end Sys2Proof.Machine
end

section
/-! What is put into the parameter store, the staging area, the lanes of the host port and the superframes of the link reads
back. The rules stand in Laws/Store and Laws/Frames; here they are completed and put together. -/

namespace Sys2Proof.Machine

/-! ### Parameters and staging bytes -/

/-- A parameter write keeps every stored map canonical. -/
theorem State.setPar_canonical (s : State) (id inst : Nat) (v : Int) (h : s.canonical = true) :
    (s.setPar id inst v).canonical = true :=
  (State.keeps_setPar (.refl _) id inst v).maps h

theorem State.par_setPar_same (s : State) (id inst : Nat) (v : Int) (h : s.canonical = true) :
    (s.setPar id inst v).par id inst = v := by
  simp only [State.canonical, Bool.and_eq_true] at h
  exact Sparse.get_put_same _ v h.1.1

theorem State.par_setPar_other (s : State) {id inst id' inst' : Nat} (v : Int) (hi : inst < 256) (hi' : inst' < 256)
    (h : (id', inst') ≠ (id, inst)) : (s.setPar id inst v).par id' inst' = s.par id' inst' :=
  Sparse.get_put_other _ _ v s.params fun e => h (by rw [((pkey_inj hi' hi).1 e).1, ((pkey_inj hi' hi).1 e).2])

/-- A byte above the bytes written reads as before. -/
theorem stagingByte_write_above (m : List Host.Cell) (a : Nat) (bs : List Byte) {x : Nat} (h : a + bs.length ≤ x) :
    stagingByte (stagingWrite m a bs) x = stagingByte m x := by
  induction bs generalizing m a with
  | nil => rfl
  | cons b bs ih =>
    rw [List.length_cons] at h
    exact (ih _ _ (by omega)).trans (stagingByte_put_other m b (by omega))

/-- A byte written reads back: the bytes behind it lie at other addresses. -/
theorem stagingByte_write_same (m : List Host.Cell) (a : Nat) (bs : List Byte) (hm : stagingWf m = true) {i : Nat}
    (h : i < bs.length) : stagingByte (stagingWrite m a bs) (a + i) = bs.getD i 0 := by
  induction bs generalizing m a i with
  | nil => exact absurd h (Nat.not_lt_zero i)
  | cons b bs ih =>
    cases i with
    | zero => exact (stagingByte_write_below _ _ bs (Nat.lt_succ_self a)).trans (stagingByte_put_same m a b hm)
    | succ i =>
      rw [show a + (i + 1) = a + 1 + i by omega]
      exact ih _ _ (stagingPut_wf m a b hm) (Nat.lt_of_succ_lt_succ h)

/-! ### The lanes of the host port -/

theorem lanesFor_length (w : Nat) (bs : List Byte) : (lanesFor w bs).length = bs.length * (8 / w) := by
  simp [lanesFor, List.length_flatMap, laneClocks_length]

theorem statusLanes_getD (w : Nat) (b : Byte) {i : Nat} (h : i < 8) :
    (statusLanes w b).getD i 0 = if b.getLsbD (7 - i) = true then 2 ^ w - 1 else 0 := by
  simp [statusLanes, List.getD_eq_getElem?_getD, h]

/-! ### The downlink superframe -/

theorem State.downBytes_nil (s : State) : s.downBytes [] = sealed s.downFrame.body := noisy_nil ..

theorem State.downFrame_entries_length (s : State) : s.downFrame.entries.length = 24 := by
  simp [State.downFrame, allCh]

theorem State.downFrame_slots_length (s : State) : s.downFrame.slots.length ≤ 4 := List.length_take_le ..

/-- The header stands in front of the entries (R22). -/
theorem DownFrame.byteAt_header (f : DownFrame) {i : Nat} (h : i < 4) :
    byteAt (sealed f.body) i = byteAt [f.seq, BitVec.ofNat 8 (b2n f.loadA + 2 * b2n f.loadB), f.frameA, f.frameB] i := by
  rw [sealed, DownFrame.body, List.append_assoc, List.append_assoc]
  exact byteAt_append_left h

/-- The second character carries LOAD of bank A in bit 0 and of bank B in bit 1 (R24). -/
theorem loadChar_bits (a b : Bool) :
    (BitVec.ofNat 8 (b2n a + 2 * b2n b)).getLsbD 0 = a ∧ (BitVec.ofNat 8 (b2n a + 2 * b2n b)).getLsbD 1 = b := by
  cases a <;> cases b <;> decide

theorem State.downBytes_banks (s : State) (b : BankIx) :
    (byteAt (s.downBytes []) 1).getLsbD b.val = (s.bank b).load ∧ byteAt (s.downBytes []) (2 + b.val) = (s.bank b).frame := by
  obtain ⟨hA, hB⟩ := loadChar_bits (s.bank 0).load (s.bank 1).load
  rw [State.downBytes_nil, DownFrame.byteAt_header _ (by omega), DownFrame.byteAt_header _ (by omega)]
  match b with
  | 0 => exact ⟨hA, rfl⟩
  | 1 => exact ⟨hB, rfl⟩

theorem State.downBytes_entry (s : State) (c : Ch) : entryAt (s.downBytes []) c = (s.chan c).coil.next.entry := by
  rw [State.downBytes_nil, DownFrame.entryAt_body _ c s.downFrame_entries_length]
  simp [State.downFrame, allCh]

theorem State.downBytes_slot (s : State) {i : Nat} (h : i < 4) :
    slotAt (s.downBytes []) i = (s.link.cfg[i]?.map CfgWrite.bytes).getD unusedSlot := by
  rw [State.downBytes_nil, DownFrame.slotAt_body _ i s.downFrame_entries_length h s.downFrame_slots_length]
  simp [State.downFrame, Link.slots, h]

theorem slotTag_bytes (w : CfgWrite) : slotTag w.bytes = w.tag := by
  simp [slotTag, CfgWrite.bytes, byteAt]

/-! ### The uplink superframe -/

theorem State.upBytes_nil (s : State) (vmA vmB temp : BitVec 16) (listen : List (Ch × Int × Int)) :
    s.upBytes [] vmA vmB temp listen = sealed (s.upFrame vmA vmB temp listen).body := noisy_nil ..

theorem clamp_bounds {lo hi : Int} (h : lo ≤ hi) (x : Int) : lo ≤ clamp lo hi x ∧ clamp lo hi x ≤ hi := by
  unfold clamp
  omega

/-- Codes of 12 bits stay codes of 12 bits: a terminal difference sampled under LISTEN is cut to them (R26, R29). -/
theorem State.upCodes_range (s : State) (listen : List (Ch × Int × Int)) (c : Ch)
    (h : -2048 ≤ (s.pdChan c).code1 ∧ (s.pdChan c).code1 ≤ 2047 ∧ -2048 ≤ (s.pdChan c).code2 ∧ (s.pdChan c).code2 ≤ 2047) :
    -2048 ≤ (s.upCodes listen c).1 ∧ (s.upCodes listen c).1 ≤ 2047 ∧
      -2048 ≤ (s.upCodes listen c).2 ∧ (s.upCodes listen c).2 ≤ 2047 := by
  have hr : (-2048 : Int) ≤ 2047 := by decide
  unfold State.upCodes
  dsimp only
  split
  · split
    · rename_i x _
      exact ⟨(clamp_bounds hr x.2.1).1, (clamp_bounds hr x.2.1).2, clamp_bounds hr x.2.2⟩
    · exact h
  · exact h

/-- Settles O6: reads of what the stores, the lanes and the superframes were given. -/
theorem storedDataReadsBack : Obligations.StoredDataReadsBack := by
  unfold Obligations.StoredDataReadsBack
  refine ⟨fun s id inst v hs hi => ?_, fun m a bs hm => ?_, fun w bs noise hw hn => ?_, fun s => ?_,
    fun s vmA vmB temp listen hack hcodes => ?_⟩
  case refine_1 =>
    exact ⟨s.par_setPar_same id inst v hs, s.setPar_canonical id inst v hs,
      fun id' inst' hi' h => s.par_setPar_other v hi hi' h⟩
  case refine_2 =>
    exact ⟨stagingWrite_wf m a bs hm, fun i hi => stagingByte_write_same m a bs hm hi, fun x hx =>
      hx.elim (stagingByte_write_below m a bs) (stagingByte_write_above m a bs)⟩
  case refine_3 =>
    exact ⟨lanesFor_length w bs, bytesFrom_lanesFor hw bs noise hn, fun b i hi => statusLanes_getD w b hi⟩
  case refine_4 =>
    have hbody := s.downFrame.body_length s.downFrame_entries_length
    refine ⟨?_, ?_, ?_, s.downBytes_banks, s.downBytes_entry, fun i hi hfree => ?_, fun i w hi hw => ?_⟩
    · rw [State.downBytes_nil, sealOk_sealed _ hbody]
    · simp [State.downBytes_nil, sealed, hbody]
    · rw [State.downBytes_nil, DownFrame.byteAt_header _ (by omega)]
      rfl
    · rw [s.downBytes_slot hi, List.getElem?_eq_none hfree]
      rfl
    · have hslot : slotAt (s.downBytes []) i = w.bytes := by rw [s.downBytes_slot hi, hw]; rfl
      exact ⟨hslot, by rw [hslot, slotTag_bytes]⟩
  case refine_5 =>
    have hcur : (s.upFrame vmA vmB temp listen).current.length = 24 := by simp [State.upFrame, allCh]
    have hflags : (s.upFrame vmA vmB temp listen).flags.length = 24 := by simp [State.upFrame, allCh]
    rw [State.upBytes_nil]
    refine ⟨sealOk_sealed _ (UpFrame.body_length _ hcur hflags hack), UpFrame.ofBytes_sealed _ hcur hflags hack fun p hp => ?_⟩
    obtain ⟨c, -, rfl⟩ := List.mem_map.1 hp
    exact s.upCodes_range listen c (hcodes c)

end Sys2Proof.Machine
end

section
/-! A write that is a command of its own, to a unit that has not been written in the fabric cycle: the checks pass, and the
state is what the effect of the parameter leaves, with the result and the unit noted (R363, R367). -/

namespace Sys2Proof.Machine

variable {s : State}

/-- No fabric cycle passes before a write to a unit that has not been written in this one. -/
theorem State.apart_free {unit : Nat × Nat} (h : s.mbx.written.contains unit = false) : s.apart unit = s := by
  simp only [State.apart, State.apartGo, h, Bool.false_eq_true, if_false]

/-- The result of a write on its own in terms of its effect. -/
def State.settled (p : State × Result) (id inst : Nat) : State :=
  if p.2 = .ok then p.1.wrote id inst else p.1.noted p.2

/-- An item whose checks pass has the effect of its parameter. -/
theorem State.writeItem_ok {src : Source} {item id inst : Nat} {value : BitVec 64} {row : PRow} {v : Int}
    (hrow : paramRow id = some row) (hjudge : s.judgeItem src row id inst value = .ok)
    (hvalue : s.itemValue row id inst value = (.ok, v)) (hpair : pairIds.contains id = false) :
    s.writeItem src item id inst value = s.applyWrite item id inst v := by
  simp only [State.writeItem, hrow, hjudge, hvalue, State.applyItem, hpair, Bool.and_false, Bool.false_eq_true, if_false]

/-- The host's write on its own of a parameter whose effect is `p` (R363, R367). -/
theorem State.writeAlone_free {src : Source} {id inst : Nat} {value : BitVec 64} {row : PRow} {v : Int} {p : State × Result}
    (hfw : s.fwOn = true) (hfree : s.freeUnit id inst) (hrow : paramRow id = some row)
    (hjudge : s.disarm.judgeItem src row id inst value = .ok) (hvalue : s.disarm.itemValue row id inst value = (.ok, v))
    (happly : s.disarm.applyWrite 0 id inst v = .of p)
    (hid : (pairIds.contains id || id == Pid.DEV_ECLIPSE_TEST || id == Pid.DEV_STANDBY) = false) :
    s.writeAlone src id inst value = State.settled p id inst := by
  simp only [Bool.or_eq_false_iff] at hid
  obtain ⟨⟨hpair, htest⟩, hstandby⟩ := hid
  have hitem := State.writeItem_ok (item := 0) hrow hjudge hvalue hpair
  have hapart : s.disarm.apart (unitOf id inst) = s.disarm := State.apart_free hfree
  unfold State.writeAlone State.writeApart State.settled
  rw [hapart, hitem, happly]
  by_cases hok : p.2 = .ok <;> simp [hfw, Wrote.of, hok, htest, hstandby, State.wrote, State.noted]

/-- A parameter whose write has a check of its own beside those of its unit, owner and value, or an effect beside that of
`State.applyWrite`. -/
def PRow.guarded (row : PRow) (id : Nat) : Bool :=
  row.stop || id / 4096 == 2 || id / 4096 == 3 || (0x7020 ≤ id && id < 0x7200) || pairIds.contains id ||
    id == Pid.DEV_ECLIPSE_TEST || id == Pid.DEV_STANDBY

/-- The checks of R363 on the host's item, where the parameter has none of its own. -/
theorem State.judgeItem_ok {id inst : Nat} {value : BitVec 64} {row : PRow} (hrow : row.guarded id = false)
    (hinst : inst < instCount id) (hunit : s.hasUnit id inst = true) : s.judgeItem .host row id inst value = .ok := by
  simp only [PRow.guarded, Bool.or_eq_false_iff] at hrow
  obtain ⟨⟨⟨⟨⟨⟨hstop, h2⟩, h3⟩, hflt⟩, -⟩, -⟩, -⟩ := hrow
  have hi : ¬instCount id ≤ inst := by omega
  simp [State.judgeItem, hi, hunit, State.itemOwner, h2, h3, hstop, State.ruleCode, hflt]

/-- An unsigned parameter takes the number that VALUE carries, if it fits. -/
theorem PRow.decode_unsigned {row : PRow} {n : Nat} (hsigned : row.signed = false) (hn : n < 2 ^ row.width) (h64 : n < 2 ^ 64) :
    row.decode (BitVec.ofNat 64 n) = some (n : Int) := by
  have hv : ((BitVec.ofNat 64 n).toNat : Int) = n := by rw [BitVec.toNat_ofNat, Nat.mod_eq_of_lt h64]
  have hlt : (n : Int) < 2 ^ row.width := by exact_mod_cast hn
  simp only [PRow.decode, hsigned, Bool.false_eq_true, if_false, hv, if_pos hlt]

theorem State.itemValue_ok {id inst : Nat} {value : BitVec 64} {row : PRow} {v : Int} (hdecode : row.decode value = some v)
    (hspec : row.spec.ok v = true) (hcode : s.valueCode id inst v = .ok) : s.itemValue row id inst value = (.ok, v) := by
  simp [State.itemValue, hdecode, hspec, hcode]

/-- The host's write of the number `n` to a parameter whose effect is `p`. -/
theorem State.writeAlone_plain {id inst n : Nat} {row : PRow} {p : State × Result} (hfw : s.fwOn = true)
    (hfree : s.freeUnit id inst) (hrow : paramRow id = some row) (hplain : row.guarded id = false) (hinst : inst < instCount id)
    (hunit : s.disarm.hasUnit id inst = true) (hsigned : row.signed = false) (hn : n < 2 ^ row.width) (h64 : n < 2 ^ 64)
    (hspec : row.spec.ok n = true) (hcode : s.disarm.valueCode id inst n = .ok) (happly : s.disarm.applyWrite 0 id inst n = .of p) :
    s.writeAlone .host id inst (BitVec.ofNat 64 n) = State.settled p id inst := by
  have heffects : (pairIds.contains id || id == Pid.DEV_ECLIPSE_TEST || id == Pid.DEV_STANDBY) = false := by
    simp only [PRow.guarded, Bool.or_eq_false_iff] at hplain ⊢
    obtain ⟨⟨⟨-, hpair⟩, htest⟩, hstandby⟩ := hplain
    exact ⟨⟨hpair, htest⟩, hstandby⟩
  exact State.writeAlone_free hfw hfree hrow (State.judgeItem_ok hplain hinst hunit)
    (State.itemValue_ok (PRow.decode_unsigned hsigned hn h64) hspec hcode) happly heffects

/-- Both values of a switch fit a byte and lie in its range. -/
theorem switch_ok (on : Bool) : b2n on < 2 ^ 8 ∧ b2n on < 2 ^ 64 ∧ (PSpec.range 0 1 1).ok (b2n on : Nat) = true := by
  cases on <;> decide

end Sys2Proof.Machine
end

section
/-! The reflex rules in a fabric cycle: the matrix settles every rule, and behind it only the report window of one that fires
changes. -/

namespace Sys2Proof.Machine

variable {s : State}

/-- An update of many units keeps what each of its steps keeps. -/
theorem State.forAll_keeps {α β : Type} (g : State → β) {xs : List α} {f : α → State → State}
    (hf : ∀ x (t : State), g (f x t) = g t) (s : State) : g (s.forAll xs f) = g s := by
  unfold State.forAll
  induction xs generalizing s with
  | nil => rfl
  | cons x xs ih => exact (ih _).trans (hf x s)

/-! ### What leaves the rules as they are -/

@[simp] theorem State.holdEvents_rules (b : Bool) : (s.holdEvents b).rules = s.rules := rfl

@[simp] theorem State.logReflex_rules (c : Ch) (r : RuleIx) : (s.logReflex c r).rules = s.rules := by
  unfold State.logReflex
  split <;> rfl

@[simp] theorem State.actionBegins_rules (r : RuleIx) (w : RuleWord) (t : BitVec 24) : (s.actionBegins r w t).rules = s.rules := by
  have hlog : (if w.action == 0 || w.action == 7 then s else s.forAll (pairsOf t) fun c s => s.logReflex c r).rules =
      s.rules := by
    split
    · rfl
    · exact State.forAll_keeps State.rules (fun _ _ => by exact State.logReflex_rules ..) s
  have hask : ∀ (u : State) (f : Motion → Motion), (u.forAll (maskChs t) fun c s => s.onMotion c f).rules = u.rules := fun u f =>
    State.forAll_keeps State.rules (fun _ _ => by rfl) u
  unfold State.actionBegins
  dsimp only
  split
  · rw [hask, hlog]
  · rw [State.orderHold_rules, hask, hlog]
  · exact hlog

@[simp] theorem State.rfxSoftOff_rules (r : RuleIx) (c : Ch) : (s.rfxSoftOff r c).rules = s.rules := by
  unfold State.rfxSoftOff
  split
  · rfl
  · rw [State.raise_rules, State.faultOff_rules]

@[simp] theorem State.rfxAct_rules (r : RuleIx) (t lost : BitVec 24) : (s.rfxAct r t lost).rules = s.rules := by
  unfold State.rfxAct
  dsimp only
  split
  · rw [State.orderSoftOff_rules, State.forAll_keeps State.rules (fun _ _ => State.rfxSoftOff_rules ..), State.actionBegins_rules]
  · rw [State.orderPark_rules, State.forAll_keeps State.rules (fun _ _ => State.parkCh_rules ..), State.actionBegins_rules]
  · exact State.actionBegins_rules ..

@[simp] theorem State.passTime_rules : s.passTime.rules = s.rules := by
  unfold State.passTime
  dsimp only
  split <;> rfl

@[simp] theorem State.applyLater_rules : s.applyLater.rules = s.rules := by
  unfold State.applyLater
  repeat' split
  all_goals rfl

@[simp] theorem State.syncTrip_rules (t : TripIx) : (s.syncTrip t).rules = s.rules := by
  unfold State.syncTrip State.reportTrip
  dsimp only
  split
  · rw [State.holdEvents_rules, State.raise_rules]
    rfl
  · rfl

@[simp] theorem State.latchTrip_rules (t : TripIx) : (s.latchTrip t).rules = s.rules := by
  unfold State.latchTrip
  split <;> rfl

@[simp] theorem State.settleTrip_rules (t : TripIx) : (s.settleTrip t).rules = s.rules := by
  unfold State.settleTrip
  dsimp only
  split
  · rw [State.latchTrip_rules, State.onTrip_rules]
    split <;> rfl
  · rw [State.onTrip_rules]
    split <;> rfl

@[simp] theorem State.settleAux_rules : s.settleAux.rules = s.rules := by
  have hdomain : ∀ t : State, t.settleDomain.rules = t.rules := fun t => by
    unfold State.settleDomain
    split <;> rfl
  exact (hdomain _).trans (State.forAll_keeps State.rules (fun _ _ => by exact State.settleTrip_rules _) _)

@[simp] theorem State.settleFbs_rules : s.settleFbs.rules = s.rules := by
  unfold State.settleFbs
  rfl

@[simp] theorem State.passUnits_rules : s.passUnits.rules = s.rules := by
  unfold State.passUnits
  split
  · have hsync : s.applyLater.syncTrips.rules = s.applyLater.rules :=
      State.forAll_keeps State.rules (fun _ _ => by exact State.syncTrip_rules _) _
    dsimp only
    rw [State.settleAux_rules, State.settleFbs_rules, hsync, State.applyLater_rules]
  · rfl

@[simp] theorem State.settleCmp_rules (i : Fin 128) : (s.settleCmp i).rules = s.rules := by
  unfold State.settleCmp
  split
  · rfl
  · dsimp only
    split
    · exact State.raise_rules ..
    · rfl

@[simp] theorem State.stopMod_rules (m : ModIx) : (s.stopMod m).rules = s.rules := by
  unfold State.stopMod
  dsimp only
  exact State.forAll_keeps State.rules (fun _ _ => by rfl) _

@[simp] theorem State.endStopping_rules (m : ModIx) : (s.endStopping m).rules = s.rules := by
  simp [State.endStopping, apply_ite State.rules]

@[simp] theorem State.nextFc_rules : s.nextFc.rules = s.rules := by
  have hcmps : ∀ t : State, t.settleCmps.rules = t.rules := fun t =>
    State.forAll_keeps State.rules (fun _ _ => by exact State.settleCmp_rules _) t
  have hedge : ∀ t : State, t.modEdge.stopMods.rules = t.rules := fun t => by
    refine (State.forAll_keeps State.rules (fun _ _ => by exact State.endStopping_rules _) _).trans ?_
    unfold State.modEdge
    split <;> rfl
  unfold State.nextFc
  dsimp only
  simp only [apply_ite State.rules, hedge, hcmps, ite_self]

/-! ### The matrix -/

/-- A rule without its report window (R230). -/
def Rule.unreported (k : Rule) : Rule := { k with window := false, gathered := 0, gatherTime := 0, gatherCap := 0 }

theorem State.onRule_unreported {f : Rule → Rule} (hf : ∀ k, (f k).unreported = k.unreported) (q r : RuleIx) :
    ((s.onRule q f).rule r).unreported = (s.rule r).unreported := by
  rw [State.onRule_rule]
  split
  · exact hf _
  · rfl

theorem State.rule_of_rules {t : State} (h : t.rules = s.rules) (r : RuleIx) : t.rule r = s.rule r := by
  rw [State.rule, h, State.rule]

theorem State.reportFiring_unreported (q r : RuleIx) : ((s.reportFiring q).rule r).unreported = (s.rule r).unreported := by
  unfold State.reportFiring
  dsimp only
  repeat' split
  · rfl
  · exact State.onRule_unreported (fun _ => by rfl) q r
  · rw [State.raise_rule]
    exact State.onRule_unreported (fun _ => by rfl) q r

/-- The pulses of a firing change a rule at most in its report window. -/
theorem State.actFiring_unreported (fs : List Firing) (x : Firing) (r : RuleIx) :
    ((s.actFiring fs x).rule r).unreported = (s.rule r).unreported := by
  have hact : ((s.holdEvents (s.mbx.holding || x.caused)).rfxAct x.rule x.channels (s.lostOf fs x)).rules = s.rules :=
    State.rfxAct_rules ..
  exact (State.reportFiring_unreported x.rule r).trans (congrArg _ (State.rule_of_rules hact r))

/-- The firings of the fabric cycle entered into their rules. -/
def State.recorded (s : State) : State := s.forAll s.firings fun x t => t.recordFiring s.firings x

/-- A rule behind the matrix. -/
theorem State.matrix_rule (h : s.hwOn = true) (r : RuleIx) :
    (s.matrix.rule r).unreported = (s.recorded.rememberRule r).unreported := by
  have hremember : s.recorded.rememberRules.rule r = s.recorded.rememberRule r := by
    simp [State.rememberRules, State.rule]
  unfold State.matrix
  rw [if_pos h, ← hremember]
  exact State.forAll_keeps (fun t => (t.rule r).unreported) (fun x t => by exact State.actFiring_unreported _ x r) _

/-- A rule behind the fabric cycle. -/
theorem State.cycle_rule (h : s.hwOn = true) (r : RuleIx) :
    (s.cycle.rule r).unreported = (s.latchView.recorded.rememberRule r).unreported := by
  have hfab : s.fabOn = true := by
    simp only [State.hwOn, Bool.and_eq_true] at h
    simp [State.fabOn, h.1, h.2]
  have hrules : s.cycle.rules = s.latchView.matrix.rules := by
    rw [State.cycle, if_pos hfab, State.nextFc_rules, State.passUnits_rules, State.passTime_rules]
  rw [← State.matrix_rule (s := s.latchView) h r, State.rule, hrules, State.rule]

/-- A rule that none of the fabric cycle's firings is of. -/
theorem State.recorded_rule_other {r : RuleIx} (h : ∀ x ∈ s.firings, x.rule ≠ r) : s.recorded.rule r = s.rule r := by
  have record : ∀ (fs xs : List Firing) (t : State), (∀ x ∈ xs, x.rule ≠ r) →
      (t.forAll xs fun x u => u.recordFiring fs x).rule r = t.rule r := fun fs xs => by
    induction xs with
    | nil => exact fun _ _ => rfl
    | cons x xs ih =>
      intro t hx
      refine (ih _ fun y hy => hx y (List.mem_cons_of_mem _ hy)).trans ?_
      exact State.onRule_rule_other _ _ _ _ (hx x List.mem_cons_self).symm
  exact record _ _ s h

/-- A firing leaves what is pending on its rule, and what the rule asserts. -/
theorem State.recorded_rule_pending (r : RuleIx) :
    (s.recorded.rule r).enabled = (s.rule r).enabled ∧ (s.recorded.rule r).enableNext = (s.rule r).enableNext ∧
      (s.recorded.rule r).releaseNext = (s.rule r).releaseNext := by
  have keep : ∀ {β : Type} (g : Rule → β), (∀ k m t l o, g (Rule.fire k m t l o) = g k) → g (s.recorded.rule r) = g (s.rule r) :=
    fun g hg => State.forAll_keeps (fun t => g (t.rule r)) (fun x t => by
      simp only [State.recordFiring, State.onRule_rule]
      split
      · exact hg ..
      · rfl) s
  exact ⟨keep Rule.enabled fun _ _ _ _ _ => rfl, keep Rule.enableNext fun _ _ _ _ _ => rfl,
    keep Rule.releaseNext fun _ _ _ _ _ => rfl⟩

/-- A disable governs the firings of its rule (R221). -/
theorem State.firings_of_disable {r : RuleIx} (h : (s.rule r).enableNext = some false) : ∀ x ∈ s.firings, x.rule ≠ r := by
  intro x hx e
  simp only [State.firings, List.mem_map, List.mem_filter, Bool.and_eq_true] at hx
  obtain ⟨q, ⟨-, ⟨-, hmay⟩, -⟩, rfl⟩ := hx
  rw [show q = r from e] at hmay
  simp [State.mayFire, h] at hmay

theorem State.firings_nil (h : ∀ q, (s.rule q).due = false) : s.firings = [] := by
  simp [State.firings, h]

/-! ### A rule at the end of the fabric cycle -/

/-- Whatever a rule remembers, what is pending on it is settled last. -/
theorem State.rememberRule_settle (s : State) (r : RuleIx) :
    ∃ k : Rule, s.rememberRule r = k.settle (s.srcNow (s.ruleWord r)) ∧ k.enabled = (s.rule r).enabled ∧
      k.enableNext = (s.rule r).enableNext ∧ k.releaseNext = (s.rule r).releaseNext ∧ k.overridden = (s.rule r).overridden := by
  refine ⟨_, rfl, ?_⟩
  dsimp only
  unfold State.growLatched
  dsimp only
  repeat' split
  all_goals exact ⟨rfl, rfl, rfl, rfl⟩

/-- A pending enable or disable takes effect (R10, R223). -/
theorem Rule.settle_of_enable {k : Rule} {on : Bool} (h : k.enableNext = some on) (srcNow : BitVec 24) :
    k.settle srcNow = { k with enabled := on, enableNext := none, releaseNext := false, armed := false, asserted := 0,
                               auxAsserted := false, assertedPrev := 0, memPrev := 0, srcPrev := if on then srcNow else 0 } := by
  unfold Rule.settle
  cases hr : k.releaseNext <;> simp [h, hr]

/-- A pending release ends what the rule asserts (R224). -/
theorem Rule.settle_of_release {k : Rule} (h : k.enableNext = none) (hr : k.releaseNext = true) (srcNow : BitVec 24) :
    k.settle srcNow = { k with armed := false, asserted := 0, auxAsserted := false, releaseNext := false } := by
  unfold Rule.settle
  simp [h, hr]

/-! ### Sources -/

/-- No source reads the host port's view or the arm of an OTP operation. -/
theorem State.latchView_level (n : Nat) : s.latchView.level n = s.disarm.level n := by
  have hch : s.latchView.chSource = s.disarm.chSource := rfl
  have hbank : s.latchView.bankSource = s.disarm.bankSource := rfl
  have hcan : s.latchView.canSource = s.disarm.canSource := rfl
  have hcmp : s.latchView.cmpSource = s.disarm.cmpSource := rfl
  have htrip : s.latchView.tripSource = s.disarm.tripSource := rfl
  have hunit : s.latchView.hasCh = s.disarm.hasCh ∧ s.latchView.hasFlt = s.disarm.hasFlt ∧
      s.latchView.hasCan = s.disarm.hasCan ∧ s.latchView.hasTrip = s.disarm.hasTrip := ⟨rfl, rfl, rfl, rfl⟩
  simp only [State.level, hch, hbank, hcan, hcmp, htrip, hunit]

theorem State.latchView_srcNow (r : RuleIx) :
    s.latchView.srcNow (s.latchView.ruleWord r) = s.disarm.srcNow (s.disarm.ruleWord r) := by
  have hsource : s.latchView.source = s.disarm.source := funext fun n => congrArg (s.pulses.contains n || ·) (State.latchView_level n)
  have hword : s.latchView.ruleWord r = s.disarm.ruleWord r := rfl
  rw [State.srcNow, hsource, hword, State.srcNow]

/-! ### RFX.ENABLE and RFX.RELEASE in the fabric cycle after their write -/

/-- A pending disable ends every assertion of the rule (R223). -/
theorem State.cycle_rule_of_disable {r : RuleIx} (h : s.hwOn = true) (hnext : (s.rule r).enableNext = some false) :
    (s.cycle.rule r).enabled = false ∧ (s.cycle.rule r).armed = false ∧ (s.cycle.rule r).asserted = 0 ∧
      (s.cycle.rule r).auxAsserted = false ∧ (s.cycle.rule r).overridden = (s.rule r).overridden ∧
      (s.cycle.rule r).enableNext = none := by
  have hrec : s.latchView.recorded.rule r = s.rule r :=
    State.recorded_rule_other (s := s.latchView) (State.firings_of_disable (s := s.latchView) hnext)
  obtain ⟨k, hk, -, hkn, -, hko⟩ := s.latchView.recorded.rememberRule_settle r
  rw [hrec] at hkn hko
  have hg := State.cycle_rule h r
  rw [hk, Rule.settle_of_enable (hkn.trans hnext)] at hg
  exact ⟨congrArg Rule.enabled hg, congrArg Rule.armed hg, congrArg Rule.asserted hg, congrArg Rule.auxAsserted hg,
    (congrArg Rule.overridden hg).trans hko, congrArg Rule.enableNext hg⟩

/-- A pending enable takes the present sources as the members' past (R223). -/
theorem State.cycle_rule_of_enable {r : RuleIx} (h : s.hwOn = true) (hnext : (s.rule r).enableNext = some true)
    (hdue : ∀ q, (s.rule q).due = false) :
    (s.cycle.rule r).enabled = true ∧ (s.cycle.rule r).armed = false ∧ (s.cycle.rule r).asserted = 0 ∧
      (s.cycle.rule r).auxAsserted = false ∧ (s.cycle.rule r).memPrev = 0 ∧
      (s.cycle.rule r).srcPrev = s.latchView.srcNow (s.latchView.ruleWord r) ∧ (s.cycle.rule r).enableNext = none := by
  have hrec : s.latchView.recorded = s.latchView := by
    rw [State.recorded, State.firings_nil (s := s.latchView) hdue]
    rfl
  obtain ⟨k, hk, -, hkn, -, -⟩ := s.latchView.recorded.rememberRule_settle r
  rw [hrec] at hk hkn
  have hg := State.cycle_rule h r
  rw [hrec, hk, Rule.settle_of_enable (hkn.trans hnext)] at hg
  exact ⟨congrArg Rule.enabled hg, congrArg Rule.armed hg, congrArg Rule.asserted hg, congrArg Rule.auxAsserted hg,
    congrArg Rule.memPrev hg, congrArg Rule.srcPrev hg, congrArg Rule.enableNext hg⟩

/-- A pending release ends what the rule asserts (R224). -/
theorem State.cycle_rule_of_release {r : RuleIx} (h : s.hwOn = true) (hnext : (s.rule r).enableNext = none)
    (hrelease : (s.rule r).releaseNext = true) :
    (s.cycle.rule r).enabled = (s.rule r).enabled ∧ (s.cycle.rule r).armed = false ∧ (s.cycle.rule r).asserted = 0 ∧
      (s.cycle.rule r).auxAsserted = false ∧ (s.cycle.rule r).releaseNext = false := by
  obtain ⟨hre, hrn, hrr⟩ := State.recorded_rule_pending (s := s.latchView) r
  obtain ⟨k, hk, hke, hkn, hkr, -⟩ := s.latchView.recorded.rememberRule_settle r
  have hg := State.cycle_rule h r
  rw [hk, Rule.settle_of_release ((hkn.trans hrn).trans hnext) ((hkr.trans hrr).trans hrelease)] at hg
  exact ⟨(congrArg Rule.enabled hg).trans (hke.trans hre), congrArg Rule.armed hg, congrArg Rule.asserted hg,
    congrArg Rule.auxAsserted hg, congrArg Rule.releaseNext hg⟩

/-! ### The writes -/

theorem entIx_val (r : RuleIx) : entIx r.val = r := Fin.ext (Nat.mod_eq_of_lt r.isLt)

theorem State.writeAlone_rfxEnable (hfw : s.fwOn = true) (r : RuleIx) (hfree : s.freeUnit 0xA002 r.val) (on : Bool) :
    s.writeAlone .host Pid.RFX_ENABLE r.val (BitVec.ofNat 64 (b2n on)) =
      State.settled (s.disarm.writeRfxEnable r (b2n on : Nat)) 0xA002 r.val := by
  obtain ⟨h8, h64, hrange⟩ := switch_ok on
  exact State.writeAlone_plain (row := ⟨0xA002, 0xA002, false, 8, false, .range 0 1 1, 0⟩) hfw hfree rfl rfl r.isLt rfl rfl h8 h64
    hrange rfl (congrArg (fun q => Wrote.of (s.disarm.writeRfxEnable q _)) (entIx_val r))

theorem State.writeAlone_rfxRelease (hfw : s.fwOn = true) (r : RuleIx) (hfree : s.freeUnit 0xA002 r.val) :
    s.writeAlone .host Pid.RFX_RELEASE r.val 1 = State.settled (s.disarm.writeRfxRelease r) 0xA007 r.val :=
  State.writeAlone_plain (n := 1) (row := ⟨0xA007, 0xA007, false, 8, false, .among [1], 0⟩) hfw hfree rfl rfl r.isLt rfl rfl
    (by decide) (by decide) rfl rfl (congrArg (fun q => Wrote.of (s.disarm.writeRfxRelease q)) (entIx_val r))

/-- Settles O26: the writes by their checks, the clauses about the fabric cycle by what the matrix settles. -/
theorem ruleIsEnabledDisabledAndReleased : Obligations.RuleIsEnabledDisabledAndReleased := by
  unfold Obligations.RuleIsEnabledDisabledAndReleased
  intro s r hfw hfree
  have hhw : s.hwOn = true := by
    simp only [State.fwOn, Bool.and_eq_true] at hfw
    exact hfw.1.1
  dsimp only
  refine ⟨?_, fun hok => ?_, fun hbad => ?_, fun hdur hidle => ?_, fun hno => ?_, fun hoff => ?_, fun hon hquiet => ?_,
    fun hnone hrel => ?_⟩
  · exact congrArg Host.Outcome.next (State.writeAlone_rfxEnable hfw r hfree false)
  · refine congrArg Host.Outcome.next ((State.writeAlone_rfxEnable hfw r hfree true).trans ?_)
    simp [State.settled, State.writeRfxEnable, b2n, hok]
  · refine congrArg Host.Outcome.next ((State.writeAlone_rfxEnable hfw r hfree true).trans ?_)
    simp only [State.settled, State.writeRfxEnable, b2n]
    split <;> simp_all
  · refine congrArg Host.Outcome.next ((State.writeAlone_rfxRelease hfw r hfree).trans ?_)
    simp [State.settled, State.writeRfxRelease, hdur, hidle]
  · refine congrArg Host.Outcome.next ((State.writeAlone_rfxRelease hfw r hfree).trans ?_)
    have hrefused : ((s.disarm.ruleWord r).dur != 2 || ((s.disarm.rule r).enabled && s.disarm.condition r)) = true := by
      rwa [Bool.or_eq_true, bne_iff_ne]
    rw [State.writeRfxRelease, if_pos hrefused]
    rfl
  · exact State.cycle_rule_of_disable hhw hoff
  · obtain ⟨henabled, harmed, hasserted, haux, hmem, hsrc, hnext⟩ := State.cycle_rule_of_enable hhw hon fun q => (hquiet q).1
    exact ⟨henabled, harmed, hasserted, haux, hmem, hsrc.trans (State.latchView_srcNow r), hnext⟩
  · exact State.cycle_rule_of_release hhw hnone hrel

end Sys2Proof.Machine
end

section
/-! The writes that run a CAN controller, change its mode, recover it and pop its ring (R374 to R389). -/

namespace Sys2Proof.Machine

variable {s : State} {c : CanIx}

theorem canIx_val (c : CanIx) : canIx c.val = c := Fin.ext (Nat.mod_eq_of_lt c.isLt)

/-! ### The writes -/

theorem State.hasUnit_can (hcan : s.hasCan c = true) : s.disarm.hasCan (canIx c.val) = true := by
  rw [canIx_val]
  exact hcan

theorem State.writeAlone_canRun (hfw : s.fwOn = true) (hfree : s.freeUnit 0x8000 c.val) (hcan : s.hasCan c = true) (on : Bool) :
    s.writeAlone .host Pid.CAN_RUN c.val (BitVec.ofNat 64 (b2n on)) =
      State.settled (s.disarm.writeCanRun c (b2n on : Nat)) 0x8000 c.val := by
  obtain ⟨h8, h64, hrange⟩ := switch_ok on
  exact State.writeAlone_plain (row := ⟨0x8000, 0x8000, false, 8, false, .range 0 1 1, 0⟩) hfw hfree rfl rfl c.isLt
    (State.hasUnit_can hcan) rfl h8 h64 hrange rfl (congrArg (fun d => Wrote.of (s.disarm.writeCanRun d _)) (canIx_val c))

theorem State.writeAlone_canMode (hfw : s.fwOn = true) (hfree : s.freeUnit 0x8000 c.val) (hcan : s.hasCan c = true) (on : Bool) :
    s.writeAlone .host Pid.CAN_MODE c.val (BitVec.ofNat 64 (b2n on)) =
      State.settled (s.disarm.writeCanMode c (b2n on : Nat)) 0x8001 c.val := by
  obtain ⟨h8, h64, hrange⟩ := switch_ok on
  exact State.writeAlone_plain (row := ⟨0x8001, 0x8001, false, 8, false, .range 0 1 1, 1⟩) hfw hfree rfl rfl c.isLt
    (State.hasUnit_can hcan) rfl h8 h64 hrange rfl (congrArg (fun d => Wrote.of (s.disarm.writeCanMode d _)) (canIx_val c))

theorem State.writeAlone_canRecover (hfw : s.fwOn = true) (hfree : s.freeUnit 0x8000 c.val) (hcan : s.hasCan c = true) :
    s.writeAlone .host Pid.CAN_RECOVER c.val 1 = State.settled (s.disarm.writeCanRecover c) 0x800B c.val :=
  State.writeAlone_plain (n := 1) (row := ⟨0x800B, 0x800B, false, 8, false, .among [1], 0⟩) hfw hfree rfl rfl c.isLt
    (State.hasUnit_can hcan) rfl (by decide) (by decide) rfl rfl
    (congrArg (fun d => Wrote.of (s.disarm.writeCanRecover d)) (canIx_val c))

theorem State.writeAlone_canRxPop (hfw : s.fwOn = true) (hfree : s.freeUnit 0x8000 c.val) (hcan : s.hasCan c = true) {n : Nat}
    (h1 : 1 ≤ n) (hn : n ≤ 65535) :
    s.writeAlone .host Pid.CAN_RX_POP c.val (BitVec.ofNat 64 n) = State.settled (s.disarm.writeRxPop c n) 0x803B c.val := by
  have hspec : (PSpec.range 1 65535 1).ok n = true := by
    simp only [PSpec.ok, Bool.and_eq_true, decide_eq_true_eq, beq_iff_eq]
    omega
  exact State.writeAlone_plain (row := ⟨0x803B, 0x803B, false, 16, false, .range 1 65535 1, 0⟩) hfw hfree rfl rfl c.isLt
    (State.hasUnit_can hcan) rfl (show n < 65536 by omega) (by omega) hspec rfl
    (congrArg (fun d => Wrote.of (s.disarm.writeRxPop d _)) (canIx_val c))

/-! ### Their effects -/

theorem Can.runAgain_eq :
    Can.runAgain = fun k => { k with tec := 0, recv := 0, phase := if k.phase = .leaving then .onBus else k.phase } := by
  funext k
  simp [Can.runAgain]

/-- A stop changes the controller and CAN.RUN alone (R376). -/
theorem State.leaveBus_eq (s : State) (c : CanIx) :
    s.leaveBus c = { s.setPar Pid.CAN_RUN c.val 0 with cans := (s.leaveBus c).cans } := rfl

theorem State.leaveBus_can_other {c d : CanIx} (h : d ≠ c) : (s.leaveBus c).can d = s.can d := by
  simp [State.leaveBus, State.onCan_can_other, h]

/-- A controller that is off the bus or leaves it already stays as it is (R376). -/
theorem State.leaveBus_can_resting (h : (s.can c).phase = .stopped ∨ (s.can c).phase = .leaving) :
    (s.leaveBus c).can c = s.can c := by
  rcases h with h | h <;> simp [State.leaveBus, h]

/-- Behind a frame in progress the controller leaves at its end, else at once (R376). -/
theorem State.leaveBus_can_running (hstopped : (s.can c).phase ≠ .stopped) (hleaving : (s.can c).phase ≠ .leaving) :
    (s.leaveBus c).can c = if (s.can c).inFrame c.val s.fc = true then { s.can c with phase := .leaving } else (s.can c).stop := by
  simp only [State.leaveBus, State.onCan_can_same, State.setPar_can, beq_iff_eq, hstopped, hleaving, Bool.or_eq_true, or_self, if_false]
  rfl

theorem Can.inFrame_iff {k : Can} {c fc : Nat} :
    k.inFrame c fc = true ↔ k.sending ≠ none ∨ (k.active = true ∧ Config.busBusy c fc = true) := by
  simp [Can.inFrame, Option.isSome_iff_ne_none]

/-- What CAN_MODE_CHANGE_AT_IDLE does on a controller that has left its last frame behind (R376). -/
theorem exec_canModeChangeAtIdle_leaving (hhw : s.hwOn = true) (hphase : (s.can c).phase = .leaving)
    (hsending : (s.can c).sending = none) : exec (.canModeChangeAtIdle c) s = .next (s.onCan c Can.stop) := by
  have hend : s.onCan c Can.frameEnd = s.onCan c Can.stop := by
    have h : (s.can c).frameEnd = (s.can c).stop := by simp [Can.frameEnd, hphase]
    exact congrArg (fun k => { s with cans := s.cans.set c k }) h
  simp [exec, execCanModeChangeAtIdle, hhw, hphase, hsending, hend]

/-- Settles O30: each write by its checks and its effect. -/
theorem canRunsChangesModeRecoversAndPops : Obligations.CanRunsChangesModeRecoversAndPops := by
  unfold Obligations.CanRunsChangesModeRecoversAndPops
  intro s c hfw hfree hcan
  have hhw : s.hwOn = true := by
    simp only [State.fwOn, Bool.and_eq_true] at hfw
    exact hfw.1.1
  have run := fun on => State.writeAlone_canRun hfw hfree hcan on
  dsimp only
  refine ⟨fun htiming hstopped => ?_, fun htiming hphase => ?_, fun htiming => ?_, ⟨s.disarm.leaveBus c, ?_, ?_, ?_, ?_, ?_, ?_⟩,
    fun on => ?_, fun hpending hphase hleaving => ?_, fun hphase hsending => ?_, fun hoff => ?_, fun hon => ?_,
    fun h rest hring h1 hn => ?_, fun v h1 hn hne => ?_⟩
  · refine congrArg Host.Outcome.next ((run true).trans ?_)
    simp [State.settled, State.writeCanRun, b2n, htiming, hstopped, State.startCan]
  · refine congrArg Host.Outcome.next ((run true).trans ?_)
    simp [State.settled, State.writeCanRun, b2n, htiming, hphase, Can.runAgain_eq]
  · refine congrArg Host.Outcome.next ((run true).trans ?_)
    simp [State.settled, State.writeCanRun, b2n, htiming]
  · exact congrArg Host.Outcome.next (run false)
  · exact State.leaveBus_eq ..
  · exact fun d hd => State.leaveBus_can_other hd
  · intro hrest
    exact State.leaveBus_can_resting hrest
  · intro hphase hbusy
    by_cases hleaving : (s.disarm.can c).phase = .leaving
    · rw [State.leaveBus_can_resting (.inr hleaving), ← hleaving]
    · rw [State.leaveBus_can_running hphase hleaving, if_pos (Can.inFrame_iff.2 hbusy)]
  · intro hphase hleaving hidle
    rw [State.leaveBus_can_running hphase hleaving, if_neg (mt Can.inFrame_iff.1 hidle)]
    exact ⟨rfl, rfl, rfl⟩
  · exact congrArg Host.Outcome.next (State.writeAlone_canMode hfw hfree hcan on)
  · have hstays : ¬(s.hwOn && (s.can c).phase == .leaving && (s.can c).sending.isNone) = true := by
      simp only [Bool.and_eq_true, beq_iff_eq, Option.isNone_iff_eq_none]
      exact fun h => hleaving h.1.2 h.2
    have hgoes : (s.hwOn && (s.can c).changePending && (s.can c).phase != .stopped) = true := by
      simp only [Bool.and_eq_true, bne_iff_ne]
      exact ⟨⟨hhw, hpending⟩, hphase⟩
    simp only [exec, execCanModeChangeAtIdle, if_neg hstays, if_pos hgoes]
    rfl
  · exact exec_canModeChangeAtIdle_leaving hhw hphase hsending
  · refine congrArg Host.Outcome.next ((State.writeAlone_canRecover hfw hfree hcan).trans ?_)
    simp [State.settled, State.writeCanRecover, hoff]
  · refine congrArg Host.Outcome.next ((State.writeAlone_canRecover hfw hfree hcan).trans ?_)
    simp [State.settled, State.writeCanRecover, hon]
  · refine congrArg Host.Outcome.next ((State.writeAlone_canRxPop hfw hfree hcan h1 hn).trans ?_)
    simp [State.settled, State.writeRxPop, hring]
  · refine congrArg Host.Outcome.next ((State.writeAlone_canRxPop hfw hfree hcan h1 hn).trans ?_)
    have hpop : s.disarm.writeRxPop c v = (s.disarm, .wrongState) := by
      unfold State.writeRxPop
      split
      · rfl
      · rename_i h rest hring
        have hseq : (h.seq : Int) ≠ v := by exact_mod_cast hne h (by rw [hring]; rfl)
        simp [hseq]
    rw [hpop]
    rfl

end Sys2Proof.Machine
end

section
/-! O25 and O29 speak of what stands in a state before a fabric cycle, and quantify over every state. In the model the cycle
first applies the write at the head of `mbx.later` (`State.applyLater`) and only then settles the feedback interfaces and the
trip inputs, so a parameter that waits there is already the new one for them. The firmware itself queues only the motor
constants and the calibration entries (`State.ownWrite`); the states below hold another parameter. -/

namespace Sys2Proof.Machine

/-- A runtime in which channel 0 has a feedback start pending with FB.MODE = 0, and a write of FB.MODE = 1 waits. -/
def startWithModeWaiting : State :=
  ({ State.reset with phase := .runtime, mbx := { State.reset.mbx with later := [(Pid.FB_MODE, 0, 1)] } } : State).onFb 0 fun f =>
    { f with startNext := some true }

/-- The pending start is of the mode that the waiting write brings, in which the count is trusted at once. -/
theorem startWithModeWaiting_cycle :
    startWithModeWaiting.fwOn = true ∧ startWithModeWaiting.hasCh 0 = true ∧
      startWithModeWaiting.disarm.parN Pid.FB_MODE (0 : Ch).val = 0 ∧
      (startWithModeWaiting.disarm.fb 0).startNext = some true ∧ (startWithModeWaiting.cycle.fb 0).suspect = false := by
  decide +kernel

/-- Refutes O25: a start with FB.MODE = 0 leaves the count trusted where a write of FB.MODE = 1 is applied in the same cycle. -/
theorem not_feedbackStartsStopsAndIsTrusted : ¬ Obligations.FeedbackStartsStopsAndIsTrusted := by
  unfold Obligations.FeedbackStartsStopsAndIsTrusted
  intro h
  obtain ⟨hfw, hch, hmode, hstart, hsuspect⟩ := startWithModeWaiting_cycle
  obtain ⟨-, -, -, -, -, -, -, hcycle, -, -⟩ := h startWithModeWaiting 0 hfw rfl hch
  obtain ⟨-, -, -, -, -, -, -, -, hdistrust⟩ := hcycle hstart
  rw [hdistrust (.inl hmode)] at hsuspect
  exact absurd hsuspect (by decide)

/-- A runtime in which trip 0 is enabled and its comparator active above the threshold, and a write of AUX.TRIP_POL = 1 waits. -/
def tripWithPolarityWaiting : State :=
  ({ State.reset with phase := .runtime, mbx := { State.reset.mbx with later := [(Pid.AUX_TRIP_POL, 0, 1)] } } : State).onTrip 0
    fun k => { k with enabled := true, level := 0xFFFF }

/-- The synchroniser takes the comparator as the waiting write leaves it: inactive. -/
theorem tripWithPolarityWaiting_cycle :
    tripWithPolarityWaiting.fwOn = true ∧ 0 < tripWithPolarityWaiting.auxCount ∧
      (tripWithPolarityWaiting.disarm.tripRaw 0 && (tripWithPolarityWaiting.disarm.trip 0).enabled) = true ∧
      (tripWithPolarityWaiting.cycle.trip 0).sync1.1 = false := by
  decide +kernel

/-- Refutes O29: an active comparator is not what the first stage takes where a write of AUX.TRIP_POL is applied in the same
cycle. -/
theorem not_auxiliaryAndTripWrites : ¬ Obligations.AuxiliaryAndTripWrites := by
  unfold Obligations.AuxiliaryAndTripWrites
  intro h
  obtain ⟨hfw, haux, hactive, hsync⟩ := tripWithPolarityWaiting_cycle
  obtain ⟨-, -, -, -, -, -, -, ⟨hsync1, -⟩, -⟩ := h.2 tripWithPolarityWaiting 0 hfw rfl haux
  rw [hsync1, hactive] at hsync
  exact absurd hsync (by decide)

end Sys2Proof.Machine
end

section
/-! What an update of many units does to one of them: the units are updated in turn, and each turn changes its own unit, or
its own and the twin's. -/

namespace Sys2Proof.Machine

variable {s : State} {α : Type} {xs : List α} {f : α → State → State}

/-- What every turn keeps holds at the end. -/
theorem State.forAll_invariant {P : State → Prop} (hstep : ∀ x ∈ xs, ∀ t, P t → P (f x t)) (hs : P s) : P (s.forAll xs f) := by
  induction xs generalizing s with
  | nil => exact hs
  | cons x xs ih =>
    exact ih (fun y hy => hstep y (List.mem_cons_of_mem x hy)) (hstep x List.mem_cons_self s hs)

/-- One unit's turn, seen among the turns of the others: they keep what its turn needs before it, and what it leaves after it. -/
theorem State.forAll_turn {before after : State → Prop} {x : α} (hx : x ∈ xs) (hnodup : xs.Nodup)
    (hbefore : ∀ y ∈ xs, y ≠ x → ∀ t, before t → before (f y t)) (hturn : ∀ t, before t → after (f x t))
    (hafter : ∀ y ∈ xs, y ≠ x → ∀ t, after t → after (f y t)) (hs : before s) : after (s.forAll xs f) := by
  induction xs generalizing s with
  | nil => exact absurd hx List.not_mem_nil
  | cons y ys ih =>
    obtain ⟨hy, hys⟩ := List.nodup_cons.1 hnodup
    by_cases hxy : x = y
    · subst hxy
      exact State.forAll_invariant (xs := ys)
        (fun z hz => hafter z (List.mem_cons_of_mem x hz) fun e => hy (e ▸ hz)) (hturn s hs)
    · have hx' : x ∈ ys := (List.mem_cons.1 hx).resolve_left hxy
      exact ih hx' hys (fun z hz => hbefore z (List.mem_cons_of_mem y hz)) (fun z hz => hafter z (List.mem_cons_of_mem y hz))
        (hbefore y List.mem_cons_self (Ne.symm hxy) s hs)

/-- Turns that do the same wherever what they all keep holds. -/
theorem State.forAll_congr {g : α → State → State} {P : State → Prop} (hstep : ∀ x t, P t → P (g x t))
    (hsame : ∀ x t, P t → f x t = g x t) (hs : P s) : s.forAll xs f = s.forAll xs g := by
  induction xs generalizing s with
  | nil => rfl
  | cons x xs ih => exact (congrArg (State.forAll · xs f) (hsame x s hs)).trans (ih (hstep x s hs))

/-- A unit whose turn is not among the turns stays as it was. -/
theorem State.forAll_unit_other {ι β : Type} (get : ι → State → β) {key : α → ι}
    (hother : ∀ x t i, i ≠ key x → get i (f x t) = get i t) {i : ι} (hi : ∀ x ∈ xs, i ≠ key x) :
    get i (s.forAll xs f) = get i s :=
  State.forAll_invariant (P := fun t => get i t = get i s) (fun x hx t ht => (hother x t i (hi x hx)).trans ht) rfl

/-- A unit is updated once, at its turn. -/
theorem State.forAll_unit_same {ι β : Type} (get : ι → State → β) {key : α → ι} {u : α → β → β}
    (hsame : ∀ x t, get (key x) (f x t) = u x (get (key x) t)) (hother : ∀ x t i, i ≠ key x → get i (f x t) = get i t)
    (hnodup : (xs.map key).Nodup) {x : α} (hx : x ∈ xs) : get (key x) (s.forAll xs f) = u x (get (key x) s) := by
  have hkey : ∀ y ∈ xs, y ≠ x → key x ≠ key y := fun y hy hne e => hne (List.inj_on_of_nodup_map hnodup hy hx e.symm)
  exact State.forAll_turn (before := fun t => get (key x) t = get (key x) s) hx hnodup.of_map
    (fun y hy hne t ht => (hother y t _ (hkey y hy hne)).trans ht) (fun t ht => (hsame x t).trans (congrArg (u x) ht))
    (fun y hy hne t ht => (hother y t _ (hkey y hy hne)).trans ht) rfl

/-! ### Channels and banks of the power die -/

/-- A state but for the channels of its power die. -/
def State.besidePdChans (s : State) : State := { s with pd := { s.pd with chans := Vector.replicate 24 PdChan.init } }

theorem State.eq_of_besidePdChans {t : State} (h : t.besidePdChans = s.besidePdChans) :
    t = { s with pd := t.pd } ∧ t.pd = { s.pd with chans := t.pd.chans } :=
  ⟨congrArg (fun x : State => { x with pd := t.pd }) h, congrArg (fun x : State => { x.pd with chans := t.pd.chans }) h⟩

theorem State.forAll_besidePdChans (key : α → Ch) (u : α → PdChan → PdChan) :
    (s.forAll xs fun x t => t.onPdChan (key x) (u x)).besidePdChans = s.besidePdChans := by
  rw [State.forAll_keeps State.besidePdChans]
  exact fun _ _ => rfl

/-- A state but for the channels and banks of its power die. -/
def State.besidePdUnits (s : State) : State :=
  { s with pd := { s.pd with chans := Vector.replicate 24 PdChan.init, banks := Vector.replicate 2 PdBank.init } }

theorem State.eq_of_besidePdUnits {t : State} (h : t.besidePdUnits = s.besidePdUnits) :
    t = { s with pd := { s.pd with chans := t.pd.chans, banks := t.pd.banks } } :=
  congrArg (fun x : State => { x with pd := { x.pd with chans := t.pd.chans, banks := t.pd.banks } }) h

theorem State.forAll_onPdChan_same {u : α → PdChan → PdChan} {key : α → Ch} (hnodup : (xs.map key).Nodup) {x : α} (hx : x ∈ xs) :
    (s.forAll xs fun x t => t.onPdChan (key x) (u x)).pdChan (key x) = u x (s.pdChan (key x)) :=
  State.forAll_unit_same (fun c t => t.pdChan c) (key := key) (u := u) (fun _ _ => State.onPdChan_pdChan_same ..)
    (fun _ _ _ h => State.onPdChan_pdChan_other _ _ _ _ h) hnodup hx

theorem State.forAll_onPdChan_other {u : α → PdChan → PdChan} {key : α → Ch} {c : Ch} (hc : ∀ x ∈ xs, c ≠ key x) :
    (s.forAll xs fun x t => t.onPdChan (key x) (u x)).pdChan c = s.pdChan c :=
  State.forAll_unit_other (fun c t => t.pdChan c) (fun _ _ _ h => State.onPdChan_pdChan_other _ _ _ _ h) hc

/-- Channels of a list without repetitions are updated, all others stay. -/
theorem State.forAll_onPdChan {cs : List Ch} (hnodup : cs.Nodup) (u : Ch → PdChan → PdChan) (c : Ch) :
    (s.forAll cs fun c t => t.onPdChan c (u c)).pdChan c = if c ∈ cs then u c (s.pdChan c) else s.pdChan c := by
  split
  · next h => exact State.forAll_onPdChan_same (key := id) (by rwa [List.map_id]) h
  · next h => exact State.forAll_onPdChan_other (key := id) fun x hx e => h (e ▸ hx)

/-! ### Lists of channels -/

theorem allCh_nodup : allCh.Nodup := List.nodup_finRange 24
theorem mem_allCh (c : Ch) : c ∈ allCh := List.mem_finRange c
theorem mem_bankChs {b : BankIx} {c : Ch} : c ∈ bankChs b ↔ bankOf c = b := by simp [bankChs, mem_allCh]
theorem bankChs_nodup (b : BankIx) : (bankChs b).Nodup := allCh_nodup.filter _
theorem mem_maskChs {m : BitVec 24} {c : Ch} : c ∈ maskChs m ↔ maskBit m c = true := by simp [maskChs]
theorem maskChs_nodup (m : BitVec 24) : (maskChs m).Nodup := (List.nodup_finRange 24).filter _

/-- Bits of a mask built from a list of channels, on top of what it held. -/
theorem maskBit_foldl (p : Ch → Bool) (cs : List Ch) (m : BitVec 24) (c : Ch) :
    maskBit (cs.foldl (fun m c => if p c then m ||| BitVec.ofNat 24 (2 ^ c.val) else m) m) c =
      (maskBit m c || (decide (c ∈ cs) && p c)) := by
  induction cs generalizing m with
  | nil => simp
  | cons d ds ih =>
    have hbit : maskBit (m ||| BitVec.ofNat 24 (2 ^ d.val)) c = (maskBit m c || decide (c = d)) := by
      rw [maskBit, maskBit, BitVec.getLsbD_or, BitVec.getLsbD_ofNat, Nat.testBit_two_pow]
      simp [c.isLt, Fin.ext_iff, eq_comm]
    rw [List.foldl_cons, ih]
    by_cases hcd : c = d
    · subst hcd
      cases p c
      · simp
      · simp only [if_true, hbit]
        simp
    · cases hp : p d
      · simp [hcd]
      · simp only [if_true, hbit]
        simp [hcd]

@[simp] theorem maskBit_maskWhere (p : Ch → Bool) (c : Ch) : maskBit (maskWhere p) c = p c := by
  rw [maskWhere, maskBit_foldl]
  simp [maskBit]

@[simp] theorem maskBit_allMask (c : Ch) : maskBit allMask c = true := maskBit_maskWhere _ c

end Sys2Proof.Machine
end

section
/-! The downlink (R23 to R25, R34, R493): what a superframe puts into the shadow store, and what a configuration slot does. -/

namespace Sys2Proof.Machine

variable {s : State}

/-! ### The shadow store -/

/-- The set of a good superframe is in the shadow store, the set before it beside it (R23, R39, assumption 15): the entries of
`cs`, then the LOAD bits and FRAMEs of `ks`. -/
def State.shadowing (s : State) (bs : List Byte) (cs : List Ch) (ks : List BankIx) : State :=
  (s.forAll cs fun c t => t.onPdChan c fun k => { k with shadow := entryAt bs c, shadowOld := k.shadow }).forAll ks fun b t =>
    t.onPdBank b fun k =>
      { k with load := (byteAt bs 1).getLsbD b.val, frame := byteAt bs (2 + b.val), came := t.fc
               loadOld := k.load, frameOld := k.frame, cameOld := k.came }

theorem State.shadowing_frame (bs : List Byte) (cs : List Ch) (ks : List BankIx) :
    s.shadowing bs cs ks =
      { s with pd := { s.pd with chans := (s.shadowing bs cs ks).pd.chans, banks := (s.shadowing bs cs ks).pd.banks } } := by
  apply State.eq_of_besidePdUnits
  unfold State.shadowing
  rw [State.forAll_keeps State.besidePdUnits, State.forAll_keeps State.besidePdUnits]
  all_goals exact fun _ _ => rfl

theorem State.shadowing_pdChan {bs : List Byte} {cs : List Ch} {ks : List BankIx} (hnodup : cs.Nodup) {c : Ch} (hc : c ∈ cs) :
    (s.shadowing bs cs ks).pdChan c = { s.pdChan c with shadow := entryAt bs c, shadowOld := (s.pdChan c).shadow } := by
  unfold State.shadowing
  rw [State.forAll_keeps (fun t => t.pdChan c)]
  · rw [State.forAll_onPdChan hnodup, if_pos hc]
  · exact fun _ _ => rfl

theorem State.shadowing_pdBank {bs : List Byte} {cs : List Ch} {ks : List BankIx} (hnodup : ks.Nodup) {b : BankIx} (hb : b ∈ ks) :
    (s.shadowing bs cs ks).pdBank b =
      { s.pdBank b with
        load := (byteAt bs 1).getLsbD b.val, frame := byteAt bs (2 + b.val), came := s.fc
        loadOld := (s.pdBank b).load, frameOld := (s.pdBank b).frame, cameOld := (s.pdBank b).came } := by
  have hfc : ∀ t : State, (t.forAll cs fun c t => t.onPdChan c fun k => { k with shadow := entryAt bs c, shadowOld := k.shadow }).fc = t.fc :=
    State.forAll_keeps State.fc fun _ _ => rfl
  have hbank : ∀ t : State, (t.forAll cs fun c t => t.onPdChan c fun k =>
      { k with shadow := entryAt bs c, shadowOld := k.shadow }).pdBank b = t.pdBank b :=
    State.forAll_keeps (fun t => t.pdBank b) fun _ _ => rfl
  unfold State.shadowing
  refine State.forAll_turn (before := fun t => t.fc = s.fc ∧ t.pdBank b = s.pdBank b) (after := fun t => t.pdBank b = _) hb hnodup
    ?_ ?_ ?_ ⟨hfc s, hbank s⟩
  · rintro d - hne t ⟨ht, hk⟩
    exact ⟨ht, (State.onPdBank_pdBank_other _ _ _ _ hne.symm).trans hk⟩
  · rintro t ⟨ht, hk⟩
    rw [State.onPdBank_pdBank_same, ht, hk]
  · rintro d - hne t hk
    exact (State.onPdBank_pdBank_other _ _ _ _ hne.symm).trans hk

/-- The whole set of a good superframe is in the shadow store. -/
@[irreducible] def State.shadowed (s : State) (bs : List Byte) : State := s.shadowing bs allCh [0, 1]

theorem State.shadowed_frame (bs : List Byte) :
    s.shadowed bs = { s with pd := { s.pd with chans := (s.shadowed bs).pd.chans, banks := (s.shadowed bs).pd.banks } } := by
  unfold State.shadowed
  exact State.shadowing_frame bs allCh [0, 1]

theorem State.shadowed_pdChan (bs : List Byte) (c : Ch) :
    (s.shadowed bs).pdChan c = { s.pdChan c with shadow := entryAt bs c, shadowOld := (s.pdChan c).shadow } := by
  unfold State.shadowed
  exact State.shadowing_pdChan allCh_nodup (mem_allCh c)

theorem State.shadowed_pdBank (bs : List Byte) (b : BankIx) :
    (s.shadowed bs).pdBank b =
      { s.pdBank b with
        load := (byteAt bs 1).getLsbD b.val, frame := byteAt bs (2 + b.val), came := s.fc
        loadOld := (s.pdBank b).load, frameOld := (s.pdBank b).frame, cameOld := (s.pdBank b).came } := by
  unfold State.shadowed
  exact State.shadowing_pdBank (by decide) (show b ∈ [0, 1] by revert b; decide)

/-! What the slots find there beside it. -/

theorem State.shadowed_modu (bs : List Byte) (m : ModIx) : (s.shadowed bs).modu m = s.modu m := by
  rw [State.shadowed_frame]
  rfl

theorem State.shadowed_config (bs : List Byte) : (s.shadowed bs).pd.config = s.pd.config := by
  rw [State.shadowed_frame]

theorem State.shadowed_parks (bs : List Byte) (c : Ch) :
    ((s.shadowed bs).pdBank (bankOf c)).safe = (s.pdBank (bankOf c)).safe ∧ (s.shadowed bs).pd.ot = s.pd.ot := by
  refine ⟨by rw [State.shadowed_pdBank], ?_⟩
  rw [State.shadowed_frame]

theorem State.shadowed_mods (bs : List Byte) : (s.shadowed bs).mods = s.mods := by
  rw [State.shadowed_frame]

/-! ### A good superframe -/

/-- The slots of a superframe applied in their order (R25). -/
@[irreducible] def State.slotsApplied (s : State) (bs : List Byte) : State :=
  (s.shadowed bs).forAll ((List.range 4).map (slotAt bs)) fun w t => t.applySlot w

/-- A good superframe ends: its tags go to ACK and to those kept for the repeat check, and it counts (R25, R161, R493). -/
def State.acknowledged (s : State) (bs : List Byte) : State :=
  let tags := (List.range 4).map fun i => slotTag (slotAt bs i)
  { s with
    pd := { s.pd with downSeq := byteAt bs 0, ack := tags, applied := (tags :: s.pd.applied).take 32 }
    link := Link.rest { s.link with goodDown := min 64 (s.link.goodDown + 1) } }

theorem State.goodDownlink_eq (bs : List Byte) :
    { s.goodDownlink bs with link := (s.goodDownlink bs).link.rest } = (s.slotsApplied bs).acknowledged bs := by
  unfold State.goodDownlink State.slotsApplied State.acknowledged State.shadowed State.shadowing
  simp only [List.map_map]
  rfl

theorem exec_downlink {noise : List (Nat × Byte)} (hhw : s.hwOn = true) (htx : s.link.txOn = true) :
    exec (.downlinkSuperframe noise) s = .next (s.downlink noise) := by
  simp only [exec, execDownlinkSuperframe, hhw, htx, Bool.and_self, if_true]

theorem State.downlink_good {noise : List (Nat × Byte)} (hpd : s.pdOn = true) (hseal : sealOk 348 (s.downBytes noise) = true) :
    s.downlink noise = (s.slotsApplied (s.downBytes noise)).acknowledged (s.downBytes noise) := by
  simp only [State.downlink, hpd, hseal, Bool.not_true, Bool.false_eq_true, if_false, if_true, State.goodDownlink_eq]

theorem State.downlink_bad {noise : List (Nat × Byte)} (hpd : s.pdOn = true) (hseal : sealOk 348 (s.downBytes noise) = false) :
    s.downlink noise = { s.badDownlink with link := s.badDownlink.link.rest } := by
  simp only [State.downlink, hpd, hseal, Bool.not_true, Bool.false_eq_true, if_false]

section
variable (bs : List Byte)
@[simp] theorem State.acknowledged_chans : (s.acknowledged bs).chans = s.chans := rfl
@[simp] theorem State.acknowledged_banks : (s.acknowledged bs).banks = s.banks := rfl
@[simp] theorem State.acknowledged_mods : (s.acknowledged bs).mods = s.mods := rfl
@[simp] theorem State.acknowledged_modu (m : ModIx) : (s.acknowledged bs).modu m = s.modu m := rfl
@[simp] theorem State.acknowledged_config : (s.acknowledged bs).pd.config = s.pd.config := rfl
@[simp] theorem State.acknowledged_pdChan (c : Ch) : (s.acknowledged bs).pdChan c = s.pdChan c := rfl
@[simp] theorem State.acknowledged_pdBank (b : BankIx) : (s.acknowledged bs).pdBank b = s.pdBank b := rfl
@[simp] theorem State.acknowledged_cfg : (s.acknowledged bs).link.cfg = s.link.cfg := rfl
@[simp] theorem State.acknowledged_ack :
    (s.acknowledged bs).pd.ack = (List.range 4).map fun i => slotTag (slotAt bs i) := rfl
@[simp] theorem State.acknowledged_applied :
    (s.acknowledged bs).pd.applied = (((List.range 4).map fun i => slotTag (slotAt bs i)) :: s.pd.applied).take 32 := rfl
end

/-! ### A configuration slot -/

/-- An unused slot, or one of which the tag has been applied in the last 32 superframes, has no effect (R25, R493). -/
theorem State.applySlot_idle {slot : List Byte} (h : slotTag slot = 0 ∨ s.pd.applied.any (fun ts => ts.contains (slotTag slot)) = true) :
    s.applySlot slot = s :=
  if_pos (by rcases h with h | h <;> simp only [h, beq_self_eq_true, Bool.true_or, Bool.or_true])

/-- The characters of the one write that the link carries. -/
theorem State.applySlot_write {w : CfgWrite} (hcfg : s.link.cfg = [w]) (htag : w.tag ≠ 0)
    (hnew : s.pd.applied.any (fun ts => ts.contains w.tag) = false) : s.applySlot w.bytes = s.applyCfg w.kind := by
  simp only [State.applySlot, slotTag_bytes, hnew, hcfg, List.find?_cons, beq_self_eq_true, Bool.or_false, beq_iff_eq, htag, if_false]

/-- Slots without a tag change nothing. -/
theorem State.slotsApplied_unused {bs : List Byte} (h : ∀ i, i < 4 → slotTag (slotAt bs i) = 0) : s.slotsApplied bs = s.shadowed bs := by
  unfold State.slotsApplied
  refine State.forAll_invariant (P := fun t => t = s.shadowed bs) ?_ rfl
  intro w hw t ht
  obtain ⟨i, hi, rfl⟩ := List.mem_map.1 hw
  rw [State.applySlot_idle (.inl (h i (List.mem_range.1 hi))), ht]

/-- The slots of a superframe that carries one write. -/
theorem State.slots_of_one_write {w : CfgWrite} (hcfg : s.link.cfg = [w]) :
    (List.range 4).map (slotAt (s.downBytes [])) = [w.bytes, unusedSlot, unusedSlot, unusedSlot] := by
  have hslot : ∀ i, i < 4 → slotAt (s.downBytes []) i = ([w][i]?.map CfgWrite.bytes).getD unusedSlot := fun i hi => by
    rw [s.downBytes_slot hi, hcfg]
  simp [List.range, List.range.loop, hslot]

theorem slotTag_unusedSlot : slotTag unusedSlot = 0 := by decide

theorem State.tags_of_one_write {w : CfgWrite} (hcfg : s.link.cfg = [w]) :
    ((List.range 4).map fun i => slotTag (slotAt (s.downBytes []) i)) = [w.tag, 0, 0, 0] := by
  have h := congrArg (List.map slotTag) (State.slots_of_one_write hcfg)
  simp only [List.map_map, List.map_cons, List.map_nil, slotTag_bytes, slotTag_unusedSlot] at h
  exact h

theorem State.slotsApplied_of_one_write {w : CfgWrite} (hcfg : s.link.cfg = [w]) :
    s.slotsApplied (s.downBytes []) = (s.shadowed (s.downBytes [])).applySlot w.bytes := by
  have hidle : ∀ t : State, t.applySlot unusedSlot = t := fun t => State.applySlot_idle (.inl slotTag_unusedSlot)
  simp only [State.slotsApplied, State.slots_of_one_write hcfg, State.forAll, List.foldl_cons, List.foldl_nil, hidle]

/-! ### What a slot leaves as it was -/

/-- What no configuration write changes: the control die's channels and banks, the link, and the tags of earlier superframes. -/
def State.besideCfg (s : State) : Link × Vector Channel 24 × Vector Bank 2 × List (List Byte) :=
  (s.link, s.chans, s.banks, s.pd.applied)

theorem State.pdPark_besideCfg (m : BitVec 24) : (s.pdPark m).besideCfg = s.besideCfg := by
  unfold State.pdPark
  split
  · rw [State.forAll_keeps State.besideCfg]
    exact fun _ _ => rfl
  · rfl

theorem State.pdParkIf_besideCfg (p : Bool) (m : BitVec 24) : (if p = true then s.pdPark m else s).besideCfg = s.besideCfg := by
  split
  · exact State.pdPark_besideCfg m
  · rfl

theorem State.pdStartUp_besideCfg : s.pdStartUp.besideCfg = s.besideCfg := by
  have hclear := State.forAll_keeps State.besideCfg (xs := allCh) (f := fun c t => t.onPdChan c fun k => k.clear false) (fun _ _ => rfl) s
  unfold State.pdStartUp
  dsimp only
  rw [State.pdParkIf_besideCfg, State.pdParkIf_besideCfg, State.pdParkIf_besideCfg]
  generalize (s.forAll allCh fun c t => t.onPdChan c fun k => k.clear false) = t at hclear ⊢
  exact hclear

theorem State.pdSet_besideCfg (id inst : Nat) (v : Int) : (s.pdSet id inst v).besideCfg = s.besideCfg := by
  unfold State.pdSet
  dsimp only
  split <;> rfl

theorem State.stopMod_besideCfg (m : ModIx) : (s.stopMod m).besideCfg = s.besideCfg := by
  unfold State.stopMod
  dsimp only
  rw [State.forAll_keeps State.besideCfg]
  · rfl
  · exact fun _ _ => rfl

theorem State.endStopping_besideCfg (m : ModIx) : (s.endStopping m).besideCfg = s.besideCfg := by
  unfold State.endStopping
  split
  · exact State.stopMod_besideCfg m
  · rfl

theorem State.startMod_besideCfg (m : ModIx) (paired lead : Bool) : (s.startMod m paired lead).besideCfg = s.besideCfg := rfl

theorem State.applyRun_besideCfg (m : ModIx) (on : Bool) : (s.applyRun m on).besideCfg = s.besideCfg := by
  unfold State.applyRun
  split
  · split
    · rfl
    · split
      · rw [State.startMod_besideCfg, State.startMod_besideCfg, State.stopMod_besideCfg, State.endStopping_besideCfg]
      · rw [State.startMod_besideCfg, State.endStopping_besideCfg]
  · split <;> rfl

theorem State.markFigures_besideCfg (m : ModIx) : (s.markFigures m).besideCfg = s.besideCfg := by
  unfold State.markFigures State.applyFigures
  split <;> rfl

theorem State.applyCfg_besideCfg (k : CfgKind) : (s.applyCfg k).besideCfg = s.besideCfg := by
  cases k with
  | param id inst v => exact State.pdSet_besideCfg id inst v
  | startUp => exact State.pdStartUp_besideCfg
  | adcRun m on =>
    unfold State.applyCfg
    dsimp only
    split
    · exact (State.markFigures_besideCfg m).trans (State.applyRun_besideCfg m on)
    · exact State.applyRun_besideCfg m on
  | clear | prepare | sliceOff | standby | vexc => rfl

theorem State.applySlot_besideCfg (slot : List Byte) : (s.applySlot slot).besideCfg = s.besideCfg := by
  unfold State.applySlot
  split
  · rfl
  · split
    · exact State.applyCfg_besideCfg _
    · rfl

/-! ### A run of a modulator -/

theorem State.startMod_modu (m d : ModIx) (paired lead : Bool) :
    (d = m → ((s.startMod m paired lead).modu d).running = true) ∧ (d ≠ m → (s.startMod m paired lead).modu d = s.modu d) := by
  refine ⟨?_, fun h => State.onMod_modu_other _ m d _ h⟩
  rintro rfl
  exact congrArg Modulator.running (State.onMod_modu_same ..)

/-- A modulator is one of the two of its pair. -/
theorem mod_even_or_odd (m : ModIx) : m = evenOf m ∨ m = oddOf m := by
  simp only [evenOf, oddOf, Fin.ext_iff]
  omega

theorem evenOf_ne_oddOf (m : ModIx) : evenOf m ≠ oddOf m := by
  simp only [evenOf, oddOf, ne_eq, Fin.ext_iff]
  omega

/-- The modulator runs once the write of its run is applied (R243, R250). -/
theorem State.applyRun_starts (m : ModIx) : ((s.applyRun m true).modu m).running = true := by
  unfold State.applyRun
  split
  · split
    · next h =>
      simp only [State.runs, Bool.and_eq_true] at h
      exact h.1.1
    · split
      · rcases mod_even_or_odd m with h | h
        · rw [(State.startMod_modu _ m _ _).2 (fun e => evenOf_ne_oddOf m (h.symm.trans e))]
          exact (State.startMod_modu _ m _ _).1 h
        · exact (State.startMod_modu _ m _ _).1 h
      · exact (State.startMod_modu m m _ _).1 rfl
  · next h => exact absurd rfl h

theorem State.markFigures_mods (m : ModIx) : (s.markFigures m).mods = s.mods := by
  unfold State.markFigures State.applyFigures
  split <;> rfl

theorem State.orderStop_modu (m d : ModIx) :
    (s.orderStop m).modu d = if d = m then { s.modu d with stopping := (s.modu d).running } else s.modu d :=
  State.onMod_modu _ m d _

/-- A write of 0 to ADC.RUN orders the stop for the next CLK_MOD edge (R259). -/
theorem State.applyRun_stops (m : ModIx) : (s.applyRun m false).modu m = { s.modu m with stopping := (s.modu m).running } := by
  unfold State.applyRun
  simp only [Bool.false_eq_true, if_false]
  split
  · rcases mod_even_or_odd m with h | h
    · rw [State.orderStop_modu, if_neg (fun e => evenOf_ne_oddOf m (h.symm.trans e)), State.orderStop_modu, if_pos h]
    · rw [State.orderStop_modu, if_pos h, State.orderStop_modu, if_neg (fun e => evenOf_ne_oddOf m (e.symm.trans h))]
  · rw [State.orderStop_modu, if_pos rfl]

/-! ### A superframe that carries one write -/

theorem State.downBytes_sealOk (s : State) : sealOk 348 (s.downBytes []) = true := by
  rw [State.downBytes_nil]
  exact sealOk_sealed _ (s.downFrame.body_length s.downFrame_entries_length)

theorem State.shadowed_write_new {w : CfgWrite} (hcfg : s.link.cfg = [w]) (htag : w.tag ≠ 0) (bs : List Byte)
    (hnew : s.pd.applied.any (fun ts => ts.contains w.tag) = false) :
    (s.shadowed bs).applySlot w.bytes = (s.shadowed bs).applyCfg w.kind := by
  refine State.applySlot_write ?_ htag ?_
  · rw [State.shadowed_frame]
    exact hcfg
  · rw [State.shadowed_frame]
    exact hnew

theorem State.shadowed_write_repeated {w : CfgWrite} (bs : List Byte) (hold : s.pd.applied.any (fun ts => ts.contains w.tag) = true) :
    (s.shadowed bs).applySlot w.bytes = s.shadowed bs := by
  refine State.applySlot_idle (.inr ?_)
  rw [slotTag_bytes, State.shadowed_frame]
  exact hold

theorem State.shadowed_write_besideCfg (bs slot : List Byte) : ((s.shadowed bs).applySlot slot).besideCfg = s.besideCfg := by
  rw [State.applySlot_besideCfg, State.shadowed_frame]
  rfl

/-- A setting of the power die is stored under its key (R175). -/
theorem State.applyCfg_param_config (id inst : Nat) (v : Int) :
    (s.applyCfg (.param id inst v)).pd.config = Sparse.put (resetOf id) s.pd.config (pkey id inst) v := by
  simp only [State.applyCfg, State.pdSet]
  split <;> rfl

theorem State.applyCfg_clear_pdChan (c : Ch) :
    (s.applyCfg (.clear c)).pdChan c = (s.pdChan c).clear ((s.pdBank (bankOf c)).safe || s.pd.ot) :=
  State.onPdChan_pdChan_same ..

theorem State.applyCfg_prepare_pdChan (c : Ch) :
    (s.applyCfg (.prepare c)).pdChan c = { (s.pdChan c).clearTrips with slice := true } :=
  State.onPdChan_pdChan_same ..

theorem State.applyCfg_sliceOff_pdChan (c : Ch) : (s.applyCfg (.sliceOff c)).pdChan c = { s.pdChan c with slice := false } :=
  State.onPdChan_pdChan_same ..

theorem State.applyCfg_vexc_pdBank (b : BankIx) (on : Bool) :
    (s.applyCfg (.vexc b on)).pdBank b = { s.pdBank b with vexc := on } :=
  State.onPdBank_pdBank_same ..

theorem State.applyCfg_adcRun_starts (m : ModIx) : ((s.applyCfg (.adcRun m true)).modu m).running = true := by
  unfold State.applyCfg
  dsimp only
  split
  · unfold State.modu
    rw [State.markFigures_mods]
    exact s.applyRun_starts m
  · exact s.applyRun_starts m

theorem State.applyCfg_adcRun_stops (m : ModIx) :
    (s.applyCfg (.adcRun m false)).modu m = { s.modu m with stopping := (s.modu m).running } :=
  s.applyRun_stops m

/-- Settles O34: discarded, stored, and with one write in a slot. -/
theorem downlinkSuperframeFillsTheShadowStore : Obligations.DownlinkSuperframeFillsTheShadowStore := by
  unfold Obligations.DownlinkSuperframeFillsTheShadowStore
  refine ⟨fun s noise hhw htx hpd hseal => ?_, fun s noise hhw htx hpd => ?_, fun s w hhw htx hpd hcfg htag => ?_⟩
  case refine_1 =>
    rw [exec_downlink hhw htx, State.downlink_bad hpd hseal]
    rfl
  case refine_2 =>
    intro bs hseal hunused
    have htags : ((List.range 4).map fun i => slotTag (slotAt bs i)) = [0, 0, 0, 0] := by
      simp [List.range, List.range.loop, hunused]
    have hframe := s.shadowed_frame bs
    refine ⟨(s.shadowed bs).acknowledged bs, ?_, ?_, ?_, ?_, s.shadowed_pdChan bs, s.shadowed_pdBank bs⟩
    · rw [exec_downlink hhw htx, State.downlink_good hpd hseal, State.slotsApplied_unused hunused]
    · unfold State.acknowledged
      rw [hframe]
    · unfold State.acknowledged
      rw [hframe]
      rfl
    · unfold State.acknowledged
      rw [htags, hframe]
  case refine_3 =>
    have hbeside := s.shadowed_write_besideCfg (s.downBytes []) w.bytes
    generalize hv : (s.shadowed (s.downBytes [])).applySlot w.bytes = v at hbeside
    obtain ⟨hlink, hchans, hbanks, happlied⟩ : v.link = s.link ∧ v.chans = s.chans ∧ v.banks = s.banks ∧ v.pd.applied = s.pd.applied := by
      simpa [State.besideCfg] using hbeside
    refine ⟨v.acknowledged (s.downBytes []), ?_, State.tags_of_one_write hcfg, ?_, ?_, hchans, fun hold => ?_, fun hnew => ?_⟩
    · rw [exec_downlink hhw htx, State.downlink_good hpd s.downBytes_sealOk, State.slotsApplied_of_one_write hcfg, hv]
    · rw [State.acknowledged_cfg, hlink, hcfg]
    · rw [State.acknowledged_applied, State.tags_of_one_write hcfg, happlied]
    · have hv' : v = s.shadowed (s.downBytes []) := hv.symm.trans (State.shadowed_write_repeated _ hold)
      refine ⟨?_, ?_, hbanks, fun c => ?_⟩
      · rw [State.acknowledged_config, hv', State.shadowed_config]
      · rw [State.acknowledged_mods, hv', State.shadowed_mods]
      · rw [State.acknowledged_pdChan, hv', State.shadowed_pdChan, State.downBytes_entry]
    · have hv' : v = (s.shadowed (s.downBytes [])).applyCfg w.kind := hv.symm.trans (State.shadowed_write_new hcfg htag _ hnew)
      simp only [State.acknowledged_config, State.acknowledged_pdChan, State.acknowledged_pdBank, State.acknowledged_modu, hv']
      refine ⟨fun id inst x hkind => ?_, fun c hkind => ?_, fun c hkind => ?_, fun c hkind => ?_, fun b on hkind => ?_, fun m hkind => ?_,
        fun m hkind => ?_⟩ <;> simp only [hkind]
      · rw [State.applyCfg_param_config, State.shadowed_config]
      · obtain ⟨hsafe, hot⟩ := s.shadowed_parks (s.downBytes []) c
        rw [State.applyCfg_clear_pdChan, State.shadowed_pdChan, hsafe, hot]
        exact ⟨rfl, rfl, rfl, rfl, rfl, rfl⟩
      · rw [State.applyCfg_prepare_pdChan, State.shadowed_pdChan]
        exact ⟨rfl, rfl, rfl, rfl⟩
      · rw [State.applyCfg_sliceOff_pdChan]
      · rw [State.applyCfg_vexc_pdBank]
      · exact State.applyCfg_adcRun_starts m
      · rw [State.applyCfg_adcRun_stops, State.shadowed_modu]
        exact ⟨rfl, rfl⟩

end Sys2Proof.Machine
end

section
/-! Park and the urgent orders on the power die (R30 to R32, R35, R168 to R170), and the loss of the link (R36). -/

namespace Sys2Proof.Machine

variable {s : State}

/-! ### Park of one channel -/

theorem PdChan.enterPark_of_park {k : PdChan} (h : k.park = true) (hold : Int) : k.enterPark hold = k := if_pos h

/-- Park of a channel that is not in park: the turn-off begins, or the hold runs (R168, R170). -/
theorem PdChan.enterPark_of_not_park {k : PdChan} (h : k.park = false) (hold : Int) :
    k.enterPark hold =
      if hold = 0 ∨ k.turnOff ≠ .none then ({ k with park := true, hold := 0 } : PdChan).startOff
      else { k with park := true, hold := 0, parkHold := true } := by
  simp [PdChan.enterPark, h]

theorem PdChan.enterPark_park (k : PdChan) (hold : Int) : (k.enterPark hold).park = true := by
  cases h : k.park
  · rw [PdChan.enterPark_of_not_park h]
    split <;> rfl
  · rwa [PdChan.enterPark_of_park h]

/-- The duty words stay (R170). -/
theorem PdChan.enterPark_entry (k : PdChan) (hold : Int) : (k.enterPark hold).entry = k.entry := by
  cases h : k.park
  · rw [PdChan.enterPark_of_not_park h]
    split <;> rfl
  · rw [PdChan.enterPark_of_park h]

/-- A HOLD is over (R31). -/
theorem PdChan.enterPark_hold {k : PdChan} (h : k.park = false) (hold : Int) : (k.enterPark hold).hold = 0 := by
  rw [PdChan.enterPark_of_not_park h]
  split <;> rfl

theorem PdChan.enterPark_parkHold {k : PdChan} (h : k.park = false) {hold : Int} (hne : hold ≠ 0) (hoff : k.turnOff = .none) :
    (k.enterPark hold).parkHold = true := by
  rw [PdChan.enterPark_of_not_park h, if_neg (by simp [hne, hoff])]

/-! ### Park of the channels of a mask -/

/-- The turns of a park read the one setting that they do not change. -/
theorem State.pdPark_eq (hpd : s.pdOn = true) (hunits : s.pd.units = true) (m : BitVec 24) :
    s.pdPark m = s.forAll ((maskChs m).filter fun c => s.hasCh c) fun c t =>
      t.onPdChan c fun k => k.enterPark (s.pdPar Pid.BANK_PARK_HOLD (bankOf c).val) := by
  unfold State.pdPark
  rw [if_pos (by rw [hpd, hunits]; rfl)]
  refine State.forAll_congr (P := fun t => t.pd.config = s.pd.config) (fun _ _ h => h) (fun c t h => ?_) rfl
  unfold State.pdPar
  rw [h]

theorem State.pdPark_off (h : ¬(s.pdOn = true ∧ s.pd.units = true)) (m : BitVec 24) : s.pdPark m = s :=
  if_neg (by simpa using h)

/-- Park changes channels of the power die alone. -/
theorem State.pdPark_besidePdChans (m : BitVec 24) : (s.pdPark m).besidePdChans = s.besidePdChans := by
  by_cases h : s.pdOn = true ∧ s.pd.units = true
  · rw [State.pdPark_eq h.1 h.2]
    exact State.forAll_besidePdChans (fun c => c) _
  · rw [State.pdPark_off h]

/-- A channel parks that the variant has, while the park logic is on (R1, R168, R430). -/
theorem State.pdPark_pdChan (m : BitVec 24) (c : Ch) :
    (s.pdPark m).pdChan c =
      if maskBit m c = true ∧ s.hasCh c = true ∧ s.pdOn = true ∧ s.pd.units = true then
        (s.pdChan c).enterPark (s.pdPar Pid.BANK_PARK_HOLD (bankOf c).val)
      else s.pdChan c := by
  by_cases h : s.pdOn = true ∧ s.pd.units = true
  · rw [State.pdPark_eq h.1 h.2, State.forAll_onPdChan ((maskChs_nodup m).filter _)]
    simp [mem_maskChs, h]
  · rw [State.pdPark_off h, if_neg fun hc => h ⟨hc.2.2.1, hc.2.2.2⟩]

/-! ### The urgent symbol -/

/-- A symbol's type stands in the upper half of lane 0, its complement in the lower, and the mask behind (R30). -/
theorem symbolWord_fields (type : Nat) (m : BitVec 24) :
    (symbolWord type m).extractLsb' 4 4 = BitVec.ofNat 4 type ∧ (symbolWord type m).extractLsb' 0 4 = ~~~(BitVec.ofNat 4 type) ∧
      (symbolWord type m).extractLsb' 8 24 = m := by
  unfold symbolWord
  refine ⟨?_, ?_, ?_⟩ <;> refine BitVec.eq_of_getLsbD_eq fun i hi => ?_
  · rw [BitVec.getLsbD_extractLsb', BitVec.getLsbD_append, if_pos (by omega), BitVec.getLsbD_append, if_neg (by omega)]
    simp [hi]
  · rw [BitVec.getLsbD_extractLsb', BitVec.getLsbD_append, if_pos (by omega), BitVec.getLsbD_append, if_pos (by omega)]
    simp [hi]
  · rw [BitVec.getLsbD_extractLsb', BitVec.getLsbD_append, if_neg (by omega)]
    simp [hi]

/-- An undisturbed symbol of a defined type brings its order (R30). -/
theorem State.receiveSymbol_undisturbed {type : Nat} (h : type < 16) (m : BitVec 24) :
    s.receiveSymbol (symbolWord type m ^^^ laneNoise 0 0 0 0) = s.urgent type m := by
  obtain ⟨htype, hcomplement, hmask⟩ := symbolWord_fields type m
  have hquiet : symbolWord type m ^^^ laneNoise 0 0 0 0 = symbolWord type m := BitVec.xor_zero
  rw [hquiet]
  simp only [State.receiveSymbol, htype, hcomplement, hmask, BitVec.not_not, beq_self_eq_true, if_true, BitVec.toNat_ofNat]
  rw [Nat.mod_eq_of_lt (show type < 2 ^ 4 from h)]

/-- A type that its complement contradicts, or that is not defined, is a link error (R30). -/
theorem State.receiveSymbol_malformed {w : BitVec 32}
    (h : w.extractLsb' 4 4 ≠ ~~~(w.extractLsb' 0 4) ∨ w.extractLsb' 4 4 = 0 ∨ 4 ≤ (w.extractLsb' 4 4).toNat) :
    s.receiveSymbol w = { s with pd := { s.pd with linkErrors := s.pd.linkErrors + 1 } } := by
  have hundefined : ∀ n m, n = 0 ∨ 4 ≤ n → s.urgent n m = { s with pd := { s.pd with linkErrors := s.pd.linkErrors + 1 } } := by
    intro n m hn
    match n with
    | 0 => rfl
    | 1 | 2 | 3 => omega
    | _ + 4 => rfl
  refine hundefined _ _ ?_
  split
  · next hagree =>
    rcases h with h | h | h
    · exact absurd (beq_iff_eq.1 hagree) h
    · exact .inl (by rw [h]; rfl)
    · exact .inr h
  · exact .inl rfl

theorem exec_urgentSymbol {n0 n1 n2 n3 : Byte} (hhw : s.hwOn = true) (htx : s.link.txOn = true) :
    exec (.urgentSymbol n0 n1 n2 n3) s = .next (s.stillPending.sendSymbol (laneNoise n0 n1 n2 n3)) := by
  simp only [exec, execUrgentSymbol, hhw, htx, Bool.and_self, if_true]

theorem State.sendSymbol_next {type : Nat} {m : BitVec 24} (hpd : s.pdOn = true) (hnext : s.link.nextSymbol = some (type, m))
    (noise : BitVec 32) :
    s.sendSymbol noise = ({ s with link := s.link.sent type } : State).receiveSymbol (symbolWord type m ^^^ noise) := by
  simp only [State.sendSymbol, hnext]
  exact if_pos hpd

/-- The types of urgent symbols in the order of their priority (R31). -/
theorem Link.nextSymbol_of (l : Link) :
    (l.softOff ≠ 0 → l.nextSymbol = some (1, l.softOff)) ∧
      (l.softOff = 0 → l.park ≠ 0 → l.nextSymbol = some (3, l.park)) ∧
      (l.softOff = 0 → l.park = 0 → l.hold ≠ 0 → l.nextSymbol = some (2, l.hold)) ∧
      (l.softOff = 0 → l.park = 0 → l.hold = 0 → l.nextSymbol = none) := by
  unfold Link.nextSymbol
  refine ⟨fun h => ?_, fun h1 h2 => ?_, fun h1 h2 h3 => ?_, fun h1 h2 h3 => ?_⟩
  · rw [if_pos (bne_iff_ne.2 h)]
  · rw [if_neg (by simp [h1]), if_pos (bne_iff_ne.2 h2)]
  · rw [if_neg (by simp [h1]), if_neg (by simp [h2]), if_pos (bne_iff_ne.2 h3)]
  · rw [if_neg (by simp [h1]), if_neg (by simp [h2]), if_neg (by simp [h3])]

/-- A HOLD acts outside park and a turned-off state (R32). -/
theorem PdChan.holdOrder_eq (k : PdChan) :
    k.holdOrder = if k.park = false ∧ k.softIgnore = false then { k with hold := 2 } else k := by
  unfold PdChan.holdOrder
  cases k.park <;> cases k.softIgnore <;> rfl

theorem State.urgent_softOff_pdChan (m : BitVec 24) (c : Ch) :
    (s.urgent 1 m).pdChan c = if maskBit m c = true then (s.pdChan c).softOff else s.pdChan c := by
  have h := State.forAll_onPdChan (s := s) (maskChs_nodup m) (fun _ => PdChan.softOff) c
  simp only [mem_maskChs] at h
  exact h

theorem State.urgent_hold_pdChan (m : BitVec 24) (c : Ch) :
    (s.urgent 2 m).pdChan c = if maskBit m c = true then (s.pdChan c).holdOrder else s.pdChan c := by
  have h := State.forAll_onPdChan (s := s) (maskChs_nodup m) (fun _ => PdChan.holdOrder) c
  simp only [mem_maskChs] at h
  exact h

theorem State.urgent_park_pdChan (m : BitVec 24) (c : Ch) :
    (s.urgent 3 m).pdChan c =
      if maskBit m c = true ∧ s.hasCh c = true ∧ s.pdOn = true ∧ s.pd.units = true then
        (s.pdChan c).enterPark (s.pdPar Pid.BANK_PARK_HOLD (bankOf c).val)
      else s.pdChan c :=
  s.pdPark_pdChan m c

/-- A defined order changes channels of the power die alone. -/
theorem State.urgent_besidePdChans {type : Nat} (h : type = 1 ∨ type = 2 ∨ type = 3) (m : BitVec 24) :
    (s.urgent type m).besidePdChans = s.besidePdChans := by
  rcases h with rfl | rfl | rfl
  · exact State.forAll_besidePdChans (fun c => c) _
  · exact State.forAll_besidePdChans (fun c => c) _
  · exact State.pdPark_besidePdChans m

/-- Settles O37: the three types by their priority, and a malformed symbol. -/
theorem urgentSymbolActsOnItsChannels : Obligations.UrgentSymbolActsOnItsChannels := by
  unfold Obligations.UrgentSymbolActsOnItsChannels
  refine ⟨fun s hhw htx hpd => ?_, fun s n0 n1 n2 n3 m type mask hhw htx hpd hnext hm hbad => ?_⟩
  case refine_1 =>
    intro off park hold l
    have hpd' : s.stillPending.pdOn = true := hpd
    have send : ∀ {type : Nat} {m : BitVec 24}, type = 1 ∨ type = 2 ∨ type = 3 → l.nextSymbol = some (type, m) →
        exec (.urgentSymbol 0 0 0 0) s = .next (({ s with link := l.sent type } : State).urgent type m) := fun htype hnext => by
      rw [exec_urgentSymbol hhw htx, State.sendSymbol_next hpd' hnext, State.receiveSymbol_undisturbed (by omega)]
      rfl
    obtain ⟨hoff, hpark, hhold, hnone⟩ := l.nextSymbol_of
    refine ⟨fun h => ?_, fun h1 h2 => ?_, fun h1 h2 h3 => ?_, fun h1 h2 h3 n0 n1 n2 n3 => ?_⟩
    · obtain ⟨hstate, hdie⟩ := State.eq_of_besidePdChans (State.urgent_besidePdChans (s := { s with link := l.sent 1 }) (.inl rfl) off)
      exact ⟨_, send (.inl rfl) (hoff h), hstate, hdie, State.urgent_softOff_pdChan off⟩
    · obtain ⟨hstate, hdie⟩ :=
        State.eq_of_besidePdChans (State.urgent_besidePdChans (s := { s with link := l.sent 3 }) (.inr (.inr rfl)) park)
      refine ⟨_, send (.inr (.inr rfl)) (hpark h1 h2), hstate, hdie, fun c => ⟨fun hc hhas hunits => ?_, fun hother => ?_⟩⟩
      · have hnot : (s.pdChan c).park = false := by
          simp only [park, maskBit_maskWhere, Bool.and_eq_true, Bool.not_eq_true'] at hc
          exact hc.2
        rw [State.urgent_park_pdChan, if_pos ⟨hc, hhas, hpd, hunits⟩]
        exact ⟨PdChan.enterPark_park .., PdChan.enterPark_hold hnot _, PdChan.enterPark_entry ..⟩
      · rw [State.urgent_park_pdChan, if_neg]
        · rfl
        · rintro ⟨hc, hhas, -, hunits⟩
          rcases hother with h | h | h
          · exact absurd hc (by rw [h]; decide)
          · exact absurd (hhas.symm.trans h) (by decide)
          · exact absurd (hunits.symm.trans h) (by decide)
    · obtain ⟨hstate, hdie⟩ :=
        State.eq_of_besidePdChans (State.urgent_besidePdChans (s := { s with link := l.sent 2 }) (.inr (.inl rfl)) hold)
      refine ⟨_, send (.inr (.inl rfl)) (hhold h1 h2 h3), hstate, hdie, fun c => ?_⟩
      rw [State.urgent_hold_pdChan, ite_and, PdChan.holdOrder_eq]
      rfl
    · rw [exec_urgentSymbol hhw htx]
      simp only [State.sendSymbol, show s.stillPending.link.nextSymbol = none from hnone h1 h2 h3]
      rfl
  case refine_2 =>
    have hpd' : s.stillPending.pdOn = true := hpd
    have hexec := exec_urgentSymbol (n0 := n0) (n1 := n1) (n2 := n2) (n3 := n3) hhw htx
    rw [State.sendSymbol_next hpd' hnext, laneNoise, ← hm, State.receiveSymbol_malformed hbad] at hexec
    refine ⟨_, hexec, rfl, rfl, ?_, ?_, ?_⟩
    all_goals
      rintro rfl
      rfl

end Sys2Proof.Machine
end

section
/-! The end of a command that waits (R25, R350, R493, R496), of a tag's rest, and of the link (R35, R36). -/

namespace Sys2Proof.Machine

variable {s : State}

/-! ### What an answer leaves as it was -/

/-- What no answer of the firmware changes, be it given in window 2 or by the gateway, and with what begins after it. -/
structure BesideAnswer where
  chans : Vector Channel 24
  pairs : Vector PairRecord 12
  banks : Vector Bank 2
  pd : PowerDie
  link : Link
  fbs : Vector Fb 24
  mods : Vector Modulator 16
  gbs : Vector Gb 256
  flts : Vector Flt 32
  otp : Otp
  temp : Int

def State.besideAnswer (s : State) : BesideAnswer :=
  ⟨s.chans, s.pairs, s.banks, s.pd, s.link, s.fbs, s.mods, s.gbs, s.flts, s.otp, s.power.temp⟩

theorem State.raise_besideAnswer (code inst : Nat) (p : List Byte) : (s.raise code inst p).besideAnswer = s.besideAnswer := by
  rw [State.raise_frame]
  rfl

theorem State.answer_besideAnswer (via : Option CanIx) (record : List Byte) (seq : Nat) (r : Result) (detail : Nat) (data : List Byte) :
    (s.answer via record seq r detail data).besideAnswer = s.besideAnswer := by
  cases via <;> rfl

theorem State.postHeld_besideAnswer : s.postHeld.besideAnswer = s.besideAnswer := by
  unfold State.postHeld
  rw [State.forAll_keeps State.besideAnswer]
  · rfl
  · exact fun _ _ => rfl

theorem State.afterResponse_besideAnswer : s.afterResponse.besideAnswer = s.besideAnswer := by
  unfold State.afterResponse State.armEntry
  have htest : s.testEclipse.besideAnswer = s.besideAnswer := by
    unfold State.testEclipse
    split <;> rfl
  split
  · exact htest
  · exact htest

/-! ### The command that waits completes -/

/-- A completing command leaves its wait, the latches of `clears` are gone, and `starts` begin to be enabled. -/
def State.released (s : State) (clears starts : List Ch) : State :=
  (({ s with mbx := { s.mbx with waiting := none } } : State).forAll clears fun c t => t.finishClear c).forAll starts fun c t =>
    t.lateEnable starts c

theorem State.complete_besideAnswer (w : Waiting) : (s.complete w).besideAnswer = (s.released w.clears w.starts).besideAnswer := by
  unfold State.complete State.released
  dsimp only
  rw [State.afterResponse_besideAnswer, State.postHeld_besideAnswer, State.answer_besideAnswer]

theorem State.abandonWaiting_besideAnswer : s.abandonWaiting.besideAnswer = s.besideAnswer := by
  have hidle : ∀ w : Waiting, w.abandon.clears = [] ∧ w.abandon.starts = [] := fun w => by
    unfold Waiting.abandon
    split <;> exact ⟨rfl, rfl⟩
  unfold State.abandonWaiting State.tryComplete
  cases s.mbx.waiting with
  | none => rfl
  | some w =>
    dsimp only [Option.map_some]
    split
    · rw [State.complete_besideAnswer, (hidle w).1, (hidle w).2]
      rfl
    · rfl

/-! ### Park of a channel on the control die -/

theorem State.parkCh_of_parked {c : Ch} (h : (s.chan c).state = .parked) (n : Nat) : s.parkCh c n = s := by
  simp only [State.parkCh, h]

theorem State.parkCh_eq {c : Ch} (h : (s.chan c).state ≠ .parked) (n : Nat) :
    s.parkCh c n =
      let t := ((s.leaveGroup c).onChan c fun k =>
        { k.endMotion with state := .parked, fetsOff := false, parkCause := n, policy := false }).raise 0x0406 c.val [BitVec.ofNat 8 n]
      if t.paired c && t.energised (twinOf c) then t.onMotion (twinOf c) fun m => { m with immReq := some .fault } else t := by
  unfold State.parkCh
  split
  · next hp => exact absurd hp h
  · rfl

/-- Of the channel itself: parked, every motion ended, the duty words held (R67, R82, R161). -/
theorem State.parkCh_chan_same {c : Ch} (h : (s.chan c).state ≠ .parked) (n : Nat) :
    (s.parkCh c n).chan c = { (s.chan c).endMotion with state := .parked, fetsOff := false, parkCause := n, policy := false } := by
  rw [State.parkCh_eq h]
  dsimp only
  split
  · rw [State.onMotion_chan, if_neg (twinOf_ne c), State.raise_chan, State.onChan_chan_same, State.leaveGroup_chan]
  · rw [State.raise_chan, State.onChan_chan_same, State.leaveGroup_chan]

/-- Of the others: an energised twin is asked for an immediate stop (R114). -/
theorem State.parkCh_chan_other {c d : Ch} (h : (s.chan c).state ≠ .parked) (hd : d ≠ c) (n : Nat) :
    (s.parkCh c n).chan d =
      if d = twinOf c ∧ s.paired c = true ∧ s.energised d = true then
        { s.chan d with motion := { (s.chan d).motion with immReq := some .fault } }
      else s.chan d := by
  rw [State.parkCh_eq h]
  generalize ht : ((s.leaveGroup c).onChan c fun k =>
    { k.endMotion with state := .parked, fetsOff := false, parkCause := n, policy := false }).raise 0x0406 c.val [BitVec.ofNat 8 n] = t
  have hchan : ∀ e, e ≠ c → t.chan e = s.chan e := fun e he => by
    rw [← ht, State.raise_chan, State.onChan_chan_other _ _ _ _ he, State.leaveGroup_chan]
  have hpaired : t.paired c = s.paired c := by
    rw [← ht]
    simp only [State.paired, State.isTwin, State.parB, State.raise_par, State.onChan_par, State.leaveGroup_par]
  have henergised : t.energised (twinOf c) = s.energised (twinOf c) := by
    unfold State.energised
    rw [hchan _ (twinOf_ne c).symm]
  dsimp only
  rw [hpaired, henergised]
  by_cases hdt : d = twinOf c
  · subst hdt
    cases hp : s.paired c && s.energised (twinOf c)
    · rw [if_neg Bool.false_ne_true, if_neg, hchan _ hd]
      rintro ⟨-, h1, h2⟩
      simp [h1, h2] at hp
    · rw [Bool.and_eq_true] at hp
      rw [if_pos rfl, if_pos ⟨rfl, hp⟩, State.onMotion_chan_same, hchan _ hd]
  · have hrest : ¬(d = twinOf c ∧ s.paired c = true ∧ s.energised d = true) := fun h => hdt h.1
    rw [if_neg hrest]
    split
    · rw [State.onMotion_chan, if_neg hdt, hchan _ hd]
    · exact hchan _ hd

/-- What a channel keeps while others park. -/
theorem State.parkCh_chan_kept {c d : Ch} (hd : d ≠ c) (n : Nat) :
    (s.parkCh c n).chan d = { s.chan d with motion := { (s.chan d).motion with immReq := ((s.parkCh c n).chan d).motion.immReq } } := by
  by_cases h : (s.chan c).state = .parked
  · rw [State.parkCh_of_parked h]
  · rw [State.parkCh_chan_other h hd]
    split <;> rfl

/-! ### Silence of the link -/

theorem State.linkSilence_on (hpd : s.pdOn = true) (hunits : s.pd.units = true) :
    s.linkSilence = { s.pdPark allMask with link := { s.link with goodDown := 0 } } := by
  have hlink := congrArg State.link (State.pdPark_besidePdChans (s := s) allMask)
  unfold State.linkSilence
  rw [if_pos (by rw [hpd, hunits]; rfl)]
  exact congrArg (fun l : Link => { s.pdPark allMask with link := { l with goodDown := 0 } }) hlink

/-- Every present channel parks (R35). -/
theorem exec_linkSilence {i : Instr} (hi : i = .downlinkSilence ∨ i = .linkSilenceRcCount) (hpd : s.pdOn = true)
    (hunits : s.pd.units = true) :
    ∃ t : State, exec i s = .next t ∧ t = { s with pd := t.pd, link := { s.link with goodDown := 0 } } ∧
      t.pd = { s.pd with chans := t.pd.chans } ∧
      ∀ c, t.pdChan c = if s.hasCh c = true then (s.pdChan c).enterPark (s.pdPar Pid.BANK_PARK_HOLD (bankOf c).val) else s.pdChan c := by
  have hexec : exec i s = .next { s.pdPark allMask with link := { s.link with goodDown := 0 } } := by
    rw [← State.linkSilence_on hpd hunits]
    rcases hi with rfl | rfl <;> rfl
  obtain ⟨hstate, hdie⟩ := State.eq_of_besidePdChans (State.pdPark_besidePdChans (s := s) allMask)
  refine ⟨_, hexec, congrArg (fun t : State => { t with link := { s.link with goodDown := 0 } }) hstate, hdie, fun c => ?_⟩
  have hchan := s.pdPark_pdChan allMask c
  simp only [maskBit_allMask, hpd, hunits, and_true, true_and] at hchan
  exact hchan

/-! ### The uplink is lost -/

/-- The present channels that are not in PARKED yet (R36). -/
def State.unparked (s : State) : BitVec 24 := maskWhere fun c => s.hasCh c && (s.chan c).state != .parked

/-- They park with cause 1 (R36). -/
@[irreducible] def State.allParked (s : State) : State := s.forAll (maskChs s.unparked) fun c t => t.parkCh c 1

theorem mem_unparked {c : Ch} : c ∈ maskChs s.unparked ↔ s.hasCh c = true ∧ (s.chan c).state ≠ .parked := by
  rw [mem_maskChs, State.unparked, maskBit_maskWhere, Bool.and_eq_true, bne_iff_ne]

theorem State.allParked_chan_present {c : Ch} (hhas : s.hasCh c = true) (hstate : (s.chan c).state ≠ .parked) :
    let k := s.allParked.chan c
    k.state = .parked ∧ k.parkCause = 1 ∧ k.motion.vel = 0 := by
  unfold State.allParked
  refine State.forAll_turn (before := fun t => (t.chan c).state ≠ .parked)
    (after := fun t => (t.chan c).state = .parked ∧ (t.chan c).parkCause = 1 ∧ (t.chan c).motion.vel = 0)
    (mem_unparked.2 ⟨hhas, hstate⟩) (maskChs_nodup _) ?_ ?_ ?_ hstate
  · intro d _ hd t ht
    rw [State.parkCh_chan_kept hd.symm]
    exact ht
  · intro t ht
    rw [State.parkCh_chan_same ht]
    exact ⟨rfl, rfl, rfl⟩
  · intro d _ hd t ht
    rw [State.parkCh_chan_kept hd.symm]
    exact ht

/-- A channel that is absent, or in PARKED already, keeps its state. -/
theorem State.allParked_state_other {c : Ch} (h : s.hasCh c = false ∨ (s.chan c).state = .parked) :
    (s.allParked.chan c).state = (s.chan c).state := by
  unfold State.allParked
  refine State.forAll_invariant (P := fun t => (t.chan c).state = (s.chan c).state) (fun d hd t ht => ?_) rfl
  have hne : c ≠ d := by
    rintro rfl
    obtain ⟨hhas, hstate⟩ := mem_unparked.1 hd
    rcases h with h | h
    · exact absurd (hhas.symm.trans h) (by decide)
    · exact hstate h
  rw [State.parkCh_chan_kept hne]
  exact ht

/-- What no park of a channel changes. -/
def State.besidePark (s : State) : Link × PowerDie × Vector Fb 24 × Otp := (s.link, s.pd, s.fbs, s.otp)

theorem State.allParked_besidePark : s.allParked.besidePark = s.besidePark := by
  unfold State.allParked
  rw [State.forAll_keeps State.besidePark]
  intro c t
  rw [State.parkCh_frame]
  rfl

/-- PARK is ordered for all channels (R31). -/
theorem State.orderPark_all (htx : s.link.txOn = true) (c : Ch) : maskBit (s.orderPark allMask).link.park c = true := by
  have h : (s.orderPark allMask).link.park = s.link.park ||| allMask := by rw [State.orderPark, if_pos htx]
  rw [h, maskBit, BitVec.getLsbD_or]
  exact Bool.or_eq_true_iff.2 (.inr (maskBit_allMask c))

theorem State.uplinkLost_eq :
    s.uplinkLost =
      let t := ((s.allParked.orderPark allMask).raise 0x0408 0 (leBytes 4 s.unparked.toNat)).dropWrites
      { t with link := { t.link with lost := true, supervised := false, goodUp := 0, goodDown := 0 } } := by
  unfold State.allParked
  rfl

/-- The uplink is lost: parks, orders and dropped writes (R36, R493). -/
theorem State.uplinkLost_besideAnswer :
    s.uplinkLost.besideAnswer =
      ({ s.allParked.orderPark allMask with
        link := { (s.allParked.orderPark allMask).link with
          cfg := [], backlog := [], answers := false, lost := true, supervised := false, goodUp := 0, goodDown := 0 } } : State).besideAnswer := by
  have hdrop : ∀ t : State, t.dropWrites.besideAnswer =
      { t.besideAnswer with link := { t.link with cfg := [], backlog := [], answers := false } } := fun t =>
    State.abandonWaiting_besideAnswer
  rw [State.uplinkLost_eq]
  generalize s.allParked.orderPark allMask = u
  have h := hdrop (u.raise 0x0408 0 (leBytes 4 s.unparked.toNat))
  rw [State.raise_besideAnswer, State.raise_link] at h
  exact congrArg (fun b : BesideAnswer => { b with link := { b.link with lost := true, supervised := false, goodUp := 0, goodDown := 0 } }) h

/-- Settles O38: silence as the power die and as the control die finds it. -/
theorem lossOfTheLinkParksEveryChannel : Obligations.LossOfTheLinkParksEveryChannel := by
  unfold Obligations.LossOfTheLinkParksEveryChannel
  refine ⟨fun s i hi hpd hunits => ?_, fun s hhw htx hsup => ?_⟩
  case refine_1 =>
    obtain ⟨t, hexec, hstate, hdie, hchan⟩ := exec_linkSilence hi hpd hunits
    refine ⟨t, hexec, hstate, hdie, fun c => ?_⟩
    rw [hchan]
    refine ⟨fun hhas => ?_, fun hhas => ?_, ?_, fun hpark => ?_, fun hhas hpark hhold hoff => ?_⟩
    · rw [if_pos hhas]
      exact PdChan.enterPark_park ..
    · rw [if_neg (by simp [hhas])]
    · split
      · exact PdChan.enterPark_entry ..
      · rfl
    · rw [PdChan.enterPark_of_park hpark, ite_self]
    · rw [if_pos hhas]
      exact PdChan.enterPark_parkHold hpark hhold hoff
  case refine_2 =>
    have hexec : exec .uplinkLost s = .next s.uplinkLost := by
      simp only [exec, execUplinkLost, hhw, htx, hsup, Bool.and_self, if_true]
    have hrest := s.uplinkLost_besideAnswer
    have hpark := s.allParked_besidePark
    have hchan : ∀ c, s.uplinkLost.chan c = s.allParked.chan c := fun c => by
      have h := congrArg (fun b : BesideAnswer => b.chans[c]) hrest
      rw [State.orderPark_frame] at h
      exact h
    have hlink := congrArg BesideAnswer.link hrest
    generalize s.uplinkLost = t at *
    refine ⟨t, hexec, fun c hhas => ?_, fun c hhas hstate => ?_, fun c hhas => ?_, fun c => ?_, ?_⟩
    · rw [hchan]
      by_cases hstate : (s.chan c).state = .parked
      · exact (State.allParked_state_other (.inr hstate)).trans hstate
      · exact (State.allParked_chan_present hhas hstate).1
    · rw [hchan]
      exact (State.allParked_chan_present hhas hstate).2
    · rw [hchan]
      exact State.allParked_state_other (.inl hhas)
    · have htx' : s.allParked.link.txOn = true := (congrArg (fun b => b.1.txOn) hpark).trans htx
      exact (congrArg (fun l : Link => maskBit l.park c) hlink).trans (State.orderPark_all htx' c)
    · have hpd := congrArg BesideAnswer.pd hrest
      have hfbs := congrArg BesideAnswer.fbs hrest
      have hotp := congrArg BesideAnswer.otp hrest
      rw [State.orderPark_frame] at hpd hfbs hotp
      exact ⟨congrArg Link.goodUp hlink, congrArg Link.goodDown hlink, congrArg Link.cfg hlink, congrArg Link.backlog hlink,
        congrArg Link.answers hlink, congrArg Link.lost hlink, congrArg Link.supervised hlink, hpd.trans (congrArg (·.2.1) hpark),
        hfbs.trans (congrArg (·.2.2.1) hpark), hotp.trans (congrArg (·.2.2.2) hpark)⟩

end Sys2Proof.Machine
end

section
/-! The echo of a tag (R25, R493): its write is done, and the command that waited for it answers (R161, R350, R496). -/

namespace Sys2Proof.Machine

variable {s : State}

/-! ### An ENABLE that waited -/

/-- What turns that may come more than once lead to: every turn keeps the way there, the turn of one leads to the end, and every
turn keeps the end. -/
theorem State.forAll_reaches {α : Type} {xs : List α} {f : α → State → State} {way goal : State → Prop} {x : α} (hx : x ∈ xs)
    (hway : ∀ y t, way t → way (f y t)) (hturn : ∀ t, way t → goal (f x t)) (hgoal : ∀ y t, goal t → goal (f y t)) (hs : way s) :
    goal (s.forAll xs f) := by
  induction xs generalizing s with
  | nil => exact absurd hx List.not_mem_nil
  | cons y ys ih =>
    rcases List.mem_cons.1 hx with rfl | hx'
    · exact State.forAll_invariant (xs := ys) (fun z _ => hgoal z) (hturn s hs)
    · exact ih hx' (hway y s hs)

theorem State.beginEnable_chan_other (cs : List Ch) {c d : Ch} (h : d ≠ c) : (s.beginEnable cs c).chan d = s.chan d :=
  State.onChan_chan_other _ c d _ h

/-- The channel begins its Roll Call where it stands (R68, R107). -/
theorem State.beginEnable_chan_same (cs : List Ch) (c : Ch) :
    ((s.beginEnable cs c).chan c).inRollCall ∧ ((s.beginEnable cs c).chan c).motion.pos = (s.chan c).motion.pos := by
  unfold State.beginEnable
  dsimp only
  rw [State.onChan_chan_same]
  exact ⟨⟨rfl, rfl, rfl, rfl, rfl, rfl, rfl⟩, rfl⟩

theorem State.lateEnable_chan_other (cs : List Ch) {c d : Ch} (h : d ≠ c) : (s.lateEnable cs c).chan d = s.chan d := by
  unfold State.lateEnable
  split
  · exact State.beginEnable_chan_other cs h
  · rfl

/-- A channel on its way into Roll Call at a position: still in DISABLED, or there. -/
def Channel.entering (k : Channel) (pos : Int) : Prop := (k.state = .disabled ∨ k.inRollCall) ∧ k.motion.pos = pos

theorem State.lateEnable_chan_same (cs : List Ch) {c : Ch} {pos : Int} (h : (s.chan c).entering pos) :
    ((s.lateEnable cs c).chan c).inRollCall ∧ ((s.lateEnable cs c).chan c).motion.pos = pos := by
  obtain ⟨hstate, hpos⟩ := h
  unfold State.lateEnable
  split
  · obtain ⟨hcall, hsame⟩ := s.beginEnable_chan_same cs c
    exact ⟨hcall, hsame.trans hpos⟩
  · next hne => exact ⟨hstate.resolve_left fun e => hne (beq_iff_eq.2 e), hpos⟩

/-- Every channel that waited in DISABLED is in Roll Call (R161, R496). -/
theorem State.forAll_lateEnable {cs : List Ch} {c : Ch} (hc : c ∈ cs) (h : (s.chan c).state = .disabled) :
    ((s.forAll cs fun c t => t.lateEnable cs c).chan c).inRollCall ∧
      ((s.forAll cs fun c t => t.lateEnable cs c).chan c).motion.pos = (s.chan c).motion.pos := by
  have hturn : ∀ (d : Ch) (t : State), (t.chan c).entering (s.chan c).motion.pos →
      d = c ∨ (t.lateEnable cs d).chan c = t.chan c := fun d t _ => by
    by_cases hd : d = c
    · exact .inl hd
    · exact .inr (State.lateEnable_chan_other cs (Ne.symm hd))
  refine State.forAll_reaches (way := fun t => (t.chan c).entering (s.chan c).motion.pos)
    (goal := fun t => (t.chan c).inRollCall ∧ (t.chan c).motion.pos = (s.chan c).motion.pos) hc
    (fun d t ht => ?_) (fun t ht => State.lateEnable_chan_same cs ht) (fun d t ht => ?_) ⟨.inl h, rfl⟩
  · rcases hturn d t ht with rfl | hd
    · obtain ⟨hcall, hpos⟩ := State.lateEnable_chan_same cs ht
      exact ⟨.inr hcall, hpos⟩
    · rwa [hd]
  · rcases hturn d t ⟨.inr ht.1, ht.2⟩ with rfl | hd
    · exact State.lateEnable_chan_same cs ⟨.inr ht.1, ht.2⟩
    · rwa [hd]

/-- A state but for its channels and pairs. -/
def State.besidePairs (s : State) : State :=
  { s with chans := Vector.replicate 24 Channel.init, pairs := Vector.replicate 12 PairRecord.init }

theorem State.eq_of_besidePairs {t : State} (h : t.besidePairs = s.besidePairs) : t = { s with chans := t.chans, pairs := t.pairs } :=
  congrArg (fun x : State => { x with chans := t.chans, pairs := t.pairs }) h

theorem State.lateEnable_besidePairs (cs : List Ch) (c : Ch) : (s.lateEnable cs c).besidePairs = s.besidePairs := by
  unfold State.lateEnable
  split <;> rfl

/-! ### The answer to the host -/

theorem State.afterResponse_idle (htest : s.boot.testPending = false) (hentering : s.power.entering ≠ .asked) : s.afterResponse = s := by
  have h : s.testEclipse = s := by simp [State.testEclipse, htest]
  rw [State.afterResponse, h, State.armEntry, if_neg (by simpa using hentering)]

theorem State.postHeld_frame : s.postHeld = { s with mbx := s.postHeld.mbx } := by
  refine State.forAll_invariant (P := fun t => t = { s with mbx := t.mbx }) (fun e _ t ht => ?_) rfl
  conv_lhs => rw [ht]
  rfl

theorem State.postHeld_nil (h : s.mbx.held = []) : s.postHeld = s := by
  unfold State.postHeld
  rw [h]
  conv_rhs => rw [show s = { s with mbx := { s.mbx with held := s.mbx.held } } from rfl, h]
  rfl

/-- The host's command is over, and its response stands in window 2 (R350, R354). -/
def Mailbox.answered (m : Mailbox) (w : Waiting) : Mailbox :=
  { m with waiting := none, doneSeq := w.seq, responses := m.responses ++ [respRecord w.record w.seq w.result w.detail w.data] }

theorem State.released_frame (clears starts : List Ch) :
    s.released clears starts =
      { s with chans := (s.released clears starts).chans, pairs := (s.released clears starts).pairs
               mbx := { s.mbx with waiting := none } } := by
  refine State.eq_of_besidePairs (s := { s with mbx := { s.mbx with waiting := none } }) ?_
  unfold State.released
  rw [State.forAll_keeps State.besidePairs, State.forAll_keeps State.besidePairs]
  · exact fun _ _ => rfl
  · exact fun c t => State.lateEnable_besidePairs starts c

/-- A command of the host completes: its channels, its response, and the events that it caused (R350). -/
theorem State.complete_host {w : Waiting} (hvia : w.via = none) (htest : s.boot.testPending = false)
    (hentering : s.power.entering ≠ .asked) :
    s.complete w = ({ s.released w.clears w.starts with mbx := s.mbx.answered w } : State).postHeld := by
  have hframe := s.released_frame w.clears w.starts
  have hdone : s.complete w = ((s.released w.clears w.starts).answer w.via w.record w.seq w.result w.detail w.data).postHeld.afterResponse := rfl
  generalize s.released w.clears w.starts = u at hframe hdone
  have hanswer : u.answer w.via w.record w.seq w.result w.detail w.data = { u with mbx := s.mbx.answered w } := by
    rw [hframe, hvia]
    rfl
  have hboot : u.boot = s.boot := by rw [hframe]
  have hpower : u.power = s.power := by rw [hframe]
  rw [hdone, hanswer]
  apply State.afterResponse_idle <;> rw [State.postHeld_frame]
  · exact (congrArg Boot.testPending hboot).trans htest
  · exact fun h => hentering ((congrArg Power.entering hpower).symm.trans h)

/-! ### The echo -/

theorem Link.promote_idle {l : Link} (h : l.backlog = []) (n : Nat) (ts : List Byte) : l.promote n ts = (l, ts) := by
  cases n <;> simp [Link.promote, h]

theorem Link.echoed_backlog (l : Link) (t : Byte) : (l.echoed t).backlog = l.backlog := by
  unfold Link.echoed
  split <;> rfl

/-- The write of the tag is done (R25, R493), with no write in want of a tag. -/
def State.acked (s : State) (t : Byte) : State :=
  { s with
    link := s.link.echoed t
    mbx := { s.mbx with waiting := s.mbx.waiting.map fun w => { w with tags := w.tags.filter (· != t) } } }

theorem State.echo_eq (h : s.link.backlog = []) (t : Byte) : s.echo t = (s.acked t).tryComplete := by
  have hl : (s.link.echoed t).promote 255 [] = (s.link.echoed t, []) := Link.promote_idle (by rw [Link.echoed_backlog, h]) _ _
  simp only [State.echo, hl, List.append_nil]
  rfl

theorem exec_configTagEcho {t : Byte} (hhw : s.hwOn = true) (hack : s.pd.ack.contains t = true) (hbacklog : s.link.backlog = [])
    (ht : t ≠ 0) : exec (.configTagEcho t) s = .next (s.acked t).tryComplete := by
  rw [← State.echo_eq hbacklog]
  have hcond : (s.hwOn && t != 0 && s.pd.ack.contains t) = true := by rw [hhw, hack, bne_iff_ne.2 ht]; rfl
  exact congrArg Host.Outcome.next (if_pos hcond)

theorem State.tryComplete_none (h : s.mbx.waiting = none) : s.tryComplete = s := by
  unfold State.tryComplete
  rw [h]

theorem State.tryComplete_waits {w : Waiting} (h : s.mbx.waiting = some w) (htags : w.tags ≠ []) : s.tryComplete = s := by
  unfold State.tryComplete
  rw [h]
  exact if_neg (by simp [htags])

theorem State.tryComplete_done {w : Waiting} (h : s.mbx.waiting = some w) (htags : w.tags = []) (hbacklog : s.link.backlog = [])
    (hotp : s.sec.otpOp = 0) (hfw : s.fwOn = true) : s.tryComplete = s.complete w := by
  unfold State.tryComplete
  rw [h]
  exact if_pos (by simp [htags, hbacklog, hotp, hfw])

/-- The echo of the last tag that a command of the host waits for. -/
theorem exec_configTagEcho_last {w : Waiting} {t : Byte} (hhw : s.hwOn = true) (hack : s.pd.ack.contains t = true)
    (hbacklog : s.link.backlog = []) (ht : t ≠ 0) (hw : s.mbx.waiting = some w) (htags : w.tags.filter (· != t) = [])
    (hvia : w.via = none) (hfw : s.fwOn = true) (hotp : s.sec.otpOp = 0) (htest : s.boot.testPending = false)
    (hentering : s.power.entering ≠ .asked) :
    exec (.configTagEcho t) s =
      .next ({ (s.acked t).released w.clears w.starts with mbx := s.mbx.answered w } : State).postHeld := by
  have hwaits : (s.acked t).mbx.waiting = some { w with tags := w.tags.filter (· != t) } := congrArg (Option.map _) hw
  rw [exec_configTagEcho hhw hack hbacklog ht,
    State.tryComplete_done hwaits htags ((Link.echoed_backlog s.link t).trans hbacklog) hotp hfw,
    State.complete_host (s := s.acked t) (w := { w with tags := w.tags.filter (· != t) }) hvia htest hentering]
  rfl

/-- Settles O33: one clause for each thing that can wait for the echo. -/
theorem tagEchoEndsItsWrite : Obligations.TagEchoEndsItsWrite := by
  unfold Obligations.TagEchoEndsItsWrite
  intro s t hhw hack hbacklog ht l
  have hexec := exec_configTagEcho hhw hack hbacklog ht
  refine ⟨fun hw => ?_, fun w hw htags => ?_, fun w hw htags hvia hclears hstarts hfw hotp htest hentering => ?_,
    fun w c hw htags hvia hclears hstarts hfw hotp htest hentering => ?_,
    fun w hw htags hvia hclears hfw hotp htest hentering hheld hstate => ?_⟩
  · have hacked : s.acked t = { s with link := l } := by
      rw [State.acked, hw]
      exact congrArg (fun x => ({ s with link := l, mbx := { s.mbx with waiting := x } } : State)) hw.symm
    rw [hexec, hacked, State.tryComplete_none (s := { s with link := l }) hw]
  · have hwaits : (s.acked t).mbx.waiting = some { w with tags := w.tags.filter (· != t) } := congrArg (Option.map _) hw
    rw [hexec, State.tryComplete_waits hwaits htags, State.acked, hw]
    rfl
  · rw [exec_configTagEcho_last hhw hack hbacklog ht hw htags hvia hfw hotp htest hentering, hclears, hstarts]
    rfl
  · rw [exec_configTagEcho_last hhw hack hbacklog ht hw htags hvia hfw hotp htest hentering, hclears, hstarts]
    rfl
  · have hframe := (s.acked t).released_frame w.clears w.starts
    have hchan : ∀ c, ((s.acked t).released w.clears w.starts).chan c =
        (({ s.acked t with mbx := { (s.acked t).mbx with waiting := none } } : State).forAll w.starts fun c u =>
          u.lateEnable w.starts c).chan c := fun c => by
      rw [hclears]
      rfl
    have hnext := exec_configTagEcho_last hhw hack hbacklog ht hw htags hvia hfw hotp htest hentering
    generalize (s.acked t).released w.clears w.starts = u at hframe hchan hnext
    rw [State.postHeld_nil (s := { u with mbx := s.mbx.answered w }) hheld] at hnext
    refine ⟨_, hnext, congrArg (fun x : State => { x with mbx := s.mbx.answered w }) hframe, fun c hc => ?_, fun c hc => ?_⟩
    · obtain ⟨hcall, hpos⟩ := State.forAll_lateEnable (s := { s.acked t with mbx := { (s.acked t).mbx with waiting := none } }) hc (hstate c hc)
      rw [← hchan] at hcall hpos
      exact ⟨hcall, hpos⟩
    · refine (hchan c).trans ?_
      exact State.forAll_unit_other (fun c t => t.chan c) (key := id) (fun _ _ _ h => State.lateEnable_chan_other _ h) fun x hx e => hc (e ▸ hx)

end Sys2Proof.Machine
end

section
/-! Modulator slots and results (R27, R28, R235 to R237, R244, R252, R255, R256, R268). -/

namespace Sys2Proof.Machine

variable {s : State}

/-! ### A list of pulses -/

/-- A state but for its active pulse sources. -/
def State.besidePulses (s : State) : State := { s with pulses := [] }

theorem State.eq_of_besidePulses {t : State} (h : t.besidePulses = s.besidePulses) : t = { s with pulses := t.pulses } :=
  congrArg (fun x : State => { x with pulses := t.pulses }) h

theorem State.pulse_besidePulses (n : Nat) : (s.pulse n).besidePulses = s.besidePulses := by
  rw [State.pulse_frame]
  rfl

/-- Every running modulator asserts DATA_LOST (R252). -/
def State.assertLost (s : State) (ms : List ModIx) : State :=
  s.forAll ms fun m t => if (t.modu m).running then t.pulse (912 + 4 * m.val + 2) else t

theorem State.assertLost_besidePulses (ms : List ModIx) : (s.assertLost ms).besidePulses = s.besidePulses := by
  unfold State.assertLost
  rw [State.forAll_keeps State.besidePulses]
  intro m t
  split
  · exact t.pulse_besidePulses _
  · rfl

theorem State.assertLost_pulses {ms : List ModIx} {m : ModIx} (hm : m ∈ ms) (hrun : (s.modu m).running = true) :
    (s.assertLost ms).pulses.contains (912 + 4 * m.val + 2) = true := by
  refine State.forAll_reaches (way := fun t => t.besidePulses = s.besidePulses)
    (goal := fun t => t.pulses.contains (912 + 4 * m.val + 2) = true) hm (fun d t ht => ?_) (fun t ht => ?_) (fun d t ht => ?_) rfl
  · split
    · exact (t.pulse_besidePulses _).trans ht
    · exact ht
  · have hsame : (t.modu m).running = true := (congrArg (fun x : State => (x.modu m).running) ht).trans hrun
    rw [if_pos hsame]
    exact t.pulse_active _
  · split
    · exact t.pulse_keeps _ _ ht
    · exact ht

/-! ### One bit at a decimator -/

section
variable {m : ModIx} {clk leave : Nat} {b : Bool} {k : Modulator} {sum : Int}

theorem State.decimate_resting (h : k.inPass = false ∨ k.ended = true) : s.decimate m clk leave b k = k :=
  if_pos (by rcases h with h | h <;> simp [h])

theorem State.decimate_settling (hpass : k.inPass = true) (hended : k.ended = false) (hwait : 0 < k.wait) :
    s.decimate m clk leave b k = { k with wait := k.wait - 1 } := by
  simp [State.decimate, hpass, hended, hwait]

/-- A bit that the filter takes (R235). -/
theorem State.decimate_taken (hpass : k.inPass = true) (hended : k.ended = false) (hwait : k.wait = 0) {sinc : Sinc}
    (htake : k.sinc.take (s.ePar (k.source m) k.entry Pid.ADC_E_RATIO).toNat b = (sinc, none)) :
    s.decimate m clk leave b k = { k with sinc := sinc } := by
  simp [State.decimate, hpass, hended, hwait, htake]

/-- A bit with which the filter gives a result (R235). -/
theorem State.decimate_gives (hpass : k.inPass = true) (hended : k.ended = false) (hwait : k.wait = 0) {sinc : Sinc}
    (htake : k.sinc.take (s.ePar (k.source m) k.entry Pid.ADC_E_RATIO).toNat b = (sinc, some sum)) :
    s.decimate m clk leave b k = s.converted m clk leave sum { k with sinc := sinc } := by
  simp [State.decimate, hpass, hended, hwait, htake]

theorem State.converted_discarded (h : k.discard = true) : s.converted m clk leave sum k = { k with discard := false } := if_pos h

/-- The number of results that the entry in progress gives (R244). -/
def State.entryCount (s : State) (m : ModIx) (k : Modulator) : Nat := (s.ePar (k.source m) k.entry Pid.ADC_E_COUNT).toNat

/-- A result is on its way, and with `final` it is the last of its entry: the next entry begins, or the pass has its last bit. -/
theorem State.converted_kept (hdiscard : k.discard = false) {final more : Bool}
    (hfinal : (s.entryCount m k != 0 && decide (s.entryCount m k ≤ k.done + 1)) = final)
    (hmore : decide (k.entry + 1 < s.parN Pid.ADC_TABLE_LEN (k.source m).val) = more) :
    s.converted m clk leave sum k =
      let k' := { k with out := k.out ++ [⟨k.entry, entryIx (k.source m) k.entry, sum, clk, leave, final && !(final && more)⟩] }
      if final && more then s.beginEntry m (k.entry + 1) 0 k' else { k' with done := k.done + 1, ended := final } := by
  subst hfinal hmore
  exact if_neg (by rw [hdiscard]; decide)

theorem State.converted_running (hdiscard : k.discard = false) (h : s.entryCount m k = 0 ∨ k.done + 1 < s.entryCount m k) :
    s.converted m clk leave sum k =
      { k with done := k.done + 1, ended := false
               out := k.out ++ [⟨k.entry, entryIx (k.source m) k.entry, sum, clk, leave, false⟩] } := by
  have hfinal : (s.entryCount m k != 0 && decide (s.entryCount m k ≤ k.done + 1)) = false := by
    rcases h with h | h
    · rw [h]
      rfl
    · rw [decide_eq_false (by omega), Bool.and_false]
  exact State.converted_kept hdiscard hfinal rfl

theorem State.entryCount_reached (hn : s.entryCount m k ≠ 0) (hdone : s.entryCount m k ≤ k.done + 1) :
    (s.entryCount m k != 0 && decide (s.entryCount m k ≤ k.done + 1)) = true := by
  rw [bne_iff_ne.2 hn, decide_eq_true hdone]
  rfl

theorem State.converted_last (hdiscard : k.discard = false) (hn : s.entryCount m k ≠ 0) (hdone : s.entryCount m k ≤ k.done + 1)
    (hend : s.parN Pid.ADC_TABLE_LEN (k.source m).val ≤ k.entry + 1) :
    s.converted m clk leave sum k =
      { k with done := k.done + 1, ended := true
               out := k.out ++ [⟨k.entry, entryIx (k.source m) k.entry, sum, clk, leave, true⟩] } :=
  State.converted_kept hdiscard (State.entryCount_reached hn hdone) (decide_eq_false (Nat.not_lt.2 hend))

theorem State.converted_next (hdiscard : k.discard = false) (hn : s.entryCount m k ≠ 0) (hdone : s.entryCount m k ≤ k.done + 1)
    (hmore : k.entry + 1 < s.parN Pid.ADC_TABLE_LEN (k.source m).val) :
    s.converted m clk leave sum k =
      { k with entry := k.entry + 1, done := 0, ended := false
               wait := (s.ePar (k.source m) (k.entry + 1) Pid.ADC_E_SETTLE).toNat
               sinc := Sinc.init (s.ePar (k.source m) (k.entry + 1) Pid.ADC_E_ORDER).toNat
               out := k.out ++ [⟨k.entry, entryIx (k.source m) k.entry, sum, clk, leave, false⟩] } := by
  rw [State.converted_kept hdiscard (State.entryCount_reached hn hdone) (decide_eq_true hmore)]
  simp only [State.beginEntry, Nat.zero_add]
  rfl

theorem State.converted_run : (s.converted m clk leave sum k).running = k.running := by
  unfold State.converted
  dsimp only
  split
  · rfl
  · split <;> rfl

theorem State.decimate_run : (s.decimate m clk leave b k).running = k.running := by
  unfold State.decimate
  dsimp only
  split
  · rfl
  · split
    · rfl
    · split
      · rfl
      · exact State.converted_run

theorem Modulator.bit_run : (k.bit clk b).running = k.running := by
  simp only [Modulator.bit, apply_ite Modulator.running, ite_self]
end

/-- Five bits leave a run as it is. -/
theorem State.slotBits_run (m : ModIx) (bits : Nat) (k : Modulator) : (s.slotBits m bits k).running = k.running := by
  simp only [State.slotBits, List.range, List.range.loop, List.foldl_cons, List.foldl_nil, State.decimate_run, Modulator.bit_run]

/-! ### A modulator slot -/

/-- Five clocks pass, and the five bits of each running modulator reach its decimator (R27, R28, R252). -/
def State.slotTaken (s : State) (good : Bool) (bits : BitVec 80) : State :=
  { s with
    modClk := s.modClk + 5
    slotFc := s.fc
    lostClks := recent s.modClk (if good then s.lostClks else s.lostClks ++ [s.modClk])
    mods := s.mods.mapFinIdx fun i k h => if k.running then s.slotBits ⟨i, h⟩ (groupOf good bits ⟨i, h⟩) k else k }

theorem exec_modulatorSlot (bits : BitVec 80) (crc : Byte) (hhw : s.hwOn = true) :
    exec (.modulatorSlot bits crc) s =
      .next (if crc8Slot bits == crc.toNat then s.slotTaken true bits else (s.slotTaken false bits).assertLost (List.finRange 16)) := by
  simp only [exec, execModulatorSlot, hhw, if_true]
  split
  · next h => simp only [h]; rfl
  · next h => simp only [h]; rfl

theorem State.slotTaken_modu (good : Bool) (bits : BitVec 80) (m : ModIx) :
    (s.slotTaken good bits).modu m = if (s.modu m).running then s.slotBits m (groupOf good bits m) (s.modu m) else s.modu m := by
  exact Vector.getElem_mapFinIdx m.isLt

theorem State.slotTaken_run (good : Bool) (bits : BitVec 80) (m : ModIx) :
    ((s.slotTaken good bits).modu m).running = (s.modu m).running := by
  rw [State.slotTaken_modu]
  split
  · exact State.slotBits_run ..
  · rfl

/-! ### A result leaves -/

/-- A lost result changes the counts of its modulator and, where it is reported, the mailboxes (R252). -/
theorem State.lostResult_frame (m : ModIx) : s.lostResult m = { s with mods := (s.lostResult m).mods, mbx := (s.lostResult m).mbx } := by
  unfold State.lostResult State.reportLost
  dsimp only
  split
  · rfl
  · rw [State.raise_frame]
    rfl

theorem State.lostResult_modu_other {m d : ModIx} (h : d ≠ m) : (s.lostResult m).modu d = s.modu d := by
  unfold State.lostResult State.reportLost
  dsimp only
  split
  · exact State.onMod_modu_other _ m d _ h
  · rw [State.raise_modu, State.onMod_modu_other _ _ _ _ h, State.onMod_modu_other _ _ _ _ h]

theorem State.lostResult_modu_same (m : ModIx) :
    (s.lostResult m).modu m =
      { s.modu m with
        lost := min (2 ^ 32 - 1) ((s.modu m).lost + 1)
        lostNew := ((s.lostResult m).modu m).lostNew, lostLimited := ((s.lostResult m).modu m).lostLimited } := by
  unfold State.lostResult State.reportLost
  dsimp only
  split
  · rw [State.onMod_modu_same]
    rfl
  · rw [State.raise_modu, State.onMod_modu_same, State.onMod_modu_same]
    rfl

/-- A result asserts its sources (R236, R251). -/
def State.resultPulsed (s : State) (m : ModIx) (ovr : Bool) : State :=
  let s1 := s.pulse (912 + 4 * m.val)
  if ovr then s1.pulse (912 + 4 * m.val + 1) else s1

theorem State.resultPulsed_besidePulses (m : ModIx) (ovr : Bool) : (s.resultPulsed m ovr).besidePulses = s.besidePulses := by
  cases ovr
  · exact s.pulse_besidePulses _
  · exact ((s.pulse _).pulse_besidePulses _).trans (s.pulse_besidePulses _)

theorem State.resultPulsed_active (m : ModIx) (ovr : Bool) : (s.resultPulsed m ovr).pulses.contains (912 + 4 * m.val) = true := by
  cases ovr
  · exact s.pulse_active _
  · exact State.pulse_keeps _ _ _ (s.pulse_active _)

theorem State.resultPulsed_modu (m : ModIx) (ovr : Bool) (d : ModIx) : (s.resultPulsed m ovr).modu d = s.modu d := by
  rw [State.eq_of_besidePulses (s.resultPulsed_besidePulses m ovr)]
  rfl

/-- A result leaves with its sources asserted, and one marked lost is counted (R252). -/
def State.marked (s : State) (m : ModIx) (ovr lost : Bool) : State :=
  if lost then (s.resultPulsed m ovr).lostResult m else s.resultPulsed m ovr

theorem State.marked_pulses (m : ModIx) (ovr lost : Bool) : (s.marked m ovr lost).pulses = (s.resultPulsed m ovr).pulses := by
  cases lost
  · rfl
  · rw [State.marked, if_pos rfl, State.lostResult_frame]

/-- A state but for its pulses, modulators and mailboxes. -/
def State.besideMarks (s : State) : State :=
  { s with pulses := [], mods := Vector.replicate 16 Modulator.init, mbx := Mailbox.init }

theorem State.eq_of_besideMarks {t : State} (h : t.besideMarks = s.besideMarks) :
    t = { s with pulses := t.pulses, mods := t.mods, mbx := t.mbx } :=
  congrArg (fun x : State => { x with pulses := t.pulses, mods := t.mods, mbx := t.mbx }) h

theorem State.marked_besideMarks (m : ModIx) (ovr lost : Bool) : (s.marked m ovr lost).besideMarks = s.besideMarks := by
  have hpulsed : (s.resultPulsed m ovr).besideMarks = s.besideMarks := by
    rw [State.eq_of_besidePulses (s.resultPulsed_besidePulses m ovr)]
    rfl
  cases lost
  · exact hpulsed
  · rw [State.marked, if_pos rfl, State.lostResult_frame]
    exact hpulsed

/-- A result that is not lost reports nothing. -/
theorem State.marked_good (m : ModIx) (ovr : Bool) : (s.marked m ovr false).mbx = s.mbx := by
  have h := congrArg State.mbx (s.resultPulsed_besidePulses m ovr)
  exact h

theorem State.marked_modu_other {m d : ModIx} (h : d ≠ m) (ovr lost : Bool) : (s.marked m ovr lost).modu d = s.modu d := by
  cases lost
  · exact s.resultPulsed_modu m ovr d
  · exact (State.lostResult_modu_other h).trans (s.resultPulsed_modu m ovr d)

/-- Marking touches the counts of its modulator alone. -/
theorem State.marked_modu_same (m : ModIx) (ovr lost : Bool) :
    ((s.marked m ovr lost).modu m).out = (s.modu m).out ∧ ((s.marked m ovr lost).modu m).entry = (s.modu m).entry ∧
      ((s.marked m ovr lost).modu m).inPass = (s.modu m).inPass ∧
      (lost = true → ((s.marked m ovr lost).modu m).lost = min (2 ^ 32 - 1) ((s.modu m).lost + 1)) := by
  have hpulsed := s.resultPulsed_modu m ovr m
  cases lost
  · have hmod : (s.marked m ovr false).modu m = s.modu m := hpulsed
    rw [hmod]
    exact ⟨rfl, rfl, rfl, fun h => absurd h (by decide)⟩
  · have h := (s.resultPulsed m ovr).lostResult_modu_same m
    rw [hpulsed] at h
    simp only [State.marked, if_true]
    rw [h]
    exact ⟨rfl, rfl, rfl, fun _ => rfl⟩

/-- Everything that a result of a code goes to (R236, R254, R256, R268). -/
def State.delivered (s : State) (into own : EntryIx) (trimmed : Int) (first : Nat) (x : ResultIn) : State :=
  ((s.feedGb 1 into.val x.code x.ovr x.lost).toFilters into x).onEntry own fun e =>
    { e with cal := e.cal.map fun c => c.take trimmed x.ovr first }

theorem State.toFilters_flt (i : EntryIx) (x : ResultIn) (f : FltIx) :
    (s.toFilters i x).flt f =
      if (s.flt f).running = true ∧ s.parN Pid.FLT_SOURCE f.val = i.val then (s.flt f).take x else s.flt f := by
  unfold State.toFilters State.flt
  simp only [Fin.getElem_fin, Vector.getElem_mapFinIdx, Bool.and_eq_true, beq_iff_eq]

theorem State.feedGb_gb (kind ix : Nat) (code : Int) (ovr lost : Bool) (g : EntryIx) :
    (s.feedGb kind ix code ovr lost).gb g =
      (s.gb g).feed (s.parN Pid.GB_WINDOW g.val) (s.parN Pid.GB_SOURCE g.val) (feeder kind ix) s.time code ovr lost := by
  unfold State.feedGb State.gb
  simp only [Fin.getElem_fin, Vector.getElem_ofFn]

theorem State.feedGb_frame (kind ix : Nat) (code : Int) (ovr lost : Bool) :
    s.feedGb kind ix code ovr lost = { s with gbs := (s.feedGb kind ix code ovr lost).gbs } := rfl

section
variable (into own : EntryIx) (trimmed : Int) (first : Nat) (x : ResultIn)

theorem State.delivered_frame :
    s.delivered into own trimmed first x =
      { s with
        gbs := (s.feedGb 1 into.val x.code x.ovr x.lost).gbs, flts := (s.toFilters into x).flts
        entries := upd s.entries own fun e => { e with cal := e.cal.map fun c => c.take trimmed x.ovr first } } := by
  unfold State.delivered
  rw [State.feedGb_frame]
  generalize (s.feedGb 1 into.val x.code x.ovr x.lost).gbs = gbs
  rfl

theorem State.delivered_flt (f : FltIx) :
    (s.delivered into own trimmed first x).flt f =
      if (s.flt f).running = true ∧ s.parN Pid.FLT_SOURCE f.val = into.val then (s.flt f).take x else s.flt f := by
  rw [State.delivered_frame, ← State.toFilters_flt]
  rfl

theorem State.delivered_gb (g : EntryIx) :
    (s.delivered into own trimmed first x).gb g =
      (s.gb g).feed (s.parN Pid.GB_WINDOW g.val) (s.parN Pid.GB_SOURCE g.val) (feeder 1 into.val) s.time x.code x.ovr x.lost := by
  rw [State.delivered_frame, ← State.feedGb_gb]
  rfl

theorem State.delivered_entry_other {e : EntryIx} (h : e ≠ own) :
    (s.delivered into own trimmed first x).entries[e] = s.entries[e] := by
  rw [State.delivered_frame, upd_get, if_neg h]
end

theorem exec_conversionResult_empty {m : ModIx} (h : (s.modu m).out = []) (sum : Int) (clk : Nat) :
    exec (.conversionResult m sum clk) s = .next s := by
  simp only [exec, execConversionResult, h, ite_self]

theorem exec_conversionResult_not_yet {m : ModIx} {r : ConvOut} {rest : List ConvOut} (h : (s.modu m).out = r :: rest) {sum : Int} {clk : Nat}
    (hnot : s.fc < r.leave ∨ sum ≠ r.sum ∨ clk ≠ r.lastClk) : exec (.conversionResult m sum clk) s = .next s := by
  have hearly : (decide (s.fc < r.leave) || r.sum != sum || r.lastClk != clk) = true := by
    rcases hnot with h | h | h
    · simp [h]
    · simp [Ne.symm h]
    · simp [Ne.symm h]
  simp only [exec, execConversionResult, h, hearly, if_true, ite_self]

/-- The oldest result on its way leaves (R236), and the last one of a pass ends it. -/
theorem exec_conversionResult_leaves {m : ModIx} {r : ConvOut} {rest : List ConvOut} (hhw : s.hwOn = true)
    (h : (s.modu m).out = r :: rest) (hdue : r.leave ≤ s.fc) :
    exec (.conversionResult m r.sum r.lastClk) s =
      .next (let t := (s.onMod m fun k => { k with out := rest }).result m r
        if r.last && (t.modu m).inPass then t.endPass m else t) := by
  have hready : (decide (s.fc < r.leave) || r.sum != r.sum || r.lastClk != r.lastClk) = false := by
    simp [hdue]
  simp only [exec, execConversionResult, hhw, h, hready, Bool.not_true, Bool.false_eq_true, if_false]

theorem State.endPass_frame (m : ModIx) : s.endPass m = { s with mods := (s.endPass m).mods, pulses := (s.endPass m).pulses } := by
  unfold State.endPass
  rw [State.pulse_frame]
  rfl

theorem State.endPass_modu (m d : ModIx) :
    (s.endPass m).modu d = if d = m then
      { s.modu m with
        entry := 0, done := 0, ended := false, inPass := false, powered := !s.parB Pid.ADC_POWER_DOWN m.val
        due := ((s.endPass m).modu m).due } else s.modu d := by
  have hmod : ∀ f d, ((s.onMod m f).pulse (912 + 4 * m.val + 3)).modu d = (s.onMod m f).modu d := fun f d => by
    rw [State.pulse_frame]
    rfl
  unfold State.endPass
  simp only [hmod, State.onMod_modu, if_true]
  split
  · next hd => rw [hd]
  · rfl

theorem State.endPass_active (m : ModIx) : (s.endPass m).pulses.contains (912 + 4 * m.val + 3) = true := State.pulse_active ..

theorem State.endPass_keeps (m : ModIx) (n : Nat) (h : s.pulses.contains n = true) : (s.endPass m).pulses.contains n = true :=
  State.pulse_keeps _ _ _ h

/-! ### The first edges of lost groups -/

theorem mem_recent {now x : Nat} {l : List Nat} : x ∈ recent now l ↔ x ∈ l ∧ now < x + 1400000 := by
  simp [recent]

theorem mem_recent_now (now : Nat) (l : List Nat) : now ∈ recent now (l ++ [now]) := mem_recent.2 ⟨by simp, by omega⟩

theorem State.slotTaken_frame (good : Bool) (bits : BitVec 80) :
    s.slotTaken good bits =
      { s with
        modClk := s.modClk + 5, slotFc := s.fc, lostClks := (s.slotTaken good bits).lostClks
        mods := (s.slotTaken good bits).mods, pulses := (s.slotTaken good bits).pulses } := rfl

theorem State.slotTaken_modu_running {m : ModIx} (h : (s.modu m).running = true) (good : Bool) (bits : BitVec 80) :
    (s.slotTaken good bits).modu m = s.slotBits m (groupOf good bits m) (s.modu m) := by
  rw [State.slotTaken_modu, if_pos h]

theorem State.slotTaken_modu_stopped {m : ModIx} (h : (s.modu m).running = false) (good : Bool) (bits : BitVec 80) :
    (s.slotTaken good bits).modu m = s.modu m := by
  rw [State.slotTaken_modu, if_neg (by simp [h])]

/-- A good slot: nothing is lost. -/
theorem State.slotTaken_good (bits : BitVec 80) :
    (s.slotTaken true bits).pulses = s.pulses ∧ ∀ x, x ∈ (s.slotTaken true bits).lostClks → x ∈ s.lostClks :=
  ⟨rfl, fun _ hx => (mem_recent.1 hx).1⟩

theorem State.slotTaken_bad (bits : BitVec 80) : s.modClk ∈ (s.slotTaken false bits).lostClks :=
  mem_recent_now s.modClk s.lostClks

/-- A bad slot changes the pulse sources beside what any slot changes. -/
theorem State.slotLost_frame (bits : BitVec 80) (ms : List ModIx) :
    let t := (s.slotTaken false bits).assertLost ms
    t = { s with modClk := s.modClk + 5, slotFc := s.fc, lostClks := t.lostClks, mods := t.mods, pulses := t.pulses } ∧
      t.lostClks = (s.slotTaken false bits).lostClks ∧ ∀ m, t.modu m = (s.slotTaken false bits).modu m := by
  have hlost := State.eq_of_besidePulses ((s.slotTaken false bits).assertLost_besidePulses ms)
  have hslot := s.slotTaken_frame false bits
  generalize (s.slotTaken false bits).assertLost ms = t at hlost ⊢
  generalize s.slotTaken false bits = u at hlost hslot ⊢
  have hclks : t.lostClks = u.lostClks := by rw [hlost]
  have hmods : t.mods = u.mods := by rw [hlost]
  refine ⟨?_, hclks, fun m => by rw [hlost]; rfl⟩
  rw [hclks, hmods]
  exact hlost.trans (congrArg (fun x : State => { x with pulses := t.pulses }) hslot)

/-! ### A result, and what it leaves -/

/-- The state when a result has left and been delivered; the last one of the pass in progress ends it (R244, R248). -/
def State.resultLeft (s : State) (m : ModIx) (last : Bool) : State :=
  if last && (s.modu m).inPass then s.endPass m else s

theorem State.resultLeft_frame (m : ModIx) (last : Bool) :
    s.resultLeft m last = { s with mods := (s.resultLeft m last).mods, pulses := (s.resultLeft m last).pulses } := by
  unfold State.resultLeft
  split
  · exact s.endPass_frame m
  · rfl

theorem State.resultLeft_keeps (m : ModIx) (last : Bool) (n : Nat) (h : s.pulses.contains n = true) :
    (s.resultLeft m last).pulses.contains n = true := by
  unfold State.resultLeft
  split
  · exact s.endPass_keeps m n h
  · exact h

theorem State.resultLeft_modu_other {m d : ModIx} (h : d ≠ m) (last : Bool) : (s.resultLeft m last).modu d = s.modu d := by
  unfold State.resultLeft
  split
  · rw [State.endPass_modu, if_neg h]
  · rfl

theorem State.resultLeft_counts (m : ModIx) (last : Bool) :
    ((s.resultLeft m last).modu m).out = (s.modu m).out ∧ ((s.resultLeft m last).modu m).lost = (s.modu m).lost := by
  unfold State.resultLeft
  split
  · rw [State.endPass_modu, if_pos rfl]
    exact ⟨rfl, rfl⟩
  · exact ⟨rfl, rfl⟩

/-- The pass ends with its last result (R244). -/
theorem State.resultLeft_last {m : ModIx} {last : Bool} (hlast : last = true) (hpass : (s.modu m).inPass = true) :
    ((s.resultLeft m last).modu m).entry = 0 ∧ ((s.resultLeft m last).modu m).inPass = false ∧
      ((s.resultLeft m last).modu m).powered = (!s.parB Pid.ADC_POWER_DOWN m.val) ∧
      (s.resultLeft m last).pulses.contains (912 + 4 * m.val + 3) = true := by
  rw [State.resultLeft, if_pos (by rw [hlast, hpass]; rfl), State.endPass_modu, if_pos rfl]
  exact ⟨rfl, rfl, rfl, s.endPass_active m⟩

theorem State.resultLeft_runs_on {m : ModIx} {last : Bool} (h : last = false ∨ (s.modu m).inPass = false) :
    s.resultLeft m last = s := by
  rw [State.resultLeft, if_neg]
  rcases h with h | h <;> simp [h]

/-- A state with the parts of another that a result can change. -/
def State.withResult (s t : State) : State :=
  { s with mods := t.mods, entries := t.entries, gbs := t.gbs, flts := t.flts, pulses := t.pulses, mbx := t.mbx }

/-- Trim, calibration and marks of a result (R237, R251, R252, R255). -/
theorem State.result_eq (s : State) (m : ModIx) (r : ConvOut) :
    let src : ModIx := ⟨r.into.val / 16 % 16, Nat.mod_lt _ (by decide)⟩
    let set := fun id => (s.par id (entryIx src r.entry).val).toNat
    let trimmed := Config.factoryTrim m.val (set Pid.ADC_E_GAIN) (set Pid.ADC_E_ORDER) (set Pid.ADC_E_RATIO) r.sum
    let span := set Pid.ADC_E_ORDER * (set Pid.ADC_E_RATIO - 1) + 1
    let ovr := decide (105 * fullScale < 100 * |trimmed|) || (s.modu m).unstable.any fun a => meets a 68 r.lastClk span
    let lost := s.lostClks.any fun a => meets a 5 r.lastClk span
    s.result m r = (s.marked m ovr lost).delivered r.into (entryIx m r.entry) trimmed (r.lastClk + 1 - span)
      ⟨s.fc, s.calibrate (entryIx m r.entry) trimmed, ovr, lost⟩ := rfl

/-- What a result does, whatever its trim and its marks. -/
theorem State.resultLeft_delivered (m : ModIx) (rest : List ConvOut) (last ovr lost : Bool) (into own : EntryIx) (trimmed code : Int)
    (first : Nat) :
    let x : ResultIn := ⟨s.fc, code, ovr, lost⟩
    let t := (((s.onMod m fun k => { k with out := rest }).marked m ovr lost).delivered into own trimmed first x).resultLeft m last
    t = { s with mods := t.mods, entries := t.entries, gbs := t.gbs, flts := t.flts, pulses := t.pulses, mbx := t.mbx } ∧
      t.pulses.contains (912 + 4 * m.val) = true ∧ (lost = false → t.mbx = s.mbx) ∧
      (∀ d, d ≠ m → t.modu d = s.modu d) ∧ (∀ e, e ≠ own → t.entries[e] = s.entries[e]) ∧ (t.modu m).out = rest ∧
      (∀ f : FltIx, t.flt f =
        if (s.flt f).running = true ∧ s.parN Pid.FLT_SOURCE f.val = into.val then (s.flt f).take x else s.flt f) ∧
      (∀ g : EntryIx, t.gb g =
        (s.gb g).feed (s.parN Pid.GB_WINDOW g.val) (s.parN Pid.GB_SOURCE g.val) (16384 + into.val) s.time code ovr lost) ∧
      (lost = true → (t.modu m).lost = min (2 ^ 32 - 1) ((s.modu m).lost + 1)) ∧
      (last = true → (s.modu m).inPass = true → (t.modu m).entry = 0 ∧ (t.modu m).inPass = false ∧
        (t.modu m).powered = (!s.parB Pid.ADC_POWER_DOWN m.val) ∧ t.pulses.contains (912 + 4 * m.val + 3) = true) ∧
      ((last = false ∨ (s.modu m).inPass = false) →
        (t.modu m).entry = (s.modu m).entry ∧ (t.modu m).inPass = (s.modu m).inPass) := by
  intro x t
  -- the result marked
  have hu := State.eq_of_besideMarks (State.marked_besideMarks (s := s.onMod m fun k => { k with out := rest }) m ovr lost)
  have hpulse : ((s.onMod m fun k => { k with out := rest }).marked m ovr lost).pulses.contains (912 + 4 * m.val) = true := by
    rw [State.marked_pulses]
    exact State.resultPulsed_active m ovr
  have hmbx : lost = false → ((s.onMod m fun k => { k with out := rest }).marked m ovr lost).mbx = s.mbx := fun h => by
    rw [h, State.marked_good]
    rfl
  have hother : ∀ d, d ≠ m → ((s.onMod m fun k => { k with out := rest }).marked m ovr lost).modu d = s.modu d := fun d hd => by
    rw [State.marked_modu_other hd, State.onMod_modu_other _ _ _ _ hd]
  have hsame := State.marked_modu_same (s := s.onMod m fun k => { k with out := rest }) m ovr lost
  rw [State.onMod_modu_same] at hsame
  obtain ⟨hout, hentry, hpass, hlost⟩ := hsame
  generalize hu' : (s.onMod m fun k => { k with out := rest }).marked m ovr lost = u at hu hpulse hmbx hother hout hentry hpass hlost
  -- the result delivered
  have hd := u.delivered_frame into own trimmed first x
  have hdflt := u.delivered_flt into own trimmed first x
  have hdgb := u.delivered_gb into own trimmed first x
  have hdentry : ∀ e, e ≠ own → (u.delivered into own trimmed first x).entries[e] = u.entries[e] := fun e he =>
    State.delivered_entry_other into own trimmed first x he
  generalize hv : u.delivered into own trimmed first x = v at hd hdflt hdgb hdentry
  have ht : t = v.resultLeft m last := by rw [← hv, ← hu']
  clear_value t
  subst ht
  have hvmodu : ∀ d, v.modu d = u.modu d := fun d => by rw [hd]; rfl
  have hleft := v.resultLeft_frame m last
  obtain ⟨hkeptout, hkeptlost⟩ := v.resultLeft_counts m last
  have hflts : (v.resultLeft m last).flts = v.flts := by rw [hleft]
  have hgbs : (v.resultLeft m last).gbs = v.gbs := by rw [hleft]
  have hentries : (v.resultLeft m last).entries = v.entries := by rw [hleft]
  have hmbxs : (v.resultLeft m last).mbx = v.mbx := by rw [hleft]
  refine ⟨?_, ?_, fun h => ?_, fun d hne => ?_, fun e hne => ?_, ?_, fun f => ?_, fun g => ?_, fun h => ?_, fun hlast hin => ?_, fun h => ?_⟩
  · have hvu : ∀ o, v.withResult o = u.withResult o := fun o => by rw [hd]; rfl
    have hus : ∀ o, u.withResult o = s.withResult o := fun o => by rw [hu]; rfl
    calc v.resultLeft m last
      _ = v.withResult (v.resultLeft m last) := by
        conv_lhs => rw [hleft]
        rw [State.withResult, hentries, hgbs, hflts, hmbxs]
      _ = s.withResult (v.resultLeft m last) := (hvu _).trans (hus _)
  · exact v.resultLeft_keeps m last _ (by rw [hd]; exact hpulse)
  · rw [hleft, hd]
    exact hmbx h
  · rw [State.resultLeft_modu_other hne, hvmodu, hother d hne]
  · rw [hentries, hdentry e hne, hu]
    rfl
  · rw [hkeptout, hvmodu, hout]
  · have hflt : (v.resultLeft m last).flt f = v.flt f := by rw [hleft]; rfl
    rw [hflt, hdflt, hu]
    rfl
  · have hgb : (v.resultLeft m last).gb g = v.gb g := by rw [hleft]; rfl
    rw [hgb, hdgb, hu, feeder, Nat.one_mul]
    rfl
  · rw [hkeptlost, hvmodu, hlost h]
  · obtain ⟨h0, hover, hpowered, hsource⟩ := v.resultLeft_last hlast (by rw [hvmodu, hpass, hin])
    refine ⟨h0, hover, hpowered.trans ?_, hsource⟩
    rw [hd, hu]
    rfl
  · rw [State.resultLeft_runs_on (by rw [hvmodu, hpass]; exact h), hvmodu]
    exact ⟨hentry, hpass⟩

/-- Settles O36: the slot, the bit at its decimator, and the result that leaves. -/
theorem modulatorSlotsAndResultsFeedTheirUsers : Obligations.ModulatorSlotsAndResultsFeedTheirUsers := by
  unfold Obligations.ModulatorSlotsAndResultsFeedTheirUsers
  refine ⟨fun s bits crc hhw => ?_, fun s m clk leave b k => ?_, fun s m hhw => ?_⟩
  case refine_1 =>
    intro good
    have hgood : (crc8Slot bits == crc.toNat) = good := rfl
    rw [exec_modulatorSlot bits crc hhw, hgood]
    clear_value good
    cases good
    · obtain ⟨hframe, hclks, hmodu⟩ := s.slotLost_frame bits (List.finRange 16)
      have hpulse : ∀ m, (s.modu m).running = true →
          ((s.slotTaken false bits).assertLost (List.finRange 16)).pulses.contains (912 + 4 * m.val + 2) = true := fun m hrun =>
        State.assertLost_pulses (List.mem_finRange m) ((s.slotTaken_run false bits m).trans hrun)
      have hbad := s.slotTaken_bad bits
      have hstopped := fun m h => State.slotTaken_modu_stopped (s := s) (m := m) h false bits
      have hrunning := fun m h => State.slotTaken_modu_running (s := s) (m := m) h false bits
      rw [if_neg (by decide)]
      generalize (s.slotTaken false bits).assertLost (List.finRange 16) = t at *
      generalize s.slotTaken false bits = u at *
      exact ⟨t, rfl, hframe, fun h => absurd h (by decide), fun _ => ⟨hclks ▸ hbad, hpulse⟩,
        fun m hrun => (hmodu m).trans (hstopped m hrun), fun m hrun => (hmodu m).trans (hrunning m hrun)⟩
    · have hframe := s.slotTaken_frame true bits
      have hgood := s.slotTaken_good bits
      have hstopped := fun m h => State.slotTaken_modu_stopped (s := s) (m := m) h true bits
      have hrunning := fun m h => State.slotTaken_modu_running (s := s) (m := m) h true bits
      rw [if_pos rfl]
      generalize s.slotTaken true bits = t at *
      exact ⟨t, rfl, hframe, fun _ => hgood, fun h => absurd h (by decide), hstopped, hrunning⟩
  case refine_2 =>
    intro src n r
    have hgives : ∀ sum, k.inPass = true → k.ended = false → k.wait = 0 → r.2 = some sum →
        s.decimate m clk leave b k = s.converted m clk leave sum { k with sinc := r.1 } := fun sum hpass hended hwait hsum =>
      State.decimate_gives hpass hended hwait (Prod.ext rfl hsum)
    refine ⟨State.decimate_resting, State.decimate_settling,
      fun hpass hended hwait hnone => State.decimate_taken hpass hended hwait (Prod.ext rfl hnone),
      fun sum hpass hended hwait hsum hdiscard => ?_, fun sum hpass hended hwait hsum hdiscard hmore => ?_,
      fun sum hpass hended hwait hsum hdiscard hn hdone hend => ?_, fun sum hpass hended hwait hsum hdiscard hn hdone hmore => ?_⟩
    · rw [hgives sum hpass hended hwait hsum]
      exact State.converted_discarded hdiscard
    · rw [hgives sum hpass hended hwait hsum, hended]
      exact State.converted_running hdiscard hmore
    · rw [hgives sum hpass hended hwait hsum]
      exact State.converted_last hdiscard hn hdone hend
    · rw [hgives sum hpass hended hwait hsum, hended]
      exact State.converted_next hdiscard hn hdone hmore
  case refine_3 =>
    refine ⟨fun x y hout => exec_conversionResult_empty hout x y, fun r rest x y hout hnot => exec_conversionResult_not_yet hout hnot,
      fun r rest hout hdue => ?_⟩
    intro own src set trimmed span ovr lost code
    have hresult : (s.onMod m fun k => { k with out := rest }).result m r =
        ((s.onMod m fun k => { k with out := rest }).marked m ovr lost).delivered r.into own trimmed (r.lastClk + 1 - span)
          ⟨s.fc, code, ovr, lost⟩ := by
      have h := (s.onMod m fun k => { k with out := rest }).result_eq m r
      rw [State.onMod_modu_same] at h
      exact h
    rw [exec_conversionResult_leaves hhw hout hdue, hresult]
    have hleft := State.resultLeft_delivered (s := s) m rest r.last ovr lost r.into own trimmed code (r.lastClk + 1 - span)
    clear hresult
    clear_value code lost ovr trimmed own
    exact ⟨_, rfl, hleft⟩

end Sys2Proof.Machine
end

section
/-! The start and the centre of a bank's PWM period (R26, R29, R38 to R40, R143, R150, R191, R194). -/

namespace Sys2Proof.Machine

variable {s : State}

/-! ### One channel at a period start (R32, R40, R170) -/

section
variable {k : PdChan} {e : DutyEntry}

theorem PdChan.periodStart_of_park (h : k.park = true) (due : Option DutyEntry) (fc : Nat) : k.periodStart due fc = k := if_pos h

theorem PdChan.periodStart_of_hold (hpark : k.park = false) (hhold : 1 < k.hold) (due : Option DutyEntry) (fc : Nat) :
    k.periodStart due fc = { k with hold := k.hold - 1 } := by
  simp [PdChan.periodStart, hpark, hhold]

theorem PdChan.periodStart_none (fc : Nat) : (k.periodStart none fc).entry = k.entry := by
  unfold PdChan.periodStart
  split
  · rfl
  · split <;> rfl

/-- A channel not in park or on hold takes the entry that is due. -/
theorem PdChan.periodStart_some (hpark : k.park = false) (hhold : k.hold ≤ 1) (fc : Nat) :
    (k.periodStart (some e) fc).entry = e := by
  unfold PdChan.periodStart
  rw [if_neg (by simp [hpark]), if_neg (by omega)]
  dsimp only
  split
  · rfl
  · simp only [apply_ite PdChan.entry, ite_self]

/-- Park and hold keep the entry; the hold runs on outside park (R31, R32). -/
theorem PdChan.periodStart_kept (h : k.park = true ∨ 1 < k.hold) (due : Option DutyEntry) (fc : Nat) :
    (k.periodStart due fc).entry = k.entry ∧ (k.periodStart due fc).hold = k.hold - b2n !k.park := by
  cases hpark : k.park
  · have hhold : 1 < k.hold := h.resolve_left (by simp [hpark])
    rw [PdChan.periodStart_of_hold hpark hhold]
    exact ⟨rfl, rfl⟩
  · rw [PdChan.periodStart_of_park hpark]
    exact ⟨rfl, rfl⟩
end

/-! ### The shadow entries load (R40) -/

/-- A superframe of the store is eligible for the period that begins (R40). -/
def State.eligible (s : State) (b : BankIx) (load : Bool) (frame : Byte) (came : Nat) : Bool :=
  load && frame == BitVec.ofNat 8 (s.bank b).index && came + 120 ≤ s.fc

theorem State.eligible_iff {b : BankIx} {load : Bool} {frame : Byte} {came : Nat} :
    s.eligible b load frame came = true ↔ load = true ∧ frame = BitVec.ofNat 8 (s.bank b).index ∧ came + 120 ≤ s.fc := by
  simp [State.eligible, and_assoc]

/-- The newest superframe, or the one before it, is eligible. -/
def State.newDue (s : State) (b : BankIx) : Bool := s.eligible b (s.pdBank b).load (s.pdBank b).frame (s.pdBank b).came
def State.someDue (s : State) (b : BankIx) : Bool :=
  s.newDue b || s.eligible b (s.pdBank b).loadOld (s.pdBank b).frameOld (s.pdBank b).cameOld

/-- The entry of a channel that the bank's period start loads, if any. -/
def State.dueEntry (s : State) (b : BankIx) (p : PdChan) : Option DutyEntry :=
  if s.newDue b then some p.shadow else if s.someDue b then some p.shadowOld else none

/-- A bank with nothing to load misses a frame. -/
def State.noteMiss (s : State) (b : BankIx) : State :=
  if !s.someDue b then s.onPdBank b fun k => { k with missed := true } else s

/-- Every channel of the bank at its period start. -/
def State.loadEntries (s : State) (b : BankIx) : State :=
  (s.noteMiss b).forAll (bankChs b) fun c t => t.onPdChan c fun p => p.periodStart (s.dueEntry b p) s.fc

theorem State.noteMiss_besidePdUnits (b : BankIx) : (s.noteMiss b).besidePdUnits = s.besidePdUnits := by
  unfold State.noteMiss
  split <;> rfl

theorem State.noteMiss_pdChan (b : BankIx) (c : Ch) : (s.noteMiss b).pdChan c = s.pdChan c := by
  unfold State.noteMiss
  split <;> rfl

theorem State.noteMiss_missed (b : BankIx) :
    ((s.noteMiss b).pdBank b).missed = if s.someDue b then (s.pdBank b).missed else true := by
  unfold State.noteMiss
  cases s.someDue b
  · exact congrArg PdBank.missed (State.onPdBank_pdBank_same ..)
  · rfl

theorem State.loadBank_eq (b : BankIx) :
    s.loadBank b =
      if (s.pdBank b).ov || (s.pdBank b).uv then (s.loadEntries b).bankTurnOff b (s.pdBank b).uv else s.loadEntries b := by
  have hclock : s.loadEntries b =
      (s.noteMiss b).forAll (bankChs b) fun c t => t.onPdChan c fun p => p.periodStart (s.dueEntry b p) t.fc := by
    refine State.forAll_congr (P := fun t => t.fc = s.fc) (fun c t h => h) (fun c t h => by rw [h]) ?_
    have h := congrArg State.fc (s.noteMiss_besidePdUnits b)
    exact h
  rw [hclock]
  rfl

theorem State.loadEntries_besidePdUnits (b : BankIx) : (s.loadEntries b).besidePdUnits = s.besidePdUnits := by
  unfold State.loadEntries
  rw [State.forAll_keeps State.besidePdUnits]
  · exact s.noteMiss_besidePdUnits b
  · exact fun _ _ => rfl

theorem State.loadEntries_pdChan (b : BankIx) (c : Ch) :
    (s.loadEntries b).pdChan c =
      if bankOf c = b then (s.pdChan c).periodStart (s.dueEntry b (s.pdChan c)) s.fc else s.pdChan c := by
  unfold State.loadEntries
  rw [State.forAll_onPdChan (bankChs_nodup b), State.noteMiss_pdChan]
  simp only [mem_bankChs]

theorem State.loadEntries_pdBank (b i : BankIx) : (s.loadEntries b).pdBank i = (s.noteMiss b).pdBank i := by
  unfold State.loadEntries
  exact State.forAll_invariant (P := fun t => t.pdBank i = (s.noteMiss b).pdBank i) (fun _ _ _ h => h) rfl

/-! ### The shadow store loads, whatever VM counts -/

theorem State.bankTurnOff_besidePdChans (b : BankIx) (uv : Bool) : (s.bankTurnOff b uv).besidePdChans = s.besidePdChans := by
  unfold State.bankTurnOff
  rw [State.forAll_keeps State.besidePdChans]
  intro c t
  split <;> rfl

theorem State.bankTurnOff_pdChan_other {b : BankIx} {c : Ch} (h : bankOf c ≠ b) (uv : Bool) :
    (s.bankTurnOff b uv).pdChan c = s.pdChan c := by
  refine State.forAll_unit_other (fun c t => t.pdChan c) (key := id) (fun d t i hi => ?_) fun d hd e => h (e ▸ mem_bankChs.1 hd)
  split
  · exact State.onPdChan_pdChan_other _ _ _ _ hi
  · rfl

/-- A period start loads channels and notes a miss on the power die (R40). -/
theorem State.loadBank_besidePdUnits (b : BankIx) : (s.loadBank b).besidePdUnits = s.besidePdUnits := by
  rw [State.loadBank_eq]
  split
  · have h := congrArg State.besidePdUnits (State.bankTurnOff_besidePdChans (s := s.loadEntries b) b (s.pdBank b).uv)
    exact Eq.trans h (s.loadEntries_besidePdUnits b)
  · exact s.loadEntries_besidePdUnits b

theorem State.loadBank_pdChan_other {b : BankIx} {c : Ch} (h : bankOf c ≠ b) : (s.loadBank b).pdChan c = s.pdChan c := by
  have hload : (s.loadEntries b).pdChan c = s.pdChan c := by rw [State.loadEntries_pdChan, if_neg h]
  rw [State.loadBank_eq]
  split
  · exact (State.bankTurnOff_pdChan_other h _).trans hload
  · exact hload

theorem State.loadBank_quiet {b : BankIx} (hov : (s.pdBank b).ov = false) (huv : (s.pdBank b).uv = false) :
    s.loadBank b = s.loadEntries b := by
  rw [State.loadBank_eq, if_neg (by simp [hov, huv])]

/-! ### What the control die computes at a period start (R38, R39) -/

/-- A state but for its channels, mailboxes and, while the firmware runs, its link. -/
def State.besideControl (s : State) : State :=
  { s with chans := Vector.replicate 24 Channel.init, mbx := Mailbox.init, link := if s.fwOn then Link.init else s.link }

theorem State.raise_besideControl (code inst : Nat) (p : List Byte) : (s.raise code inst p).besideControl = s.besideControl := by
  rw [State.raise_frame]
  rfl

theorem State.followCheck_besideControl (c : Ch) : (s.followCheck c).besideControl = s.besideControl := by
  unfold State.followCheck
  dsimp only
  split
  · rfl
  · split
    · split
      · rfl
      · exact State.raise_besideControl ..
    · rfl

theorem State.collectKe_besideControl (c : Ch) : (s.collectKe c).besideControl = s.besideControl := by
  unfold State.collectKe
  split <;> rfl

theorem State.sendWrite_frame (k : CfgKind) : s.sendWrite k = { s with link := (s.sendWrite k).link } := by
  unfold State.sendWrite
  split <;> rfl

theorem State.dropSlice_besideControl (c : Ch) : (s.dropSlice c).besideControl = s.besideControl := by
  unfold State.dropSlice
  dsimp only
  split
  · next h =>
    have hfw : s.fwOn = true := by
      simp only [Bool.and_eq_true] at h
      exact h.1.2
    rw [State.sendWrite_frame]
    unfold State.besideControl
    have hfw' : ∀ l, ({ s.onChan c fun k => { k with slice := false } with link := l } : State).fwOn = true := fun _ => hfw
    rw [if_pos (hfw' _), if_pos hfw]
    rfl
  · rfl

theorem State.controlCh_besideControl (c : Ch) : (s.controlCh c).besideControl = s.besideControl := by
  unfold State.controlCh
  rw [State.dropSlice_besideControl, State.collectKe_besideControl]
  calc ((s.estimate c).followCheck c).besideControl
    _ = (s.estimate c).besideControl := State.followCheck_besideControl c
    _ = s.besideControl := rfl

/-- The end of a coil policy changes channels and the bank, not the bank's index. -/
theorem State.endPolicy_keeps {β : Type} (g : State → β) (hchan : ∀ c f (t : State), g (t.onChan c f) = g t) (b : BankIx)
    (hbank : ∀ t : State, g (t.onBank b fun k => { k with policyActive := false }) = g t) : g (s.endPolicy b) = g s := by
  unfold State.endPolicy
  dsimp only
  rw [State.forAll_keeps g fun c t => hchan c _ t]
  split
  · rw [State.forAll_keeps g fun c t => hchan c _ t]
    exact hbank s
  · rfl

/-- The set-points of a bank are computed (R38, R39): the link is touched while the firmware runs, LOAD and FRAME name the period. -/
theorem State.controlPeriod_bank (b : BankIx) :
    ((s.controlPeriod b).bank b).index = (s.bank b).index ∧ ((s.controlPeriod b).bank b).load = true ∧
      ((s.controlPeriod b).bank b).frame = BitVec.ofNat 8 (((s.controlPeriod b).bank b).index + 1) := by
  have hindex : (((s.endPolicy b).forAll (s.presentChs b) fun c t => t.controlCh c).bank b).index = (s.bank b).index := by
    have hcontrol : ∀ c (t : State), ((t.controlCh c).bank b).index = (t.bank b).index := fun c t => by
      have h := congrArg (fun x : State => (x.bank b).index) (t.controlCh_besideControl c)
      exact h
    rw [State.forAll_keeps (fun t : State => (t.bank b).index) hcontrol]
    refine State.endPolicy_keeps (fun t => (t.bank b).index) (fun _ _ _ => rfl) b fun t => ?_
    rw [State.onBank_bank_same]
  unfold State.controlPeriod
  rw [State.onBank_bank_same]
  exact ⟨hindex, rfl, rfl⟩

/-- A state but for its channels, banks, mailboxes and, while the firmware runs, its link. -/
def State.besideSetPoints (s : State) : State := { s.besideControl with banks := Vector.replicate 2 Bank.init }

theorem State.controlPeriod_besideSetPoints (b : BankIx) : (s.controlPeriod b).besideSetPoints = s.besideSetPoints := by
  have hcontrol : ∀ c (t : State), (t.controlCh c).besideSetPoints = t.besideSetPoints := fun c t =>
    congrArg (fun x : State => { x with banks := Vector.replicate 2 Bank.init }) (t.controlCh_besideControl c)
  have hlast : (s.controlPeriod b).besideSetPoints =
      ((s.endPolicy b).forAll (s.presentChs b) fun c t => t.controlCh c).besideSetPoints := rfl
  rw [hlast, State.forAll_keeps State.besideSetPoints hcontrol]
  exact State.endPolicy_keeps State.besideSetPoints (fun _ _ _ => rfl) b fun _ => rfl

/-! ### Serial frames that overrun (R192, R199) -/

/-- A state but for its feedback interfaces, pulses and mailboxes. -/
def State.besideFbs (s : State) : State := { s with fbs := Vector.replicate 24 Fb.init, pulses := [], mbx := Mailbox.init }

theorem State.fbReport_frame (c : Ch) (kind : Nat) :
    s.fbReport c kind = { s with fbs := (s.fbReport c kind).fbs, mbx := (s.fbReport c kind).mbx } := by
  unfold State.fbReport
  rw [State.raise_frame]
  rfl

theorem State.fbError_besideFbs (c : Ch) (kind : Nat) : (s.fbError c kind).besideFbs = s.besideFbs := by
  unfold State.fbError
  dsimp only
  split
  · rw [State.chPulse_frame]
    rfl
  · rw [State.fbReport_frame, State.chPulse_frame]
    rfl

theorem State.fbError_keeps (c : Ch) (kind n : Nat) (h : s.pulses.contains n = true) :
    (s.fbError c kind).pulses.contains n = true := by
  unfold State.fbError
  dsimp only
  split
  · exact State.pulse_keeps _ _ _ h
  · rw [State.fbReport_frame]
    exact State.pulse_keeps _ _ _ h

theorem State.fbPeriodStart_besideFbs (b : BankIx) : (s.fbPeriodStart b).besideFbs = s.besideFbs := by
  unfold State.fbPeriodStart
  rw [State.forAll_keeps State.besideFbs]
  intro c t
  split
  · exact State.fbError_besideFbs c 4
  · rfl

theorem State.fbPeriodStart_keeps (b : BankIx) (n : Nat) (h : s.pulses.contains n = true) :
    (s.fbPeriodStart b).pulses.contains n = true := by
  refine State.forAll_invariant (P := fun t => t.pulses.contains n = true) (fun c _ t ht => ?_) h
  split
  · exact State.fbError_keeps c 4 n ht
  · exact ht

/-! ### The period starts (R39) -/

/-- The period's index counts, and what the start signals and triggers (R26, R192, R246). -/
def State.beginPeriod (s : State) (b : BankIx) : State :=
  (((s.onBank b fun k => { k with index := (k.index + 1) % 65536 }).pulse (864 + 24 * b.val + 8)).countPwm b 1).fbPeriodStart b

theorem State.startPeriod_eq (b : BankIx) :
    s.startPeriod b =
      (if (s.beginPeriod b).pdOn && (s.beginPeriod b).pd.units then (s.beginPeriod b).loadBank b else s.beginPeriod b).controlPeriod b := rfl

/-- A state but for what the beginning of a period changes. -/
def State.besideBegin (s : State) : State := { s.besideFbs with banks := Vector.replicate 2 Bank.init, mods := Vector.replicate 16 Modulator.init }

theorem State.beginPeriod_besideBegin (b : BankIx) : (s.beginPeriod b).besideBegin = s.besideBegin := by
  have hfb := State.fbPeriodStart_besideFbs
    (s := ((s.onBank b fun k => { k with index := (k.index + 1) % 65536 }).pulse (864 + 24 * b.val + 8)).countPwm b 1) b
  have hbegin := congrArg (fun x : State => { x with banks := Vector.replicate 2 Bank.init, mods := Vector.replicate 16 Modulator.init }) hfb
  refine Eq.trans hbegin ?_
  rw [State.pulse_frame]
  rfl

theorem State.beginPeriod_index (b : BankIx) : ((s.beginPeriod b).bank b).index = ((s.bank b).index + 1) % 65536 := by
  have hfb := State.fbPeriodStart_besideFbs
    (s := ((s.onBank b fun k => { k with index := (k.index + 1) % 65536 }).pulse (864 + 24 * b.val + 8)).countPwm b 1) b
  have hindex := congrArg (fun x : State => (x.bank b).index) hfb
  refine Eq.trans hindex ?_
  rw [State.pulse_frame]
  exact congrArg Bank.index (State.onBank_bank_same ..)

theorem State.beginPeriod_pulse (b : BankIx) : (s.beginPeriod b).pulses.contains (864 + 24 * b.val + 8) = true :=
  State.fbPeriodStart_keeps b _ (State.pulse_active ..)

/-- What a period start keeps: OTP, the host port, the settings of the power die, and the link while no firmware runs. -/
def State.periodKept (s : State) : Otp × HostPort × List (Nat × Int) × Bool × Link :=
  (s.otp, s.hp, s.pd.config, s.fwOn, if s.fwOn then Link.init else s.link)

/-- The state that a period start leaves, from the one that the entries load in. -/
theorem State.startPeriod_parts (b : BankIx) :
    let u := s.beginPeriod b
    let v := if u.pdOn && u.pd.units then u.loadBank b else u
    let t := s.startPeriod b
    t.pd = v.pd ∧ t.periodKept = s.periodKept ∧ (t.bank b).index = (u.bank b).index ∧ (t.bank b).load = true ∧
      (t.bank b).frame = BitVec.ofNat 8 ((t.bank b).index + 1) ∧ t.pulses = u.pulses := by
  intro u v t
  have hbegin : u.besideBegin = s.besideBegin := s.beginPeriod_besideBegin b
  have hunits : v.besidePdUnits = u.besidePdUnits := by
    unfold v
    split
    · exact u.loadBank_besidePdUnits b
    · rfl
  have hset : t.besideSetPoints = v.besideSetPoints := v.controlPeriod_besideSetPoints b
  obtain ⟨hindex, hload, hframe⟩ := v.controlPeriod_bank b
  have ht : t = v.controlPeriod b := s.startPeriod_eq b
  rw [← ht] at hindex hload hframe
  clear_value t v u
  have hkept : u.periodKept = s.periodKept := by have h := congrArg State.periodKept hbegin; exact h
  have hkept' : v.periodKept = u.periodKept := by have h := congrArg State.periodKept hunits; exact h
  have hkept'' : t.periodKept = v.periodKept := by
    have h := congrArg (fun x : State => (x.otp, x.hp, x.pd.config, x.fwOn, x.link)) hset
    exact h
  have hbank : (v.bank b).index = (u.bank b).index := by
    have h := congrArg (fun x : State => (x.bank b).index) hunits
    exact h
  have hpulses : v.pulses = u.pulses := by have h := congrArg State.pulses hunits; exact h
  have hpulses' : t.pulses = v.pulses := by have h := congrArg State.pulses hset; exact h
  have hpd : t.pd = v.pd := by have h := congrArg State.pd hset; exact h
  exact ⟨hpd, (hkept''.trans hkept').trans hkept, hindex.trans hbank, hload, hframe, hpulses'.trans hpulses⟩

theorem exec_periodStart (b : BankIx) (hhw : s.hwOn = true) : exec (.periodStart b) s = .next (s.startPeriod b) := by
  simp only [exec, execPeriodStart, hhw, if_true]

/-- The superframes that are eligible for the period that begins (R40). -/
theorem State.beginPeriod_due (b : BankIx) :
    (s.beginPeriod b).pd = s.pd ∧ (s.beginPeriod b).pdOn = s.pdOn ∧
      ∀ load frame came, (s.beginPeriod b).eligible b load frame came = true ↔
        load = true ∧ frame = BitVec.ofNat 8 (((s.bank b).index + 1) % 65536) ∧ came + 120 ≤ s.fc := by
  have hbegin := s.beginPeriod_besideBegin b
  have hindex := s.beginPeriod_index b
  generalize s.beginPeriod b = u at hbegin hindex ⊢
  have hfc : u.fc = s.fc := by have h := congrArg State.fc hbegin; exact h
  have hpd : u.pd = s.pd := by have h := congrArg State.pd hbegin; exact h
  have hon : u.pdOn = s.pdOn := by have h := congrArg State.pdOn hbegin; exact h
  refine ⟨hpd, hon, fun load frame came => ?_⟩
  rw [State.eligible_iff, hindex, hfc]

/-- The entries that a quiet bank loads at its period start (R40). -/
theorem State.startPeriod_loads {b : BankIx} (hpd : s.pdOn = true) (hunits : s.pd.units = true) (hov : (s.pdBank b).ov = false)
    (huv : (s.pdBank b).uv = false) :
    (∀ c, bankOf c = b →
      (s.startPeriod b).pdChan c = (s.pdChan c).periodStart ((s.beginPeriod b).dueEntry b (s.pdChan c)) (s.beginPeriod b).fc) ∧
    ((s.startPeriod b).pdBank b).missed = if (s.beginPeriod b).someDue b then (s.pdBank b).missed else true := by
  obtain ⟨hparts, -⟩ := s.startPeriod_parts b
  obtain ⟨hsame, hon, -⟩ := s.beginPeriod_due b
  rw [hon, hpd, hsame, hunits] at hparts
  have hchan : ∀ c, (s.beginPeriod b).pdChan c = s.pdChan c := fun c => congrArg (fun p : PowerDie => p.chans[c]) hsame
  have hbank : (s.beginPeriod b).pdBank b = s.pdBank b := congrArg (fun p : PowerDie => p.banks[b]) hsame
  have hquiet : (s.beginPeriod b).loadBank b = (s.beginPeriod b).loadEntries b :=
    State.loadBank_quiet ((congrArg PdBank.ov hbank).trans hov) ((congrArg PdBank.uv hbank).trans huv)
  rw [if_pos (by rfl), hquiet] at hparts
  refine ⟨fun c hc => ?_, ?_⟩
  · have h := (s.beginPeriod b).loadEntries_pdChan b c
    rw [if_pos hc, hchan] at h
    exact (congrArg (fun p : PowerDie => p.chans[c]) hparts).trans h
  · have h := (congrArg PdBank.missed ((s.beginPeriod b).loadEntries_pdBank b b)).trans (State.noteMiss_missed b)
    rw [hbank] at h
    exact (congrArg (fun p : PowerDie => p.banks[b].missed) hparts).trans h

/-- A period start leaves the channels of the other bank (R38). -/
theorem State.startPeriod_pdChan_other {b : BankIx} {c : Ch} (h : bankOf c ≠ b) : (s.startPeriod b).pdChan c = s.pdChan c := by
  obtain ⟨hparts, -⟩ := s.startPeriod_parts b
  obtain ⟨hsame, -⟩ := s.beginPeriod_due b
  have hload : ∀ u : State, (if u.pdOn && u.pd.units then u.loadBank b else u).pdChan c = u.pdChan c := fun u => by
    split
    · exact State.loadBank_pdChan_other h
    · rfl
  calc (s.startPeriod b).pdChan c
    _ = _ := congrArg (fun p : PowerDie => p.chans[c]) hparts
    _ = (s.beginPeriod b).pdChan c := hload _
    _ = s.pdChan c := congrArg (fun p : PowerDie => p.chans[c]) hsame

/-! ### The centre of a period (R29, R143, R150) -/

theorem PdChan.sample_eq (k : PdChan) (on : Bool) (codes : Int × Int) :
    k.sample on codes =
      { k with
        code1 := if on || k.entry.test || k.entry.listen then clamp (-2048) 2047 codes.1 else 0
        code2 := if on || k.entry.test || k.entry.listen then clamp (-2048) 2047 codes.2 else 0 } := by
  unfold PdChan.sample
  split <;> rfl

theorem PdChan.sample_gates (k : PdChan) (on : Bool) (codes : Int × Int) :
    (k.sample on codes).slice = k.slice ∧ (k.sample on codes).commandedOn = k.commandedOn := by
  rw [PdChan.sample_eq]
  exact ⟨rfl, rfl⟩

/-- A change that leaves a channel's slice and gates leaves every channel's FETs. -/
theorem State.onPdChan_fetsOn {f : PdChan → PdChan} (h : ∀ k, (f k).slice = k.slice ∧ (f k).commandedOn = k.commandedOn) (c d : Ch) :
    (s.onPdChan c f).fetsOn d = s.fetsOn d := by
  have hgates : ((s.onPdChan c f).pdChan d).slice = (s.pdChan d).slice ∧
      ((s.onPdChan c f).pdChan d).commandedOn = (s.pdChan d).commandedOn := by
    rw [State.onPdChan_pdChan]
    split
    · exact h _
    · exact ⟨rfl, rfl⟩
  unfold State.fetsOn State.drives
  rw [hgates.1, hgates.2]
  rfl

/-- The sampling reads the FETs of the channels as it finds them. -/
theorem State.sampleBank_eq (hpd : s.pdOn = true) (b : BankIx) (codes : List (Int × Int)) :
    s.sampleBank b codes =
      (s.forAll ((bankChs b).zip codes) fun p t => t.onPdChan p.1 fun k => k.sample (s.fetsOn p.1) p.2).onPdBank b fun k =>
        { k with sampleTag := BitVec.ofNat 8 (s.bank b).index } := by
  have hturns : (s.forAll ((bankChs b).zip codes) fun p t => t.onPdChan p.1 fun k => k.sample (t.fetsOn p.1) p.2) =
      s.forAll ((bankChs b).zip codes) fun p t => t.onPdChan p.1 fun k => k.sample (s.fetsOn p.1) p.2 := by
    refine State.forAll_congr (P := fun t => ∀ c, t.fetsOn c = s.fetsOn c) (fun p t h c => ?_) (fun p t h => by rw [h]) fun _ => rfl
    exact (State.onPdChan_fetsOn (fun k => k.sample_gates _ _) p.1 c).trans (h c)
  unfold State.sampleBank
  rw [if_pos hpd, hturns]

theorem bankChs_getElem (c : Ch) : (bankChs (bankOf c))[c.val % 12]? = some c := by
  revert c
  decide

/-- A channel of the bank is sampled with its own codes. -/
theorem mem_zip_codes {b : BankIx} {codes : List (Int × Int)} (hlen : codes.length = 12) {c : Ch} (hc : bankOf c = b) :
    (c, codes.getD (c.val % 12) (0, 0)) ∈ (bankChs b).zip codes := by
  have hlt : c.val % 12 < codes.length := by omega
  have hcode : codes[c.val % 12]? = some (codes.getD (c.val % 12) (0, 0)) := by
    rw [List.getD_eq_getElem?_getD, List.getElem?_eq_getElem hlt, Option.getD_some]
  refine List.mem_of_getElem? (i := c.val % 12) (List.getElem?_zip_eq_some.2 ⟨?_, hcode⟩)
  rw [← hc]
  exact bankChs_getElem c

theorem map_fst_zip_codes {codes : List (Int × Int)} (hlen : codes.length = 12) (b : BankIx) :
    ((bankChs b).zip codes).map Prod.fst = bankChs b := by
  refine List.map_fst_zip ?_
  rw [hlen]
  revert b
  decide

theorem State.sampleBank_pdChan (hpd : s.pdOn = true) {codes : List (Int × Int)} (hlen : codes.length = 12) (b : BankIx) (c : Ch) :
    (s.sampleBank b codes).pdChan c =
      if bankOf c = b then (s.pdChan c).sample (s.fetsOn c) (codes.getD (c.val % 12) (0, 0)) else s.pdChan c := by
  have hkeys : (((bankChs b).zip codes).map Prod.fst).Nodup := by
    rw [map_fst_zip_codes hlen]
    exact bankChs_nodup b
  have hcode : bankOf c = b → (c, codes.getD (c.val % 12) (0, 0)) ∈ (bankChs b).zip codes := mem_zip_codes hlen
  have hbank : ∀ p ∈ (bankChs b).zip codes, bankOf p.1 = b := fun p hp => by
    have hmem := List.mem_map_of_mem (f := Prod.fst) hp
    rw [map_fst_zip_codes hlen] at hmem
    exact mem_bankChs.1 hmem
  rw [State.sampleBank_eq hpd, State.onPdBank_pdChan]
  generalize codes.getD (c.val % 12) (0, 0) = x at hcode ⊢
  generalize (bankChs b).zip codes = ps at hkeys hcode hbank ⊢
  split
  · next hc =>
    have h := State.forAll_onPdChan_same (s := s) (xs := ps) (key := Prod.fst)
      (u := fun (p : Ch × Int × Int) k => k.sample (s.fetsOn p.1) p.2) hkeys (hcode hc)
    exact h
  · next hc =>
    have hnot : ∀ p ∈ ps, c ≠ Prod.fst p := fun p hp e => hc ((congrArg bankOf e).trans (hbank p hp))
    have h := State.forAll_onPdChan_other (s := s) (xs := ps) (key := Prod.fst)
      (u := fun (p : Ch × Int × Int) k => k.sample (s.fetsOn p.1) p.2) hnot
    exact h

theorem State.sampleBank_frame (b : BankIx) (codes : List (Int × Int)) :
    s.sampleBank b codes = { s with pd := (s.sampleBank b codes).pd } := by
  unfold State.sampleBank
  split
  · have hturns : ∀ t : State, t = { s with pd := t.pd } → ∀ f, t.onPdBank b f = { s with pd := (t.onPdBank b f).pd } := fun t ht f =>
      congrArg (fun x : State => { x with pd := (t.onPdBank b f).pd }) ht
    refine hturns _ ?_ _
    refine State.forAll_invariant (P := fun t => t = { s with pd := t.pd }) (fun p _ t ht => ?_) rfl
    exact congrArg (fun x : State => { x with pd := (t.onPdChan p.1 fun k => k.sample (t.fetsOn p.1) p.2).pd }) ht
  · rfl

/-! ### Counts latched and serial frames begun (R191, R194) -/

/-- A state but for its feedback interfaces. -/
def State.withoutFbs (s : State) : State := { s with fbs := Vector.replicate 24 Fb.init }

theorem State.eq_of_withoutFbs {t : State} (h : t.withoutFbs = s.withoutFbs) : t = { s with fbs := t.fbs } :=
  congrArg (fun x : State => { x with fbs := t.fbs }) h

/-- What the centre of a period does for one interface. -/
def State.latchFb (s : State) (c : Ch) (f : Fb) : Fb :=
  let f := { f with latched := f.count, latchFc := some s.fc }
  if s.fbMode c != 4 then f
  else if f.ssiFirst || s.parN Pid.FB_SSI_EVERY c.val ≤ f.ssiCentres + 1 then
    { f with ssiFirst := false, ssiCentres := 0, ssiBusy := true, ssiFrom := s.fc }
  else { f with ssiCentres := f.ssiCentres + 1 }

/-- The interface's turn at the centre of its bank's period. -/
def State.latchCh (s : State) (c : Ch) : State :=
  let t := s.onFb c fun f => { f with latched := f.count, latchFc := some s.fc }
  if t.fbMode c != 4 then t
  else
    t.onFb c fun f =>
      if f.ssiFirst || t.parN Pid.FB_SSI_EVERY c.val ≤ f.ssiCentres + 1 then
        { f with ssiFirst := false, ssiCentres := 0, ssiBusy := true, ssiFrom := t.fc }
      else { f with ssiCentres := f.ssiCentres + 1 }

theorem State.fbCentre_eq (b : BankIx) : s.fbCentre b = s.forAll (bankChs b) fun c t => t.latchCh c := rfl

theorem State.latchCh_withoutFbs (c : Ch) : (s.latchCh c).withoutFbs = s.withoutFbs := by
  unfold State.latchCh
  dsimp only
  split <;> rfl

theorem State.fbCentre_withoutFbs (b : BankIx) : (s.fbCentre b).withoutFbs = s.withoutFbs := by
  rw [State.fbCentre_eq, State.forAll_keeps State.withoutFbs]
  exact fun c t => t.latchCh_withoutFbs c

theorem State.latchCh_fb_other {c d : Ch} (h : d ≠ c) : (s.latchCh c).fb d = s.fb d := by
  unfold State.latchCh
  dsimp only
  split
  · exact State.onFb_fb_other _ _ _ _ h
  · rw [State.onFb_fb_other _ _ _ _ h, State.onFb_fb_other _ _ _ _ h]

theorem State.latchCh_fb_same (c : Ch) : (s.latchCh c).fb c = s.latchFb c (s.fb c) := by
  have hfb : (s.onFb c fun f => { f with latched := f.count, latchFc := some s.fc }).fb c =
      { s.fb c with latched := (s.fb c).count, latchFc := some s.fc } := State.onFb_fb_same ..
  have hmode : (s.onFb c fun f => { f with latched := f.count, latchFc := some s.fc }).fbMode c = s.fbMode c := by
    unfold State.fbMode
    rw [hfb]
    rfl
  unfold State.latchCh State.latchFb
  dsimp only
  rw [hmode]
  split
  · exact hfb
  · rw [State.onFb_fb_same, hfb]
    rfl

theorem State.latchFb_congr {t : State} {c : Ch} (h : t.withoutFbs = s.withoutFbs) (hfb : t.fb c = s.fb c) (f : Fb) :
    t.latchFb c f = s.latchFb c f := by
  have hpar : ∀ id i, t.parN id i = s.parN id i := fun id i => by
    have h := congrArg (fun x : State => x.parN id i) h
    exact h
  have hfc : t.fc = s.fc := by
    have h := congrArg State.fc h
    exact h
  unfold State.latchFb State.fbMode
  rw [hfb, hpar, hpar, hfc]

theorem State.fbCentre_fb (b : BankIx) (c : Ch) :
    (s.fbCentre b).fb c = if bankOf c = b then s.latchFb c (s.fb c) else s.fb c := by
  rw [State.fbCentre_eq]
  split
  · next hc =>
    refine State.forAll_turn (before := fun t => t.withoutFbs = s.withoutFbs ∧ t.fb c = s.fb c)
      (after := fun t => t.fb c = s.latchFb c (s.fb c)) (mem_bankChs.2 hc) (bankChs_nodup b)
      (fun d _ hd t h => ?_) (fun t h => ?_) (fun d _ hd t h => ?_) ⟨rfl, rfl⟩
    · exact ⟨(t.latchCh_withoutFbs d).trans h.1, (State.latchCh_fb_other (Ne.symm hd)).trans h.2⟩
    · rw [State.latchCh_fb_same, State.latchFb_congr h.1 h.2, h.2]
    · exact (State.latchCh_fb_other (Ne.symm hd)).trans h
  · next hc =>
    exact State.forAll_unit_other (fun c t => t.fb c) (key := id) (fun _ _ _ h => State.latchCh_fb_other h) fun d hd e =>
      hc ((congrArg bankOf e).trans (mem_bankChs.1 hd))

/-- The count is latched, and a SERIAL interface begins a frame where one is due (R191, R194). -/
theorem State.latchFb_facts (c : Ch) :
    (s.latchFb c (s.fb c)).latched = (s.fb c).count ∧ (s.latchFb c (s.fb c)).count = (s.fb c).count ∧
      (s.fbMode c = 4 → ((s.fb c).ssiFirst = true ∨ s.parN Pid.FB_SSI_EVERY c.val ≤ (s.fb c).ssiCentres + 1) →
        (s.latchFb c (s.fb c)).ssiBusy = true ∧ (s.latchFb c (s.fb c)).ssiFrom = s.fc ∧ (s.latchFb c (s.fb c)).ssiCentres = 0) := by
  refine ⟨?_, ?_, fun hmode hdue => ?_⟩
  · unfold State.latchFb
    dsimp only
    split
    · rfl
    · split <;> rfl
  · unfold State.latchFb
    dsimp only
    split
    · rfl
    · split <;> rfl
  · unfold State.latchFb
    dsimp only
    rw [if_neg (by simp [hmode]), if_pos (by simpa using hdue)]
    exact ⟨rfl, rfl, rfl⟩

theorem State.countPwm_pulse_frame (b : BankIx) (src n : Nat) :
    (s.countPwm b src).pulse n =
      { s with mods := ((s.countPwm b src).pulse n).mods, pulses := ((s.countPwm b src).pulse n).pulses } := by
  have hcount : s.countPwm b src = { s with mods := (s.countPwm b src).mods } := rfl
  generalize s.countPwm b src = u at hcount ⊢
  have hmods : (u.pulse n).mods = u.mods := by rw [State.pulse_frame]
  rw [hmods]
  exact (u.pulse_frame n).trans (congrArg (fun x : State => { x with pulses := (u.pulse n).pulses }) hcount)

theorem exec_periodCentre (b : BankIx) (codes : List (Int × Int)) (hhw : s.hwOn = true) :
    exec (.periodCentre b codes) s = .next ((((s.sampleBank b codes).fbCentre b).countPwm b 2).pulse (864 + 24 * b.val + 9)) := by
  simp only [exec, execPeriodCentre, hhw, if_true]

/-- Settles O39: the start by the state that it loads from, the centre by its three parts. -/
theorem periodStartAndCentre : Obligations.PeriodStartAndCentre := by
  unfold Obligations.PeriodStartAndCentre
  refine ⟨fun s b hhw => ?_, fun s b codes hhw hlen hpd => ?_⟩
  case refine_1 =>
    intro due k new old quiet
    obtain ⟨-, hkept, hindex, hload, hframe, hpulses⟩ := s.startPeriod_parts b
    simp only [State.periodKept, Prod.mk.injEq] at hkept
    obtain ⟨hotp, hhp, hconfig, hfw, hlink⟩ := hkept
    obtain ⟨hpdsame, -, hdue⟩ := s.beginPeriod_due b
    have hbank : (s.beginPeriod b).pdBank b = k := congrArg (fun p : PowerDie => p.banks[b]) hpdsame
    have hnew : (s.beginPeriod b).newDue b = true ↔ new := by
      unfold State.newDue
      rw [hbank]
      exact hdue ..
    have hsome : (s.beginPeriod b).someDue b = true ↔ new ∨ old := by
      unfold State.someDue
      rw [Bool.or_eq_true, hnew, hbank]
      exact or_congr_right (hdue ..)
    have hloads : quiet → _ := fun ⟨hpd, hunits, hov, huv⟩ => State.startPeriod_loads (s := s) (b := b) hpd hunits hov huv
    refine ⟨s.startPeriod b, exec_periodStart b hhw, ?_, hload, hframe, ?_, ?_, ?_, ?_, ?_, ?_, ?_, ?_, ?_, ?_, ?_⟩
    · rw [hindex, s.beginPeriod_index]
    · rw [hpulses]
      exact s.beginPeriod_pulse b
    · exact hotp
    · exact hhp
    · exact hconfig
    · intro hoff
      rwa [hfw, hoff, if_neg (by decide), if_neg (by decide)] at hlink
    · exact fun c hc => State.startPeriod_pdChan_other hc
    · intro c hc hq hpark hhold hn
      rw [(hloads hq).1 c hc, State.dueEntry, if_pos (hnew.2 hn)]
      exact PdChan.periodStart_some hpark hhold _
    · intro c hc hq hpark hhold hn ho
      rw [(hloads hq).1 c hc, State.dueEntry, if_neg (fun h => hn (hnew.1 h)), if_pos (hsome.2 (.inr ho))]
      exact PdChan.periodStart_some hpark hhold _
    · intro c hc hq hkeep
      rw [(hloads hq).1 c hc]
      exact PdChan.periodStart_kept hkeep _ _
    · intro hq hn ho
      have hnone : (s.beginPeriod b).someDue b = false := Bool.eq_false_iff.2 fun h => (hsome.1 h).elim hn ho
      refine ⟨?_, fun c hc => ?_⟩
      · rw [(hloads hq).2, hnone]
        rfl
      · rw [(hloads hq).1 c hc, State.dueEntry, if_neg (fun h => hn (hnew.1 h)), if_neg (by rw [hnone]; decide)]
        exact PdChan.periodStart_none _
    · intro hq hdue
      rw [(hloads hq).2, if_pos (hsome.2 hdue)]
  case refine_2 =>
    have hsample := s.sampleBank_frame b codes
    have htag : ((s.sampleBank b codes).pdBank b).sampleTag = BitVec.ofNat 8 (s.bank b).index := by
      rw [State.sampleBank_eq hpd, State.onPdBank_pdBank_same]
    have hchan := State.sampleBank_pdChan hpd hlen b
    rw [exec_periodCentre b codes hhw]
    generalize s.sampleBank b codes = u at hsample htag hchan ⊢
    have hlatched : ∀ c, (u.fbCentre b).fb c = if bankOf c = b then s.latchFb c (s.fb c) else s.fb c := fun c => by
      rw [State.fbCentre_fb, hsample]
      rfl
    have hcentre := State.eq_of_withoutFbs (u.fbCentre_withoutFbs b)
    generalize u.fbCentre b = v at hlatched hcentre ⊢
    have hpulse := v.countPwm_pulse_frame b 2 (864 + 24 * b.val + 9)
    have hactive := (v.countPwm b 2).pulse_active (864 + 24 * b.val + 9)
    generalize ht : (v.countPwm b 2).pulse (864 + 24 * b.val + 9) = t at hpulse hactive ⊢
    have hpd' : t.pd = u.pd := by rw [hpulse, hcentre]
    have hfbs : t.fbs = v.fbs := by rw [hpulse]
    have hfb : ∀ c, t.fb c = v.fb c := fun c => congrArg (fun fs => fs[c]) hfbs
    have hpdChan : ∀ c, t.pdChan c = u.pdChan c := fun c => congrArg (fun p : PowerDie => p.chans[c]) hpd'
    refine ⟨t, rfl, ?_, ?_, ?_, ?_, ?_, ?_⟩
    · rw [hpd', hfbs]
      calc t
        _ = { v with mods := t.mods, pulses := t.pulses } := hpulse
        _ = { u with fbs := v.fbs, mods := t.mods, pulses := t.pulses } :=
          congrArg (fun x : State => { x with mods := t.mods, pulses := t.pulses }) hcentre
        _ = { s with pd := u.pd, fbs := v.fbs, mods := t.mods, pulses := t.pulses } :=
          congrArg (fun x : State => { x with fbs := v.fbs, mods := t.mods, pulses := t.pulses }) hsample
    · exact (congrArg (fun p : PowerDie => p.banks[b].sampleTag) hpd').trans htag
    · exact hactive
    · intro c hc
      rw [hfb, hlatched, if_pos hc]
      exact s.latchFb_facts c
    · intro c hc
      refine ⟨?_, ?_⟩
      · rw [hfb, hlatched, if_neg hc]
      · rw [hpdChan, hchan, if_neg hc]
    · intro c hc on x
      rw [hpdChan, hchan, if_pos hc]
      exact PdChan.sample_eq _ _ _

end Sys2Proof.Machine
end

section
/-! An uplink superframe (R26, R36, R40, R113, R158 to R161, R177): what it reports, and what its flags do. -/

namespace Sys2Proof.Machine

variable {s t u : State} {c : Ch}

/-! ### What a report may change -/

/-- What a channel's own report leaves of it as it was taken: the currents and the flag character (R26, R158). -/
def Channel.reported (k : Channel) : Int × Int × Byte := (k.code1, k.code2, k.psFault)

/-- A channel but for what its twin's fault or park can change (R113, R114, R116). -/
def Channel.besideTwin (k : Channel) : Channel :=
  { k with solo := false, rejoin := .none, est := Estim.init, coil := Coil.init, motion := { k.motion with immReq := none } }

/-- A state but for its channels, groups and mailboxes; the command that waits is kept. -/
def State.besideReport (s : State) : State :=
  { s with
    chans := Vector.replicate 24 Channel.init, groups := Vector.replicate 4 Group.init
    mbx := { Mailbox.init with waiting := s.mbx.waiting } }

/-- The report of one channel acts on it, and on its twin by what R113 and R114 name. -/
structure State.ActsOn (c : Ch) (s t : State) : Prop where
  frame : t.besideReport = s.besideReport
  own : (t.chan c).reported = (s.chan c).reported
  twin : (t.chan (twinOf c)).besideTwin = (s.chan (twinOf c)).besideTwin
  solo : (s.chan (twinOf c)).solo = true → (t.chan (twinOf c)).solo = true
  stopped : (s.chan (twinOf c)).motion.immReq = some .fault → (t.chan (twinOf c)).motion.immReq = some .fault
  others : ∀ d, d ≠ c → d ≠ twinOf c → t.chan d = s.chan d

theorem State.ActsOn.refl : State.ActsOn c s s := ⟨rfl, rfl, rfl, id, id, fun _ _ _ => rfl⟩

theorem State.ActsOn.trans (h : State.ActsOn c s t) (h' : State.ActsOn c t u) : State.ActsOn c s u :=
  ⟨h'.frame.trans h.frame, h'.own.trans h.own, h'.twin.trans h.twin, h'.solo ∘ h.solo, h'.stopped ∘ h.stopped,
    fun d hd hp => (h'.others d hd hp).trans (h.others d hd hp)⟩

/-- What changes no channel acts on none. -/
theorem State.ActsOn.of_chans (hframe : t.besideReport = s.besideReport) (h : ∀ d, t.chan d = s.chan d) : State.ActsOn c s t :=
  ⟨hframe, by rw [h], by rw [h], by rw [h]; exact id, by rw [h]; exact id, fun d _ _ => h d⟩

theorem State.raise_besideReport (code inst : Nat) (p : List Byte) : (s.raise code inst p).besideReport = s.besideReport := by
  have hwaiting : (s.raise code inst p).mbx.waiting = s.mbx.waiting := (s.raiseS_mbx code inst false p).2.2.1
  unfold State.besideReport
  rw [hwaiting, State.raise_frame]

theorem State.raise_actsOn (code inst : Nat) (p : List Byte) : State.ActsOn c s (s.raise code inst p) :=
  .of_chans (State.raise_besideReport code inst p) fun _ => State.raise_chan ..

theorem State.leaveGroup_actsOn : State.ActsOn c s (s.leaveGroup c) := .of_chans rfl fun _ => rfl

theorem State.onChan_actsOn {f : Channel → Channel} (hf : ∀ k, (f k).reported = k.reported) : State.ActsOn c s (s.onChan c f) := by
  have hother : ∀ d, d ≠ c → (s.onChan c f).chan d = s.chan d := fun d hd => State.onChan_chan_other _ _ _ _ hd
  have htwin := hother _ (twinOf_ne c).symm
  refine ⟨rfl, ?_, by rw [htwin], by rw [htwin]; exact id, by rw [htwin]; exact id, fun d hd _ => hother d hd⟩
  rw [State.onChan_chan_same, hf]

theorem State.ActsOn.raise (h : State.ActsOn c s t) (code inst : Nat) (p : List Byte) : State.ActsOn c s (t.raise code inst p) :=
  h.trans (State.raise_actsOn code inst p)

theorem State.ActsOn.onChan (h : State.ActsOn c s t) {f : Channel → Channel} (hf : ∀ k, (f k).reported = k.reported) :
    State.ActsOn c s (t.onChan c f) :=
  h.trans (State.onChan_actsOn hf)

/-! ### What acts on the twin -/

/-- The next set-point of the twin computed anew, beside what the twin supervisor sets. -/
theorem State.onChan_recompute_chan (p : Ch) (f : Channel → Channel) :
    ((s.onChan p f).recompute p).chan p =
      { f (s.chan p) with
        coil := (((s.onChan p f).recompute p).chan p).coil, est := (((s.onChan p f).recompute p).chan p).est } := by
  rw [State.recompute_chan, if_pos rfl, State.recomputed_frame, State.onChan_chan_same]

/-- Its partner's FETs off: the twin goes on alone where it carries the pair (R113, R116). -/
theorem State.partnerOff_chan_twin (n : Nat) {k k' : Channel} (hk : s.chan (twinOf c) = k)
    (hk' : (s.partnerOff c n).chan (twinOf c) = k') :
    k' = { k with solo := k'.solo, rejoin := k'.rejoin, est := k'.est, coil := k'.coil } ∧ (k.solo = true → k'.solo = true) ∧
      (s.paired c = true → k.state.energised = true → k'.solo = true) := by
  subst hk
  unfold State.partnerOff at hk'
  dsimp only at hk'
  split at hk'
  · rw [State.raise_chan, State.onChan_recompute_chan] at hk'
    rw [← hk']
    exact ⟨rfl, fun _ => rfl, fun _ _ => rfl⟩
  · next hfirst =>
    split at hk'
    · next hcarries =>
      rw [State.onChan_recompute_chan] at hk'
      have hsolo : (s.chan (twinOf c)).solo = true := by
        simp only [Bool.and_eq_true, Bool.not_eq_true'] at hfirst hcarries
        by_contra h
        exact hfirst ⟨hcarries, Bool.eq_false_iff.2 h⟩
      rw [← hk']
      exact ⟨rfl, fun _ => hsolo, fun _ _ => hsolo⟩
    · next hcarries =>
      subst hk'
      exact ⟨rfl, id, fun hp he => absurd (by rw [hp, he]; rfl) hcarries⟩

theorem State.partnerOff_besideReport (n : Nat) : (s.partnerOff c n).besideReport = s.besideReport := by
  have hwaiting : (s.partnerOff c n).mbx.waiting = s.mbx.waiting := (s.partnerOff_mbx c n).2.2
  unfold State.besideReport
  rw [hwaiting, State.partnerOff_frame]

theorem State.partnerOff_actsOn (n : Nat) : State.ActsOn c s (s.partnerOff c n) := by
  obtain ⟨hk, hsolo, -⟩ := State.partnerOff_chan_twin (s := s) (c := c) n rfl rfl
  refine ⟨State.partnerOff_besideReport n, ?_, ?_, hsolo, fun h => ?_, fun _ _ hd => State.partnerOff_chan _ _ _ _ hd⟩
  · rw [State.partnerOff_chan _ _ _ _ (twinOf_ne c)]
  · rw [hk]
    rfl
  · rw [hk]
    exact h

/-! ### The fault and the park of a channel -/

theorem State.faultOff_disabled {set : Causes → Causes} (h : (s.chan c).state = .disabled) : s.faultOff c set = s := by
  simp only [State.faultOff, h]

theorem State.faultOff_parked {set : Causes → Causes} (h : (s.chan c).state = .parked) : s.faultOff c set = s.onCauses c set := by
  simp only [State.faultOff, h]

/-- A channel that a fault turns off (R67, R82). -/
def State.faultedCh (s : State) (c : Ch) (set : Causes → Causes) : State :=
  (s.leaveGroup c).onChan c fun k =>
    { k.endMotion with state := .fault, fetsOff := true, causes := set k.causes, solo := false, policy := false }

theorem State.faultOff_on {set : Causes → Causes} (hd : (s.chan c).state ≠ .disabled) (hp : (s.chan c).state ≠ .parked) :
    s.faultOff c set =
      if (s.chan c).fetsOff && (s.chan c).state != .rollcall then s.faultedCh c set else (s.faultedCh c set).partnerOff c 1 := by
  unfold State.faultOff
  split
  · next h => exact absurd h hd
  · next h => exact absurd h hp
  · rfl

theorem Channel.endMotion_reported (k : Channel) : k.endMotion.reported = k.reported := by
  unfold Channel.endMotion Channel.freeze
  dsimp only
  split <;> rfl

theorem State.faultedCh_actsOn (set : Causes → Causes) : State.ActsOn c s (s.faultedCh c set) :=
  State.leaveGroup_actsOn.onChan fun k => k.endMotion_reported

theorem State.faultOff_actsOn (set : Causes → Causes) : State.ActsOn c s (s.faultOff c set) := by
  by_cases hd : (s.chan c).state = .disabled
  · rw [State.faultOff_disabled hd]
    exact .refl
  · by_cases hp : (s.chan c).state = .parked
    · rw [State.faultOff_parked hp]
      exact State.onChan_actsOn fun _ => rfl
    · rw [State.faultOff_on hd hp]
      split
      · exact State.faultedCh_actsOn set
      · exact (State.faultedCh_actsOn set).trans (State.partnerOff_actsOn 1)

/-- A channel that parks (R82, R161), before its twin is asked to stop. -/
def State.parkedCh (s : State) (c : Ch) (n : Nat) : State :=
  ((s.leaveGroup c).onChan c fun k =>
    { k.endMotion with state := .parked, fetsOff := false, parkCause := n, policy := false }).raise 0x0406 c.val [BitVec.ofNat 8 n]

theorem State.parkedCh_actsOn (n : Nat) : State.ActsOn c s (s.parkedCh c n) := by
  refine State.ActsOn.raise (State.ActsOn.onChan State.leaveGroup_actsOn fun k => ?_) ..
  exact k.endMotion_reported

/-- The twin is asked for an immediate stop (R114). -/
theorem State.stopTwin_actsOn : State.ActsOn c s (s.onMotion (twinOf c) fun m => { m with immReq := some .fault }) := by
  have htwin : (s.onMotion (twinOf c) fun m => { m with immReq := some .fault }).chan (twinOf c) =
    { s.chan (twinOf c) with motion := { (s.chan (twinOf c)).motion with immReq := some .fault } } := State.onMotion_chan_same ..
  have hother : ∀ d, d ≠ twinOf c → (s.onMotion (twinOf c) fun m => { m with immReq := some .fault }).chan d = s.chan d :=
    fun d hd => by rw [State.onMotion_chan, if_neg hd]
  refine ⟨rfl, by rw [hother c (twinOf_ne c)], ?_, ?_, ?_, fun d _ hd => hother d hd⟩
  · rw [htwin]
    rfl
  · rw [htwin]
    exact id
  · rw [htwin]
    exact fun _ => rfl

theorem State.parkCh_on (h : (s.chan c).state ≠ .parked) (n : Nat) :
    s.parkCh c n =
      if (s.parkedCh c n).paired c && (s.parkedCh c n).energised (twinOf c) then
        (s.parkedCh c n).onMotion (twinOf c) fun m => { m with immReq := some .fault }
      else s.parkedCh c n := State.parkCh_eq h n

theorem State.parkCh_actsOn (n : Nat) : State.ActsOn c s (s.parkCh c n) := by
  by_cases h : (s.chan c).state = .parked
  · rw [State.parkCh_of_parked h]
    exact .refl
  · rw [State.parkCh_on h]
    split
    · exact (State.parkedCh_actsOn n).trans State.stopTwin_actsOn
    · exact State.parkedCh_actsOn n

theorem State.parkOff_actsOn : State.ActsOn c s (s.parkOff c) := by
  have hoff : State.ActsOn c s (s.onChan c fun k => { k with fetsOff := true, solo := false }) := State.onChan_actsOn fun _ => rfl
  exact (hoff.raise ..).trans (State.partnerOff_actsOn 2)

theorem State.seeBankOff_actsOn : State.ActsOn c s (s.seeBankOff c) := by
  unfold State.seeBankOff
  dsimp only
  split
  · have hseen : State.ActsOn c s (s.onChan c fun k => { k with bankSeen := true }) := State.onChan_actsOn fun _ => rfl
    exact (hseen.trans (State.faultOff_actsOn _)).raise ..
  · exact State.onChan_actsOn fun _ => rfl

/-! ### The flag character of a channel (R158, R160, R161) -/

/-- The flag character is taken, before anything acts on it. -/
def State.noteFlags (s : State) (f : UpFrame) (c : Ch) : State := (s.takeCurrent f c).onChan c fun k => { k with psFault := f.flag c }

/-- Short and gate flags, newly seen (R160). -/
def State.seeShort (s : State) (c : Ch) (new newly : Byte) : State :=
  if newly.toNat / 16 != 0 then (s.raise 0x0401 c.val [new]).faultOff c fun w => { w with short := true } else s
def State.seeGate (s : State) (c : Ch) (new newly : Byte) : State :=
  if newly.getLsbD 2 then (s.raise 0x0402 c.val [new]).faultOff c fun w => { w with gate := true } else s

/-- The park latch, and the end of a park's hold (R161, R170). -/
def State.seePark (s : State) (c : Ch) (parked : Bool) (cause : Nat) : State := if parked then s.parkCh c cause else s
def State.seeHoldOver (s : State) (c : Ch) (latched : Bool) : State := if s.holdOver c latched then s.parkOff c else s

/-- The report of one channel. -/
def State.reportCh (s : State) (f : UpFrame) (c : Ch) : State := (s.takeCurrent f c).takeFlags f c

theorem State.reportCh_eq (f : UpFrame) (c : Ch) :
    s.reportCh f c =
      let new := f.flag c
      let newly := new &&& ~~~(s.chan c).psFault
      (((((s.noteFlags f c).seeShort c new newly).seeGate c new newly).seeBankOff c).seePark c (new.getLsbD 1)
        (parkCauseOf (f.bank (bankOf c)))).seeHoldOver c (new.getLsbD 1) := by
  have hold : ((s.takeCurrent f c).chan c).psFault = (s.chan c).psFault := by
    unfold State.takeCurrent
    rw [State.onChan_chan_same]
  unfold State.reportCh State.takeFlags
  rw [hold]
  rfl

theorem State.seeShort_actsOn (new newly : Byte) : State.ActsOn c s (s.seeShort c new newly) := by
  unfold State.seeShort
  split
  · exact (State.raise_actsOn ..).trans (State.faultOff_actsOn _)
  · exact .refl

theorem State.seeGate_actsOn (new newly : Byte) : State.ActsOn c s (s.seeGate c new newly) := by
  unfold State.seeGate
  split
  · exact (State.raise_actsOn ..).trans (State.faultOff_actsOn _)
  · exact .refl

theorem State.seePark_actsOn (parked : Bool) (cause : Nat) : State.ActsOn c s (s.seePark c parked cause) := by
  unfold State.seePark
  split
  · exact State.parkCh_actsOn cause
  · exact .refl

theorem State.seeHoldOver_actsOn (latched : Bool) : State.ActsOn c s (s.seeHoldOver c latched) := by
  unfold State.seeHoldOver
  split
  · exact State.parkOff_actsOn
  · exact .refl

/-- Everything that follows from the flag character taken. -/
theorem State.reportCh_actsOn (f : UpFrame) : State.ActsOn c (s.noteFlags f c) (s.reportCh f c) := by
  rw [State.reportCh_eq]
  exact ((((State.seeShort_actsOn _ _).trans (State.seeGate_actsOn _ _)).trans State.seeBankOff_actsOn).trans
    (State.seePark_actsOn _ _)).trans (State.seeHoldOver_actsOn _)

theorem State.noteFlags_chan_same (f : UpFrame) :
    (s.noteFlags f c).chan c =
      { s.chan c with
        code1 := (f.codes c).1, code2 := (f.codes c).2, psFault := f.flag c, est := ((s.noteFlags f c).chan c).est } := by
  unfold State.noteFlags State.takeCurrent
  rw [State.onChan_chan_same, State.onChan_chan_same]

theorem State.noteFlags_chan_other (f : UpFrame) {d : Ch} (h : d ≠ c) : (s.noteFlags f c).chan d = s.chan d := by
  unfold State.noteFlags State.takeCurrent
  rw [State.onChan_chan_other _ _ _ _ h, State.onChan_chan_other _ _ _ _ h]

theorem State.reportCh_besideReport (f : UpFrame) : (s.reportCh f c).besideReport = s.besideReport :=
  (State.reportCh_actsOn f).frame

/-- A channel's report brings its currents and flags. -/
theorem State.reportCh_reported (f : UpFrame) : ((s.reportCh f c).chan c).reported = ((f.codes c).1, (f.codes c).2, f.flag c) := by
  rw [(State.reportCh_actsOn f).own, State.noteFlags_chan_same]
  rfl

/-- The reports of the others leave a channel but for what a twin's can change. -/
theorem State.reportCh_besideTwin (f : UpFrame) {d : Ch} (h : d ≠ c) :
    ((s.reportCh f c).chan d).besideTwin = (s.chan d).besideTwin := by
  have hacts := State.reportCh_actsOn (s := s) (c := c) f
  by_cases hd : d = twinOf c
  · subst hd
    rw [hacts.twin, State.noteFlags_chan_other f h]
  · rw [hacts.others d h hd, State.noteFlags_chan_other f h]

/-! ### What a channel's own flags do -/

/-- A fault turns off what is neither in DISABLED nor in PARKED (R67, R82). -/
theorem State.faultOff_faulted (hd : (s.chan c).state ≠ .disabled) (hp : (s.chan c).state ≠ .parked) (set : Causes → Causes) :
    ((s.faultOff c set).chan c).faulted ∧ ((s.faultOff c set).chan c).causes = set (s.chan c).causes := by
  have hsame : (s.faultOff c set).chan c = (s.faultedCh c set).chan c := by
    rw [State.faultOff_on hd hp]
    split
    · rfl
    · exact State.partnerOff_chan _ _ _ _ (twinOf_ne c)
  rw [hsame, State.faultedCh, State.onChan_chan_same]
  exact ⟨⟨rfl, rfl, rfl⟩, rfl⟩

/-- A channel in a state that a fault turns off. -/
def Channel.faultable (k : Channel) : Prop := k.state ≠ .disabled ∧ k.state ≠ .parked

theorem Channel.faulted.faultable {k : Channel} (h : k.faulted) : k.faultable := by
  obtain ⟨hstate, -⟩ := h
  rw [Channel.faultable, hstate]
  exact ⟨by decide, by decide⟩

theorem Channel.faultable_of_energised {k : Channel} (h : k.state.energised = true) : k.faultable := by
  constructor <;> (intro hk; rw [hk] at h; exact absurd h (by decide))

/-- The pair of a channel and the power die's view of it stay in its report. -/
theorem State.ActsOn.paired (h : State.ActsOn c s t) (d : Ch) : t.paired d = s.paired d := by
  have hpaired := congrArg (fun x : State => x.paired d) h.frame
  exact hpaired

theorem State.ActsOn.pdChan (h : State.ActsOn c s t) (d : Ch) : t.pdChan d = s.pdChan d := by
  have hpd := congrArg (fun x : State => x.pdChan d) h.frame
  exact hpd

/-- The twin keeps its state. -/
theorem State.ActsOn.twinState (h : State.ActsOn c s t) : (t.chan (twinOf c)).state = (s.chan (twinOf c)).state := by
  have hstate := congrArg Channel.state h.twin
  exact hstate

theorem State.seeShort_seen {new newly : Byte} (h : newly.toNat / 16 ≠ 0) :
    s.seeShort c new newly = (s.raise 0x0401 c.val [new]).faultOff c fun w => { w with short := true } :=
  if_pos (bne_iff_ne.2 h)

theorem State.seeShort_none {new newly : Byte} (h : newly.toNat / 16 = 0) : s.seeShort c new newly = s :=
  if_neg (by rw [h]; decide)

theorem State.seeGate_seen {new newly : Byte} (h : newly.getLsbD 2 = true) :
    s.seeGate c new newly = (s.raise 0x0402 c.val [new]).faultOff c fun w => { w with gate := true } := if_pos h

theorem State.seeGate_none {new newly : Byte} (h : newly.getLsbD 2 = false) : s.seeGate c new newly = s :=
  if_neg (by rw [h]; decide)

theorem State.seeBankOff_none (h : (s.pdChan c).bankOff = false) :
    s.seeBankOff c = s.onChan c fun k => { k with bankSeen := false } := by
  unfold State.seeBankOff
  simp only [h, Bool.false_and, Bool.false_eq_true, if_false]

/-- The cause latches and the channel is off (R160). -/
theorem State.seeShort_faulted (h : (s.chan c).faultable) {new newly : Byte} (hnew : newly.toNat / 16 ≠ 0) :
    ((s.seeShort c new newly).chan c).faulted ∧ ((s.seeShort c new newly).chan c).causes.short = true := by
  obtain ⟨hfault, hcauses⟩ := State.faultOff_faulted (s := s.raise 0x0401 c.val [new]) (c := c)
    (by rw [State.raise_chan]; exact h.1) (by rw [State.raise_chan]; exact h.2) fun w => { w with short := true }
  rw [State.seeShort_seen hnew]
  exact ⟨hfault, by rw [hcauses]⟩

theorem State.seeShort_faultable (h : (s.chan c).faultable) (new newly : Byte) : ((s.seeShort c new newly).chan c).faultable := by
  by_cases hnew : newly.toNat / 16 = 0
  · rwa [State.seeShort_none hnew]
  · exact (State.seeShort_faulted h hnew).1.faultable

theorem State.seeGate_faulted (h : (s.chan c).faultable) {new newly : Byte} (hnew : newly.getLsbD 2 = true) :
    ((s.seeGate c new newly).chan c).faulted ∧ ((s.seeGate c new newly).chan c).causes = { (s.chan c).causes with gate := true } := by
  obtain ⟨hfault, hcauses⟩ := State.faultOff_faulted (s := s.raise 0x0402 c.val [new]) (c := c)
    (by rw [State.raise_chan]; exact h.1) (by rw [State.raise_chan]; exact h.2) fun w => { w with gate := true }
  rw [State.seeGate_seen hnew]
  exact ⟨hfault, by rw [hcauses, State.raise_chan]⟩

theorem State.seeGate_keeps (h : (s.chan c).faulted) (hshort : (s.chan c).causes.short = true) (new newly : Byte) :
    ((s.seeGate c new newly).chan c).faulted ∧ ((s.seeGate c new newly).chan c).causes.short = true := by
  cases hnew : newly.getLsbD 2
  · rw [State.seeGate_none hnew]
    exact ⟨h, hshort⟩
  · obtain ⟨hfault, hcauses⟩ := State.seeGate_faulted h.faultable (new := new) hnew
    exact ⟨hfault, by rw [hcauses]; exact hshort⟩

/-- Without a park latch, what stands in FAULT has nothing more to see. -/
theorem State.seePark_seeHoldOver_faulted (h : (s.chan c).faulted) (cause : Nat) :
    (s.seePark c false cause).seeHoldOver c false = s := by
  have hnot : s.holdOver c false = false := by
    unfold State.holdOver
    rw [h.1]
    rfl
  have hpass : s.seePark c false cause = s := rfl
  rw [hpass, State.seeHoldOver, if_neg (by rw [hnot]; decide)]

/-- A newly seen short or gate flag turns the channel off with its cause latched (R82, R160). -/
theorem State.reportCh_faulted {f : UpFrame} (hstate : (s.chan c).state.energised = true) (hbank : (s.pdChan c).bankOff = false)
    (hpark : (f.flag c).getLsbD 1 = false) {newly : Byte} (hnewly : newly = f.flag c &&& ~~~(s.chan c).psFault) :
    (newly.toNat / 16 ≠ 0 → ((s.reportCh f c).chan c).faulted ∧ ((s.reportCh f c).chan c).causes.short = true) ∧
      (newly.getLsbD 2 = true → ((s.reportCh f c).chan c).faulted ∧ ((s.reportCh f c).chan c).causes.gate = true) := by
  rw [State.reportCh_eq]
  dsimp only
  rw [← hnewly, hpark]
  have hfaultable : ((s.noteFlags f c).chan c).faultable := by
    rw [State.noteFlags_chan_same]
    exact Channel.faultable_of_energised hstate
  have hbank' : ((s.noteFlags f c).pdChan c).bankOff = false := hbank
  generalize s.noteFlags f c = u at hfaultable hbank' ⊢
  have hacts := (State.seeShort_actsOn (s := u) (c := c) (f.flag c) newly).trans (State.seeGate_actsOn (f.flag c) newly)
  have hrest : ∀ v : State, State.ActsOn c u v → (v.chan c).faulted →
      (((v.seeBankOff c).seePark c false (parkCauseOf (f.bank (bankOf c)))).seeHoldOver c false).chan c =
        { v.chan c with bankSeen := false } := fun v hv hfault => by
    rw [State.seeBankOff_none (by rw [hv.pdChan, hbank']), State.seePark_seeHoldOver_faulted, State.onChan_chan_same]
    rw [State.onChan_chan_same]
    exact hfault
  refine ⟨fun hshort => ?_, fun hgate => ?_⟩
  · obtain ⟨hfault, hcause⟩ := State.seeShort_faulted hfaultable (new := f.flag c) hshort
    obtain ⟨hfault', hcause'⟩ := State.seeGate_keeps hfault hcause (f.flag c) newly
    rw [hrest _ hacts hfault']
    exact ⟨hfault', hcause'⟩
  · obtain ⟨hfault, hcause⟩ := State.seeGate_faulted (State.seeShort_faultable hfaultable (f.flag c) newly) (new := f.flag c) hgate
    rw [hrest _ hacts hfault]
    exact ⟨hfault, by rw [hcause]⟩

/-- Beside it, an energised twin goes on alone (R113). -/
theorem State.faultOff_solo (h : (s.chan c).faultable) (hon : (s.chan c).fetsOff = false) (hpaired : s.paired c = true)
    (htwin : (s.chan (twinOf c)).state.energised = true) (set : Causes → Causes) :
    ((s.faultOff c set).chan (twinOf c)).solo = true := by
  have hacts := State.faultedCh_actsOn (s := s) (c := c) set
  rw [State.faultOff_on h.1 h.2, if_neg (by rw [hon]; exact Bool.false_ne_true)]
  obtain ⟨-, -, hsolo⟩ := State.partnerOff_chan_twin (s := s.faultedCh c set) (c := c) 1 rfl rfl
  exact hsolo ((hacts.paired c).trans hpaired) (by rw [hacts.twinState]; exact htwin)

theorem State.reportCh_faulted_solo {f : UpFrame} (hstate : (s.chan c).state.energised = true) (hon : (s.chan c).fetsOff = false)
    (hpaired : s.paired c = true) (htwin : (s.chan (twinOf c)).state.energised = true) {newly : Byte}
    (hnewly : newly = f.flag c &&& ~~~(s.chan c).psFault) (hseen : newly.toNat / 16 ≠ 0 ∨ newly.getLsbD 2 = true) :
    ((s.reportCh f c).chan (twinOf c)).solo = true := by
  rw [State.reportCh_eq]
  dsimp only
  rw [← hnewly]
  have hsame := State.noteFlags_chan_same (s := s) (c := c) f
  have hfaultable : ((s.noteFlags f c).chan c).faultable := by
    rw [hsame]
    exact Channel.faultable_of_energised hstate
  have hon' : ((s.noteFlags f c).chan c).fetsOff = false := by rw [hsame]; exact hon
  have hpaired' : (s.noteFlags f c).paired c = true := hpaired
  have htwin' : ((s.noteFlags f c).chan (twinOf c)).state.energised = true := by
    rw [State.noteFlags_chan_other f (twinOf_ne c).symm]
    exact htwin
  generalize s.noteFlags f c = u at hfaultable hon' hpaired' htwin' ⊢
  have hseen' : (((u.seeShort c (f.flag c) newly).seeGate c (f.flag c) newly).chan (twinOf c)).solo = true := by
    by_cases hshort : newly.toNat / 16 = 0
    · rw [State.seeShort_none hshort, State.seeGate_seen (hseen.resolve_left (not_not.2 hshort))]
      have hraise := State.raise_actsOn (s := u) (c := c) 0x0402 c.val [f.flag c]
      exact State.faultOff_solo (by rw [State.raise_chan]; exact hfaultable) (by rw [State.raise_chan]; exact hon')
        ((hraise.paired c).trans hpaired') (by rw [State.raise_chan]; exact htwin') _
    · have hraise := State.raise_actsOn (s := u) (c := c) 0x0401 c.val [f.flag c]
      rw [State.seeShort_seen hshort]
      refine (State.seeGate_actsOn (f.flag c) newly).solo ?_
      exact State.faultOff_solo (by rw [State.raise_chan]; exact hfaultable) (by rw [State.raise_chan]; exact hon')
        ((hraise.paired c).trans hpaired') (by rw [State.raise_chan]; exact htwin') _
  exact ((State.seeBankOff_actsOn.trans (State.seePark_actsOn _ _)).trans (State.seeHoldOver_actsOn _)).solo hseen'

/-- A park latch alone: the channel parks, and its FETs are off once its hold is over (R161, R170). -/
theorem State.seePark_seeHoldOver_parked (h : (s.chan c).state ≠ .parked) (n : Nat) :
    let k := ((s.seePark c true n).seeHoldOver c true).chan c
    k.state = .parked ∧ k.motion.vel = 0 ∧ k.parkCause = n ∧
      ((s.pdChan c).parkHold = true → k.fetsOff = false) ∧
      ((s.pdChan c).parkHold = false → (s.pdChan c).turnOff ≠ .plateau → k.fetsOff = true) := by
  have hparked := State.parkCh_chan_same h n
  have hpd : ((s.parkCh c n).pdChan c) = s.pdChan c := State.parkCh_pdChan ..
  have hpark : s.seePark c true n = s.parkCh c n := rfl
  rw [hpark]
  generalize s.parkCh c n = v at hparked hpd ⊢
  have hover : v.holdOver c true = (!(s.pdChan c).parkHold && (s.pdChan c).turnOff != .plateau) := by
    unfold State.holdOver
    rw [hparked, hpd]
    rfl
  have hoff : (v.parkOff c).chan c = { v.chan c with fetsOff := true, solo := false } := by
    unfold State.parkOff
    dsimp only
    rw [State.partnerOff_chan _ _ _ _ (twinOf_ne c), State.raise_chan, State.onChan_chan_same]
  unfold State.seeHoldOver
  rw [hover]
  cases hhold : (s.pdChan c).parkHold
  · by_cases hturn : (s.pdChan c).turnOff = .plateau
    · rw [if_neg (by rw [hturn]; decide), hparked]
      exact ⟨rfl, rfl, rfl, fun _ => rfl, fun _ hne => absurd hturn hne⟩
    · rw [if_pos (by simp [hturn]), hoff, hparked]
      exact ⟨rfl, rfl, rfl, fun h => absurd h (by decide), fun _ _ => rfl⟩
  · rw [if_neg (by simp), hparked]
    exact ⟨rfl, rfl, rfl, fun _ => rfl, fun h => absurd h (by decide)⟩

/-- Beside it, an energised twin stops, and goes on alone once the hold is over (R113, R114). -/
theorem State.seePark_seeHoldOver_twin (h : (s.chan c).state ≠ .parked) (hpaired : s.paired c = true)
    (htwin : (s.chan (twinOf c)).state.energised = true) (n : Nat) :
    let k := ((s.seePark c true n).seeHoldOver c true).chan (twinOf c)
    k.motion.immReq = some .fault ∧ ((s.pdChan c).parkHold = false → (s.pdChan c).turnOff ≠ .plateau → k.solo = true) := by
  have hparked := State.parkCh_chan_same h n
  have hacts := State.parkCh_actsOn (s := s) (c := c) n
  have hstop := State.parkCh_chan_other h (twinOf_ne c).symm n
  rw [if_pos ⟨rfl, hpaired, htwin⟩] at hstop
  have hpark : s.seePark c true n = s.parkCh c n := rfl
  rw [hpark]
  generalize s.parkCh c n = v at hparked hacts hstop ⊢
  refine ⟨(State.seeHoldOver_actsOn true).stopped (by rw [hstop]), fun hhold hturn => ?_⟩
  have hover : v.holdOver c true = true := by
    unfold State.holdOver
    rw [hparked, hacts.pdChan, hhold]
    simp [hturn]
  unfold State.seeHoldOver State.parkOff
  rw [if_pos hover]
  dsimp only
  have hoff : State.ActsOn c v (v.onChan c fun k => { k with fetsOff := true, solo := false }) := State.onChan_actsOn fun _ => rfl
  have hoff' := hacts.trans (hoff.raise 0x0407 c.val
    [BitVec.ofNat 8 ((v.onChan c fun k => { k with fetsOff := true, solo := false }).chan c).parkCause])
  obtain ⟨-, -, hsolo⟩ := State.partnerOff_chan_twin (c := c) 2 rfl rfl
  exact hsolo ((hoff'.paired c).trans hpaired) (by rw [hoff'.twinState]; exact htwin)

/-- A park latch without a new short or gate flag: the whole report is the park (R161). -/
theorem State.reportCh_park_only {f : UpFrame} (hbank : (s.pdChan c).bankOff = false) (hpark : (f.flag c).getLsbD 1 = true)
    {newly : Byte} (hnewly : newly = f.flag c &&& ~~~(s.chan c).psFault) (hshort : newly.toNat / 16 = 0)
    (hgate : newly.getLsbD 2 = false) :
    s.reportCh f c =
      (((s.noteFlags f c).onChan c fun k => { k with bankSeen := false }).seePark c true (parkCauseOf (f.bank (bankOf c)))).seeHoldOver c
        true := by
  have hbank' : ((s.noteFlags f c).pdChan c).bankOff = false := hbank
  rw [State.reportCh_eq]
  dsimp only
  rw [← hnewly, hpark, State.seeShort_none hshort, State.seeGate_none hgate, State.seeBankOff_none hbank']

/-- The flags taken, with no bank turn-off latched. -/
theorem State.noteFlags_bankSeen_chan (f : UpFrame) (d : Ch) :
    let u := (s.noteFlags f c).onChan c fun k => { k with bankSeen := false }
    (u.chan d).state = (s.chan d).state ∧ (d ≠ c → u.chan d = s.chan d) := by
  intro u
  by_cases hd : d = c
  · subst hd
    refine ⟨?_, fun h => absurd rfl h⟩
    unfold u
    rw [State.onChan_chan_same, State.noteFlags_chan_same]
  · have h : u.chan d = s.chan d := by
      unfold u
      rw [State.onChan_chan_other _ _ _ _ hd, State.noteFlags_chan_other f hd]
    exact ⟨by rw [h], fun _ => h⟩

/-- What a park latch alone does, on the channel and on its energised twin (R113, R114, R161, R170). -/
theorem State.reportCh_parked {f : UpFrame} (hstate : (s.chan c).state.energised = true) (hbank : (s.pdChan c).bankOff = false)
    (hpark : (f.flag c).getLsbD 1 = true) {newly : Byte} (hnewly : newly = f.flag c &&& ~~~(s.chan c).psFault)
    (hshort : newly.toNat / 16 = 0) (hgate : newly.getLsbD 2 = false) :
    let k := (s.reportCh f c).chan c
    let p := (s.reportCh f c).chan (twinOf c)
    (k.state = .parked ∧ k.motion.vel = 0 ∧ k.parkCause = parkCauseOf (f.bank (bankOf c)) ∧
      ((s.pdChan c).parkHold = true → k.fetsOff = false) ∧
      ((s.pdChan c).parkHold = false → (s.pdChan c).turnOff ≠ .plateau → k.fetsOff = true)) ∧
    (s.paired c = true → (s.chan (twinOf c)).state.energised = true → p.motion.immReq = some .fault ∧
      ((s.pdChan c).parkHold = false → (s.pdChan c).turnOff ≠ .plateau → p.solo = true)) := by
  have hsame := (State.noteFlags_bankSeen_chan (s := s) (c := c) f c).1
  have htwin := (State.noteFlags_bankSeen_chan (s := s) (c := c) f (twinOf c)).1
  rw [State.reportCh_park_only hbank hpark hnewly hshort hgate]
  have hnot : (((s.noteFlags f c).onChan c fun k => { k with bankSeen := false }).chan c).state ≠ .parked := by
    rw [hsame]
    exact (Channel.faultable_of_energised hstate).2
  exact ⟨State.seePark_seeHoldOver_parked hnot _,
    fun hpaired henergised => State.seePark_seeHoldOver_twin hnot hpaired (by rw [htwin]; exact henergised) _⟩

/-- A channel but for what its own report takes in without acting on it. -/
def Channel.besideOwn (k : Channel) : Channel :=
  { k with code1 := 0, code2 := 0, psFault := 0, est := Estim.init, bankSeen := false }

/-- A report without a new flag, a park latch or a bank turn-off acts on nothing. -/
theorem State.reportCh_quiet {f : UpFrame} (hstate : (s.chan c).state.energised = true) (hbank : (s.pdChan c).bankOff = false)
    (hpark : (f.flag c).getLsbD 1 = false) (hnone : f.flag c &&& ~~~(s.chan c).psFault = 0) :
    ((s.reportCh f c).chan c).besideOwn = (s.chan c).besideOwn := by
  have hbank' : ((s.noteFlags f c).pdChan c).bankOff = false := hbank
  have hstate' : (((s.noteFlags f c).onChan c fun k => { k with bankSeen := false }).chan c).state ≠ .parked := by
    rw [(State.noteFlags_bankSeen_chan f c).1]
    exact (Channel.faultable_of_energised hstate).2
  have hover : ((s.noteFlags f c).onChan c fun k => { k with bankSeen := false }).holdOver c false = false := by
    unfold State.holdOver
    rw [beq_eq_false_iff_ne.2 hstate']
    rfl
  have hpass : ∀ (u : State) n, u.seePark c false n = u := fun _ _ => rfl
  rw [State.reportCh_eq]
  dsimp only
  rw [hnone, hpark, State.seeShort_none rfl, State.seeGate_none rfl, State.seeBankOff_none hbank', hpass, State.seeHoldOver,
    if_neg (by rw [hover]; decide), State.onChan_chan_same, State.noteFlags_chan_same]
  rfl

/-! ### The reports of all present channels -/

/-- The present channels report in their order. -/
def State.reports (s : State) (f : UpFrame) : State := s.forAll (allCh.filter fun c => s.hasCh c) fun c t => t.reportCh f c

theorem mem_present {s : State} {c : Ch} : c ∈ allCh.filter (fun c => s.hasCh c) ↔ s.hasCh c = true := by
  simp [mem_allCh]

theorem State.reports_besideReport (f : UpFrame) : (s.reports f).besideReport = s.besideReport := by
  unfold State.reports
  rw [State.forAll_keeps State.besideReport]
  exact fun _ _ => State.reportCh_besideReport f

/-- What a channel's own report leaves, where it does not turn on what the twin's can change. -/
theorem State.reports_own {P : Channel → Prop} (hP : ∀ k k' : Channel, k'.besideTwin = k.besideTwin → P k → P k') {f : UpFrame}
    (hc : s.hasCh c = true)
    (hturn : ∀ t : State, t.besideReport = s.besideReport → (t.chan c).besideTwin = (s.chan c).besideTwin → P ((t.reportCh f c).chan c)) :
    P ((s.reports f).chan c) := by
  refine State.forAll_turn (before := fun t => t.besideReport = s.besideReport ∧ (t.chan c).besideTwin = (s.chan c).besideTwin)
    (after := fun t => P (t.chan c)) (mem_present.2 hc) (allCh_nodup.filter _) (fun d _ hd t ht => ?_) (fun t ht => hturn t ht.1 ht.2)
    (fun d _ hd t ht => hP _ _ (State.reportCh_besideTwin f (Ne.symm hd)) ht) ⟨rfl, rfl⟩
  exact ⟨(State.reportCh_besideReport f).trans ht.1, (State.reportCh_besideTwin f (Ne.symm hd)).trans ht.2⟩

/-- A twin with nothing of its own to report. -/
def State.quietTwin (s : State) (f : UpFrame) (p : Ch) : Prop :=
  (s.chan p).state.energised = true ∧ f.flag p &&& ~~~(s.chan p).psFault = 0 ∧ (f.flag p).getLsbD 1 = false ∧ (s.pdChan p).bankOff = false

/-- On the way through the reports, a twin with nothing of its own to report. -/
def State.twinWay (s : State) (f : UpFrame) (p : Ch) (t : State) : Prop :=
  t.besideReport = s.besideReport ∧ (t.chan p).state = (s.chan p).state ∧ f.flag p &&& ~~~(t.chan p).psFault = 0

theorem State.twinWay.quiet {f : UpFrame} {p : Ch} (hquiet : s.quietTwin f p) (h : s.twinWay f p t) : t.quietTwin f p := by
  obtain ⟨hon, -, hpark, hbank⟩ := hquiet
  obtain ⟨hrest, hstate, hnone⟩ := h
  have hpd : t.pdChan p = s.pdChan p := by
    have hpd := congrArg (fun x : State => x.pdChan p) hrest
    exact hpd
  exact ⟨by rw [hstate]; exact hon, hnone, hpark, by rw [hpd]; exact hbank⟩

theorem State.twinWay.report {f : UpFrame} {p : Ch} (hquiet : s.quietTwin f p) (h : s.twinWay f p t) (d : Ch) :
    s.twinWay f p (t.reportCh f d) := by
  obtain ⟨hon, hnone, hpark, hbank⟩ := h.quiet hquiet
  obtain ⟨hrest, hstate, -⟩ := h
  refine ⟨(State.reportCh_besideReport f).trans hrest, ?_⟩
  by_cases hd : p = d
  · subst hd
    have hown := congrArg Channel.state (State.reportCh_quiet hon hbank hpark hnone)
    have hflags := congrArg (·.2.2) (State.reportCh_reported (s := t) (c := p) f)
    refine ⟨Eq.trans hown hstate, ?_⟩
    rw [show ((t.reportCh f p).chan p).psFault = f.flag p from hflags]
    exact BitVec.and_not_self _
  · have hother := State.reportCh_besideTwin (s := t) f hd
    have hstate' := congrArg Channel.state hother
    have hflags := congrArg Channel.psFault hother
    exact ⟨Eq.trans hstate' hstate, by rw [show ((t.reportCh f d).chan p).psFault = (t.chan p).psFault from hflags]; exact hnone⟩

/-- What a channel's report leaves of its twin, where the twin has nothing of its own to report. -/
theorem State.reports_twin {P : Channel → Prop} (hP : ∀ k k' : Channel, k'.besideOwn = k.besideOwn → P k → P k') {f : UpFrame}
    (hc : s.hasCh c = true) (hquiet : s.quietTwin f (twinOf c))
    (hturn : ∀ t : State, t.besideReport = s.besideReport → (t.chan c).besideTwin = (s.chan c).besideTwin →
      (t.chan (twinOf c)).state = (s.chan (twinOf c)).state → P ((t.reportCh f c).chan (twinOf c))) :
    ((s.reports f).chan (twinOf c)).state = (s.chan (twinOf c)).state ∧ P ((s.reports f).chan (twinOf c)) := by
  have hreach : s.twinWay f (twinOf c) (s.reports f) ∧ P ((s.reports f).chan (twinOf c)) := by
    refine State.forAll_turn
      (before := fun t => s.twinWay f (twinOf c) t ∧ (t.chan c).besideTwin = (s.chan c).besideTwin)
      (after := fun t => s.twinWay f (twinOf c) t ∧ P (t.chan (twinOf c))) (mem_present.2 hc) (allCh_nodup.filter _)
      (fun d _ hd t ht => ?_) (fun t ht => ?_) (fun d _ hd t ht => ?_) ⟨⟨rfl, rfl, hquiet.2.1⟩, rfl⟩
    · exact ⟨ht.1.report hquiet d, (State.reportCh_besideTwin f (Ne.symm hd)).trans ht.2⟩
    · exact ⟨ht.1.report hquiet c, hturn t ht.1.1 ht.2 ht.1.2.1⟩
    · refine ⟨ht.1.report hquiet d, ?_⟩
      by_cases hp : twinOf c = d
      · subst hp
        obtain ⟨hon, hnone, hpark, hbank⟩ := ht.1.quiet hquiet
        exact hP _ _ (State.reportCh_quiet hon hbank hpark hnone) ht.2
      · have hpair : twinOf c ≠ twinOf d := fun e => hd (by rw [← twinOf_twinOf d, ← e, twinOf_twinOf])
        rw [(State.reportCh_actsOn f).others _ hp hpair, State.noteFlags_chan_other f hp]
        exact ht.2
  exact ⟨hreach.1.2.1, hreach.2⟩

end Sys2Proof.Machine
end

section
/-! A good uplink superframe as a whole: the banks, the link, and the tags that come back (R26, R36, R40, R159, R177, R493). -/

namespace Sys2Proof.Machine

variable {s : State}

/-! ### The banks (R26, R40, R159, R209) -/

/-- A bank as a superframe reports it. -/
def State.bankReported (s : State) (f : UpFrame) (b : BankIx) (x : Bank) : Bank :=
  { x.noteChop s.fc ((f.bank b).getLsbD 4) (s.parN Pid.BANK_CHOP_MAX_ON b.val) with
    vm := (f.vm b).toNat, status := f.bank b, missedFrames := satAdd (2 ^ 32 - 1) x.missedFrames (b2n ((f.bank b).getLsbD 2))
    crcErrors := satAdd (2 ^ 32 - 1) x.crcErrors ((f.bank b).extractLsb' 0 2).toNat, timebase := (f.time b).toNat, sampleTag := f.tag b }

/-- A missed frame is noted at every channel of its bank (R40, R122). -/
def State.noteMissed (s : State) (b : BankIx) : State :=
  (s.forAll (bankChs b) fun c t => t.onEst c fun e => { e with missedNow := true }).pulse (864 + 24 * b.val + 5)

theorem State.takeBank_eq (f : UpFrame) (b : BankIx) :
    s.takeBank f b =
      let u := s.onBank b (s.bankReported f b)
      let v := if (f.bank b).getLsbD 2 then u.noteMissed b else u
      if ((f.bank b).extractLsb' 0 2).toNat != 0 then v.pulse (864 + 24 * b.val + 6) else v := rfl

/-- A state but for its pulses and the estimators of its channels. -/
def State.besideEst (s : State) : State :=
  { s with pulses := [], chans := s.chans.map fun k => { k with est := Estim.init } }

theorem upd_map {α β : Type} {n : Nat} (g : α → β) (v : Vector α n) (i : Fin n) {f : α → α} (hf : ∀ a, g (f a) = g a) :
    (upd v i f).map g = v.map g := by
  refine Vector.ext fun j hj => ?_
  have h := upd_get v i ⟨j, hj⟩ f
  rw [Vector.getElem_map, Vector.getElem_map]
  rw [show (upd v i f)[j] = if (⟨j, hj⟩ : Fin n) = i then f v[j] else v[j] from h]
  split
  · exact hf _
  · rfl

theorem State.onEst_besideEst (c : Ch) (f : Estim → Estim) : (s.onEst c f).besideEst = s.besideEst := by
  have h := upd_map (fun k : Channel => { k with est := Estim.init }) s.chans c (f := fun k => { k with est := f k.est }) fun _ => rfl
  exact congrArg (fun cs => ({ s with pulses := [], chans := cs } : State)) h

theorem State.pulse_besideEst (n : Nat) : (s.pulse n).besideEst = s.besideEst := by
  rw [State.pulse_frame]
  rfl

theorem State.noteMissed_besideEst (b : BankIx) : (s.noteMissed b).besideEst = s.besideEst := by
  unfold State.noteMissed
  rw [State.pulse_besideEst, State.forAll_keeps State.besideEst]
  exact fun c t => t.onEst_besideEst c _

theorem State.takeBank_besideEst (f : UpFrame) (b : BankIx) :
    (s.takeBank f b).besideEst = (s.onBank b (s.bankReported f b)).besideEst := by
  rw [State.takeBank_eq]
  dsimp only
  have hmissed : (if (f.bank b).getLsbD 2 = true then (s.onBank b (s.bankReported f b)).noteMissed b
      else s.onBank b (s.bankReported f b)).besideEst = (s.onBank b (s.bankReported f b)).besideEst := by
    split
    · exact State.noteMissed_besideEst b
    · rfl
  split
  · exact (State.pulse_besideEst _).trans hmissed
  · exact hmissed

/-- Both banks and the temperature are taken (R26). -/
def State.takeBanks (s : State) (f : UpFrame) : State :=
  let u := (s.takeBank f 0).takeBank f 1
  { u with power := { u.power with temp := f.temp.toInt } }

theorem State.takeBanks_bank (f : UpFrame) (b : BankIx) : (s.takeBanks f).bank b = s.bankReported f b (s.bank b) := by
  have hfirst : ∀ i, (s.takeBank f 0).bank i = (s.onBank 0 (s.bankReported f 0)).bank i := fun i => by
    have h := congrArg (fun x : State => x.bank i) (s.takeBank_besideEst f 0)
    exact h
  have hsecond : ∀ i, (s.takeBanks f).bank i = ((s.takeBank f 0).onBank 1 ((s.takeBank f 0).bankReported f 1)).bank i := fun i => by
    have h := congrArg (fun x : State => x.bank i) ((s.takeBank f 0).takeBank_besideEst f 1)
    exact h
  have hreported : (s.takeBank f 0).bankReported f 1 = s.bankReported f 1 := by
    have h := congrArg (fun x : State => x.bankReported f 1) (s.takeBank_besideEst f 0)
    exact h
  have hb : b = 0 ∨ b = 1 := by
    revert b
    decide
  rcases hb with rfl | rfl
  · rw [hsecond, State.onBank_bank_other _ _ _ _ (by decide), hfirst, State.onBank_bank_same]
  · rw [hsecond, hreported, State.onBank_bank_same, hfirst, State.onBank_bank_other _ _ _ _ (by decide)]

/-- A state but for its banks, its temperature, its pulses and the estimators of its channels. -/
def State.besideBanks (s : State) : State :=
  { s.besideEst with banks := Vector.replicate 2 Bank.init, power := { s.power with temp := 0 } }

theorem State.takeBanks_besideBanks (f : UpFrame) : (s.takeBanks f).besideBanks = s.besideBanks := by
  have hbank : ∀ (x : State) (b : BankIx), (x.takeBank f b).besideBanks = x.besideBanks := fun x b =>
    congrArg (fun x : State => { x with banks := Vector.replicate 2 Bank.init, power := { x.power with temp := 0 } })
      (x.takeBank_besideEst f b)
  exact (hbank (s.takeBank f 0) 1).trans (hbank s 0)

/-- The banks' report leaves of every channel all but its estimator. -/
theorem State.takeBanks_chan (f : UpFrame) (c : Ch) :
    (s.takeBanks f).chan c = { s.chan c with est := ((s.takeBanks f).chan c).est } := by
  have h := congrArg (fun x : State => x.chans[c]) (s.takeBanks_besideBanks f)
  have hmap : ∀ x : State, x.besideBanks.chans[c] = { x.chan c with est := Estim.init } := fun x => Vector.getElem_map ..
  have hsame : ({ (s.takeBanks f).chan c with est := Estim.init } : Channel) = { s.chan c with est := Estim.init } :=
    (hmap _).symm.trans (h.trans (hmap s))
  exact congrArg (fun k : Channel => { k with est := ((s.takeBanks f).chan c).est }) hsame

/-! ### The link (R36, R306) -/

/-- The supervision of the link, and the run of good superframes (R36). -/
def State.supervise (s : State) (f : UpFrame) : State :=
  let up := min 64 (s.link.goodUp + 1)
  { s with
    link := { s.link with
      supervised := true, rxSeq := f.seq, goodUp := up, lost := s.link.lost && !(64 ≤ up && 64 ≤ s.link.goodDown) } }

/-- Every stored setting is sent to a power die that answers again (R306). -/
def State.resendDue (s : State) : State := if s.mustResend then s.resend else s

theorem State.goodUplink_eq (f : UpFrame) :
    s.goodUplink f =
      ((((s.takeBanks f).reports f).supervise f).resendDue).forAll (f.ack.filter (· != 0)) fun t u => u.echo t := rfl

/-- What the link knows of the uplink. -/
def Link.uplink (l : Link) : Bool × Byte × Nat := (l.supervised, l.rxSeq, l.goodUp)

theorem Link.issue_uplink (l : Link) (k : CfgKind) (waited : Bool) : (l.issue k waited).uplink = l.uplink := by
  unfold Link.issue
  split <;> rfl

theorem Link.issueAll_uplink (ks : List CfgKind) (l : Link) : (ks.foldl (fun l k => l.issue k false) l).uplink = l.uplink := by
  induction ks generalizing l with
  | nil => rfl
  | cons k ks ih => exact (ih _).trans (l.issue_uplink k false)

theorem Link.echoed_uplink (l : Link) (t : Byte) : (l.echoed t).uplink = l.uplink := by
  unfold Link.echoed
  split <;> rfl

theorem Link.promote_uplink (n : Nat) (l : Link) (ts : List Byte) : (l.promote n ts).1.uplink = l.uplink := by
  induction n generalizing l ts with
  | zero => rfl
  | succ n ih =>
    unfold Link.promote
    split
    · rfl
    · split
      · rfl
      · exact (ih _ _).trans (Link.issue_uplink _ _ _)

theorem State.resendDue_frame : s.resendDue = { s with link := s.resendDue.link } := by
  unfold State.resendDue
  split <;> rfl

theorem State.resendDue_uplink : s.resendDue.link.uplink = s.link.uplink := by
  unfold State.resendDue
  split
  · exact Link.issueAll_uplink s.settings { s.link with answers := true }
  · rfl

/-! ### The tags that come back (R493) -/

/-- What the echo of a tag keeps, whatever command it completes. -/
structure EchoKept where
  rest : BesideAnswer
  uplink : Bool × Byte × Nat
  reported : Vector (Int × Int × Byte) 24

def State.echoKept (s : State) : EchoKept :=
  ⟨{ s.besideAnswer with chans := Vector.replicate 24 Channel.init, pairs := Vector.replicate 12 PairRecord.init, link := Link.init },
    s.link.uplink, s.chans.map Channel.reported⟩

theorem State.onChan_echoKept (c : Ch) {f : Channel → Channel} (hf : ∀ k, (f k).reported = k.reported) :
    (s.onChan c f).echoKept = s.echoKept :=
  congrArg (fun r => ({ s.echoKept with reported := r } : EchoKept)) (upd_map Channel.reported s.chans c hf)

theorem State.beginEnable_echoKept (cs : List Ch) (c : Ch) : (s.beginEnable cs c).echoKept = s.echoKept :=
  State.onChan_echoKept c fun _ => rfl

theorem State.released_echoKept (clears starts : List Ch) : (s.released clears starts).echoKept = s.echoKept := by
  unfold State.released
  rw [State.forAll_keeps State.echoKept, State.forAll_keeps State.echoKept]
  · rfl
  · exact fun c t => State.onChan_echoKept c fun _ => rfl
  · intro c t
    unfold State.lateEnable
    split
    · exact State.beginEnable_echoKept starts c
    · rfl

theorem State.echoKept_of_besideAnswer {t : State} (h : t.besideAnswer = s.besideAnswer) : t.echoKept = s.echoKept :=
  congrArg (fun b : BesideAnswer =>
    (⟨{ b with chans := Vector.replicate 24 Channel.init, pairs := Vector.replicate 12 PairRecord.init, link := Link.init },
      b.link.uplink, b.chans.map Channel.reported⟩ : EchoKept)) h

theorem State.tryComplete_echoKept : s.tryComplete.echoKept = s.echoKept := by
  unfold State.tryComplete
  split
  · split
    · exact (State.echoKept_of_besideAnswer (State.complete_besideAnswer _)).trans (State.released_echoKept _ _)
    · rfl
  · rfl

theorem State.echo_echoKept (t : Byte) : (s.echo t).echoKept = s.echoKept := by
  have hlink : ((s.link.echoed t).promote 255 []).1.uplink = s.link.uplink :=
    (Link.promote_uplink 255 _ []).trans (Link.echoed_uplink s.link t)
  unfold State.echo
  dsimp only
  rw [State.tryComplete_echoKept]
  exact congrArg (fun l => ({ s.echoKept with uplink := l } : EchoKept)) hlink

/-- With no command waiting, an echo changes the link and the wait alone. -/
theorem State.echoes_chans (h : s.mbx.waiting = none) (ts : List Byte) :
    (s.forAll ts fun t u => u.echo t).chans = s.chans := by
  have hkept : (s.forAll ts fun t u => u.echo t).mbx.waiting = none ∧ (s.forAll ts fun t u => u.echo t).chans = s.chans := by
    refine State.forAll_invariant (P := fun u => u.mbx.waiting = none ∧ u.chans = s.chans) (fun t _ u hu => ?_) ⟨h, rfl⟩
    obtain ⟨hwaiting, hchans⟩ := hu
    unfold State.echo
    dsimp only
    rw [hwaiting, State.tryComplete_none rfl]
    exact ⟨rfl, hchans⟩
  exact hkept.2

/-! ### The superframe as a whole -/

/-- The power die's counts begin anew (R26, R159). -/
def State.countsBegin (s : State) : State :=
  { s with pd := { s.pd with upSeq := s.pd.upSeq + 1, crcErr := 0, banks := s.pd.banks.map fun b => { b with missed := false } } }

theorem exec_uplinkSuperframe (noise : List (Nat × Byte)) (vmA vmB temp : BitVec 16) (listen : List (Ch × Int × Int))
    (hhw : s.hwOn = true) (hup : s.linkUp = true) (hpd : s.pdOn = true) :
    exec (.uplinkSuperframe noise vmA vmB temp listen) s =
      .next (if sealOk 115 (s.upBytes noise vmA vmB temp listen) then s.goodUplink (UpFrame.ofBytes (s.upBytes noise vmA vmB temp listen))
        else { s with link := { s.link with goodUp := 0 } }).countsBegin := by
  simp only [exec, execUplinkSuperframe, hhw, hup, hpd, Bool.and_self, if_true]
  rfl

theorem State.countsBegin_missed (b : BankIx) : (s.countsBegin.pdBank b).missed = false := by
  have h : s.countsBegin.pdBank b = { s.pdBank b with missed := false } := Vector.getElem_map ..
  rw [h]

/-- What a superframe reports of neither banks, link nor channels. -/
def State.uplinkRest (s : State) : PowerDie × Vector Fb 24 × Vector Modulator 16 × Vector Gb 256 × Vector Flt 32 × Otp :=
  (s.pd, s.fbs, s.mods, s.gbs, s.flts, s.otp)

/-- A good superframe, but for what its channels report. -/
theorem State.goodUplink_rest (f : UpFrame) :
    (s.goodUplink f).uplinkRest = s.uplinkRest ∧ (s.goodUplink f).power.temp = f.temp.toInt ∧
      (s.goodUplink f).link.uplink = (true, f.seq, min 64 (s.link.goodUp + 1)) ∧
      ∀ b, (s.goodUplink f).bank b = s.bankReported f b (s.bank b) := by
  have hecho : (s.goodUplink f).echoKept = ((((s.takeBanks f).reports f).supervise f).resendDue).echoKept := by
    rw [State.goodUplink_eq, State.forAll_keeps State.echoKept]
    exact fun t u => u.echo_echoKept t
  have hresend := (((s.takeBanks f).reports f).supervise f).resendDue_frame
  have huplink := (((s.takeBanks f).reports f).supervise f).resendDue_uplink
  have hreports := (s.takeBanks f).reports_besideReport f
  have hbanks := s.takeBanks_besideBanks f
  have hbank := s.takeBanks_bank f
  have htemp : (s.takeBanks f).power.temp = f.temp.toInt := rfl
  generalize s.goodUplink f = u at hecho ⊢
  generalize s.takeBanks f = w at hecho hresend huplink hreports hbanks hbank htemp
  generalize (((w.reports f).supervise f).resendDue) = v at hecho hresend huplink
  generalize w.reports f = x at hresend huplink hreports
  have hrest : u.uplinkRest = s.uplinkRest := by
    have h1 := congrArg (fun e : EchoKept => (e.rest.pd, e.rest.fbs, e.rest.mods, e.rest.gbs, e.rest.flts, e.rest.otp)) hecho
    have h2 := congrArg State.uplinkRest hresend
    have h3 := congrArg State.uplinkRest hreports
    have h4 := congrArg State.uplinkRest hbanks
    exact (Eq.trans h1 h2).trans (Eq.trans h3 h4)
  have hbanks' : u.banks = w.banks := by
    have h1 := congrArg (fun e : EchoKept => e.rest.banks) hecho
    have h2 := congrArg State.banks hresend
    have h3 := congrArg State.banks hreports
    exact (Eq.trans h1 h2).trans h3
  have htemp' : u.power.temp = w.power.temp := by
    have h1 := congrArg (fun e : EchoKept => e.rest.temp) hecho
    have h2 := congrArg (fun x : State => x.power.temp) hresend
    have h3 := congrArg (fun x : State => x.power.temp) hreports
    exact (Eq.trans h1 h2).trans h3
  have hgood : x.link.goodUp = s.link.goodUp := by
    have h3 := congrArg (fun x : State => x.link.goodUp) hreports
    have h4 := congrArg (fun x : State => x.link.goodUp) hbanks
    exact Eq.trans h3 h4
  have hlink : u.link.uplink = (true, f.seq, min 64 (s.link.goodUp + 1)) := by
    have h1 := congrArg EchoKept.uplink hecho
    rw [← hgood]
    exact Eq.trans h1 huplink
  exact ⟨hrest, htemp'.trans htemp, hlink, fun b => Eq.trans (congrArg (fun bs => bs[b]) hbanks') (hbank b)⟩

/-- The currents and the flag character of every present channel (R26, R150, R158). -/
theorem State.goodUplink_reported {c : Ch} (hc : s.hasCh c = true) (f : UpFrame) :
    ((s.goodUplink f).chan c).reported = ((f.codes c).1, (f.codes c).2, f.flag c) := by
  have hecho : (s.goodUplink f).echoKept = ((((s.takeBanks f).reports f).supervise f).resendDue).echoKept := by
    rw [State.goodUplink_eq, State.forAll_keeps State.echoKept]
    exact fun t u => u.echo_echoKept t
  have hchan : ∀ x : State, x.echoKept.reported[c] = (x.chan c).reported := fun x => Vector.getElem_map ..
  have hhas : (s.takeBanks f).hasCh c = true := by
    have h := congrArg (fun x : State => x.hasCh c) (s.takeBanks_besideBanks f)
    exact Eq.trans h hc
  have hown : (((s.takeBanks f).reports f).chan c).reported = ((f.codes c).1, (f.codes c).2, f.flag c) := by
    refine State.reports_own (P := fun k => k.reported = ((f.codes c).1, (f.codes c).2, f.flag c)) (fun k k' h hk => ?_) hhas
      fun t _ _ => State.reportCh_reported f
    have hsame := congrArg Channel.reported h
    exact Eq.trans hsame hk
  have hresend := (((s.takeBanks f).reports f).supervise f).resendDue_frame
  generalize s.goodUplink f = u at hecho ⊢
  generalize s.takeBanks f = w at hecho hresend hown
  generalize w.reports f = x at hecho hresend hown
  have hsame : (x.supervise f).resendDue.chan c = x.chan c := by
    rw [hresend]
    rfl
  rw [← hchan, hecho, hchan, hsame, hown]

/-- With no command waiting, the channels stand as they have reported. -/
theorem State.goodUplink_chan (h : s.mbx.waiting = none) (f : UpFrame) (d : Ch) :
    (s.goodUplink f).chan d = ((s.takeBanks f).reports f).chan d := by
  have hresend := (((s.takeBanks f).reports f).supervise f).resendDue_frame
  have hreports := (s.takeBanks f).reports_besideReport f
  have hbanks := s.takeBanks_besideBanks f
  have heq := s.goodUplink_eq f
  generalize s.goodUplink f = u at heq ⊢
  generalize s.takeBanks f = w at heq hresend hreports hbanks
  generalize w.reports f = x at heq hresend hreports
  have hwaiting : (x.supervise f).resendDue.mbx.waiting = none := by
    have h1 := congrArg (fun y : State => y.mbx.waiting) hresend
    have h2 := congrArg (fun y : State => y.mbx.waiting) hreports
    have h3 := congrArg (fun y : State => y.mbx.waiting) hbanks
    exact (Eq.trans h1 (Eq.trans h2 h3)).trans h
  have hchans := State.echoes_chans hwaiting (f.ack.filter (· != 0))
  have hsame : (x.supervise f).resendDue.chans = x.chans := by
    rw [hresend]
    rfl
  rw [heq]
  exact congrArg (fun cs => cs[d]) (hchans.trans hsame)

end Sys2Proof.Machine
end

section
/-! The flags of a good uplink superframe on a channel and its twin (R82, R113, R114, R160, R161, R170). -/

namespace Sys2Proof.Machine

variable {s : State} {c : Ch}

/-- What a channel in motion or at hold shows once its flags are seen: FAULT for a short or a gate fault, PARKED for a park latch alone. -/
def Channel.sawFlags (k : Channel) (p : PdChan) (status new newly : Byte) : Prop :=
  (newly.toNat / 16 ≠ 0 → new.getLsbD 1 = false → k.faulted ∧ k.causes.short = true) ∧
    (newly.getLsbD 2 = true → new.getLsbD 1 = false → k.faulted ∧ k.causes.gate = true) ∧
    (newly.toNat / 16 = 0 → newly.getLsbD 2 = false → new.getLsbD 1 = true →
      k.state = .parked ∧ k.motion.vel = 0 ∧ k.parkCause = parkCauseOf status ∧ (p.parkHold = true → k.fetsOff = false) ∧
        (p.parkHold = false → p.turnOff ≠ .plateau → k.fetsOff = true))

/-- What an energised twin beside it shows. -/
def Channel.sawTwin (k : Channel) (p : PdChan) (new newly : Byte) : Prop :=
  ((newly.toNat / 16 ≠ 0 ∨ newly.getLsbD 2 = true) → new.getLsbD 1 = false → k.solo = true) ∧
    (newly.toNat / 16 = 0 → newly.getLsbD 2 = false → new.getLsbD 1 = true → k.motion.immReq = some .fault ∧
      (p.parkHold = false → p.turnOff ≠ .plateau → k.solo = true))

theorem Channel.sawFlags_congr {k k' : Channel} (h : k'.besideTwin = k.besideTwin) {p : PdChan} {status new newly : Byte}
    (hk : k.sawFlags p status new newly) : k'.sawFlags p status new newly := by
  have hsaw : k'.besideTwin.sawFlags p status new newly := by
    rw [h]
    exact hk
  exact hsaw

theorem Channel.sawTwin_congr {k k' : Channel} (h : k'.besideOwn = k.besideOwn) {p : PdChan} {new newly : Byte}
    (hk : k.sawTwin p new newly) : k'.sawTwin p new newly := by
  have hsaw : k'.besideOwn.sawTwin p new newly := by
    rw [h]
    exact hk
  exact hsaw

/-- A channel's own report, and the twin beside it. -/
theorem State.reportCh_sawFlags {f : UpFrame} (hstate : (s.chan c).state.energised = true) (hbank : (s.pdChan c).bankOff = false) :
    ((s.reportCh f c).chan c).sawFlags (s.pdChan c) (f.bank (bankOf c)) (f.flag c) (f.flag c &&& ~~~(s.chan c).psFault) := by
  refine ⟨fun hshort hpark => ?_, fun hgate hpark => ?_, fun hshort hgate hpark => ?_⟩
  · exact (State.reportCh_faulted hstate hbank hpark rfl).1 hshort
  · exact (State.reportCh_faulted hstate hbank hpark rfl).2 hgate
  · exact (State.reportCh_parked hstate hbank hpark rfl hshort hgate).1

theorem State.reportCh_sawTwin {f : UpFrame} (hstate : (s.chan c).state.energised = true) (hbank : (s.pdChan c).bankOff = false)
    (hon : (s.chan c).fetsOff = false) (hpaired : s.paired c = true) (htwin : (s.chan (twinOf c)).state.energised = true) :
    ((s.reportCh f c).chan (twinOf c)).sawTwin (s.pdChan c) (f.flag c) (f.flag c &&& ~~~(s.chan c).psFault) := by
  refine ⟨fun hseen _ => State.reportCh_faulted_solo hstate hon hpaired htwin rfl hseen, fun hshort hgate hpark => ?_⟩
  exact (State.reportCh_parked hstate hbank hpark rfl hshort hgate).2 hpaired htwin

/-- The turn of a channel among the reports finds it as it stood. -/
theorem State.reports_sawFlags {f : UpFrame} (hc : s.hasCh c = true) (hstate : (s.chan c).state.energised = true)
    (hbank : (s.pdChan c).bankOff = false) :
    ((s.reports f).chan c).sawFlags (s.pdChan c) (f.bank (bankOf c)) (f.flag c) (f.flag c &&& ~~~(s.chan c).psFault) := by
  refine State.reports_own
    (P := fun k => k.sawFlags (s.pdChan c) (f.bank (bankOf c)) (f.flag c) (f.flag c &&& ~~~(s.chan c).psFault))
    (fun _ _ h hk => Channel.sawFlags_congr h hk) hc fun t hrest hchan => ?_
  have hpd : t.pdChan c = s.pdChan c := by have h := congrArg (fun x : State => x.pdChan c) hrest; exact h
  have hsame : (t.chan c).state = (s.chan c).state := by have h := congrArg Channel.state hchan; exact h
  have hflags : (t.chan c).psFault = (s.chan c).psFault := by have h := congrArg Channel.psFault hchan; exact h
  have hsaw := State.reportCh_sawFlags (s := t) (c := c) (f := f) (by rw [hsame]; exact hstate) (by rw [hpd]; exact hbank)
  rwa [hpd, hflags] at hsaw

theorem State.reports_sawTwin {f : UpFrame} (hc : s.hasCh c = true) (hstate : (s.chan c).state.energised = true)
    (hbank : (s.pdChan c).bankOff = false) (hon : (s.chan c).fetsOff = false) (hpaired : s.paired c = true)
    (hquiet : s.quietTwin f (twinOf c)) :
    ((s.reports f).chan (twinOf c)).state = (s.chan (twinOf c)).state ∧
      ((s.reports f).chan (twinOf c)).sawTwin (s.pdChan c) (f.flag c) (f.flag c &&& ~~~(s.chan c).psFault) := by
  refine State.reports_twin (P := fun k => k.sawTwin (s.pdChan c) (f.flag c) (f.flag c &&& ~~~(s.chan c).psFault))
    (fun _ _ h hk => Channel.sawTwin_congr h hk) hc hquiet fun t hrest hchan htwin => ?_
  have hpd : t.pdChan c = s.pdChan c := by have h := congrArg (fun x : State => x.pdChan c) hrest; exact h
  have hpaired' : t.paired c = s.paired c := by have h := congrArg (fun x : State => x.paired c) hrest; exact h
  have hsame : (t.chan c).state = (s.chan c).state := by have h := congrArg Channel.state hchan; exact h
  have hfets : (t.chan c).fetsOff = (s.chan c).fetsOff := by have h := congrArg Channel.fetsOff hchan; exact h
  have hflags : (t.chan c).psFault = (s.chan c).psFault := by have h := congrArg Channel.psFault hchan; exact h
  have hsaw := State.reportCh_sawTwin (s := t) (c := c) (f := f) (by rw [hsame]; exact hstate) (by rw [hpd]; exact hbank)
    (by rw [hfets]; exact hon) (by rw [hpaired']; exact hpaired) (by rw [htwin]; exact hquiet.1)
  rwa [hpd, hflags] at hsaw

/-- Settles O35: a superframe discarded, a good one as a whole, and its flags on one channel and its twin. -/
theorem uplinkSuperframeReportsThePowerDie : Obligations.UplinkSuperframeReportsThePowerDie := by
  unfold Obligations.UplinkSuperframeReportsThePowerDie
  refine ⟨fun s noise vmA vmB temp listen hhw hup hpd hbad => ?_, fun s noise vmA vmB temp listen hhw hup hpd => ?_,
    fun s noise vmA vmB temp listen c hhw hup hpd hgood hwaiting hc hstate hbank => ?_⟩
  case refine_1 =>
    rw [exec_uplinkSuperframe noise vmA vmB temp listen hhw hup hpd, hbad]
    rfl
  case refine_2 =>
    intro bs f hgood
    have hexec := exec_uplinkSuperframe noise vmA vmB temp listen hhw hup hpd
    rw [if_pos hgood] at hexec
    obtain ⟨hrest, htemp, hlink, hbank⟩ := s.goodUplink_rest f
    have hreported := fun c hc => State.goodUplink_reported (s := s) (c := c) hc f
    have hu : s.goodUplink (UpFrame.ofBytes (s.upBytes noise vmA vmB temp listen)) = s.goodUplink f := rfl
    rw [hu] at hexec
    clear_value f
    generalize s.goodUplink f = u at hexec hrest htemp hlink hbank hreported
    simp only [State.uplinkRest, Prod.mk.injEq] at hrest
    simp only [Link.uplink, Prod.mk.injEq] at hlink
    obtain ⟨hsamepd, hfbs, hmods, hgbs, hflts, hotp⟩ := hrest
    obtain ⟨hsupervised, hseq, hrun⟩ := hlink
    refine ⟨u.countsBegin, hexec, htemp, rfl, ?_, hsupervised, hseq, hrun, ?_, u.countsBegin_missed, fun b => ?_, fun c hc => ?_,
      hotp, hgbs, hflts, hmods, hfbs⟩
    · exact congrArg (fun p : PowerDie => p.upSeq + 1) hsamepd
    · have h := congrArg PowerDie.chans hsamepd
      exact h
    · have hb : u.countsBegin.bank b = s.bankReported f b (s.bank b) := hbank b
      have herrors : ((f.bank b).extractLsb' 0 2).toNat = (f.bank b).toNat % 4 := by
        rw [BitVec.extractLsb'_toNat, Nat.shiftRight_zero]
      rw [hb]
      refine ⟨rfl, rfl, rfl, rfl, rfl, ?_⟩
      rw [← herrors]
      rfl
    · have hk := hreported c hc
      simp only [Channel.reported, Prod.mk.injEq] at hk
      exact hk
  case refine_3 =>
    intro f new newly p beside
    have hexec := exec_uplinkSuperframe noise vmA vmB temp listen hhw hup hpd
    rw [if_pos hgood] at hexec
    have hu : s.goodUplink (UpFrame.ofBytes (s.upBytes noise vmA vmB temp listen)) = s.goodUplink f := rfl
    rw [hu] at hexec
    clear_value f
    -- the state in which the channels report
    have hchan := s.takeBanks_chan f
    have hbanks := s.takeBanks_besideBanks f
    have hreports := s.goodUplink_chan hwaiting f
    have hreported := State.goodUplink_reported hc f
    generalize s.goodUplink f = u at hexec hreports hreported
    generalize s.takeBanks f = w at hchan hbanks hreports
    have hpdw : ∀ d, w.pdChan d = s.pdChan d := fun d => by have h := congrArg (fun x : State => x.pdChan d) hbanks; exact h
    have hhas : w.hasCh c = true := by have h := congrArg (fun x : State => x.hasCh c) hbanks; exact Eq.trans h hc
    have hpair : w.paired c = s.paired c := by have h := congrArg (fun x : State => x.paired c) hbanks; exact h
    have hstates : ∀ d, (w.chan d).state = (s.chan d).state ∧ (w.chan d).psFault = (s.chan d).psFault ∧
        (w.chan d).fetsOff = (s.chan d).fetsOff := fun d => by
      rw [hchan d]
      exact ⟨rfl, rfl, rfl⟩
    have hsaw := State.reports_sawFlags (f := f) hhas (by rw [(hstates c).1]; exact hstate) (by rw [hpdw]; exact hbank)
    rw [hpdw, (hstates c).2.1, ← hreports] at hsaw
    obtain ⟨hshort, hgate, hpark⟩ := hsaw
    refine ⟨u.countsBegin, hexec, congrArg (·.2.2) hreported, hshort, hgate, hpark, fun hbeside => ?_⟩
    obtain ⟨hpaired, hon, htwin, hnone, hunparked, hbankp⟩ := hbeside
    have hquiet : w.quietTwin f p :=
      ⟨by rw [(hstates p).1]; exact htwin, by rw [(hstates p).2.1]; exact hnone, hunparked, by rw [hpdw]; exact hbankp⟩
    have hsawp := State.reports_sawTwin hhas (by rw [(hstates c).1]; exact hstate) (by rw [hpdw]; exact hbank)
      (by rw [(hstates c).2.2]; exact hon) (by rw [hpair]; exact hpaired) hquiet
    rw [hpdw, (hstates c).2.1, ← hreports, (hstates (twinOf c)).1] at hsawp
    exact hsawp

end Sys2Proof.Machine
end

section
/-! The block after reset: every unit at its reset value (R81, R296, R301, R336, R421). -/

namespace Sys2Proof.Machine

theorem State.reset_chan (c : Ch) : State.reset.chan c = Channel.init := Vector.getElem_replicate _

/-- Settles O5: the stores list nothing, and every unit of a kind stands at one value. -/
theorem resetIsSoundAndReady : Obligations.ResetIsSoundAndReady := by
  unfold Obligations.ResetIsSoundAndReady
  obtain ⟨hparams, -, -⟩ := reset_lists_nothing
  refine ⟨⟨rfl, rfl, rfl⟩, rfl, rfl, rfl, rfl, rfl, rfl, rfl, rfl, rfl, fun i => ?_, fun c => ?_, fun id inst => ?_⟩
  · exact Vector.getElem_replicate _
  · rw [State.reset_chan]
    exact ⟨rfl, rfl⟩
  · rw [State.par, hparams]
    rfl

end Sys2Proof.Machine
end

section
/-! CH.POSITION, CH.LIMIT_LATCH and the limit inputs (R69 to R72, R76, R90, R112): a write that is a command of its own goes by the
result of its item, refused or applied, whatever its parameter. -/

namespace Sys2Proof.Machine

variable {s : State}

/-! ### The item of a write on its own -/

/-- A write on its own, in terms of what its item comes to: an effect without tags to wait for, or a refusal (R363, R367). -/
theorem State.writeAlone_of_item {src : Source} {id inst : Nat} {value : BitVec 64} {p : State × Result}
    (hfw : s.fwOn = true) (hfree : s.freeUnit id inst) (hitem : s.disarm.writeItem src 0 id inst value = .of p)
    (hid : (id == Pid.DEV_ECLIPSE_TEST || id == Pid.DEV_STANDBY) = false) :
    s.writeAlone src id inst value = State.settled p id inst := by
  obtain ⟨htest, hstandby⟩ := Bool.or_eq_false_iff.1 hid
  have hapart : s.disarm.apart (unitOf id inst) = s.disarm := State.apart_free hfree
  unfold State.writeAlone State.writeApart State.settled
  rw [hapart, hitem]
  by_cases hok : p.2 = .ok <;> simp [hfw, Wrote.of, hok, htest, hstandby, State.wrote, State.noted]

/-- An item that its unit's checks refuse has no effect. -/
theorem State.writeItem_refused {src : Source} {item id inst : Nat} {value : BitVec 64} {row : PRow} {r : Result}
    (hrow : paramRow id = some row) (hjudge : s.judgeItem src row id inst value = r) (hr : r ≠ .ok) :
    s.writeItem src item id inst value = .of (s, r) := by
  simp only [State.writeItem, hrow, hjudge]
  rfl

/-- A channel's own index, from its number. -/
theorem chIx_val (c : Ch) : chIx c.val = c := Fin.ext (Nat.mod_eq_of_lt c.isLt)

/-- The checks of a Stop parameter of a channel, presence and owner given: the channel stands, and then what the twins ask for
(R76, R89, R112, R363). -/
theorem State.judgeItem_channel {src : Source} {c : Ch} {row : PRow} {id : Nat} {value : BitVec 64} (hspace : id / 4096 = 2)
    (hsource : id ≠ Pid.CH_CMD_SOURCE) (hstop : row.stop = true) (hhas : s.hasCh c = true) (howns : s.owns src c = true) :
    s.judgeItem src row id c.val value = if (s.chan c).state.stopped then s.ruleCode id c.val value else .busyRunning := by
  have hinst : ¬instCount id ≤ c.val := by simp [instCount, hspace]
  cases hstand : (s.chan c).state.stopped <;>
    simp [State.judgeItem, hinst, State.hasUnit, State.itemOwner, State.busy, hspace, hsource, hstop, chIx_val, hhas, howns, hstand]

/-! ### CH.POSITION -/

/-- The channel stands without an armed move (R76). -/
def State.loose (s : State) (c : Ch) : Prop := (s.chan c).state.stopped = true ∧ (s.chan c).motion.armed = none

/-- The twins' rule on a write of CH.POSITION (R76, R112). -/
theorem State.ruleCode_position (c : Ch) (value : BitVec 64) :
    ((s.pairEnergised c = true ∨ s.unmatched c = true → s.loose c ∧ s.loose (twinOf c)) → s.ruleCode Pid.CH_POSITION c.val value = .ok) ∧
      ((s.pairEnergised c = true ∨ s.unmatched c = true) → ¬(s.loose c ∧ s.loose (twinOf c)) →
        s.ruleCode Pid.CH_POSITION c.val value = .wrongState) := by
  have hloose : ((s.chan c).state.stopped && (s.chan c).motion.armed.isNone &&
      ((s.chan (twinOf c)).state.stopped && (s.chan (twinOf c)).motion.armed.isNone)) = true ↔ s.loose c ∧ s.loose (twinOf c) := by
    simp only [State.loose, Bool.and_eq_true, Option.isNone_iff_eq_none]
  have hcode : s.ruleCode Pid.CH_POSITION c.val value =
      if (s.pairEnergised c || s.unmatched c) && !((s.chan c).state.stopped && (s.chan c).motion.armed.isNone &&
        ((s.chan (twinOf c)).state.stopped && (s.chan (twinOf c)).motion.armed.isNone)) then .wrongState else .ok := by
    simp only [State.ruleCode, chIx_val]
    rfl
  rw [hcode]
  constructor
  · intro h
    refine if_neg fun hbad => ?_
    obtain ⟨hpair, hnot⟩ := Bool.and_eq_true_iff.1 hbad
    rw [hloose.2 (h (by simpa using hpair))] at hnot
    cases hnot
  · intro hpair hnot
    refine if_pos (Bool.and_eq_true_iff.2 ⟨by simpa using hpair, ?_⟩)
    rw [Bool.not_eq_true', ← Bool.not_eq_true, hloose]
    exact hnot

/-- The row of CH.POSITION: a signed number of 40 bits (R89, R90). -/
def positionRow : PRow := ⟨0x2001, 0x2001, true, 40, true, .range (-549755813888) 549755813887 1, 0⟩

/-- The row of CH.LIMIT_LATCH, which takes 0 alone (R72, R90). -/
def latchRow : PRow := ⟨0x2024, 0x2024, true, 8, false, .among [0], 0⟩

theorem State.itemValue_position (c : Ch) {value : BitVec 64} (hlo : -(2 ^ 39) ≤ value.toInt) (hhi : value.toInt < 2 ^ 39) :
    s.itemValue positionRow Pid.CH_POSITION c.val value = (.ok, value.toInt) := by
  refine State.itemValue_ok ?_ ?_ rfl
  · simp [PRow.decode, positionRow]
    omega
  · simp [positionRow, PSpec.ok]
    omega

theorem State.writeItem_position {src : Source} {c : Ch} {value : BitVec 64}
    (hjudge : s.judgeItem src positionRow Pid.CH_POSITION c.val value = .ok)
    (hlo : -(2 ^ 39) ≤ value.toInt) (hhi : value.toInt < 2 ^ 39) :
    s.writeItem src 0 Pid.CH_POSITION c.val value =
      .of ((s.writePosition c value.toInt).notePairWrite (s.comparesWrite Pid.CH_POSITION c) Pid.CH_POSITION c value.toInt, .ok) := by
  have hrow : paramRow Pid.CH_POSITION = some positionRow := rfl
  have happly : s.applyWrite 0 Pid.CH_POSITION c.val value.toInt = ⟨s.writePosition c value.toInt, .ok, []⟩ :=
    congrArg (fun d => (⟨s.writePosition d value.toInt, .ok, []⟩ : Wrote)) (chIx_val c)
  simp only [State.writeItem, hrow, hjudge, s.itemValue_position c hlo hhi, State.applyItem, chIx_val, happly]
  rfl

theorem State.writeItem_latch {src : Source} {c : Ch} (hjudge : s.judgeItem src latchRow Pid.CH_LIMIT_LATCH c.val 0 = .ok) :
    s.writeItem src 0 Pid.CH_LIMIT_LATCH c.val 0 = .of (s.clearLimits c, .ok) :=
  (State.writeItem_ok rfl hjudge rfl rfl).trans (congrArg (fun d => Wrote.of (s.clearLimits d, .ok)) (chIx_val c))

/-! ### The two writes, each on its own -/

theorem exec_chPositionWrite (src : Source) (c : Ch) (value : BitVec 64) :
    exec (.chPositionWrite src c value) s = .next (s.writeAlone src Pid.CH_POSITION c.val value) := rfl

theorem exec_chLimitLatchWrite (src : Source) (c : Ch) (value : BitVec 64) :
    exec (.chLimitLatchWrite src c value) s = .next (s.writeAlone src Pid.CH_LIMIT_LATCH c.val value) := rfl

/-- A refused write of CH.POSITION or CH.LIMIT_LATCH leaves its code alone. -/
theorem State.writeAlone_refused {src : Source} {id inst : Nat} {value : BitVec 64} {row : PRow} {r : Result}
    (hfw : s.fwOn = true) (hfree : s.freeUnit id inst) (hrow : paramRow id = some row)
    (hjudge : s.disarm.judgeItem src row id inst value = r) (hr : r ≠ .ok)
    (hid : (id == Pid.DEV_ECLIPSE_TEST || id == Pid.DEV_STANDBY) = false) :
    s.writeAlone src id inst value = s.disarm.noted r := by
  rw [State.writeAlone_of_item hfw hfree (State.writeItem_refused hrow hjudge hr) hid]
  exact if_neg hr

section

variable {src : Source} {c : Ch} {value : BitVec 64} (hfw : s.fwOn = true) (hfree : s.freeUnit Pid.CH_POSITION c.val)
  (hhas : s.hasCh c = true) (howns : s.owns src c = true)

include hfw hfree hhas howns

theorem State.writeAlone_position (hstand : (s.chan c).state.stopped = true) :
    ((s.pairEnergised c = true ∨ s.unmatched c = true → s.loose c ∧ s.loose (twinOf c)) →
      -(2 ^ 39) ≤ value.toInt → value.toInt < 2 ^ 39 →
        s.writeAlone src Pid.CH_POSITION c.val value =
          ((s.disarm.writePosition c value.toInt).notePairWrite (s.comparesWrite Pid.CH_POSITION c) Pid.CH_POSITION c value.toInt).wrote
            Pid.CH_POSITION c.val) ∧
      ((s.pairEnergised c = true ∨ s.unmatched c = true) → ¬(s.loose c ∧ s.loose (twinOf c)) →
        s.writeAlone src Pid.CH_POSITION c.val value = s.disarm.noted .wrongState) := by
  have hjudge : s.disarm.judgeItem src positionRow Pid.CH_POSITION c.val value = s.disarm.ruleCode Pid.CH_POSITION c.val value :=
    (State.judgeItem_channel rfl (by decide) rfl hhas howns).trans (if_pos hstand)
  obtain ⟨hok, hwrong⟩ := s.disarm.ruleCode_position c value
  refine ⟨fun hpair hlo hhi => ?_, fun hpair hnot => ?_⟩
  · rw [State.writeAlone_of_item hfw hfree (State.writeItem_position (hjudge.trans (hok hpair)) hlo hhi) rfl]
    exact if_pos rfl
  · exact State.writeAlone_refused hfw hfree rfl (hjudge.trans (hwrong hpair hnot)) (by decide) rfl

theorem State.writeAlone_latch (hstand : (s.chan c).state.stopped = true) :
    s.writeAlone src Pid.CH_LIMIT_LATCH c.val 0 = (s.disarm.clearLimits c).wrote Pid.CH_LIMIT_LATCH c.val := by
  have hunit : s.freeUnit Pid.CH_LIMIT_LATCH c.val := hfree
  have hcode : s.disarm.ruleCode Pid.CH_LIMIT_LATCH c.val 0 = .ok := rfl
  have hjudge : s.disarm.judgeItem src latchRow Pid.CH_LIMIT_LATCH c.val 0 = .ok :=
    (State.judgeItem_channel rfl (by decide) rfl hhas howns).trans ((if_pos hstand).trans hcode)
  rw [State.writeAlone_of_item hfw hunit (State.writeItem_latch hjudge) rfl]
  exact if_pos rfl

/-- In motion both writes are refused (R76, R89). -/
theorem State.writeAlone_moving (hmoves : (s.chan c).state.stopped = false) :
    s.writeAlone src Pid.CH_POSITION c.val value = s.disarm.noted .busyRunning ∧
      s.writeAlone src Pid.CH_LIMIT_LATCH c.val value = s.disarm.noted .busyRunning := by
  have hmoves' : ¬(s.disarm.chan c).state.stopped = true := by
    rw [Bool.not_eq_true]
    exact hmoves
  exact ⟨State.writeAlone_refused (row := positionRow) hfw hfree rfl
      ((State.judgeItem_channel rfl (by decide) rfl hhas howns).trans (if_neg hmoves')) (by decide) rfl,
    State.writeAlone_refused (row := latchRow) hfw hfree rfl
      ((State.judgeItem_channel rfl (by decide) rfl hhas howns).trans (if_neg hmoves')) (by decide) rfl⟩

end

/-! ### The limit inputs -/

section

variable {c : Ch} {side : Side} (hhw : s.hwOn = true) (hhas : s.hasCh c = true)

/-- The level of a limit input (R69). -/
def Motion.limit (m : Motion) : Side → Bool
  | .p => m.limP
  | .n => m.limN

include hhw hhas

theorem exec_limitInputActive :
    exec (.limitInputActive c side) s = .next (if (s.chan c).motion.limit side then s else s.limitActive c side) := by
  have hexec : exec (.limitInputActive c side) s =
      .next (if s.hwOn && s.hasCh c && !(s.chan c).motion.limit side then s.limitActive c side else s) := by cases side <;> rfl
  rw [hexec, hhw, hhas]
  cases (s.chan c).motion.limit side <;> rfl

theorem exec_limitInputInactive :
    exec (.limitInputInactive c side) s = .next (s.onMotion c fun m =>
      match side with
      | .p => { m with limP := false }
      | .n => { m with limN := false }) :=
  congrArg Host.Outcome.next (if_pos (by rw [hhw, hhas]; rfl))

end

/-- Settles O24: the writes by their checks and effects, the limit inputs by the level that stands. -/
theorem positionAndLimitWrites : Obligations.PositionAndLimitWrites := by
  unfold Obligations.PositionAndLimitWrites
  constructor
  · intro s0 src c value hfw hfree hhas howns s loose v
    simp only [exec_chPositionWrite, exec_chLimitLatchWrite, Host.Outcome.next.injEq]
    refine ⟨fun hstand => (State.writeAlone_position hfw hfree hhas howns hstand).1,
      fun hstand => (State.writeAlone_position hfw hfree hhas howns hstand).2,
      fun hmoves => (State.writeAlone_moving hfw hfree hhas howns hmoves).1, fun hstand hzero => ?_,
      fun hmoves => (State.writeAlone_moving hfw hfree hhas howns hmoves).2⟩
    rw [hzero]
    exact State.writeAlone_latch hfw hfree hhas howns hstand
  · intro s c hhw hhas m on
    simp only [exec_limitInputActive hhw hhas, exec_limitInputInactive hhw hhas]
    refine ⟨fun h => congrArg Host.Outcome.next (if_neg ?_), fun h => congrArg Host.Outcome.next (if_neg ?_),
      fun h => congrArg Host.Outcome.next (if_pos h), fun h => congrArg Host.Outcome.next (if_pos h), trivial, trivial⟩
    · exact (Bool.not_eq_true _).symm ▸ h
    · exact (Bool.not_eq_true _).symm ▸ h

end Sys2Proof.Machine
end

section
/-! A command of the host that is ready: what it comes to, on one channel or on a mask of channels, and its answer (R350, R353, R354,
R363, R493). -/

namespace Sys2Proof.Machine

variable {s : State} {op : Nat} {q : Queued} {rest : List Queued}

/-! ### Codes in their order (R497) -/

theorem firstCode_eq_ok {xs : List (Bool × Result)} (hcodes : ∀ x ∈ xs, x.2 ≠ .ok) :
    firstCode xs = .ok ↔ ∀ x ∈ xs, x.1 = false := by
  induction xs with
  | nil => simp [firstCode]
  | cons y ys ih =>
    obtain ⟨b, r⟩ := y
    have hr : r ≠ .ok := hcodes _ List.mem_cons_self
    have hys := ih fun x hx => hcodes x (List.mem_cons_of_mem _ hx)
    cases b
    · simpa [firstCode] using hys
    · simp [firstCode, hr]

/-! ### The record -/

theorem State.ready_form (h : s.ready op q rest) : judgeForm .host q.record = .ok ∧ recOp q.record = op := by
  obtain ⟨-, -, hop, hform, -⟩ := h
  exact ⟨hform, hop⟩

theorem State.ready_link (h : s.ready op q rest) : s.link.backlog.any (·.2) = false := by
  obtain ⟨-, -, -, -, -, -, -, hbacklog, -⟩ := h
  exact hbacklog

theorem State.ready_held (h : s.ready op q rest) : s.mbx.held = [] := by
  obtain ⟨-, -, -, -, -, -, -, -, -, -, -, hheld, -⟩ := h
  exact hheld

/-- Presence and owner are given (R61, R363). -/
theorem State.onOwned_mine (h : s.mine q) (run : Done) : (s.taken rest).onOwned .host (recCh q.record) run = run := by
  obtain ⟨hhas, howns⟩ := h
  have h1 : (s.taken rest).hasCh (recCh q.record) = true := hhas
  have h2 : (s.taken rest).owns .host (recCh q.record) = true := howns
  simp only [State.onOwned, h1, h2, Bool.not_true, Bool.false_eq_true, if_false]

theorem State.refuseFirst_none {cs : List Ch} {p : Ch → Bool} (h : ∀ c ∈ cs, p c = false) (code : Result) (run : Done) :
    s.refuseFirst cs p code run = run := by
  have hnone : cs.find? p = none := List.find?_eq_none.2 fun c hc => by rw [h c hc]; exact Bool.false_ne_true
  simp only [State.refuseFirst, hnone]

/-- Mask, presence and owners are given (R74, R361). -/
theorem State.onMask_mine (hmask : maskOk q.record = true)
    (hmine : ∀ c, maskBit (recMask q.record) c = true → s.hasCh c = true ∧ s.owns .host c = true) (run : Done) :
    (s.taken rest).onMask .host q.record run = run := by
  have hnone : ∀ p : Ch → Bool, (∀ c, maskBit (recMask q.record) c = true → p c = true) →
      ∀ c ∈ maskChs (recMask q.record), (!p c) = false := fun p hp c hc => by rw [hp c (mem_maskChs.1 hc)]; rfl
  simp only [State.onMask, hmask, Bool.not_true, Bool.false_eq_true, if_false]
  exact (State.refuseFirst_none (hnone s.hasCh fun c hc => (hmine c hc).1) _ _).trans
    (State.refuseFirst_none (hnone (s.owns .host) fun c hc => (hmine c hc).2) _ _)

/-! ### The answer -/

/-- A waiting command with nothing left to wait for is answered to the host, and then come the events that it has caused. -/
theorem State.tryComplete_host {w : Waiting} (hw : s.mbx.waiting = some w) (hvia : w.via = none) (htags : w.tags = [])
    (hclears : w.clears = []) (hstarts : w.starts = []) (hbacklog : s.link.backlog.any (·.2) = false) (hotp : s.sec.otpOp = 0)
    (hfw : s.fwOn = true) (htest : s.boot.testPending = false) (hentering : s.power.entering ≠ .asked) :
    s.tryComplete = ({ s with mbx := s.mbx.answered w } : State).postHeld := by
  have hdone : (w.tags.isEmpty && !(s.link.backlog.any (·.2)) && s.sec.otpOp == 0 && s.fwOn) = true := by
    simp [htags, hbacklog, hotp, hfw]
  have hgo : s.tryComplete = s.complete w := by
    unfold State.tryComplete
    rw [hw]
    exact if_pos hdone
  rw [hgo, State.complete_host hvia htest hentering, hclears, hstarts]
  rfl

/-- A state but for what the motion commands change: channels, pairs, groups, the link, and the events that wait for the answer. -/
def State.besideMotion (s : State) : State :=
  { s with
    chans := Vector.replicate 24 Channel.init, pairs := Vector.replicate 12 PairRecord.init, groups := Vector.replicate 4 Group.init
    link := Link.init, mbx := { s.mbx with held := [] } }

/-- A state but for its channels. -/
def State.besideChans (s : State) : State := { s with chans := Vector.replicate 24 Channel.init }

theorem State.quiet_of_besideChans {t : State} (h : t.besideChans = s.besideChans) :
    t.besideMotion = s.besideMotion ∧ t.mbx.held = s.mbx.held ∧ t.link = s.link :=
  ⟨by have e := congrArg State.besideMotion h; exact e, by have e := congrArg (fun u : State => u.mbx.held) h; exact e,
    by have e := congrArg State.link h; exact e⟩

theorem State.quiet_of_besidePairs {t : State} (h : t.besidePairs = s.besidePairs) :
    t.besideMotion = s.besideMotion ∧ t.mbx.held = s.mbx.held ∧ t.link = s.link :=
  ⟨by have e := congrArg State.besideMotion h; exact e, by have e := congrArg (fun u : State => u.mbx.held) h; exact e,
    by have e := congrArg State.link h; exact e⟩

/-- A ready record whose command has nothing to wait for is answered in the same step, and the events that it has caused follow
the answer (R350, R353). -/
theorem State.mailbox_answers_events (h : s.ready op q rest) {d : Done} (hd : (s.taken rest).runRecord .host q.record = d)
    (htags : d.tags = []) (hclears : d.clears = []) (hstarts : d.starts = [])
    (hframe : d.state.besideMotion = (s.taken rest).besideMotion) (hbacklog : d.state.link.backlog.any (·.2) = false) :
    s.mailbox op = (d.state.replied q d.result d.detail d.data).postHeld := by
  rw [State.mailbox_ready h, hd]
  obtain ⟨-, hvia, -, -, hfw, hwaiting, -, -, hotp, htest, -, -, -, hentering⟩ := h
  have hfw' : d.state.fwOn = s.fwOn := by have e := congrArg State.fwOn hframe; exact e
  have hwaiting' : d.state.mbx.waiting = s.mbx.waiting := by have e := congrArg (fun t : State => t.mbx.waiting) hframe; exact e
  have hotp' : d.state.sec.otpOp = s.sec.otpOp := by have e := congrArg (fun t : State => t.sec.otpOp) hframe; exact e
  have hboot : d.state.boot = s.boot := by have e := congrArg State.boot hframe; exact e
  have hpower : d.state.power = s.power := by have e := congrArg State.power hframe; exact e
  refine (State.tryComplete_host (w := d.waiting q) ?_ hvia htags hclears hstarts ?_ ?_ ?_ ?_ ?_).trans ?_
  · rfl
  · exact hbacklog
  · exact hotp'.trans hotp
  · exact hfw'.trans hfw
  · exact (congrArg Boot.testPending hboot).trans htest
  · exact fun e => hentering ((congrArg Power.entering hpower).symm.trans e)
  simp only [Mailbox.answered, State.replied, Done.waiting, hwaiting', hwaiting]

/-- The same of a command that causes no event. -/
theorem State.mailbox_answers_quietly (h : s.ready op q rest) {d : Done} (hd : (s.taken rest).runRecord .host q.record = d)
    (htags : d.tags = []) (hclears : d.clears = []) (hstarts : d.starts = [])
    (hframe : d.state.besideMotion = (s.taken rest).besideMotion) (hheld : d.state.mbx.held = s.mbx.held)
    (hbacklog : d.state.link.backlog.any (·.2) = false) :
    s.mailbox op = d.state.replied q d.result d.detail d.data :=
  (State.mailbox_answers_events h hd htags hclears hstarts hframe hbacklog).trans
    (State.postHeld_nil (hheld.trans (State.ready_held (s := s) h)))

/-- A ready record whose command waits for tags (R493). -/
theorem State.mailbox_waits (h : s.ready op q rest) {d : Done} (hd : (s.taken rest).runRecord .host q.record = d) (htags : d.tags ≠ []) :
    s.mailbox op = d.state.held q d.tags d.result d.detail d.data d.clears d.starts := by
  rw [State.mailbox_ready h, hd]
  exact State.wait_for_tags htags

/-- A command that leaves the state as it is, refused or with nothing to do. -/
theorem State.mailbox_answers_idle (h : s.ready op q rest) {r : Result} {n : Nat}
    (hd : (s.taken rest).runRecord .host q.record = { Done.of (s.taken rest) r with detail := n }) :
    s.mailbox op = (s.taken rest).replied q r n [] :=
  State.mailbox_answers_quietly h hd rfl rfl rfl rfl rfl (State.ready_link (s := s) h)

end Sys2Proof.Machine
end

section
/-! CLEAR_FAULT (R84, R85, R111, R130, R161). -/

namespace Sys2Proof.Machine

variable {s : State} {q : Queued} {rest : List Queued}

theorem exec_clearFault : exec .clearFault s = .next (s.mailbox 0x40) := rfl

theorem State.runRecord_clear (h : s.ready 0x40 q rest) (hmine : s.mine q) :
    (s.taken rest).runRecord .host q.record = (s.taken rest).cmdClear (recCh q.record) := by
  obtain ⟨hform, hop⟩ := State.ready_form h
  simp only [State.runRecord, hform, hop, State.doClear]
  exact State.onOwned_mine hmine _

/-- A clearing that passes its conditions finds a power die that answers (R493). -/
theorem State.judgeClear_answers {c : Ch} (h : s.judgeClear c = .ok) : s.link.answers = true := by
  have hall := (firstCode_eq_ok (by simp)).1 h (!s.link.answers, .wrongState) (by simp)
  simpa using hall

/-- With a tag free and an answering power die, the write goes out under that tag. -/
theorem State.configWrite_tag (htx : s.link.txOn = true) (hanswers : s.link.answers = true) (htag : s.link.freeTag ≠ 0) (k : CfgKind) :
    s.configWrite k = ({ s with link := s.link.issue k true }, [s.link.freeTag]) := by
  simp only [State.configWrite, htx, hanswers, Bool.and_self, if_true, if_pos (bne_iff_ne.2 htag)]

/-- The power die holds the latches of the channel: PARKED, or FAULT with its FETs off. -/
def Channel.latched (k : Channel) : Prop := k.state = .parked ∨ (k.state = .fault ∧ k.fetsOff = true)

theorem State.cmdClear_issues {c : Ch} (h : (s.chan c).latched) (hok : s.judgeClear c = .ok) :
    s.cmdClear c =
      { Done.of (s.configWrite (.clear c)).1 .ok with tags := (s.configWrite (.clear c)).2, clears := [c] } := by
  rcases h with h | ⟨h, hoff⟩
  · simp only [State.cmdClear, h, hok]
  · simp only [State.cmdClear, h, hoff, hok, Bool.not_true, Bool.false_eq_true, if_false]

theorem State.cmdClear_refuses {c : Ch} (h : (s.chan c).latched) (hbad : s.judgeClear c ≠ .ok) :
    s.cmdClear c = .of s (s.judgeClear c) := by
  rcases h with h | ⟨h, hoff⟩
  · simp only [State.cmdClear, h]
  · simp only [State.cmdClear, h, hoff, Bool.not_true, Bool.false_eq_true, if_false]

/-- With no latched fault there is nothing to clear (R84, R85). -/
theorem State.cmdClear_unfaulted {c : Ch}
    (h : (s.chan c).state = .disabled ∨ (s.chan c).state = .rollcall ∨ (s.chan c).state = .idle ∨ (s.chan c).state = .holdReduced ∨
      (s.chan c).state = .moving ∨ ((s.chan c).state = .stopping ∧ (s.chan c).motion.stopFault = false)) :
    s.cmdClear c = .of s .ok := by
  rcases h with h | h | h | h | h | ⟨h, hnone⟩
  case inr.inr.inr.inr.inr => simp only [State.cmdClear, h, hnone, Bool.false_eq_true, if_false]
  all_goals simp only [State.cmdClear, h]

theorem State.shareAgain_besideChans (c : Ch) : (s.shareAgain c).besideChans = s.besideChans := by
  unfold State.shareAgain
  split <;> rfl

/-- Settles O13: one clause for each state of the channel. -/
theorem clearFaultClearsOrWaits : Obligations.ClearFaultClearsOrWaits := by
  unfold Obligations.ClearFaultClearsOrWaits
  intro s q rest h hmine c k
  have hrun := State.runRecord_clear h hmine
  rw [exec_clearFault]
  refine ⟨fun hstate hon => ?_, fun hstate hok htx htag => ?_, fun hstate hbad => ?_, fun hstate => ?_, fun hstate hfault => ?_⟩
  · have hd : (s.taken rest).cmdClear c =
        .of (((s.taken rest).onChan c fun k => { k.clearCauses with state := .idle, coil := { k.coil with reduced := false } }).shareAgain c)
          .ok := by
      have hstate' : ((s.taken rest).chan c).state = .fault := hstate
      have hon' : ((s.taken rest).chan c).fetsOff = false := hon
      simp only [State.cmdClear, hstate', hon']
      rfl
    have hshare := State.shareAgain_besideChans (s := (s.taken rest).onChan c fun k =>
      { k.clearCauses with state := .idle, coil := { k.coil with reduced := false } }) c
    obtain ⟨hmotion, hheld, hlink⟩ := State.quiet_of_besideChans hshare
    exact congrArg Host.Outcome.next (State.mailbox_answers_quietly h (hrun.trans hd) rfl rfl rfl hmotion hheld
      ((congrArg (fun l : Link => l.backlog.any (·.2)) hlink).trans (State.ready_link (s := s) h)))
  · have hwrite := State.configWrite_tag (s := s.taken rest) htx (State.judgeClear_answers hok) htag (.clear c)
    have hok' : (s.taken rest).judgeClear c = .ok := hok
    have hd := State.cmdClear_issues (s := s.taken rest) hstate hok'
    rw [hwrite] at hd
    exact congrArg Host.Outcome.next (State.mailbox_waits h (hrun.trans hd) (List.cons_ne_nil _ _))
  · have hd := State.cmdClear_refuses (s := s.taken rest) hstate hbad
    exact congrArg Host.Outcome.next (State.mailbox_answers_idle h (hrun.trans hd))
  · have hd := State.cmdClear_unfaulted (s := s.taken rest) hstate
    exact congrArg Host.Outcome.next (State.mailbox_answers_idle h (hrun.trans hd))
  · have hd : (s.taken rest).cmdClear c = .of (s.taken rest) .wrongState := by
      have hstate' : ((s.taken rest).chan c).state = .stopping := hstate
      have hfault' : ((s.taken rest).chan c).motion.stopFault = true := hfault
      simp only [State.cmdClear, hstate', hfault', if_true]
    exact congrArg Host.Outcome.next (State.mailbox_answers_idle h (hrun.trans hd))

end Sys2Proof.Machine
end

section
/-! MOVE_TO, MOVE_VEL, STOP and DISABLE (R48, R54 to R56, R65, R68, R73, R75, R84, R113, R115). -/

namespace Sys2Proof.Machine

variable {s : State} {q : Queued} {rest : List Queued}

/-! ### What the matrix asserts, seen from a command

Taking a record out of the queue changes no event source, so the matrix asserts what it did (R206, R216). The steps go through
`State.level` and `State.condition` by name, so that no list of sources is evaluated. -/

theorem State.taken_level (n : Nat) : (s.taken rest).level n = s.level n := by
  have hch : (s.taken rest).chSource = s.chSource := rfl
  have hbank : (s.taken rest).bankSource = s.bankSource := rfl
  have hcan : (s.taken rest).canSource = s.canSource := rfl
  have hcmp : (s.taken rest).cmpSource = s.cmpSource := rfl
  have htrip : (s.taken rest).tripSource = s.tripSource := rfl
  have hhas : (s.taken rest).hasCh = s.hasCh ∧ (s.taken rest).hasFlt = s.hasFlt ∧ (s.taken rest).hasCan = s.hasCan ∧
      (s.taken rest).hasTrip = s.hasTrip := ⟨rfl, rfl, rfl, rfl⟩
  simp only [State.level, hch, hbank, hcan, hcmp, htrip, hhas]

theorem State.taken_source (n : Nat) : (s.taken rest).source n = s.source n := by
  rw [State.source, State.taken_level]
  rfl

theorem State.taken_active (w : RuleWord) (prev : BitVec 24) : (s.taken rest).active w prev = s.active w prev := by
  simp only [State.active, State.taken_source]
  rfl

theorem State.taken_asserted (r : RuleIx) : (s.taken rest).asserted r = s.asserted r := by
  have hcondition : (s.taken rest).condition r = s.condition r := by
    simp only [State.condition, State.taken_active, State.gateOk, State.taken_source]
    rfl
  have htargets : (s.taken rest).targets = s.targets ∧ (s.taken rest).extend = s.extend := ⟨rfl, rfl⟩
  simp only [State.asserted, hcondition, State.taken_active, htargets]
  rfl

theorem State.taken_assertList : (s.taken rest).assertList = s.assertList := by
  have hword : (s.taken rest).ruleWord = s.ruleWord ∧ (s.taken rest).enabledRules = s.enabledRules := ⟨rfl, rfl⟩
  simp only [State.assertList, State.taken_asserted, hword]

/-- Whether a move is blocked is judged on the state before the command (R64, R71). -/
theorem State.taken_moveBlocked (c : Ch) (mv : Move) : (s.taken rest).moveBlocked c mv = s.moveBlocked c mv := by
  have hstop : (s.taken rest).heldStop c = s.heldStop c := by rw [State.heldStop, State.taken_assertList, State.heldStop]
  rw [State.moveBlocked, hstop]
  rfl

/-! ### MOVE_TO and MOVE_VEL -/

theorem State.runRecord_moveTo (h : s.ready 0x10 q rest) (hmine : s.mine q) (hflags : (moveToFlags q.record).toNat < 8) :
    (s.taken rest).runRecord .host q.record =
      (s.taken rest).cmdMove (recCh q.record) (moveToOf q.record) ((moveToFlags q.record).getLsbD 0) := by
  obtain ⟨hform, hop⟩ := State.ready_form h
  simp only [State.runRecord, hform, hop, State.doMoveTo]
  exact (State.onOwned_mine hmine _).trans (if_neg (Nat.not_le.2 hflags))

theorem State.runRecord_moveVel (h : s.ready 0x11 q rest) (hmine : s.mine q) (hflags : (moveVelFlags q.record).toNat < 2) :
    (s.taken rest).runRecord .host q.record =
      (s.taken rest).cmdMove (recCh q.record) (moveVelOf q.record) ((moveVelFlags q.record).getLsbD 0) := by
  obtain ⟨hform, hop⟩ := State.ready_form h
  simp only [State.runRecord, hform, hop, State.doMoveVel]
  exact (State.onOwned_mine hmine _).trans (if_neg (Nat.not_le.2 hflags))

/-- A motion command that a channel takes: energised, or in ROLLCALL where the move is armed (R73, R84). -/
theorem State.cmdMove_taken {c : Ch} {mv : Move} {armed : Bool} (hfields : moveFieldsOk mv = true)
    (hstate : (s.chan c).state.energised = true ∨ ((s.chan c).state = .rollcall ∧ armed = true))
    (hfault : (s.chan c).motion.stopFault = false) (hpaired : s.paired c = true → armed = true)
    (hmatched : armed = true → s.unmatched c = false) (hfree : s.moveBlocked c mv = false) :
    s.cmdMove c mv armed =
      .of (s.onMotion c fun m => if armed then { m with armed := some mv } else { m with held := m.held ++ [mv] }) .ok := by
  have hstates : (s.chan c).state ≠ .disabled ∧ ((s.chan c).state == .rollcall && !armed) = false ∧
      (s.chan c).state ≠ .parked ∧ (s.chan c).state ≠ .fault := by
    rcases hstate with hon | ⟨hrc, harmed⟩
    · cases hs : (s.chan c).state <;> simp_all [ChState.energised]
    · simp [hrc, harmed]
  obtain ⟨hdisabled, hrollcall, hparked, hnofault⟩ := hstates
  have hpair : (s.paired c && !armed) = false := by
    cases hp : s.paired c
    · rfl
    · rw [hpaired hp]; rfl
  have hmatch : (armed && s.unmatched c) = false := by
    cases ha : armed
    · rfl
    · rw [hmatched ha]; rfl
  have hwrong : ((s.chan c).state == .disabled || ((s.chan c).state == .rollcall && !armed) || (s.paired c && !armed) ||
      (armed && s.unmatched c) || s.moveBlocked c mv) = false := by
    rw [hrollcall, hpair, hmatch, hfree, beq_eq_false_iff_ne.2 hdisabled]; rfl
  have hlatched : ((s.chan c).state == .parked || (s.chan c).state == .fault || (s.chan c).motion.stopFault) = false := by
    rw [hfault, beq_eq_false_iff_ne.2 hparked, beq_eq_false_iff_ne.2 hnofault]; rfl
  simp only [State.cmdMove, firstCode, hfields, hwrong, hlatched, Bool.not_true, Bool.false_eq_true, if_false, if_true]

/-! ### STOP -/

theorem State.runRecord_stop (h : s.ready 0x12 q rest) (hmine : s.mine q) (hzero : byteAt q.record 8 = 0) :
    (s.taken rest).runRecord .host q.record = (s.taken rest).cmdStop (recCh q.record) := by
  obtain ⟨hform, hop⟩ := State.ready_form h
  simp only [State.runRecord, hform, hop, State.doStop]
  exact (State.onOwned_mine hmine _).trans (if_neg (by rw [hzero]; decide))

/-- STOP to one channel changes that channel alone (R65, R73, R84). -/
theorem State.stopOne_chan (c d : Ch) : (s.stopOne c).chan d = if d = c then (s.chan c).stopAsked else s.chan d := by
  by_cases hd : d = c
  · subst hd
    cases hs : (s.chan d).state <;> simp [State.stopOne, Channel.stopAsked, hs, ChState.energised, Motion.askStop]
  · have hother : (s.stopOne c).chan d = s.chan d := by
      unfold State.stopOne
      dsimp only
      split
      · exact State.onChan_chan_other _ _ _ _ hd
      · split
        · exact State.onChan_chan_other _ _ _ _ hd
        · rfl
    rw [hother, if_neg hd]

theorem State.stopOne_besideChans (c : Ch) : (s.stopOne c).besideChans = s.besideChans := by
  unfold State.stopOne
  dsimp only
  split
  · rfl
  · split <;> rfl

theorem State.noteChange_frame (c : Ch) (x : PairChange) : s.noteChange c x = { s with pairs := (s.noteChange c x).pairs } := by
  unfold State.noteChange
  split <;> rfl

theorem State.onShadow_frame (c : Ch) (f : Motion → Motion) : s.onShadow c f = { s with pairs := (s.onShadow c f).pairs } := by
  unfold State.onShadow
  split <;> rfl

/-- The record of a pair takes the stop, and nothing else changes (R115). -/
theorem State.noteStop_frame (c : Ch) (x : PairChange) (cause : StopCause) :
    s.noteStop c x cause = { s with pairs := (s.noteStop c x cause).pairs } := by
  unfold State.noteStop
  split
  · rw [State.onShadow_frame, State.noteChange_frame]
  · rfl

theorem State.noteStop_chan (c : Ch) (x : PairChange) (cause : StopCause) (d : Ch) : (s.noteStop c x cause).chan d = s.chan d := by
  rw [State.noteStop_frame]
  rfl

theorem State.noteStop_besidePairs (c : Ch) (x : PairChange) (cause : StopCause) :
    (s.noteStop c x cause).besidePairs = s.besidePairs := by
  rw [State.noteStop_frame]
  rfl

/-- The channels that a STOP asks: the channel, and its twin where both are energised (R75). -/
theorem State.cmdStop_cases (c : Ch) :
    s.cmdStop c =
      .of (if s.pairEnergised c then ((s.noteStop c .stop .stop).stopOne c).stopOne (twinOf c) else (s.noteStop c .stop .stop).stopOne c)
        .ok := by
  have hpair : (s.noteStop c .stop .stop).pairEnergised c = s.pairEnergised c := by
    rw [State.noteStop_frame]
    rfl
  dsimp only [State.cmdStop]
  rw [hpair]
  split <;> rfl

/-- What STOP leaves of each channel (R65, R75, R84). -/
theorem State.cmdStop_chan (c d : Ch) :
    (s.cmdStop c).state.chan d = if d = c ∨ (s.pairEnergised c = true ∧ d = twinOf c) then (s.chan d).stopAsked else s.chan d := by
  have hne : twinOf c ≠ c := (twinOf_ne c).symm
  rw [State.cmdStop_cases]
  dsimp only [Done.of]
  split
  · next hpair =>
    simp only [State.stopOne_chan, State.noteStop_chan, hne, if_false, hpair, true_and]
    by_cases hd : d = twinOf c
    · simp only [hd, if_true, or_true]
    · by_cases hc : d = c <;> simp [hd, hc, hne.symm]
  · next hpair =>
    simp only [State.stopOne_chan, State.noteStop_chan, hpair, Bool.false_eq_true, false_and, or_false]
    split
    · next hc => rw [hc]
    · rfl

theorem State.cmdStop_besideChans (c : Ch) : (s.cmdStop c).state.besideChans = (s.noteStop c .stop .stop).besideChans := by
  rw [State.cmdStop_cases]
  dsimp only [Done.of]
  split
  · rw [State.stopOne_besideChans, State.stopOne_besideChans]
  · rw [State.stopOne_besideChans]

theorem State.cmdStop_frame (c : Ch) :
    (s.cmdStop c).state = { s with chans := (s.cmdStop c).state.chans, pairs := (s.noteStop c .stop .stop).pairs } := by
  have hchans := congrArg (fun u : State => { u with chans := (s.cmdStop c).state.chans }) (s.cmdStop_besideChans c)
  have hnote := congrArg (fun u : State => { u with chans := (s.cmdStop c).state.chans }) (s.noteStop_frame c .stop .stop)
  exact Eq.trans hchans hnote

/-! ### DISABLE -/

theorem State.runRecord_disable (h : s.ready 0x14 q rest) (hmine : s.mine q) :
    (s.taken rest).runRecord .host q.record = (s.taken rest).cmdDisable (recCh q.record) := by
  obtain ⟨hform, hop⟩ := State.ready_form h
  simp only [State.runRecord, hform, hop, State.doDisable]
  exact State.onOwned_mine hmine _

/-- A state but for what the turn-off of a channel by a command changes: channels, groups, and the events that wait. -/
def State.besideTurnOff (s : State) : State :=
  { s with
    chans := Vector.replicate 24 Channel.init, groups := Vector.replicate 4 Group.init, mbx := { s.mbx with held := [] } }

theorem State.eq_of_besideTurnOff {t : State} (h : t.besideTurnOff = s.besideTurnOff) :
    t = { s with chans := t.chans, groups := t.groups, mbx := { s.mbx with held := t.mbx.held } } :=
  congrArg (fun x : State => { x with chans := t.chans, groups := t.groups, mbx := { x.mbx with held := t.mbx.held } }) h

/-- What a command in execution causes waits for its answer (R350). -/
theorem State.raise_besideTurnOff (hphase : s.phase = .runtime) (hholding : s.mbx.holding = true) (code inst : Nat) (p : List Byte) :
    (s.raise code inst p).besideTurnOff = s.besideTurnOff := by
  have hlearn : s.raise code inst p = s.learn
      { code := code, inst := inst, deferred := s.boot.eclipse, suspect := false, evtSeq := 0, time := s.time, payload := padTo 16 p } := by
    simp only [State.raise, State.raiseS, hphase, hholding, bne_self_eq_false, Bool.not_true, Bool.false_and, Bool.false_eq_true, if_false]
  rw [hlearn, State.learn, hholding, Bool.true_or, if_pos rfl]
  split <;> rfl

theorem State.partnerOff_besideTurnOff (hphase : s.phase = .runtime) (hholding : s.mbx.holding = true) (c : Ch) (n : Nat) :
    (s.partnerOff c n).besideTurnOff = s.besideTurnOff := by
  unfold State.partnerOff
  dsimp only
  split
  · refine (State.raise_besideTurnOff (s := State.recompute _ _) ?_ ?_ _ _ _).trans ?_
    · exact hphase
    · exact hholding
    · rfl
  · split <;> rfl

/-- The channel as a DISABLE leaves it (R68, R82). -/
def Channel.turnedOff (k : Channel) (firmware : Bool) : Channel :=
  { k with
    state := if k.motion.stopFault then .fault else .disabled, fetsOff := true, solo := false, rejoin := .none, policy := false
    powered := k.powered && (k.motion.stopFault || !firmware), motion := k.motion.discard, coil := k.coil.retract
    est := { k.est with rcWait := none, listening := false, samples := [] } }

/-- A twin leaves its group to its partner, any other channel brakes it (R68, R80). -/
def State.departed (s : State) (c : Ch) : State := if s.pairEnergised c then s.quitGroup c else s.leaveGroup c

theorem State.departed_frame (c : Ch) : s.departed c = { s with groups := (s.departed c).groups } := by
  unfold State.departed
  split <;> rfl

theorem State.departed_chan (c d : Ch) : (s.departed c).chan d = s.chan d := by
  rw [State.departed_frame]
  rfl

theorem State.turnOffCh_eq (c : Ch) :
    s.turnOffCh c = ((s.departed c).onChan c fun _ => (s.chan c).turnedOff s.fwOn).partnerOff c 0 := by
  have hone : ∀ (u : State) (f : Channel → Channel), u.onChan c f = u.onChan c fun _ => f (u.chan c) := fun u f => rfl
  have hfw : (s.departed c).fwOn = s.fwOn := by rw [State.departed_frame]; rfl
  have hoff : s.turnOffCh c = ((s.departed c).onChan c fun k =>
      { k with state := if (s.chan c).motion.stopFault then .fault else .disabled, fetsOff := true, solo := false, rejoin := .none
               policy := false, powered := k.powered && ((s.chan c).motion.stopFault || !s.fwOn), motion := k.motion.discard
               coil := k.coil.retract, est := { k.est with rcWait := none, listening := false, samples := [] } }).partnerOff c 0 := rfl
  rw [hoff, hone, State.departed_chan]
  rfl

/-- The turned-off channel keeps position and angle (R67, R68). -/
theorem State.turnOffCh_chan_same (c : Ch) : (s.turnOffCh c).chan c = (s.chan c).turnedOff s.fwOn := by
  rw [State.turnOffCh_eq, State.partnerOff_chan _ _ _ _ (twinOf_ne c), State.onChan_chan_same]

theorem State.turnOffCh_chan_other {c d : Ch} (hd : d ≠ c) (htwin : d ≠ twinOf c) : (s.turnOffCh c).chan d = s.chan d := by
  rw [State.turnOffCh_eq, State.partnerOff_chan _ _ _ _ htwin, State.onChan_chan_other _ _ _ _ hd, State.departed_chan]

/-- A turn-off by a command in execution changes channels and groups, and the partner's report waits for the answer (R113, R350). -/
theorem State.turnOffCh_besideTurnOff (hphase : s.phase = .runtime) (hholding : s.mbx.holding = true) (c : Ch) :
    (s.turnOffCh c).besideTurnOff = s.besideTurnOff := by
  have hgone : (s.departed c).besideTurnOff = s.besideTurnOff := by
    unfold State.departed
    split <;> rfl
  have hphase' : (s.departed c).phase = .runtime := by rw [State.departed_frame]; exact hphase
  have hholding' : (s.departed c).mbx.holding = true := by rw [State.departed_frame]; exact hholding
  rw [State.turnOffCh_eq]
  exact (State.partnerOff_besideTurnOff (s := State.onChan _ _ _) hphase' hholding' c 0).trans hgone

/-- The answer to a DISABLE that turns the channel off, and what it leaves, from the state `u` in which it does so. -/
theorem State.mailbox_disables (h : s.ready 0x14 q rest) (hmine : s.mine q) {u : State} (hu : u.besideChans = (s.taken rest).besideChans)
    (hother : ∀ d, d ≠ recCh q.record → u.chan d = s.chan d) (hfault : (u.chan (recCh q.record)).motion.stopFault = false)
    (hrun : (s.taken rest).cmdDisable (recCh q.record) = .of (u.turnOffCh (recCh q.record)) .ok) :
    let c := recCh q.record
    let t := u.turnOffCh c
    (exec .disable s = .next (t.replied q .ok 0 []).postHeld ∧
      t = { s.taken rest with chans := t.chans, groups := t.groups, mbx := { (s.taken rest).mbx with held := t.mbx.held } } ∧
      (t.chan c).state = .disabled ∧ (t.chan c).fetsOff = true ∧ (∀ d, d ≠ c → d ≠ twinOf c → t.chan d = s.chan d)) ∧
      (t.chan c).motion = (u.chan c).motion.discard := by
  intro c t
  have hphase : s.phase = .runtime := by
    obtain ⟨-, -, -, -, hfw, -⟩ := h
    simp only [State.fwOn, State.hwOn, Bool.and_eq_true, beq_iff_eq] at hfw
    exact hfw.1.1.1
  have hphase' : u.phase = .runtime := by have e := congrArg State.phase hu; exact Eq.trans e hphase
  have hholding : u.mbx.holding = true := by have e := congrArg (fun x : State => x.mbx.holding) hu; exact e
  have hoff := State.turnOffCh_besideTurnOff hphase' hholding c
  have htaken : u.besideTurnOff = (s.taken rest).besideTurnOff := by have e := congrArg State.besideTurnOff hu; exact e
  have hframe : t.besideTurnOff = (s.taken rest).besideTurnOff := hoff.trans htaken
  have hmotion : t.besideMotion = (s.taken rest).besideMotion := by have e := congrArg State.besideMotion hframe; exact e
  have hlink : t.link = s.link := by have e := congrArg State.link hframe; exact e
  have hchan := State.turnOffCh_chan_same (s := u) c
  refine ⟨⟨congrArg Host.Outcome.next ?_, State.eq_of_besideTurnOff hframe, ?_, congrArg Channel.fetsOff hchan, fun d hd htwin => ?_⟩,
    congrArg Channel.motion hchan⟩
  · exact State.mailbox_answers_events h ((State.runRecord_disable h hmine).trans hrun) rfl rfl rfl hmotion
      ((congrArg (fun l : Link => l.backlog.any (·.2)) hlink).trans (State.ready_link h))
  · refine (congrArg Channel.state hchan).trans ?_
    exact if_neg (by rw [hfault]; exact Bool.false_ne_true)
  · exact (State.turnOffCh_chan_other hd htwin).trans (hother d hd)

theorem State.cmdDisable_at_rest {c : Ch}
    (h : (s.chan c).state = .idle ∨ (s.chan c).state = .holdReduced ∨ (s.chan c).state = .rollcall) :
    s.cmdDisable c = .of (s.turnOffCh c) .ok := by
  rcases h with h | h | h <;> simp only [State.cmdDisable, h]

theorem State.cmdDisable_moving {c : Ch} (h : (s.chan c).state = .moving ∨ (s.chan c).state = .stopping) :
    s.cmdDisable c =
      if s.pairEnergised c then .of ((s.onChan c fun k => k.freeze).turnOffCh c) .ok
      else .of ((s.noteStop c .disable .disable).onMotion c fun m => { m.askStop .disable with disablePending := true }) .ok := by
  rcases h with h | h <;> simp only [State.cmdDisable, h]

theorem State.cmdDisable_latched {c : Ch} (h : (s.chan c).state = .fault ∨ (s.chan c).state = .parked) :
    s.cmdDisable c = .of s .faultLatched := by
  rcases h with h | h <;> simp only [State.cmdDisable, h]

theorem State.taken_noteStop_pairs (c : Ch) (x : PairChange) (cause : StopCause) :
    ((s.taken rest).noteStop c x cause).pairs = (s.noteStop c x cause).pairs := by
  have hchannels : (s.taken rest).energised c = s.energised c ∧ (s.taken rest).paired c = s.paired c := ⟨rfl, rfl⟩
  have hpaired : ∀ (u : State) (ps), ({ u with pairs := ps } : State).paired c = u.paired c := fun _ _ => rfl
  simp only [State.noteStop, State.noteChange, State.onShadow, hchannels, apply_ite State.pairs]
  split
  · split
    · simp only [*]
      rfl
    · simp only [*]
      rfl
  · rfl

/-- Settles O10: the moves by their checks, STOP by the channels it asks, DISABLE by the state of the channel. -/
theorem motionCommandsMoveStopAndDisable : Obligations.MotionCommandsMoveStopAndDisable := by
  unfold Obligations.MotionCommandsMoveStopAndDisable
  refine ⟨?moves, ?stop, ?disable⟩
  case moves =>
    intro s q rest i op mv armed c hcase h hmine hfields hstate hfault hpaired hmatched hfree
    have hdone : (s.taken rest).cmdMove c mv armed =
        .of ((s.taken rest).onMotion c fun m => if armed then { m with armed := some mv } else { m with held := m.held ++ [mv] }) .ok :=
      State.cmdMove_taken (s := s.taken rest) hfields hstate hfault hpaired hmatched
        ((State.taken_moveBlocked c mv).trans hfree)
    have hanswer (hd : (s.taken rest).runRecord .host q.record = (s.taken rest).cmdMove c mv armed) :=
      State.mailbox_answers_quietly h (hd.trans hdone) rfl rfl rfl rfl rfl (State.ready_link (s := s) h)
    rcases hcase with ⟨rfl, rfl, rfl, rfl, hflags⟩ | ⟨rfl, rfl, rfl, rfl, hflags⟩
    · exact congrArg Host.Outcome.next (hanswer (State.runRecord_moveTo h hmine hflags))
    · exact congrArg Host.Outcome.next (hanswer (State.runRecord_moveVel h hmine hflags))
  case stop =>
    intro s q rest h hmine hzero c
    obtain ⟨hmotion, hheld, hlink⟩ := State.quiet_of_besideChans (State.cmdStop_besideChans (s := s.taken rest) c)
    obtain ⟨hmotion', hheld', hlink'⟩ := State.quiet_of_besidePairs ((s.taken rest).noteStop_besidePairs c .stop .stop)
    have hframe := State.cmdStop_frame (s := s.taken rest) c
    have hchan := State.cmdStop_chan (s := s.taken rest) c
    obtain ⟨u, hu⟩ : ∃ u, (s.taken rest).cmdStop c = .of u .ok := ⟨_, State.cmdStop_cases c⟩
    rw [hu] at hmotion hheld hlink hframe hchan
    rw [State.taken_noteStop_pairs] at hframe
    refine ⟨u, congrArg Host.Outcome.next ?_, hframe, hchan⟩
    exact State.mailbox_answers_quietly h ((State.runRecord_stop h hmine hzero).trans hu) rfl rfl rfl (hmotion.trans hmotion')
      (hheld.trans hheld') ((congrArg (fun l : Link => l.backlog.any (·.2)) (hlink.trans hlink')).trans (State.ready_link (s := s) h))
  case disable =>
    intro s q rest h hmine c k off
    refine ⟨fun hstate hfault => ?_, fun hstate hpair hfault => ?_, fun hstate hpair => ?_, fun hstate => ?_, fun hstate => ?_⟩
    · obtain ⟨hoff, hmotion⟩ := State.mailbox_disables h hmine (u := s.taken rest) rfl (fun _ _ => rfl) hfault
        (State.cmdDisable_at_rest hstate)
      have htheta := congrArg Motion.theta hmotion
      have hpos := congrArg Motion.pos hmotion
      exact ⟨_, hoff, htheta, hpos⟩
    · have hrun := (State.cmdDisable_moving (s := s.taken rest) hstate).trans (if_pos hpair)
      have hmoving : k.state.inMotion = true := by rcases hstate with e | e <;> rw [e] <;> rfl
      have hfrozen : ((s.taken rest).onChan c fun k => k.freeze).chan c = k.freeze := State.onChan_chan_same _ _ _
      have hfreeze : k.freeze.motion.stopFault = false ∧ k.freeze.motion.pos = k.coil.lastPos := by
        unfold Channel.freeze
        rw [if_pos hmoving]
        exact ⟨hfault, rfl⟩
      obtain ⟨hoff, hmotion⟩ := State.mailbox_disables h hmine (u := (s.taken rest).onChan c fun k => k.freeze) rfl
        (fun d hd => State.onChan_chan_other _ _ _ _ hd) ((congrArg (fun k : Channel => k.motion.stopFault) hfrozen).trans hfreeze.1) hrun
      have hpos := (congrArg (fun k : Channel => k.motion.pos) hfrozen).trans hfreeze.2
      exact ⟨_, hoff, (congrArg Motion.pos hmotion).trans hpos, congrArg Motion.vel hmotion⟩
    · have hrun := (State.cmdDisable_moving (s := s.taken rest) hstate).trans (if_neg (by rw [Bool.not_eq_true]; exact hpair))
      obtain ⟨hmotion, hheld, hlink⟩ := State.quiet_of_besidePairs ((s.taken rest).noteStop_besidePairs c .disable .disable)
      exact congrArg Host.Outcome.next (State.mailbox_answers_quietly h ((State.runRecord_disable h hmine).trans hrun) rfl rfl rfl
        hmotion hheld ((congrArg (fun l : Link => l.backlog.any (·.2)) hlink).trans (State.ready_link (s := s) h)))
    · have hrun : (s.taken rest).cmdDisable c = .of (s.taken rest) .ok := by
        have hstate' : ((s.taken rest).chan c).state = .disabled := hstate
        simp only [State.cmdDisable, hstate']
      exact congrArg Host.Outcome.next (State.mailbox_answers_idle h ((State.runRecord_disable h hmine).trans hrun))
    · have hrun := State.cmdDisable_latched (s := s.taken rest) hstate
      exact congrArg Host.Outcome.next (State.mailbox_answers_idle h ((State.runRecord_disable h hmine).trans hrun))

end Sys2Proof.Machine
end

section
/-! ENABLE and ROLL_CALL: the channels begin Roll Call, or the command waits for the writes that clear their latches (R68, R82, R107,
R361, R430, R496). -/

namespace Sys2Proof.Machine

variable {s : State} {q : Queued} {rest : List Queued}

/-- The first channel of a mask that a test names. -/
theorem find_maskChs {m : BitVec 24} {p : Ch → Bool} {c : Ch} (hc : maskBit m c = true) (hp : p c = true)
    (hfirst : ∀ d, d < c → maskBit m d = true → p d = false) : (maskChs m).find? p = some c := by
  unfold maskChs
  rw [List.find?_filter, List.find?_eq_some_iff_getElem]
  refine ⟨by simp [hc, hp], c.val, by simp, by simp, fun j hj => ?_⟩
  simpa [Decidable.imp_iff_not_or] using hfirst ⟨j, hj.trans c.isLt⟩ hj

theorem State.runRecord_enable (h : s.ready 0x13 q rest) (hmine : s.mine q) :
    (s.taken rest).runRecord .host q.record = (s.taken rest).cmdEnable (recCh q.record) := by
  obtain ⟨hform, hop⟩ := State.ready_form h
  simp only [State.runRecord, hform, hop, State.doEnable]
  exact State.onOwned_mine hmine _

theorem State.runRecord_rollCall (h : s.ready 0x17 q rest) (hmask : maskOk q.record = true)
    (hmine : ∀ c, maskBit (recMask q.record) c = true → s.hasCh c = true ∧ s.owns .host c = true) :
    (s.taken rest).runRecord .host q.record = (s.taken rest).cmdRollCall (recMask q.record) := by
  obtain ⟨hform, hop⟩ := State.ready_form h
  simp only [State.runRecord, hform, hop, State.doRollCall]
  exact State.onMask_mine hmask hmine _

/-- An ENABLE that passes its conditions finds a power die that answers (R493). -/
theorem State.judgeEnable_answers {c : Ch} {rc : Bool} {m : BitVec 24} (h : s.judgeEnable c rc m = .ok) : s.link.answers = true := by
  have hall := (firstCode_eq_ok (by simp)).1 h
    ((s.chan c).state == .fault || (s.chan c).state == .parked || !s.link.answers || !s.vmInWindow (bankOf c), .faultLatched) (by simp)
  simp only [Bool.or_eq_false_iff, Bool.not_eq_false'] at hall
  exact hall.1.2

/-! ### The writes that prepare the channels -/

/-- A write that no command waits for leaves no write waiting for a tag that one does. -/
theorem Link.issue_unwaited (l : Link) (k : CfgKind) : (l.issue k false).backlog.any (·.2) = l.backlog.any (·.2) := by
  unfold Link.issue
  split
  · rfl
  · simp

theorem State.sendWrite_unwaited (k : CfgKind) : (s.sendWrite k).link.backlog.any (·.2) = s.link.backlog.any (·.2) := by
  unfold State.sendWrite
  split
  · exact s.link.issue_unwaited k
  · rfl

theorem State.configWrite_frame (k : CfgKind) : (s.configWrite k).1 = { s with link := (s.configWrite k).1.link } := by
  unfold State.configWrite
  split <;> rfl

/-- The preparing write of one more channel, and the tags of the writes so far. -/
def prepareNext (acc : State × List Byte) (c : Ch) : State × List Byte :=
  ((acc.1.configWrite (.prepare c)).1, acc.2 ++ (acc.1.configWrite (.prepare c)).2)

/-- The preparing writes change the link alone. -/
theorem State.prepareAll_frame (cs : List Ch) : (s.prepareAll cs).1 = { s with link := (s.prepareAll cs).1.link } := by
  have hfold : ∀ acc : State × List Byte,
      (cs.foldl prepareNext acc).1 = { acc.1 with link := (cs.foldl prepareNext acc).1.link } := by
    induction cs with
    | nil => exact fun _ => rfl
    | cons c cs ih =>
      intro acc
      refine (ih (prepareNext acc c)).trans ?_
      have hone : (prepareNext acc c).1 = { acc.1 with link := (prepareNext acc c).1.link } := State.configWrite_frame _
      rw [List.foldl_cons, hone]
  exact hfold (s, [])

/-- With a tag free and an answering power die the first of them has its tag (R493). -/
theorem State.prepareAll_tags {cs : List Ch} (hcs : cs ≠ []) (htx : s.link.txOn = true) (hanswers : s.link.answers = true)
    (htag : s.link.freeTag ≠ 0) : (s.prepareAll cs).2 ≠ [] := by
  have hfold : ∀ (ds : List Ch) (acc : State × List Byte), acc.2 ≠ [] → (ds.foldl prepareNext acc).2 ≠ [] := by
    intro ds
    induction ds with
    | nil => exact fun _ hacc => hacc
    | cons d ds ih => exact fun acc hacc => ih _ (List.append_ne_nil_of_left_ne_nil hacc _)
  cases cs with
  | nil => exact absurd rfl hcs
  | cons c cs =>
    refine hfold cs (prepareNext (s, []) c) ?_
    rw [prepareNext, State.configWrite_tag htx hanswers htag]
    exact List.cons_ne_nil _ _

/-- The domains come on, whatever the link does. -/
theorem State.forAll_powerSlice_link (cs : List Ch) (l : Link) :
    ({ s.forAll cs fun c s => s.powerSlice c with link := l } : State) =
      cs.foldl (fun t c => t.powerSlice c) ({ s with link := l } : State) := by
  unfold State.forAll
  induction cs generalizing s with
  | nil => rfl
  | cons c cs ih => exact ih

/-! ### The beginning -/

/-- An accepted ENABLE of a channel without a latch to clear. -/
def State.enableOne (s : State) (cs : List Ch) (c : Ch) : State := (s.beginEnable cs c).sendWrite (.prepare c)

theorem State.enableOne_chan (cs : List Ch) (c d : Ch) : (s.enableOne cs c).chan d = (s.beginEnable cs c).chan d := by
  rw [State.enableOne, State.sendWrite_frame]
  rfl

theorem State.enableOne_frame (cs : List Ch) (c : Ch) :
    s.enableOne cs c = { s with chans := (s.enableOne cs c).chans, pairs := (s.enableOne cs c).pairs, link := (s.enableOne cs c).link } := by
  rw [State.enableOne, State.sendWrite_frame]
  rfl

/-- A state but for what an ENABLE changes at once: channels, pair records and the link. -/
def State.besideEnable (s : State) : State :=
  { s with chans := Vector.replicate 24 Channel.init, pairs := Vector.replicate 12 PairRecord.init, link := Link.init }

theorem State.eq_of_besideEnable {t : State} (h : t.besideEnable = s.besideEnable) :
    t = { s with chans := t.chans, pairs := t.pairs, link := t.link } :=
  congrArg (fun x : State => { x with chans := t.chans, pairs := t.pairs, link := t.link }) h

theorem State.enableOne_besideEnable (cs : List Ch) (c : Ch) : (s.enableOne cs c).besideEnable = s.besideEnable := by
  rw [State.enableOne_frame]
  rfl

theorem State.enableOne_unwaited (cs : List Ch) (c : Ch) : (s.enableOne cs c).link.backlog.any (·.2) = s.link.backlog.any (·.2) :=
  State.sendWrite_unwaited (s := s.beginEnable cs c) _

theorem State.enableAll_unlatched {cs : List Ch} (h : ∀ c ∈ cs, s.pdLatched c = false) :
    s.enableAll cs = .of (s.forAll cs fun c s => s.enableOne cs c) .ok := by
  have hnone : (cs.any fun c => s.pdLatched c) = false := List.any_eq_false.2 fun c hc => by rw [h c hc]; exact Bool.false_ne_true
  unfold State.enableAll
  rw [hnone]
  rfl

theorem State.enableAll_latched {cs : List Ch} {c : Ch} (hc : c ∈ cs) (h : s.pdLatched c = true) :
    s.enableAll cs =
      { Done.of ((s.forAll cs fun c s => s.powerSlice c).prepareAll cs).1 .ok with
        tags := ((s.forAll cs fun c s => s.powerSlice c).prepareAll cs).2, starts := cs } :=
  if_pos (List.any_eq_true.2 ⟨c, hc, h⟩)

theorem State.forAll_enableOne_frame (cs ds : List Ch) :
    (s.forAll ds fun c s => s.enableOne cs c).besideEnable = s.besideEnable :=
  State.forAll_keeps State.besideEnable (fun c _ => State.enableOne_besideEnable cs c) s

theorem State.forAll_enableOne_unwaited (cs ds : List Ch) :
    (s.forAll ds fun c s => s.enableOne cs c).link.backlog.any (·.2) = s.link.backlog.any (·.2) :=
  State.forAll_keeps (fun t : State => t.link.backlog.any (·.2)) (fun c _ => State.enableOne_unwaited cs c) s

theorem State.forAll_enableOne_same {cs ds : List Ch} (hnodup : ds.Nodup) {c : Ch} (hc : c ∈ ds) :
    ((s.forAll ds fun c s => s.enableOne cs c).chan c).inRollCall := by
  have hother : ∀ d ∈ ds, d ≠ c → ∀ t : State, (t.chan c).inRollCall → ((t.enableOne cs d).chan c).inRollCall := fun d _ hd t ht => by
    rw [State.enableOne_chan, State.beginEnable_chan_other cs hd.symm]
    exact ht
  exact State.forAll_turn (before := fun _ => True) hc hnodup (fun _ _ _ _ _ => trivial)
    (fun t _ => by rw [State.enableOne_chan]; exact (State.beginEnable_chan_same cs c).1) hother trivial

theorem State.forAll_enableOne_other (cs : List Ch) {ds : List Ch} {c : Ch} (hc : c ∉ ds) :
    (s.forAll ds fun c s => s.enableOne cs c).chan c = s.chan c :=
  State.forAll_invariant (P := fun t => t.chan c = s.chan c)
    (fun d hd t ht => by
      rw [State.enableOne_chan, State.beginEnable_chan_other cs (ne_of_mem_of_not_mem hd hc).symm]
      exact ht) rfl

/-! ### The commands -/

/-- With no latch to clear, the channels are in Roll Call with the answer. -/
theorem State.mailbox_enables {op : Nat} (h : s.ready op q rest) {cs : List Ch}
    (hrun : (s.taken rest).runRecord .host q.record = (s.taken rest).enableAll cs) (hlatch : ∀ c ∈ cs, s.pdLatched c = false) :
    s.mailbox op = ((s.taken rest).forAll cs fun c s => s.enableOne cs c).replied q .ok 0 [] := by
  have hd := hrun.trans (State.enableAll_unlatched (s := s.taken rest) hlatch)
  have hframe := State.forAll_enableOne_frame (s := s.taken rest) cs cs
  refine State.mailbox_answers_quietly h hd rfl rfl rfl ?_ ?_ ?_
  · have e := congrArg State.besideMotion hframe
    exact e
  · have e := congrArg (fun u : State => u.mbx.held) hframe
    exact e
  · exact (State.forAll_enableOne_unwaited cs cs).trans (State.ready_link (s := s) h)

/-- With a latch to clear on any, all wait for the echoes, their domains on. -/
theorem State.mailbox_waits_for_latches {op : Nat} (h : s.ready op q rest) {cs : List Ch}
    (hrun : (s.taken rest).runRecord .host q.record = (s.taken rest).enableAll cs) {c : Ch} (hc : c ∈ cs) (hlatch : s.pdLatched c = true)
    (htx : s.link.txOn = true) (hanswers : s.link.answers = true) (htag : s.link.freeTag ≠ 0) :
    let r := ((s.taken rest).forAll cs fun c s => s.powerSlice c).prepareAll cs
    r.2 ≠ [] ∧ s.mailbox op =
      (cs.foldl (fun t c => t.powerSlice c) ({ s.taken rest with link := r.1.link } : State)).held q r.2 .ok 0 [] [] cs := by
  intro r
  have hlink : ((s.taken rest).forAll cs fun c s => s.powerSlice c).link = s.link :=
    State.forAll_keeps State.link (f := fun c (t : State) => t.powerSlice c) (fun _ _ => rfl) (s.taken rest)
  have htags : r.2 ≠ [] := by
    refine State.prepareAll_tags (List.ne_nil_of_mem hc) ?_ ?_ ?_
    · rw [hlink]; exact htx
    · rw [hlink]; exact hanswers
    · rw [hlink]; exact htag
  have hwaits := State.mailbox_waits h (hrun.trans (State.enableAll_latched (s := s.taken rest) hc hlatch)) htags
  refine ⟨htags, hwaits.trans ?_⟩
  have hstate : r.1 = cs.foldl (fun t c => t.powerSlice c) ({ s.taken rest with link := r.1.link } : State) :=
    (State.prepareAll_frame cs).trans (State.forAll_powerSlice_link cs _)
  exact congrArg (fun t : State => t.held q r.2 .ok 0 [] [] cs) hstate

/-- Settles O11: with no latch to clear the channels begin, with one the command waits. -/
theorem enableAndRollCallBeginRollCall : Obligations.EnableAndRollCallBeginRollCall := by
  unfold Obligations.EnableAndRollCallBeginRollCall
  refine ⟨?enable, ?rollCall⟩
  case enable =>
    intro s q rest h hmine htx htag c hjudge
    have hanswers := State.judgeEnable_answers hjudge
    have hcmd : (s.taken rest).cmdEnable c = (s.taken rest).enableAll [c] := by
      have hjudge' : (s.taken rest).judgeEnable c false 0 = .ok := hjudge
      simp only [State.cmdEnable, hjudge']
    have hrun := (State.runRecord_enable h hmine).trans hcmd
    refine ⟨fun hlatch => ⟨(s.taken rest).enableOne [c] c, congrArg Host.Outcome.next ?_, ?_, ?_, ?_, fun d hd => ?_⟩, fun hlatch => ?_⟩
    · exact State.mailbox_enables h hrun (by simpa using hlatch)
    · have hsend : ((s.taken rest).beginEnable [c] c).sendWrite (.prepare c) =
          { (s.taken rest).beginEnable [c] c with link := s.link.issue (.prepare c) false } :=
        if_pos (by rw [Bool.and_eq_true]; exact ⟨htx, hanswers⟩)
      unfold State.enableOne
      rw [hsend]
      rfl
    · rw [State.enableOne_chan]
      exact (State.beginEnable_chan_same _ _).1
    · rw [State.enableOne_chan]
      exact (State.beginEnable_chan_same (s := s.taken rest) _ _).2
    · rw [State.enableOne_chan]
      exact State.beginEnable_chan_other (s := s.taken rest) _ hd
    · have hpass : (s.taken rest).enableAll [c] = _ := State.enableAll_latched (s := s.taken rest) (List.mem_singleton_self c) hlatch
      have hwrite := State.configWrite_tag (s := (s.taken rest).powerSlice c) htx hanswers htag (.prepare c)
      have hprepare : ((s.taken rest).powerSlice c).prepareAll [c] =
          ({ (s.taken rest).powerSlice c with link := s.link.issue (.prepare c) true }, [s.link.freeTag]) := by
        simp only [State.prepareAll, List.foldl_cons, List.foldl_nil, List.nil_append, hwrite]
        rfl
      have hone : (s.taken rest).forAll [c] (fun c s => s.powerSlice c) = (s.taken rest).powerSlice c := rfl
      rw [hone, hprepare] at hpass
      exact congrArg Host.Outcome.next (State.mailbox_waits h (hrun.trans hpass) (List.cons_ne_nil _ _))
  case rollCall =>
    intro s q rest h hmask m hmine
    have hfind : ∀ {p : Ch → Bool}, (∀ c, maskBit m c = true → p c = false) → (maskChs m).find? p = none := fun hp =>
      List.find?_eq_none.2 fun c hc => by rw [hp c (mem_maskChs.1 hc)]; exact Bool.false_ne_true
    have hall (hjudge : ∀ c, maskBit m c = true → s.judgeEnable c true m = .ok) :
        (s.taken rest).runRecord .host q.record = (s.taken rest).enableAll (maskChs m) := by
      refine (State.runRecord_rollCall h hmask hmine).trans ?_
      have hnone : (maskChs m).find? (fun c => (s.taken rest).judgeEnable c true m != .ok) = none :=
        hfind fun c hc => bne_eq_false_iff_eq.2 (hjudge c hc)
      unfold State.cmdRollCall
      rw [hnone]
    refine ⟨fun hjudge hlatch => ?_, fun hjudge hlatch htx htag => ?_, fun c hc hbad hfirst => ?_⟩
    · refine ⟨_, congrArg Host.Outcome.next (State.mailbox_enables h (hall hjudge) fun c hc => hlatch c (mem_maskChs.1 hc)),
        State.eq_of_besideEnable (State.forAll_enableOne_frame _ _), fun c hc => ?_, fun c hc => ?_⟩
      · exact State.forAll_enableOne_same (maskChs_nodup m) (mem_maskChs.2 hc)
      · exact State.forAll_enableOne_other (s := s.taken rest) _ fun e => by
          rw [mem_maskChs.1 e] at hc
          exact Bool.false_ne_true hc.symm
    · obtain ⟨c, hc, hset⟩ := hlatch
      obtain ⟨htags, hwaits⟩ := State.mailbox_waits_for_latches h (hall hjudge) (mem_maskChs.2 hc) hset htx
        (State.judgeEnable_answers (hjudge c hc)) htag
      exact ⟨_, _, htags, congrArg Host.Outcome.next hwaits⟩
    · have hsome : (maskChs m).find? (fun c => (s.taken rest).judgeEnable c true m != .ok) = some c :=
        find_maskChs hc (bne_iff_ne.2 hbad) fun d hd hbit => bne_eq_false_iff_eq.2 (hfirst d hd hbit)
      have hrun : (s.taken rest).cmdRollCall m = { Done.of (s.taken rest) (s.judgeEnable c true m) with detail := c.val } := by
        unfold State.cmdRollCall
        rw [hsome]
        rfl
      exact congrArg Host.Outcome.next (State.mailbox_answers_idle h ((State.runRecord_rollCall h hmask hmine).trans hrun))

end Sys2Proof.Machine
end

section
/-! The end of a Roll Call: passed, failed, or kept for the processor (R82, R107 to R109, R117, R367). -/

namespace Sys2Proof.Machine

variable {s : State} {c : Ch}

/-! ### The firmware's own writes (R367) -/

theorem State.ownWrite_frame (id inst : Nat) (v : Int) :
    s.ownWrite id inst v = { s with params := (s.ownWrite id inst v).params, mbx := (s.ownWrite id inst v).mbx } := by
  unfold State.ownWrite
  split <;> rfl

/-- Two own writes to one unit: the second waits for a later fabric cycle. -/
theorem State.ownWrite_twice_free {id id' inst : Nat} (hunit : unitOf id inst = unitOf id' inst) (h : s.freeUnit id inst) (v v' : Int) :
    ((s.ownWrite id inst v).ownWrite id' inst v').params = (s.setPar id inst v).params ∧
      ((s.ownWrite id inst v).ownWrite id' inst v').mbx.later = s.mbx.later ++ [(id', inst, v')] := by
  have hfirst : s.ownWrite id inst v = (s.setPar id inst v).noteWrite (unitOf id inst) := if_neg (by rw [h]; exact Bool.false_ne_true)
  have hwritten : ((s.setPar id inst v).noteWrite (unitOf id inst)).mbx.written.contains (unitOf id' inst) = true := by
    simp [State.noteWrite, hunit]
  rw [hfirst, State.ownWrite, if_pos hwritten]
  exact ⟨rfl, rfl⟩

/-- In a unit that has had its write, both wait. -/
theorem State.ownWrite_twice_busy {id id' inst : Nat} (hunit : unitOf id inst = unitOf id' inst) (h : ¬ s.freeUnit id inst) (v v' : Int) :
    ((s.ownWrite id inst v).ownWrite id' inst v').params = s.params ∧
      ((s.ownWrite id inst v).ownWrite id' inst v').mbx.later = s.mbx.later ++ [(id, inst, v), (id', inst, v')] := by
  have hwritten : s.mbx.written.contains (unitOf id inst) = true := by rwa [State.freeUnit, Bool.not_eq_false] at h
  have hfirst : s.ownWrite id inst v = { s with mbx := { s.mbx with later := s.mbx.later ++ [(id, inst, v)] } } := if_pos hwritten
  rw [hfirst, State.ownWrite, if_pos (by rw [← hunit]; exact hwritten)]
  exact ⟨rfl, List.append_assoc ..⟩

theorem State.ownWrite_par_other {id id' inst inst' : Nat} (hne : id' ≠ id) (h : inst < 256) (h' : inst' < 256) (v : Int) :
    (s.ownWrite id inst v).par id' inst' = s.par id' inst' := by
  unfold State.ownWrite
  split
  · rfl
  · exact Sparse.get_put_other _ _ _ _ fun e => hne ((pkey_inj h' h).1 e).1

/-- An event leaves the firmware's waiting writes alone. -/
theorem State.raise_later (code inst : Nat) (p : List Byte) : (s.raise code inst p).mbx.later = s.mbx.later := by
  unfold State.raise State.raiseS State.learn State.post State.ringUp
  dsimp only
  split
  · rfl
  · split
    · rfl
    · split
      · split <;> rfl
      · split
        · rfl
        · rw [Mailbox.store_frame]

/-! ### A pass -/

theorem State.soloIfAlone_frame (cause : Nat) :
    s.soloIfAlone c cause = { s with chans := (s.soloIfAlone c cause).chans, mbx := (s.soloIfAlone c cause).mbx } := by
  unfold State.soloIfAlone
  split
  · rw [State.raise_frame]; rfl
  · rfl

theorem State.soloIfAlone_later (cause : Nat) : (s.soloIfAlone c cause).mbx.later = s.mbx.later := by
  unfold State.soloIfAlone
  split
  · rw [State.raise_later]; rfl
  · rfl

theorem State.soloIfAlone_chan_other (cause : Nat) {d : Ch} (hd : d ≠ c) : (s.soloIfAlone c cause).chan d = s.chan d := by
  unfold State.soloIfAlone
  split
  · rw [State.raise_chan, State.onChan_chan_other _ _ _ _ hd]
  · rfl

theorem State.soloIfAlone_chan_same (cause : Nat) :
    (s.soloIfAlone c cause).chan c =
      { s.chan c with solo := if s.isTwin c && s.partnerOut c then true else (s.chan c).solo } := by
  unfold State.soloIfAlone
  split
  · rw [State.raise_chan, State.onChan_chan_same]
  · rfl

/-- A Roll Call passes with `r` and `l`, the estimator noting what it has measured (R109). -/
def State.rollCallPassed (s : State) (c : Ch) (f : Estim → Estim) (r l : Int) : State :=
  ((((s.onEst c f).ownWrite Pid.CH_MOTOR_R c.val r).ownWrite Pid.CH_MOTOR_L c.val l).energise c .idle).onEst c fun e =>
    { e with rcPassed := true, feZero := max 1 e.feZero }

theorem State.rollCallPassed_frame (f : Estim → Estim) (r l : Int) :
    s.rollCallPassed c f r l = { s with chans := (s.rollCallPassed c f r l).chans, params := (s.rollCallPassed c f r l).params
                                        mbx := (s.rollCallPassed c f r l).mbx } := by
  unfold State.rollCallPassed
  rw [State.ownWrite_frame Pid.CH_MOTOR_L, State.ownWrite_frame Pid.CH_MOTOR_R]
  rfl

theorem State.rollCallPassed_chans (f : Estim → Estim) (r l : Int) :
    (s.rollCallPassed c f r l).chans = (((s.onEst c f).energise c .idle).onEst c fun e =>
      { e with rcPassed := true, feZero := max 1 e.feZero }).chans := by
  unfold State.rollCallPassed
  rw [State.ownWrite_frame Pid.CH_MOTOR_L, State.ownWrite_frame Pid.CH_MOTOR_R]
  rfl

theorem State.rollCallPassed_chan_other (f : Estim → Estim) (r l : Int) {d : Ch} (hd : d ≠ c) :
    (s.rollCallPassed c f r l).chan d = s.chan d := by
  unfold State.chan
  rw [State.rollCallPassed_chans]
  have hsame : ∀ (u : State) (g : Channel → Channel), (u.onChan c g).chans[d] = u.chans[d] := fun u g => State.onChan_chan_other u c d g hd
  exact (hsame _ _).trans ((hsame _ _).trans (hsame _ _))

theorem State.rollCallPassed_chan_same (f : Estim → Estim) (r l : Int) :
    (s.rollCallPassed c f r l).chan c =
      { s.chan c with
        state := .idle, fetsOff := false, coil := { (s.chan c).coil with reduced := false, rampDone := 0 }
        est := { f (s.chan c).est with rcPassed := true, feZero := max 1 (f (s.chan c).est).feZero } } := by
  have hchan : (s.rollCallPassed c f r l).chan c = (((s.onEst c f).energise c .idle).onEst c fun e =>
      { e with rcPassed := true, feZero := max 1 e.feZero }).chan c := by
    unfold State.chan
    rw [State.rollCallPassed_chans]
  rw [hchan, State.onEst_chan_same, State.energise, State.onChan_chan_same, State.onEst_chan_same]

/-- The writes of R and L leave CH.TWIN as it is. -/
theorem State.rollCallPassed_isTwin (f : Estim → Estim) (r l : Int) : (s.rollCallPassed c f r l).isTwin c = s.isTwin c := by
  have hbits : c.val < 256 := c.isLt.trans (by decide)
  have hpar : (s.rollCallPassed c f r l).par Pid.CH_TWIN c.val = s.par Pid.CH_TWIN c.val :=
    (State.ownWrite_par_other (by decide) hbits hbits l).trans (State.ownWrite_par_other (s := s.onEst c f) (by decide) hbits hbits r)
  exact congrArg (· != 0) hpar

theorem State.rollCallPassed_partnerOut (f : Estim → Estim) (r l : Int) :
    (s.rollCallPassed c f r l).partnerOut c = s.partnerOut c := by
  simp only [State.partnerOut, State.rollCallPassed_chan_other f r l (twinOf_ne c).symm]

theorem State.evaluateRollCall_passes {k1 k2 : RcCoil} (h : s.rcCode c k1 k2 = 0x01 ∨ s.rcCode c k1 k2 = 0x03) :
    ∃ (f : Estim → Estim) (p : List Byte) (cause : Nat), (∀ e, (f e).rcResult = s.rcCode c k1 k2) ∧
      s.evaluateRollCall c k1 k2 =
        ((s.rollCallPassed c f (meanFrac (rcRNum k1) (rcRDen k1) (rcRNum k2) (rcRDen k2))
          (if k1.crossing.isNone || k2.crossing.isNone then 0 else meanFrac (rcLNum k1) (rcLDen k1) (rcLNum k2) (rcLDen k2))).raise
            0x0203 c.val p).soloIfAlone c cause := by
  have hcode : (s.rcCode c k1 k2 == 0x01 || s.rcCode c k1 k2 == 0x03) = true := by simpa using h
  exact ⟨_, _, _, fun _ => rfl, if_pos hcode⟩

theorem State.evaluateRollCall_fails {k1 k2 : RcCoil} (h : s.rcCode c k1 k2 ≠ 0x01) (h' : s.rcCode c k1 k2 ≠ 0x03) :
    ∃ (f : Estim → Estim) (p : List Byte), (∀ e, (f e).rcResult = s.rcCode c k1 k2) ∧
      s.evaluateRollCall c k1 k2 =
        (((s.onEst c f).chPulse c 17).raise 0x0204 c.val p).faultOff c fun k => { k with rollCall := true } := by
  have hcode : ¬ (s.rcCode c k1 k2 == 0x01 || s.rcCode c k1 k2 == 0x03) = true := by simp [h, h']
  exact ⟨_, _, fun _ => rfl, if_neg hcode⟩

/-- What a fault leaves of the Roll Call's result (R109). -/
theorem State.faultOff_rcResult (hd : (s.chan c).state ≠ .disabled) (hp : (s.chan c).state ≠ .parked) (set : Causes → Causes) :
    ((s.faultOff c set).chan c).est.rcResult = (s.chan c).est.rcResult := by
  have hfreeze : (s.chan c).freeze.est = (s.chan c).est := by
    unfold Channel.freeze
    split <;> rfl
  have hend : (s.chan c).endMotion.est.rcResult = (s.chan c).est.rcResult := by
    have e := congrArg Estim.rcResult hfreeze
    exact e
  have hsame : (s.faultOff c set).chan c = (s.faultedCh c set).chan c := by
    rw [State.faultOff_on hd hp]
    split
    · rfl
    · exact State.partnerOff_chan _ _ _ _ (twinOf_ne c)
  rw [hsame, State.faultedCh, State.onChan_chan_same]
  exact hend

/-- Settles O42: by the firmware's run and the code of the measurement. -/
theorem rollCallPassesFailsOrWaits : Obligations.RollCallPassesFailsOrWaits := by
  unfold Obligations.RollCallPassesFailsOrWaits
  intro s c hon hmeasuring hdone k1 k2 code
  have hguard : (s.hwOn && s.measuring c && s.rcDone c) = true := by rw [hon, hmeasuring, hdone]; rfl
  have hends : exec (.rollcallComplete c k1 k2) s =
      .next (if s.fwOn then s.evaluateRollCall c k1 k2 else s.onEst c fun e => { e with rcWait := some (k1, k2) }) := by
    have hvalues : (s.hwOn && s.measuring c && s.rcDone c && s.rcMeasured c == (k1, k2)) = true := by
      rw [hguard, Bool.true_and]
      exact beq_self_eq_true _
    exact congrArg Host.Outcome.next (if_neg (by rw [hvalues]; decide))
  have hstate : (s.chan c).state = .rollcall := by
    simp only [State.measuring, Bool.and_eq_true, beq_iff_eq] at hmeasuring
    exact hmeasuring.1.1.1
  refine ⟨fun hfw hcode => ?pass, fun hfw h1 h3 => ?fail, fun hfw => ?halted, fun x y hxy => ?other⟩
  case pass =>
    obtain ⟨f, p, cause, hresult, heval⟩ := State.evaluateRollCall_passes hcode
    rw [hends, if_pos hfw, heval]
    generalize hr : meanFrac (rcRNum k1) (rcRDen k1) (rcRNum k2) (rcRDen k2) = r
    generalize hl : (if k1.crossing.isNone || k2.crossing.isNone then 0 else meanFrac (rcLNum k1) (rcLDen k1) (rcLNum k2) (rcLDen k2)) = l
    have hchan := State.soloIfAlone_chan_same (s := (s.rollCallPassed c f r l).raise 0x0203 c.val p) (c := c) cause
    have htwin : ((s.rollCallPassed c f r l).raise 0x0203 c.val p).isTwin c = s.isTwin c := by
      rw [State.raise_frame]
      exact State.rollCallPassed_isTwin f r l
    have hout : ((s.rollCallPassed c f r l).raise 0x0203 c.val p).partnerOut c = s.partnerOut c := by
      rw [State.raise_frame]
      exact State.rollCallPassed_partnerOut f r l
    rw [htwin, hout, State.raise_chan, State.rollCallPassed_chan_same] at hchan
    refine ⟨_, rfl, ?_, fun d hd => ?_, ?_, ?_, ?_, ?_, fun h => ?_, fun h h' => ?_, fun h => ?_, fun h => ?_⟩
    · rw [State.soloIfAlone_frame, State.raise_frame, State.rollCallPassed_frame]
    · rw [State.soloIfAlone_chan_other _ hd, State.raise_chan, State.rollCallPassed_chan_other _ _ _ hd]
    · rw [hchan]
    · rw [hchan]
    · rw [hchan]
      exact hresult _
    · rw [hchan]
    · rw [hchan, h]
      rfl
    · rw [hchan, h, h']
      rfl
    · have hwrites := State.ownWrite_twice_free (s := s.onEst c f) (id := Pid.CH_MOTOR_R) (id' := Pid.CH_MOTOR_L) rfl h r l
      rw [State.soloIfAlone_frame, State.soloIfAlone_later, State.raise_later, State.raise_frame]
      exact hwrites
    · have hwrites := State.ownWrite_twice_busy (s := s.onEst c f) (id := Pid.CH_MOTOR_R) (id' := Pid.CH_MOTOR_L) rfl h r l
      rw [State.soloIfAlone_frame, State.soloIfAlone_later, State.raise_later, State.raise_frame]
      exact hwrites
  case fail =>
    obtain ⟨f, p, hresult, heval⟩ := State.evaluateRollCall_fails h1 h3
    rw [hends, if_pos hfw, heval]
    have hchan : ((((s.onEst c f).chPulse c 17).raise 0x0204 c.val p).chan c) = { s.chan c with est := f (s.chan c).est } := by
      rw [State.raise_chan, State.chPulse_chan, State.onEst_chan_same]
    have hd : ((((s.onEst c f).chPulse c 17).raise 0x0204 c.val p).chan c).state ≠ .disabled := by rw [hchan]; simp [hstate]
    have hp : ((((s.onEst c f).chPulse c 17).raise 0x0204 c.val p).chan c).state ≠ .parked := by rw [hchan]; simp [hstate]
    obtain ⟨hfaulted, hcauses⟩ := State.faultOff_faulted hd hp fun k => { k with rollCall := true }
    refine ⟨_, rfl, fun d hdc hdt => ?_, hfaulted, congrArg Causes.rollCall hcauses, ?_, ?_, ?_⟩
    · rw [State.faultOff_chan_other _ _ _ _ hdc (.inl hdt), State.raise_chan, State.chPulse_chan]
      exact State.onChan_chan_other _ _ _ _ hdc
    · rw [State.faultOff_rcResult hd hp, hchan]
      exact hresult _
    · rw [State.faultOff_params, State.raise_params, State.chPulse_params]
      rfl
    · rw [State.faultOff_pd, State.raise_pd, State.chPulse_pd]
      rfl
  case halted =>
    rw [hends, hfw]
    rfl
  case other =>
    have hne : (s.rcMeasured c == (x, y)) = false := beq_eq_false_iff_ne.2 hxy.symm
    exact congrArg Host.Outcome.next (if_pos (by rw [hne, Bool.and_false]; rfl))

end Sys2Proof.Machine
end

section
/-! What the turns of one integration step leave of channels and groups that they are not about (R48, R63): a channel's turn changes
that channel, and of its twin no more than what the twin supervisor sets when FETs turn off (R113, R116). -/

namespace Sys2Proof.Machine

variable {s t u : State} {c d : Ch}

/-! ### The relation -/

/-- A state but for what an integration step changes. -/
def State.besideStep (s : State) : State :=
  { s with
    chans := Vector.replicate 24 Channel.init, pairs := Vector.replicate 12 PairRecord.init, groups := Vector.replicate 4 Group.init
    pulses := [], mbx := Mailbox.init, link := { s.link with hold := 0 } }

/-- An integration step goes on from `s` to `t`: no pulse and no order is taken back, and no active group gains a member. -/
structure State.Onward (s t : State) : Prop where
  frame : t.besideStep = s.besideStep
  pulses : ∀ n, s.pulses.contains n = true → t.pulses.contains n = true
  hold : ∀ c, maskBit s.link.hold c = true → maskBit t.link.hold c = true
  groups : ∀ j : Fin 4, t.groups[j].active = true → s.groups[j].active = true ∧
    ∀ c, (t.groups[j].members.any fun x => x.1 == c) = true → (s.groups[j].members.any fun x => x.1 == c) = true

theorem State.Onward.refl : State.Onward s s := ⟨rfl, fun _ h => h, fun _ h => h, fun _ h => ⟨h, fun _ hc => hc⟩⟩

theorem State.Onward.trans (h : State.Onward s t) (h' : State.Onward t u) : State.Onward s u :=
  ⟨h'.frame.trans h.frame, fun n hn => h'.pulses n (h.pulses n hn), fun c hc => h'.hold c (h.hold c hc), fun j hj =>
    have hj' := h'.groups j hj
    have hj'' := h.groups j hj'.1
    ⟨hj''.1, fun c hc => hj''.2 c (hj'.2 c hc)⟩⟩

theorem State.Onward.of_groups (hframe : t.besideStep = s.besideStep) (hpulses : ∀ n, s.pulses.contains n = true → t.pulses.contains n = true)
    (hhold : ∀ c, maskBit s.link.hold c = true → maskBit t.link.hold c = true) (hgroups : t.groups = s.groups) : State.Onward s t :=
  ⟨hframe, hpulses, hhold, fun j hj => by rw [hgroups] at hj ⊢; exact ⟨hj, fun _ hc => hc⟩⟩

/-- The FETs of the channel's twin do not turn off for a DISABLE, or are no concern of the channel's (R68, R113). -/
def State.calm (s : State) (c : Ch) : Prop := s.paired c = false ∨ (s.chan (twinOf c)).motion.disablePending = false

/-- The members of a group belong to the channels looked at. -/
def State.covered (s : State) (C : Ch → Prop) (own : Option (Fin 4)) : Prop := ∀ i, own = some i → ∀ x ∈ s.groups[i].members, C x.1

/-- From `s` to `t` the step leaves the channels of `C` in state and motion as they were, wholly where they are calm, and the group
`own`. -/
structure State.Spares (C : Ch → Prop) (own : Option (Fin 4)) (s t : State) : Prop where
  onward : State.Onward s t
  state : ∀ c, C c → (t.chan c).state = (s.chan c).state
  motion : ∀ c, C c → (t.chan c).motion = (s.chan c).motion
  calm : ∀ c, C c → s.calm c → t.calm c ∧ t.chan c = s.chan c
  group : ∀ i, own = some i → t.groups[i] = s.groups[i]

variable {C : Ch → Prop} {own : Option (Fin 4)}

theorem State.Spares.refl : State.Spares C own s s := ⟨.refl, fun _ _ => rfl, fun _ _ => rfl, fun _ _ h => ⟨h, rfl⟩, fun _ _ => rfl⟩

theorem State.Spares.trans (h : State.Spares C own s t) (h' : State.Spares C own t u) : State.Spares C own s u :=
  ⟨h.onward.trans h'.onward, fun c hc => (h'.state c hc).trans (h.state c hc), fun c hc => (h'.motion c hc).trans (h.motion c hc),
    fun c hc hcalm =>
      have hone := h.calm c hc hcalm
      have htwo := h'.calm c hc hone.1
      ⟨htwo.1, htwo.2.trans hone.2⟩,
    fun i hi => (h'.group i hi).trans (h.group i hi)⟩

theorem State.Spares.covered (h : State.Spares C own s t) (hs : s.covered C own) : t.covered C own := fun i hi x hx => by
  rw [h.group i hi] at hx
  exact hs i hi x hx

/-- The same, where the members of the group `own` are among the channels of `C`. -/
structure State.Passes (C : Ch → Prop) (own : Option (Fin 4)) (s t : State) : Prop where
  spares : s.covered C own → State.Spares C own s t

theorem State.Passes.refl : State.Passes C own s s := ⟨fun _ => .refl⟩

theorem State.Passes.trans (h : State.Passes C own s t) (h' : State.Passes C own t u) : State.Passes C own s u :=
  ⟨fun hs => (h.spares hs).trans (h'.spares ((h.spares hs).covered hs))⟩

theorem State.Passes.forAll {α : Type} {xs : List α} {f : α → State → State} (hf : ∀ x ∈ xs, ∀ t, State.Passes C own t (f x t)) :
    State.Passes C own s (s.forAll xs f) :=
  State.forAll_invariant (P := fun t => State.Passes C own s t) (fun x hx t ht => ht.trans (hf x hx t)) .refl

/-! ### Operations on the state -/

theorem State.Onward.paired (h : State.Onward s t) (c : Ch) : t.paired c = s.paired c := by
  have e := congrArg (fun x : State => x.paired c) h.frame
  exact e

/-- An operation that changes no channel and no group. -/
theorem State.Passes.of_chans (h : State.Onward s t) (hchans : t.chans = s.chans) (hgroups : t.groups = s.groups) : State.Passes C own s t := by
  have hchan : ∀ c, t.chan c = s.chan c := fun c => congrArg (fun v : Vector Channel 24 => v[c]) hchans
  refine ⟨fun _ => ⟨h, fun c _ => by rw [hchan], fun c _ => by rw [hchan], fun c _ hcalm => ⟨?_, hchan c⟩, fun i _ => by rw [hgroups]⟩⟩
  rw [State.calm, h.paired, hchan]
  exact hcalm

theorem State.raise_onward (code inst : Nat) (p : List Byte) : State.Onward s (s.raise code inst p) :=
  .of_groups (by rw [State.raise_frame]; rfl) (fun n hn => by rw [State.raise_pulses]; exact hn) (fun c hc => by rw [State.raise_link]; exact hc)
    (State.raise_groups ..)

theorem State.raise_passes (code inst : Nat) (p : List Byte) : State.Passes C own s (s.raise code inst p) :=
  .of_chans (State.raise_onward ..) (State.raise_chans ..) (State.raise_groups ..)

theorem State.chPulse_onward (d : Ch) (n : Nat) : State.Onward s (s.chPulse d n) :=
  .of_groups (by rw [State.chPulse_frame]; rfl) (fun k hk => State.pulse_keeps (s := s) _ k hk) (fun c hc => by rw [State.chPulse_link]; exact hc)
    (State.chPulse_groups ..)

theorem State.chPulse_passes (d : Ch) (n : Nat) : State.Passes C own s (s.chPulse d n) :=
  .of_chans (State.chPulse_onward ..) (State.chPulse_chans ..) (State.chPulse_groups ..)

theorem State.stopDone_passes (d : Ch) (cause : StopCause) : State.Passes C own s (s.stopDone d cause) :=
  (State.chPulse_passes d 7).trans (State.raise_passes ..)

theorem State.orderHold_onward (m : BitVec 24) : State.Onward s (s.orderHold m) := by
  refine .of_groups ?_ (fun n hn => by rw [State.orderHold_pulses]; exact hn) (fun c hc => ?_) (State.orderHold_groups (s := s) m)
  · unfold State.orderHold
    split <;> rfl
  · unfold State.orderHold
    split
    · simp only [maskBit, BitVec.getLsbD_or, Bool.or_eq_true]
      exact .inl hc
    · exact hc

theorem State.orderHold_passes (m : BitVec 24) : State.Passes C own s (s.orderHold m) :=
  .of_chans (State.orderHold_onward m) (State.orderHold_chans (s := s) m) (State.orderHold_groups (s := s) m)

/-- A change of another channel that makes no DISABLE pending. -/
theorem State.onChan_passes (hd : ¬ C d) {f : Channel → Channel}
    (hf : (s.chan d).motion.disablePending = false → (f (s.chan d)).motion.disablePending = false) : State.Passes C own s (s.onChan d f) := by
  have hother : ∀ {c}, C c → (s.onChan d f).chan c = s.chan c := fun hc => State.onChan_chan_other _ _ _ _ fun e => hd (e ▸ hc)
  refine ⟨fun _ => ⟨.of_groups rfl (fun _ h => h) (fun _ h => h) rfl, fun c hc => by rw [hother hc], fun c hc => by rw [hother hc],
    fun c hc hcalm => ⟨?_, hother hc⟩, fun _ _ => rfl⟩⟩
  rcases hcalm with hcalm | hcalm
  · exact .inl hcalm
  · refine .inr ?_
    rw [State.onChan_chan]
    split
    · next e =>
      rw [e] at hcalm ⊢
      exact hf hcalm
    · exact hcalm

theorem State.onMotion_passes (hd : ¬ C d) {f : Motion → Motion}
    (hf : (s.chan d).motion.disablePending = false → (f (s.chan d).motion).disablePending = false) : State.Passes C own s (s.onMotion d f) :=
  State.onChan_passes hd hf

/-! ### The turn-off of a DISABLE -/

theorem State.departed_group (j : Fin 4) :
    (s.departed d).groups[j].active = s.groups[j].active ∧
      ((s.departed d).groups[j].members = s.groups[j].members ∨
        (s.departed d).groups[j].members = s.groups[j].members.filter fun x => x.1 != d) := by
  unfold State.departed State.quitGroup State.leaveGroup
  simp only [Fin.getElem_fin]
  split
  · simp
  · simp only [Vector.getElem_map]
    split <;> simp

/-- A group that the channel is no member of stays as it is. -/
theorem State.departed_group_other {j : Fin 4} (h : ∀ x ∈ s.groups[j].members, x.1 ≠ d) : (s.departed d).groups[j] = s.groups[j] := by
  simp only [Fin.getElem_fin] at h
  have hfilter : s.groups[j.val].members.filter (fun x => x.1 != d) = s.groups[j.val].members :=
    List.filter_eq_self.2 fun x hx => bne_iff_ne.2 (h x hx)
  have hany : (s.groups[j.val].members.any fun x => x.1 == d) = false :=
    List.any_eq_false.2 fun x hx => by rw [beq_iff_eq]; exact h x hx
  unfold State.departed State.quitGroup State.leaveGroup
  simp only [Fin.getElem_fin]
  split
  · simp only [Vector.getElem_map, hfilter]
  · simp only [Vector.getElem_map, hany, Bool.and_false, Bool.false_eq_true, if_false]

theorem State.departed_onward : State.Onward s (s.departed d) := by
  refine ⟨by rw [State.departed_frame]; rfl, fun n hn => by rw [State.departed_frame]; exact hn,
    fun c hc => by rw [State.departed_frame]; exact hc, fun j hj => ?_⟩
  obtain ⟨hactive, hmembers⟩ := State.departed_group (s := s) (d := d) j
  refine ⟨hactive ▸ hj, fun c hc => ?_⟩
  rcases hmembers with hm | hm
  · rwa [hm] at hc
  · rw [hm, List.any_filter] at hc
    exact List.any_eq_true.2 ((List.any_eq_true.1 hc).imp fun x hx => ⟨hx.1, (Bool.and_eq_true _ _ ▸ hx.2).2⟩)

theorem State.partnerOff_onward (n : Nat) : State.Onward s (s.partnerOff d n) :=
  .of_groups (by rw [State.partnerOff_frame]; rfl) (fun k hk => by rw [State.partnerOff_frame]; exact hk)
    (fun c hc => by rw [State.partnerOff_frame]; exact hc) (State.partnerOff_groups (s := s) d n)

theorem State.onChan_onward (f : Channel → Channel) : State.Onward s (s.onChan d f) :=
  .of_groups rfl (fun _ h => h) (fun _ h => h) rfl

theorem State.turnOffCh_onward : State.Onward s (s.turnOffCh d) := by
  rw [State.turnOffCh_eq]
  exact (State.departed_onward.trans (State.onChan_onward _)).trans (State.partnerOff_onward 0)

theorem State.turnOffCh_groups : (s.turnOffCh d).groups = (s.departed d).groups := by
  rw [State.turnOffCh_eq]
  exact State.partnerOff_groups (s := State.onChan _ _ _) d 0

theorem State.paired_twinOf (c : Ch) : s.paired (twinOf c) = s.paired c := by
  rw [State.paired, State.paired, twinOf_twinOf, Bool.and_comm]

/-- A turn-off of the channel's twin leaves its state and motion, and without a pair the whole of it (R113, R116). -/
theorem State.turnOffCh_chan_twin :
    ((s.turnOffCh d).chan (twinOf d)).state = (s.chan (twinOf d)).state ∧
      ((s.turnOffCh d).chan (twinOf d)).motion = (s.chan (twinOf d)).motion ∧
      (s.paired d = false → (s.turnOffCh d).chan (twinOf d) = s.chan (twinOf d)) := by
  rw [State.turnOffCh_eq]
  generalize hu : (s.departed d).onChan d _ = u
  have htwin : u.chan (twinOf d) = s.chan (twinOf d) := by
    rw [← hu, State.onChan_chan_other _ _ _ _ (twinOf_ne d).symm, State.departed_chan]
  have hpaired : u.paired d = s.paired d := by
    rw [← hu]
    exact (State.departed_onward.trans (State.onChan_onward _)).paired d
  obtain ⟨hk, -⟩ := State.partnerOff_chan_twin (s := u) (c := d) 0 htwin rfl
  refine ⟨by rw [hk], by rw [hk], fun h => ?_⟩
  have hnone : u.partnerOff d 0 = u := by simp [State.partnerOff, hpaired, h]
  rw [hnone, htwin]

theorem State.turnOffCh_passes (hd : ¬ C d) (hpending : (s.chan d).motion.disablePending = true) : State.Passes C own s (s.turnOffCh d) := by
  obtain ⟨hstate, hmotion, hunpaired⟩ := State.turnOffCh_chan_twin (s := s) (d := d)
  have hne : ∀ {c}, C c → c ≠ d := fun hc e => hd (e ▸ hc)
  refine ⟨fun hcovered => ⟨State.turnOffCh_onward, fun c hc => ?_, fun c hc => ?_, fun c hc hcalm => ?_, fun i hi => ?_⟩⟩
  · by_cases htwin : c = twinOf d
    · rw [htwin, hstate]
    · rw [State.turnOffCh_chan_other (hne hc) htwin]
  · by_cases htwin : c = twinOf d
    · rw [htwin, hmotion]
    · rw [State.turnOffCh_chan_other (hne hc) htwin]
  · by_cases htwin : c = twinOf d
    · subst htwin
      have hpaired : s.paired (twinOf d) = false :=
        hcalm.resolve_right (by rw [twinOf_twinOf, hpending]; exact Bool.noConfusion)
      exact ⟨.inl ((State.turnOffCh_onward.paired _).trans hpaired), hunpaired ((State.paired_twinOf d).symm.trans hpaired)⟩
    · refine ⟨?_, State.turnOffCh_chan_other (hne hc) htwin⟩
      have hd' : twinOf c ≠ d := fun e => htwin (by rw [← e, twinOf_twinOf])
      have htwin' : twinOf c ≠ twinOf d := fun e => hne hc (by rw [← twinOf_twinOf c, e, twinOf_twinOf])
      rw [State.calm, State.turnOffCh_onward.paired, State.turnOffCh_chan_other hd' htwin']
      exact hcalm
  · rw [State.turnOffCh_groups]
    exact State.departed_group_other fun x hx => hne (hcovered i hi x hx)

/-! ### The parts of a channel's turn -/

theorem State.endStop_passes (hd : ¬ C d) (cause : StopCause) : State.Passes C own s (s.endStop d cause) := by
  unfold State.endStop
  dsimp only
  refine (State.stopDone_passes d cause).trans ?_
  split
  · next hpending => exact State.turnOffCh_passes hd hpending
  · exact State.onChan_passes hd fun _ => rfl

theorem State.halt_passes (hd : ¬ C d) : State.Passes C own s (s.halt d) :=
  (State.onMotion_passes hd fun h => h).trans (State.orderHold_passes _)

theorem State.restStop_passes (hd : ¬ C d) : State.Passes C own s (s.restStop d) :=
  (State.onChan_passes hd fun h => h).trans (State.endStop_passes hd .fault)

theorem Motion.apply_frame (m : Motion) (mv : Move) (count : BitVec 32) : (m.apply mv count).disablePending = m.disablePending := by
  unfold Motion.apply
  dsimp only
  split
  · split
    · rfl
    · split <;> rfl
  · rfl

theorem State.applyHeld_passes (hd : ¬ C d) (mv : Move) : State.Passes C own s (s.applyHeld d mv) := by
  have happly (count) : State.Passes C own s (s.onChan d fun k => { k with state := .moving, left := true, motion := k.motion.apply mv count }) :=
    State.onChan_passes hd fun h => (Motion.apply_frame _ _ _).trans h
  unfold State.applyHeld
  dsimp only
  split
  · split
    · exact ((happly _).trans (State.chPulse_passes _ _)).trans (State.raise_passes _ _ _)
    · exact happly _
  · exact .refl

/-- Held commands of a channel take effect. -/
theorem State.mergeMoves_passes (hd : ¬ C d) : State.Passes C own s (s.mergeMoves d) :=
  (State.onMotion_passes hd fun h => h).trans (.forAll fun mv _ _ => State.applyHeld_passes hd mv)

/-- Stops of a channel take effect. -/
theorem State.mergeStops_passes (hd : ¬ C d) (a : Asserts) : State.Passes C own s (s.mergeStops d a) := by
  unfold State.mergeStops
  dsimp only
  generalize hu : s.onMotion d _ = u
  have hasked : State.Passes C own s u := by
    rw [← hu]
    exact State.onMotion_passes hd fun h => h
  refine hasked.trans ?_
  split
  · split
    · exact (State.halt_passes hd).trans (State.endStop_passes hd _)
    · split
      · exact (State.halt_passes hd).trans (State.restStop_passes hd)
      · split
        · exact State.restStop_passes hd
        · exact .refl
  · split
    · exact State.onChan_passes hd fun h => h
    · split
      · exact State.restStop_passes hd
      · exact .refl
  · exact .refl

theorem State.captureLimits_passes (hd : ¬ C d) : State.Passes C own s (s.captureLimits d) := by
  unfold State.captureLimits
  dsimp only
  generalize hu : (if (s.chan d).motion.capP then _ else s) = u
  have hfirst : State.Passes C own s u := by
    rw [← hu]
    split
    · exact (State.onMotion_passes hd fun h => h).trans (State.raise_passes _ _ _)
    · exact .refl
  refine hfirst.trans ?_
  split
  · exact (State.onMotion_passes hd fun h => h).trans (State.raise_passes _ _ _)
  · exact .refl

theorem State.reportVelocity_passes (hd : ¬ C d) (l : Limits) : State.Passes C own s (s.reportVelocity d l) := by
  unfold State.reportVelocity
  dsimp only
  generalize hu : s.onMotion d _ = u
  have hforgot : State.Passes C own s u := by
    rw [← hu]
    exact State.onMotion_passes hd fun h => h
  refine hforgot.trans ?_
  split
  · exact ((State.onMotion_passes hd fun h => h).trans (State.chPulse_passes _ _)).trans (State.raise_passes _ _ _)
  · exact .refl

theorem State.moveDone_passes (hd : ¬ C d) : State.Passes C own s (s.moveDone d) :=
  ((State.onChan_passes hd fun h => h).trans (State.chPulse_passes _ _)).trans (State.raise_passes _ _ _)

/-! ### One engine -/

/-- An engine but for what its own integration changes. -/
def Motion.besideKin (m : Motion) : Motion := { m with pos := 0, vel := 0, acc := 0, carry := 0, theta := 0, stopNew := false }

theorem Motion.brake_besideKin (m : Motion) (l : Limits) (fresh : Bool) : (m.brake l fresh).besideKin = m.besideKin := rfl

theorem Motion.towards_besideKin (m : Motion) (l : Limits) (target : Int) : (m.towards l target).1.besideKin = m.besideKin := by
  unfold Motion.towards
  dsimp only
  generalize (if m.vel = 0 then dirSign (target - m.pos) else dirSign m.vel) = d
  split
  · rfl
  · split
    · rfl
    · split
      · exact m.brake_besideKin l false
      · split <;> rfl

theorem Motion.cruise_besideKin (m : Motion) (l : Limits) (vt : Int) : (m.cruise l vt).besideKin = m.besideKin := by
  unfold Motion.cruise
  dsimp only
  generalize (if m.vel = 0 then dirSign vt else dirSign m.vel) = d
  split
  · rfl
  · split
    · exact m.brake_besideKin l false
    · rfl

theorem Motion.advance_besideKin (m : Motion) (l : Limits) (stopping : Bool) : (m.advance l stopping).1.besideKin = m.besideKin := by
  unfold Motion.advance
  dsimp only
  split
  · exact m.brake_besideKin l m.stopNew
  · split
    · split
      · exact m.brake_besideKin l true
      · exact m.cruise_besideKin l _
    · split
      · exact m.brake_besideKin l true
      · exact m.towards_besideKin l _
    · exact m.towards_besideKin l _

theorem Motion.follow_besideFollow (m : Motion) (count : BitVec 32) (scale : Int) :
    m.follow count scale =
      { m with followPos := (m.follow count scale).followPos, followLast := (m.follow count scale).followLast
               target := (m.follow count scale).target } := by
  unfold Motion.follow
  split <;> rfl

/-- An engine's step makes no DISABLE pending. -/
theorem Motion.integrated_disablePending (m : Motion) (count : BitVec 32) (scale : Int) (l : Limits) (stopping : Bool) :
    ((m.follow count scale).advance l stopping).1.disablePending = m.disablePending := by
  have e := congrArg Motion.disablePending ((m.follow count scale).advance_besideKin l stopping)
  refine Eq.trans e ?_
  rw [Motion.follow_besideFollow]
  rfl

/-- Integration of a channel. -/
theorem State.integrateCh_passes (hd : ¬ C d) (a : Asserts) : State.Passes C own s (s.integrateCh d a) := by
  unfold State.integrateCh
  dsimp only
  split
  · generalize hu : (State.onChan s d _).captureLimits d = u
    have hmoved : State.Passes C own s u := by
      rw [← hu]
      exact (State.onChan_passes hd fun h => (Motion.integrated_disablePending ..).trans h).trans (State.captureLimits_passes hd)
    refine hmoved.trans ?_
    split
    · exact State.reportVelocity_passes hd _
    · exact State.moveDone_passes hd
    · exact State.endStop_passes hd _
    · generalize hr : State.raise _ 0x0106 d.val _ = r
      have hrange : State.Passes C own u r := by
        rw [← hr]
        exact ((State.onChan_passes hd fun h => h).trans (State.chPulse_passes _ _)).trans (State.raise_passes _ _ _)
      refine hrange.trans ?_
      split
      · exact State.endStop_passes hd _
      · exact State.onMotion_passes hd fun h => h
  · exact State.captureLimits_passes hd

/-! ### The turns of the groups -/

variable {j : Fin 4} {g : Group}

/-- The channels looked at are no members of the group while it is active. -/
def State.avoids (s : State) (C : Ch → Prop) (j : Fin 4) : Prop := s.groups[j].active = true → ∀ x ∈ s.groups[j].members, ¬ C x.1

theorem State.Onward.avoids (h : State.Onward s t) (hs : s.avoids C j) : t.avoids C j := fun hactive x hx hC => by
  obtain ⟨hactive', hmembers⟩ := h.groups j hactive
  obtain ⟨y, hy, hyx⟩ := List.any_eq_true.1 (hmembers x.1 (List.any_eq_true.2 ⟨x, hx, beq_self_eq_true _⟩))
  rw [beq_iff_eq] at hyx
  exact hs hactive' y hy (hyx ▸ hC)

/-- A group goes on, or ends, with no member that it has not had. -/
theorem State.Passes.setGroup (h : State.Passes C own s u) (hj : own ≠ some j)
    (hg : g.active = true → s.groups[j].active = true ∧ ∀ x ∈ g.members, ∃ y ∈ s.groups[j].members, y.1 = x.1) :
    State.Passes C own s { u with groups := u.groups.set j g } := by
  refine ⟨fun hs => ?_⟩
  have hu := h.spares hs
  have hset : ∀ i : Fin 4, ({ u with groups := u.groups.set j g } : State).groups[i] = if i = j then g else u.groups[i] := fun i => by
    simp only [Fin.getElem_fin, Vector.getElem_set, Fin.ext_iff, eq_comm]
  refine ⟨⟨hu.onward.frame, hu.onward.pulses, hu.onward.hold, fun i hi => ?_⟩, hu.state, hu.motion, hu.calm, fun i hi => ?_⟩
  · rw [hset] at hi ⊢
    by_cases hij : i = j
    · rw [if_pos hij] at hi ⊢
      obtain ⟨hactive, hmembers⟩ := hg hi
      refine ⟨hij ▸ hactive, fun c hc => ?_⟩
      obtain ⟨x, hx, hxc⟩ := List.any_eq_true.1 hc
      obtain ⟨y, hy, hyx⟩ := hmembers x hx
      exact List.any_eq_true.2 ⟨y, hij ▸ hy, by rw [hyx]; exact hxc⟩
    · rw [if_neg hij] at hi ⊢
      exact hu.onward.groups i hi
  · rw [hset, if_neg fun e => hj (hi.trans (congrArg some e))]
    exact hu.group i hi

theorem State.Passes.endGroup (h : State.Passes C own s u) (hj : own ≠ some j) :
    State.Passes C own s { u with groups := u.groups.set j Group.init } :=
  h.setGroup hj fun e => absurd e (by decide)

/-- Members start, or report at once. -/
theorem State.startGroup_passes (hj : own ≠ some j) (havoids : s.avoids C j) : State.Passes C own s (s.startGroup j) := by
  unfold State.startGroup
  dsimp only
  split
  · exact .refl
  · next hactive =>
    have hactive' : s.groups[j].active = true := by
      simp only [Bool.or_eq_true, Bool.not_eq_true', not_or, Bool.not_eq_false] at hactive
      exact hactive.1
    generalize hms : s.groups[j].members.map _ = ms
    have hmem : ∀ x ∈ ms, ∃ y ∈ s.groups[j].members, y.1 = x.1 := fun x hx => by
      rw [← hms] at hx
      obtain ⟨y, hy, hyx⟩ := List.mem_map.1 hx
      exact ⟨y, hy, by rw [← hyx]⟩
    have hout : ∀ x ∈ ms, ¬ C x.1 := fun x hx => by
      obtain ⟨y, hy, hyx⟩ := hmem x hx
      exact hyx ▸ havoids hactive' y hy
    split
    · refine (State.Passes.endGroup .refl hj).trans (.forAll fun m _ t => ?_)
      exact (State.chPulse_passes _ _).trans (State.raise_passes _ _ _)
    · refine (State.Passes.setGroup .refl hj fun _ => ⟨hactive', hmem⟩).trans (.forAll fun m hm t => ?_)
      exact State.onChan_passes (hout m hm) fun h => h

/-- A member takes its place on the line. -/
theorem State.placeMember_passes {m : Ch × Int × Int} (hm : ¬ C m.1) : State.Passes C own s (s.placeMember g m) :=
  State.onMotion_passes hm fun h => h

theorem State.mergeGroup_passes (hg : ∀ x ∈ g.members, ¬ C x.1) : State.Passes C own s (s.mergeGroup g).1 := by
  unfold State.mergeGroup
  dsimp only
  split
  · refine .forAll fun m hm t => ?_
    have hout := hg m (List.mem_of_mem_filter hm)
    exact ((State.onMotion_passes hout fun h => h).trans (State.halt_passes hout)).trans (State.endStop_passes hout _)
  · split
    · refine .forAll fun m hm t => ?_
      split
      · exact State.onChan_passes (hg m hm) fun h => h
      · exact .refl
    · exact .refl

/-- The members after a merge: all, or none where the group is over. -/
theorem State.mergeGroup_members : (s.mergeGroup g).2.members = [] ∨ (s.mergeGroup g).2.members = g.members := by
  unfold State.mergeGroup
  dsimp only
  split
  · exact .inl rfl
  · exact .inr rfl

/-- A group takes its step. -/
theorem State.integrateGroup_passes (hj : own ≠ some j) (havoids : s.avoids C j) (a : Ch → Asserts) :
    State.Passes C own s (s.integrateGroup j a) := by
  unfold State.integrateGroup
  dsimp only
  split
  · exact .refl
  · next hgo =>
    have hactive : s.groups[j].active = true := by
      simp only [Bool.not_eq_true', Bool.not_eq_false, Bool.and_eq_true] at hgo
      exact hgo.1
    have hmerged : State.Passes C own s (s.mergeGroup s.groups[j]).1 := State.mergeGroup_passes (havoids hactive)
    generalize hr : s.mergeGroup s.groups[j] = r at hmerged
    have hmembers : r.2.members = [] ∨ r.2.members = s.groups[j].members := by
      rw [← hr]
      exact State.mergeGroup_members
    split
    · exact hmerged.endGroup hj
    · generalize hp : r.2.advance _ = g
      have hg : g.members = [] ∨ g.members = s.groups[j].members := by
        rw [← hp]
        exact hmembers
      have hout : ∀ x ∈ g.members, ¬ C x.1 := fun x hx => by
        rcases hg with h | h
        · rw [h] at hx
          exact absurd hx List.not_mem_nil
        · exact havoids hactive x (h ▸ hx)
      generalize hu : r.1.forAll g.members _ = u
      have hplaced : State.Passes C own s u := by
        rw [← hu]
        exact hmerged.trans (.forAll fun m hm t => (State.placeMember_passes (hout m hm)).trans (State.captureLimits_passes (hout m hm)))
      split
      · exact (hplaced.endGroup hj).trans (.forAll fun m hm t => State.endStop_passes (hout m hm) _)
      · split
        · exact (hplaced.endGroup hj).trans (.forAll fun m hm t => State.moveDone_passes (hout m hm))
        · refine hplaced.setGroup hj fun _ => ⟨hactive, fun x hx => ⟨x, ?_, rfl⟩⟩
          rcases hg with h | h
          · rw [h] at hx
            exact absurd hx List.not_mem_nil
          · exact h ▸ hx

theorem State.carryPair_frame (p : Fin 12) (a : Ch → Asserts) : s.carryPair p a = { s with pairs := (s.carryPair p a).pairs } := by
  unfold State.carryPair
  dsimp only
  split
  · split <;> rfl
  · rfl

/-- The pair records are carried on. -/
theorem State.carryPairs_passes (a : Ch → Asserts) : State.Passes C own s (s.carryPairs a) := by
  refine .forAll fun p _ t => ?_
  split
  · refine .of_chans ?_ ?_ ?_
    · exact .of_groups (by rw [State.carryPair_frame]; rfl) (fun n hn => by rw [State.carryPair_frame]; exact hn)
        (fun c hc => by rw [State.carryPair_frame]; exact hc) (by rw [State.carryPair_frame])
    · rw [State.carryPair_frame]
    · rw [State.carryPair_frame]
  · exact .refl

/-! ### The whole step -/

theorem exec_integrationStep : exec .integrationStep s = .next (if s.hwOn then s.integrate else s) := rfl

theorem State.covered_none : s.covered C none := nofun

/-- Every channel has its turn: those before it and those after it go by. -/
theorem State.forAll_channels {f : Ch → State → State} (hf : ∀ d t, d ≠ c → State.Passes (· = c) none t (f d t)) :
    ∃ u, State.Spares (· = c) none s u ∧ State.Spares (· = c) none (f c u) (s.forAll allCh f) := by
  have hother : ∀ d ∈ allCh, d ≠ c → ∀ t, State.Spares (· = c) none t (f d t) := fun d _ hd t => (hf d t hd).spares State.covered_none
  exact State.forAll_turn (before := fun t => State.Spares (· = c) none s t)
    (after := fun t => ∃ u, State.Spares (· = c) none s u ∧ State.Spares (· = c) none (f c u) t) (mem_allCh c) allCh_nodup
    (fun d hd hne t ht => ht.trans (hother d hd hne t)) (fun t ht => ⟨t, ht, .refl⟩)
    (fun d hd hne t ⟨u, hu, ht⟩ => ⟨u, hu, ht.trans (hother d hd hne t)⟩) .refl

/-- The turns of the groups `js`, none of them the group `own` or with a member among the channels looked at. -/
theorem State.forAll_groups {js : List (Fin 4)} {f : Fin 4 → State → State} (hs : s.covered C own)
    (hf : ∀ j t, own ≠ some j → t.avoids C j → State.Passes C own t (f j t)) (hown : ∀ j ∈ js, own ≠ some j)
    (havoids : ∀ j ∈ js, s.avoids C j) :
    State.Spares C own s (s.forAll js f) :=
  State.forAll_invariant (P := fun t => State.Spares C own s t)
    (fun j hj t ht => ht.trans ((hf j t (hown j hj) (ht.onward.avoids (havoids j hj))).spares (ht.covered hs))) .refl

/-- The step of every engine, begun. -/
def State.stepBegun (s : State) : State := { s with istep := s.istep + 1 }

/-- The channel is in no active group. -/
def State.ungrouped (s : State) (c : Ch) : Prop := ∀ j : Fin 4, s.avoids (· = c) j

theorem State.Onward.ungrouped (h : State.Onward s t) (hs : s.ungrouped c) : t.ungrouped c := fun j => h.avoids (hs j)

/-- What a channel's own turn leaves: its twin's motion, and every group that it is no member of. -/
theorem State.Passes.own_turn (h : State.Passes (· = twinOf c) none s t) : State.Onward s t ∧ (s.calm c → t.calm c) := by
  have hs := h.spares State.covered_none
  refine ⟨hs.onward, fun hcalm => ?_⟩
  rw [State.calm, hs.onward.paired, hs.motion _ rfl]
  exact hcalm

theorem State.mergeMoves_own : State.Onward s (s.mergeMoves c) ∧ (s.calm c → (s.mergeMoves c).calm c) :=
  (State.mergeMoves_passes (C := (· = twinOf c)) (twinOf_ne c)).own_turn

theorem State.mergeStops_own (a : Asserts) : State.Onward s (s.mergeStops c a) ∧ (s.calm c → (s.mergeStops c a).calm c) :=
  (State.mergeStops_passes (C := (· = twinOf c)) (twinOf_ne c) a).own_turn

theorem State.integrateCh_own (a : Asserts) : State.Onward s (s.integrateCh c a) ∧ (s.calm c → (s.integrateCh c a).calm c) :=
  (State.integrateCh_passes (C := (· = twinOf c)) (twinOf_ne c) a).own_turn

/-- The turns of one channel in a step, with what goes by between them. -/
theorem State.integrate_channel (hc : s.ungrouped c) :
    ∃ u1 u2 u3 : State, State.Spares (· = c) none s.stepBegun u1 ∧ State.Spares (· = c) none (u1.mergeMoves c) u2 ∧
      State.Spares (· = c) none (u2.mergeStops c (assertsOn s.assertList c)) u3 ∧
      State.Spares (· = c) none (u3.integrateCh c (assertsOn s.assertList c)) s.integrate ∧ u3.ungrouped c := by
  obtain ⟨u1, h1, h1'⟩ := State.forAll_channels (s := s.stepBegun) (c := c) (f := fun d t => t.mergeMoves d)
    fun d t hd => State.mergeMoves_passes (C := (· = c)) hd
  have hmoved := (h1.onward.trans State.mergeMoves_own.1).trans h1'.onward
  have hgroups := State.forAll_groups (s := s.stepBegun.forAll allCh fun d t => t.mergeMoves d) (C := (· = c)) (own := none)
    (js := List.finRange 4) (f := fun j t => t.startGroup j) State.covered_none (fun j t hj ha => State.startGroup_passes hj ha)
    (fun j _ => nofun) fun j _ => hmoved.avoids (hc j)
  obtain ⟨u2, h2, h2'⟩ := State.forAll_channels (c := c) (f := fun d t => t.mergeStops d (assertsOn s.assertList d))
    (s := (s.stepBegun.forAll allCh fun d t => t.mergeMoves d).forAll (List.finRange 4) fun j t => t.startGroup j)
    fun d t hd => State.mergeStops_passes (C := (· = c)) hd _
  have hstopped := (((hmoved.trans hgroups.onward).trans h2.onward).trans (State.mergeStops_own _).1).trans h2'.onward
  have hgroups' := State.forAll_groups (C := (· = c)) (own := none) (js := List.finRange 4)
    (f := fun j t => t.integrateGroup j (assertsOn s.assertList)) State.covered_none (fun j t hj ha => State.integrateGroup_passes hj ha _)
    (fun j _ => nofun) fun j _ => hstopped.avoids (hc j)
  obtain ⟨u3, h3, h3'⟩ := State.forAll_channels (c := c) (f := fun d t => t.integrateCh d (assertsOn s.assertList d))
    (s := State.forAll _ (List.finRange 4) fun j t => t.integrateGroup j (assertsOn s.assertList))
    fun d t hd => State.integrateCh_passes (C := (· = c)) hd _
  exact ⟨u1, u2, u3, h1, (h1'.trans hgroups).trans h2, (h2'.trans hgroups').trans h3,
    h3'.trans ((State.carryPairs_passes _).spares State.covered_none),
    ((hstopped.trans hgroups'.onward).trans h3.onward).ungrouped hc⟩

/-- What an integration step leaves as it is. -/
theorem State.integrate_onward : State.Onward s.stepBegun s.integrate := by
  have hcov : ∀ t : State, t.covered (fun _ => False) none := fun _ => State.covered_none
  have hchannels : ∀ (f : Ch → State → State) (t : State), (∀ d t, State.Passes (fun _ => False) none t (f d t)) →
      State.Onward t (t.forAll allCh f) := fun f t hf => ((State.Passes.forAll fun d _ t => hf d t).spares (hcov t)).onward
  have hgroups : ∀ (f : Fin 4 → State → State) (t : State),
      (∀ j t, none ≠ some j → t.avoids (fun _ => False) j → State.Passes (fun _ => False) none t (f j t)) →
      State.Onward t (t.forAll (List.finRange 4) f) := fun f t hf =>
    (State.forAll_groups (hcov t) hf (fun j _ => nofun) fun j _ _ _ _ h => h).onward
  refine ((((hchannels (fun d t => t.mergeMoves d) s.stepBegun fun d t => State.mergeMoves_passes id).trans
    (hgroups (fun j t => t.startGroup j) _ fun j t hj ha => State.startGroup_passes hj ha)).trans
    (hchannels (fun d t => t.mergeStops d (assertsOn s.assertList d)) _ fun d t => State.mergeStops_passes id _)).trans
    (hgroups (fun j t => t.integrateGroup j (assertsOn s.assertList)) _ fun j t hj ha => State.integrateGroup_passes hj ha _)).trans
    ((hchannels (fun d t => t.integrateCh d (assertsOn s.assertList d)) _ fun d t => State.integrateCh_passes id _).trans ?_)
  exact ((State.carryPairs_passes (C := fun _ => False) (own := none) _).spares (hcov _)).onward

end Sys2Proof.Machine
end

section
/-! A group whose last member has left it (R68, R79, R80): an integration step ends it, wherever its path coordinate stands. -/

namespace Sys2Proof.Machine

variable {s : State} {i : Fin 4}

/-- A started group in motion without members. -/
def Group.deserted (g : Group) : Prop := g.active = true ∧ g.started = true ∧ g.members = []

theorem State.startGroup_started (h : s.groups[i].started = true) : s.startGroup i = s :=
  if_pos (by rw [h, Bool.or_true])

theorem State.integrateGroup_deserted (h : s.groups[i].deserted) (a : Ch → Asserts) : (s.integrateGroup i a).groups[i] = Group.init := by
  obtain ⟨hactive, hstarted, hmembers⟩ := h
  have hgo : ¬ (!(s.groups[i].active && s.groups[i].started)) = true := by rw [hactive, hstarted]; decide
  have hnone : (s.mergeGroup s.groups[i]).2.members.isEmpty = true := by
    rcases State.mergeGroup_members (s := s) (g := s.groups[i]) with e | e
    · rw [e]
      rfl
    · rw [e, hmembers]
      rfl
  unfold State.integrateGroup
  rw [if_neg hgo]
  dsimp only
  rw [if_pos hnone]
  exact Vector.getElem_set_self _

/-- What a turn of a step leaves of a group without members that it is not about. -/
theorem State.Passes.memberless {t u : State} (h : State.Passes (fun _ => False) (some i) t u) (hnone : t.groups[i].members = []) :
    u.groups[i] = t.groups[i] :=
  (h.spares fun j hj x hx => by
    obtain rfl := Option.some.inj hj
    rw [hnone] at hx
    exact absurd hx List.not_mem_nil).group i rfl

/-- A phase of the step goes by such a group. -/
theorem State.forAll_memberless {α : Type} {xs : List α} {f : α → State → State} {g : Group} (hnone : g.members = [])
    (hf : ∀ x t, t.groups[i] = g → State.Passes (fun _ => False) (some i) t (f x t)) (hs : s.groups[i] = g) :
    (s.forAll xs f).groups[i] = g :=
  State.forAll_invariant (P := fun t => t.groups[i] = g)
    (fun x _ t ht => ((hf x t ht).memberless (by rw [ht, hnone])).trans ht) hs

theorem State.integrate_deserted (h : s.groups[i].deserted) : s.integrate.groups[i] = Group.init := by
  have hmembers : s.groups[i].members = [] := h.2.2
  have hnowhere : ∀ (t : State) (j : Fin 4), t.avoids (fun _ => False) j := fun _ _ _ _ _ hC => hC
  have hother : ∀ {j : Fin 4}, j ≠ i → some i ≠ some j := fun hj e => hj (Option.some.inj e).symm
  have hmoves := State.forAll_memberless (s := s.stepBegun) (xs := allCh) (f := fun c t => t.mergeMoves c) hmembers
    (fun c t _ => State.mergeMoves_passes id) rfl
  have hstarts := State.forAll_memberless (xs := List.finRange 4) (f := fun j t => t.startGroup j) hmembers
    (fun j t ht => by
      by_cases hj : j = i
      · subst hj
        rw [State.startGroup_started (by rw [ht]; exact h.2.1)]
        exact .refl
      · exact State.startGroup_passes (hother hj) (hnowhere t j)) hmoves
  have hstops := State.forAll_memberless (xs := allCh) (f := fun c t => t.mergeStops c (assertsOn s.assertList c)) hmembers
    (fun c t _ => State.mergeStops_passes id _) hstarts
  have hgroups := State.forAll_turn (xs := List.finRange 4) (f := fun j t => t.integrateGroup j (assertsOn s.assertList))
    (before := fun t => t.groups[i] = s.groups[i]) (after := fun t => t.groups[i] = Group.init) (List.mem_finRange i) (List.nodup_finRange 4)
    (fun j _ hj t ht => ((State.integrateGroup_passes (hother hj) (hnowhere t j) _).memberless (by rw [ht, hmembers])).trans ht)
    (fun t ht => State.integrateGroup_deserted (by rw [ht]; exact h) _)
    (fun j _ hj t ht => ((State.integrateGroup_passes (hother hj) (hnowhere t j) _).memberless (by rw [ht]; rfl)).trans ht) hstops
  have hchannels := State.forAll_memberless (xs := allCh) (f := fun c t => t.integrateCh c (assertsOn s.assertList c)) (g := Group.init) rfl
    (fun c t _ => State.integrateCh_passes id _) hgroups
  exact ((State.carryPairs_passes _).memberless (congrArg Group.members hchannels)).trans hchannels

/-! ### The counterexample -/

/-- A group half way along its line of two steps, which an energised twin has left by its DISABLE as the last member (R68). -/
def desertedGroup : Group := { Group.init with active := true, started := true, len := 2, pos := 1 }

/-- A control die in its runtime, with that group and nothing else under way. -/
def desertedState : State := { State.reset with phase := .runtime, groups := State.reset.groups.set 0 desertedGroup }

/-- Refutes O12: a group whose path coordinate has not reached L is said to stay active with the coordinate of this step; one whose last
member has left ends with the step instead. -/
theorem not_groupStartAndInterpMoveRelease : ¬ Obligations.GroupStartAndInterpMoveRelease := by
  unfold Obligations.GroupStartAndInterpMoveRelease
  rintro ⟨-, -, hgroup⟩
  have hothers : ∀ j : Fin 4, j ≠ 0 → desertedState.groups[j] = Group.init := by decide
  obtain ⟨t, hexec, -, hmoves, -⟩ := hgroup desertedState 0 rfl rfl rfl List.nodup_nil
    (fun j hj hactive => by
      rw [hothers j hj] at hactive
      exact absurd hactive (by decide))
    (fun c hc => absurd hc (by exact Bool.false_ne_true))
  have ht : t = desertedState.integrate := (Host.Outcome.next.inj hexec).symm
  have hends : t.groups[(0 : Fin 4)] = Group.init := ht ▸ State.integrate_deserted (s := desertedState) (i := 0) ⟨rfl, rfl, rfl⟩
  obtain ⟨hstays, -⟩ := hmoves (by decide) fun c hc => absurd hc (by exact Bool.false_ne_true)
  obtain ⟨hactive, -⟩ := hstays (by decide)
  rw [hends] at hactive
  exact absurd (congrArg Group.active hactive) (by exact Bool.false_ne_true)

end Sys2Proof.Machine
end

section
/-! One channel's own turns in an integration step: held commands, stops, integration (R48, R53 to R66, R70, R73, R88). -/

namespace Sys2Proof.Machine

variable {s t : State} {c : Ch}

/-! ### Held commands -/

/-- The channel takes a held motion command (R63). -/
def Channel.takes (k : Channel) : Prop := k.state = .idle ∨ k.state = .holdReduced ∨ k.state.inMotion = true

/-- A channel on which one held command takes effect. -/
def Channel.applied (k : Channel) (count : BitVec 32) (mv : Move) : Channel :=
  if k.state == .idle || k.state == .holdReduced || k.state.inMotion then
    { k with state := .moving, left := true, motion := k.motion.apply mv count }
  else k

theorem State.applyHeld_chan (mv : Move) : (s.applyHeld c mv).chan c = (s.chan c).applied (s.fb c).count mv := by
  unfold State.applyHeld Channel.applied
  dsimp only
  split
  · split
    · rw [State.raise_chan, State.chPulse_chan, State.onChan_chan_same]
    · rw [State.onChan_chan_same]
  · rfl

theorem State.applyHeld_fb (mv : Move) : (s.applyHeld c mv).fb c = s.fb c := by
  have h := ((State.applyHeld_passes (s := s) (C := (· = twinOf c)) (own := none) (twinOf_ne c) mv).spares State.covered_none).onward.frame
  have e := congrArg (fun x : State => x.fb c) h
  exact e

theorem State.mergeMoves_chan :
    (s.mergeMoves c).chan c =
      (s.chan c).motion.held.foldl (fun k mv => k.applied (s.fb c).count mv)
        { s.chan c with motion := { (s.chan c).motion with held := [] } } := by
  have hfold : ∀ (moves : List Move) (u : State), u.fb c = s.fb c →
      (u.forAll moves fun mv t => t.applyHeld c mv).chan c = moves.foldl (fun k mv => k.applied (s.fb c).count mv) (u.chan c) := by
    intro moves
    induction moves with
    | nil => exact fun _ _ => rfl
    | cons mv moves ih =>
      intro u hu
      refine (ih (u.applyHeld c mv) ((State.applyHeld_fb mv).trans hu)).trans ?_
      rw [State.applyHeld_chan, hu]
      rfl
  refine (hfold _ (s.onMotion c fun m => { m with held := [] }) rfl).trans ?_
  rw [State.onMotion_chan_same]

/-- With nothing held the channel stays as it is. -/
theorem State.mergeMoves_chan_none (h : (s.chan c).motion.held = []) : (s.mergeMoves c).chan c = s.chan c := by
  rw [State.mergeMoves_chan, h]
  exact congrArg (fun x => { s.chan c with motion := { (s.chan c).motion with held := x } }) h.symm

/-- The engine after its held commands. -/
def Motion.merged (m : Motion) (count : BitVec 32) : Motion := m.held.foldl (fun n mv => n.apply mv count) { m with held := [] }

/-- Commands that a channel takes leave it in MOVING. -/
theorem State.mergeMoves_chan_held (htakes : (s.chan c).takes) (h : (s.chan c).motion.held ≠ []) :
    (s.mergeMoves c).chan c =
      { s.chan c with state := .moving, left := true, motion := (s.chan c).motion.merged (s.fb c).count } := by
  have htaken : ∀ (k : Channel) mv, k.takes → k.applied (s.fb c).count mv =
      { k with state := .moving, left := true, motion := k.motion.apply mv (s.fb c).count } := fun k mv hk => by
    refine if_pos ?_
    rcases hk with hk | hk | hk <;> simp [hk]
  have hfold : ∀ (moves : List Move) (k : Channel), k.state = .moving → k.left = true →
      moves.foldl (fun k mv => k.applied (s.fb c).count mv) k =
        { k with motion := moves.foldl (fun n mv => n.apply mv (s.fb c).count) k.motion } := by
    intro moves
    induction moves with
    | nil => exact fun _ _ _ => rfl
    | cons mv moves ih =>
      intro k hstate hleft
      have hone : k.applied (s.fb c).count mv = { k with motion := k.motion.apply mv (s.fb c).count } := by
        rw [htaken k mv (.inr (.inr (by rw [hstate]; rfl))), ← hstate, ← hleft]
      rw [List.foldl_cons, hone]
      exact ih _ hstate hleft
  rw [State.mergeMoves_chan, Motion.merged]
  cases hheld : (s.chan c).motion.held with
  | nil => exact absurd hheld h
  | cons mv moves =>
    have hone := htaken { s.chan c with motion := { (s.chan c).motion with held := [] } } mv htakes
    rw [List.foldl_cons]
    exact (congrArg (fun k => moves.foldl (fun k mv => k.applied (s.fb c).count mv) k) hone).trans (hfold moves _ rfl rfl)

/-! ### Ends of motion -/

/-- The state in which a stop leaves a channel (R68, R82). -/
def Channel.rest (k : Channel) : ChState := if k.motion.stopFault then .fault else if k.motion.disablePending then .disabled else .idle

/-- A channel at the end of its stop. -/
theorem State.endStop_chan (cause : StopCause) :
    ((s.endStop c cause).chan c).state = (s.chan c).rest ∧
      ∃ armed, ((s.endStop c cause).chan c).motion = { (s.chan c).motion.discard with armed := armed } ∧
        ((s.chan c).motion.armed = none → armed = none) := by
  have hdone : (s.stopDone c cause).chan c = s.chan c := State.stopDone_chan ..
  unfold State.endStop
  dsimp only
  rw [hdone]
  split
  · next hpending =>
    rw [State.turnOffCh_chan_same, hdone, Channel.rest, hpending]
    exact ⟨rfl, _, rfl, fun _ => rfl⟩
  · next hpending =>
    rw [State.onChan_chan_same, hdone, Channel.rest, if_neg hpending]
    refine ⟨rfl, _, rfl, fun h => ?_⟩
    rw [h, ite_self]

theorem State.chPulse_active (n : Nat) : (s.chPulse c n).pulses.contains (36 * c.val + n) = true := by
  rw [State.chPulse, Nat.mul_comm]
  exact s.pulse_active _

theorem State.endStop_pulse (cause : StopCause) : (s.endStop c cause).pulses.contains (36 * c.val + 7) = true := by
  have hpulse : (s.stopDone c cause).pulses.contains (36 * c.val + 7) = true := by
    unfold State.stopDone
    rw [State.raise_pulses]
    exact State.chPulse_active 7
  unfold State.endStop
  dsimp only
  split
  · exact State.turnOffCh_onward.pulses _ hpulse
  · exact hpulse

/-! ### Captured limits -/

/-- An engine whose limits have been captured (R70). -/
def Motion.captured (m : Motion) : Motion :=
  let n := if m.capP then { m with capP := false, limitPosP := m.position } else m
  if m.capN then { n with capN := false, limitPosN := m.position } else n

theorem State.captureLimits_chan : (s.captureLimits c).chan c = { s.chan c with motion := (s.chan c).motion.captured } := by
  unfold State.captureLimits Motion.captured
  dsimp only
  split
  · split <;> simp [State.onMotion_chan_same]
  · split <;> simp [State.onMotion_chan_same]

theorem Motion.captured_frame (m : Motion) :
    m.captured = { m with capP := m.captured.capP, limitPosP := m.captured.limitPosP
                          capN := m.captured.capN, limitPosN := m.captured.limitPosN } := by
  unfold Motion.captured
  dsimp only
  split <;> split <;> rfl

theorem Motion.captured_none {m : Motion} (hp : m.capP = false) (hn : m.capN = false) : m.captured = m := by
  simp [Motion.captured, hp, hn]

theorem Motion.captured_positive {m : Motion} (hp : m.capP = true) : m.captured.limitPosP = m.position ∧ m.captured.capP = false := by
  unfold Motion.captured
  dsimp only
  rw [if_pos hp]
  split <;> exact ⟨rfl, rfl⟩

theorem Motion.captured_negative {m : Motion} (hn : m.capN = true) : m.captured.limitPosN = m.position ∧ m.captured.capN = false := by
  unfold Motion.captured
  dsimp only
  rw [if_pos hn]
  exact ⟨rfl, rfl⟩

/-! ### Stops -/

/-- The engine while the stops of a step are looked at. -/
def Motion.asked (m : Motion) (ceiling : Nat) (stop : Bool) : Motion :=
  { m with immReq := none, rampReq := none, vlimitRfx := ceiling, armed := if stop then none else m.armed }

/-- The channel moves towards a captured limit (R70). -/
def Motion.hits (m : Motion) : Bool := (m.capP && 0 < m.vel) || (m.capN && m.vel < 0)

/-- The cause of an immediate stop and that of a ramp stop at this step (R63). -/
def State.immCause (s : State) (c : Ch) (a : Asserts) : Option StopCause :=
  if (s.chan c).motion.immReq.isSome then (s.chan c).motion.immReq
  else if a.imm then some .reflex
  else if (s.chan c).motion.hits && s.par Pid.CH_LIMIT_MODE c.val == 1 then some .limit else none

def State.rampCause (s : State) (c : Ch) (a : Asserts) : Option StopCause :=
  if (s.chan c).motion.rampReq.isSome then (s.chan c).motion.rampReq
  else if a.ramp then some .reflex else if (s.chan c).motion.hits then some .limit else none

/-- What a channel does with the causes of the step (R63 to R66, R82, R114). -/
def State.stopBy (s : State) (c : Ch) (a : Asserts) (imm ramp : Option StopCause) : State :=
  let k := s.chan c
  let u := s.onMotion c fun m => m.asked a.ceiling (imm.isSome || ramp.isSome)
  match imm, ramp with
  | some cause, _ =>
    if k.state.inMotion then (u.halt c).endStop c cause
    else if k.state.energised && k.motion.immReq == some .fault then (u.halt c).restStop c
    else if k.state.energised && k.motion.stopFault then u.restStop c
    else u
  | none, some cause =>
    if k.state == .moving then u.onChan c fun k => k.beginStop cause
    else if k.state != .stopping && k.state.energised && k.motion.stopFault then u.restStop c
    else u
  | none, none => u

theorem State.mergeStops_eq (a : Asserts) : s.mergeStops c a = s.stopBy c a (s.immCause c a) (s.rampCause c a) := rfl

/-- With no stop asked for the channel goes on. -/
theorem State.mergeStops_none {a : Asserts} (himm : s.immCause c a = none) (hramp : s.rampCause c a = none) :
    s.mergeStops c a = s.onMotion c fun m => m.asked a.ceiling false := by
  rw [State.mergeStops_eq, himm, hramp]
  rfl

/-- A ramp stop begins on a channel in MOVING. -/
theorem State.mergeStops_ramp {a : Asserts} {cause : StopCause} (hmoving : (s.chan c).state = .moving) (himm : s.immCause c a = none)
    (hramp : s.rampCause c a = some cause) :
    s.mergeStops c a = (s.onMotion c fun m => m.asked a.ceiling true).onChan c fun k => k.beginStop cause := by
  rw [State.mergeStops_eq, himm, hramp]
  exact if_pos (by rw [hmoving]; rfl)

/-- An immediate stop ends motion where the channel is (R66). -/
theorem State.mergeStops_imm {a : Asserts} {cause : StopCause} (hmoving : (s.chan c).state = .moving) (himm : s.immCause c a = some cause) :
    s.mergeStops c a = ((s.onMotion c fun m => m.asked a.ceiling true).halt c).endStop c cause := by
  rw [State.mergeStops_eq, himm]
  exact if_pos (by rw [hmoving]; rfl)

/-! ### Integration -/

/-- The channel is integrated by itself: in motion, and not along a group's line. -/
def State.goes (s : State) (c : Ch) : Prop := (s.chan c).state.inMotion = true ∧ (s.chan c).motion.mode ≠ .interp ∧ s.ungrouped c

/-- The engine's step and how it ends. -/
def State.stepOf (s : State) (c : Ch) (a : Asserts) : Motion × MotEnd :=
  ((s.chan c).motion.follow (s.fb c).count (s.par Pid.FB_STEP_SCALE c.val)).advance (s.limits c a) ((s.chan c).state == .stopping)

/-- An engine but for what a step of its own changes. -/
def Motion.besideStep (m : Motion) : Motion := { m.besideKin with followPos := 0, followLast := 0, target := 0 }

theorem State.stepOf_besideStep (a : Asserts) : (s.stepOf c a).1.besideStep = (s.chan c).motion.besideStep := by
  have hkin := congrArg (fun m : Motion => { m with followPos := 0, followLast := 0, target := 0 })
    (Motion.advance_besideKin ((s.chan c).motion.follow (s.fb c).count (s.par Pid.FB_STEP_SCALE c.val)) (s.limits c a)
      ((s.chan c).state == .stopping))
  refine Eq.trans hkin ?_
  rw [Motion.follow_besideFollow]
  rfl

/-- The channel with the engine's step, its limits captured. -/
def State.stepped (s : State) (c : Ch) (a : Asserts) : State :=
  (s.onChan c fun k => { k with motion := (s.stepOf c a).1.clearLatches (k.state == .moving) }).captureLimits c

theorem State.stepped_chan (a : Asserts) :
    (s.stepped c a).chan c =
      { s.chan c with motion := ((s.stepOf c a).1.clearLatches ((s.chan c).state == .moving)).captured } := by
  rw [State.stepped, State.captureLimits_chan, State.onChan_chan_same]

theorem State.ungrouped.any (h : s.ungrouped c) : (s.groups.any fun g => g.active && g.members.any fun x => x.1 == c) = false := by
  rw [Vector.any_eq_false]
  intro j hj hmember
  obtain ⟨hactive, hany⟩ := (Bool.and_eq_true _ _).mp hmember
  obtain ⟨x, hx, hxc⟩ := List.any_eq_true.1 hany
  exact h ⟨j, hj⟩ hactive x hx (beq_iff_eq.1 hxc)

/-- The end of the position range stops the channel (R50). -/
def State.rangeEnded (s : State) (c : Ch) : State :=
  ((s.onChan c fun k => k.beginStop .limit).chPulse c 9).raise 0x0106 c.val (posField (s.chan c).motion.position)

/-- The report that goes with the end of a step, or the end of motion. -/
def State.finished (s : State) (c : Ch) (l : Limits) (cause : StopCause) : MotEnd → State
  | .running => s.reportVelocity c l
  | .arrived => s.moveDone c
  | .stopped => s.endStop c cause
  | .rangeEnd =>
    if ((s.rangeEnded c).chan c).motion.vel = 0 then (s.rangeEnded c).endStop c .limit
    else (s.rangeEnded c).onMotion c fun m => { m with stopNew := false }

theorem State.integrateCh_eq (a : Asserts) :
    s.integrateCh c a =
      if (s.chan c).state.inMotion && (s.chan c).motion.mode != .interp &&
          !(s.groups.any fun g => g.active && g.members.any fun x => x.1 == c) then
        (s.stepped c a).finished c (s.limits c a)
          (if (s.chan c).state == .stopping then (s.chan c).motion.stopCause else .velZero) (s.stepOf c a).2
      else s.captureLimits c := rfl

theorem State.integrateCh_goes (h : s.goes c) (a : Asserts) :
    ∃ cause, s.integrateCh c a = (s.stepped c a).finished c (s.limits c a) cause (s.stepOf c a).2 := by
  obtain ⟨hmotion, hmode, hgroups⟩ := h
  refine ⟨_, (State.integrateCh_eq a).trans (if_pos ?_)⟩
  rw [hmotion, bne_iff_ne.2 hmode, hgroups.any]
  rfl

/-- A channel that is not in motion is looked at for captured limits alone. -/
theorem State.integrateCh_rests (h : (s.chan c).state.inMotion = false) (a : Asserts) : s.integrateCh c a = s.captureLimits c :=
  if_neg (by rw [h]; exact Bool.false_ne_true)

/-! ### How a step ends -/

theorem State.reportVelocity_chan (l : Limits) :
    ∃ v, (s.reportVelocity c l).chan c = { s.chan c with motion := { (s.chan c).motion with velReported := v } } := by
  unfold State.reportVelocity
  dsimp only
  split
  · rw [State.raise_chan, State.chPulse_chan, State.onMotion_chan_same, State.onMotion_chan_same]
    exact ⟨_, rfl⟩
  · rw [State.onMotion_chan_same]
    exact ⟨_, rfl⟩

theorem State.moveDone_chan :
    (s.moveDone c).chan c =
      { s.chan c with
        state := .idle, motion := { (s.chan c).motion with mode := .none, velReported := none, vel := 0, acc := 0, carry := 0 } } := by
  unfold State.moveDone
  rw [State.raise_chan, State.chPulse_chan, State.onChan_chan_same]

theorem State.moveDone_pulse : (s.moveDone c).pulses.contains (36 * c.val + 6) = true := by
  unfold State.moveDone
  rw [State.raise_pulses]
  exact State.chPulse_active 6

theorem State.rangeEnded_chan : (s.rangeEnded c).chan c = (s.chan c).beginStop .limit := by
  unfold State.rangeEnded
  rw [State.raise_chan, State.chPulse_chan, State.onChan_chan_same]

theorem State.rangeEnded_pulse : (s.rangeEnded c).pulses.contains (36 * c.val + 9) = true := by
  unfold State.rangeEnded
  rw [State.raise_pulses]
  exact State.chPulse_active 9

/-- At the end of the range the engine brakes, or is at rest at once. -/
theorem State.finished_rangeEnd (l : Limits) (cause : StopCause) :
    let t := s.finished c l cause .rangeEnd
    (t.chan c).motion.pos = (s.chan c).motion.pos ∧ (t.chan c).motion.vel = (s.chan c).motion.vel ∧ (t.chan c).motion.stopCause = .limit ∧
      (t.chan c).state = (if (s.chan c).motion.vel = 0 then (s.chan c).rest else .stopping) ∧ t.pulses.contains (36 * c.val + 9) = true := by
  have hrange := State.rangeEnded_chan (s := s) (c := c)
  have hvel : ((s.rangeEnded c).chan c).motion.vel = (s.chan c).motion.vel := by rw [hrange]; rfl
  unfold State.finished
  dsimp only
  rw [hvel]
  split
  · next hrest =>
    obtain ⟨hstate, armed, hmotion, -⟩ := State.endStop_chan (s := s.rangeEnded c) (c := c) .limit
    rw [hmotion, hstate, hrange]
    refine ⟨rfl, hrest.symm, rfl, rfl, ?_⟩
    exact (State.endStop_passes (s := s.rangeEnded c) (C := (· = twinOf c)) (twinOf_ne c) _).own_turn.1.pulses _ State.rangeEnded_pulse
  · rw [State.onMotion_chan_same, hrange]
    exact ⟨rfl, rfl, rfl, rfl, State.rangeEnded_pulse⟩

/-- Position and captured limits of an engine. -/
def Motion.places (m : Motion) : Int × (Bool × Int) × (Bool × Int) := (m.pos, (m.capP, m.limitPosP), (m.capN, m.limitPosN))

/-- The end of a step moves nothing and captures nothing. -/
theorem State.endStop_places (cause : StopCause) : ((s.endStop c cause).chan c).motion.places = (s.chan c).motion.places := by
  obtain ⟨-, armed, hmotion, -⟩ := State.endStop_chan (s := s) (c := c) cause
  rw [hmotion]
  rfl

theorem State.finished_places (l : Limits) (cause : StopCause) (e : MotEnd) :
    ((s.finished c l cause e).chan c).motion.places = (s.chan c).motion.places := by
  cases e with
  | running =>
    obtain ⟨v, hchan⟩ := State.reportVelocity_chan (s := s) (c := c) l
    rw [State.finished, hchan]
    rfl
  | arrived =>
    rw [State.finished, State.moveDone_chan]
    rfl
  | stopped => exact State.endStop_places cause
  | rangeEnd =>
    have hrange : ((s.rangeEnded c).chan c).motion.places = (s.chan c).motion.places := by
      rw [State.rangeEnded_chan]
      rfl
    unfold State.finished
    dsimp only
    split
    · exact (State.endStop_places _).trans hrange
    · rw [State.onMotion_chan_same]
      exact hrange

/-- A limit captured before the step has the channel's new position (R70). -/
theorem Motion.captured_places (m : Motion) :
    (m.capP = true → m.captured.places.2.1 = (false, m.position)) ∧ (m.capN = true → m.captured.places.2.2 = (false, m.position)) ∧
      m.captured.places.1 = m.pos := by
  refine ⟨fun h => ?_, fun h => ?_, ?_⟩
  · obtain ⟨hpos, hcap⟩ := Motion.captured_positive h
    exact Prod.ext hcap hpos
  · obtain ⟨hpos, hcap⟩ := Motion.captured_negative h
    exact Prod.ext hcap hpos
  · rw [Motion.captured_frame]
    rfl

theorem State.integrateCh_captures (h : s.goes c ∨ (s.chan c).state.inMotion = false) (a : Asserts) :
    let n := ((s.integrateCh c a).chan c).motion
    ((s.chan c).motion.capP = true → n.limitPosP = n.position ∧ n.capP = false) ∧
      ((s.chan c).motion.capN = true → n.limitPosN = n.position ∧ n.capN = false) := by
  have hcaptured : ∃ m : Motion, m.capP = (s.chan c).motion.capP ∧ m.capN = (s.chan c).motion.capN ∧
      ((s.integrateCh c a).chan c).motion.places = m.captured.places := by
    rcases h with h | h
    · obtain ⟨cause, hgoes⟩ := State.integrateCh_goes h a
      have hstep := State.stepOf_besideStep (s := s) (c := c) a
      refine ⟨(s.stepOf c a).1.clearLatches ((s.chan c).state == .moving), ?_, ?_, ?_⟩
      · have e := congrArg Motion.capP hstep
        exact e
      · have e := congrArg Motion.capN hstep
        exact e
      · rw [hgoes, State.finished_places, State.stepped_chan]
    · refine ⟨(s.chan c).motion, rfl, rfl, ?_⟩
      rw [State.integrateCh_rests h, State.captureLimits_chan]
  obtain ⟨m, hp, hn, hplaces⟩ := hcaptured
  obtain ⟨hpos, hneg, hat⟩ := m.captured_places
  have hposition : ((s.integrateCh c a).chan c).motion.position = m.position := by
    have e := (congrArg Prod.fst hplaces).trans hat
    exact congrArg (· / 2 ^ 24) e
  intro n
  refine ⟨fun h => ?_, fun h => ?_⟩
  · have e := (congrArg (fun p => p.2.1) hplaces).trans (hpos (hp.trans h))
    exact ⟨(congrArg Prod.snd e).trans hposition.symm, congrArg Prod.fst e⟩
  · have e := (congrArg (fun p => p.2.2) hplaces).trans (hneg (hn.trans h))
    exact ⟨(congrArg Prod.snd e).trans hposition.symm, congrArg Prod.fst e⟩

/-! ### The engine after its held commands -/

/-- An engine but for what a motion command sets. -/
def Motion.besideApply (m : Motion) : Motion :=
  { m with velReported := none, velCmd := 0, mode := .none, followOffset := 0, followPos := 0, followLast := 0, target := 0 }

theorem Motion.apply_besideApply (m : Motion) (mv : Move) (count : BitVec 32) : (m.apply mv count).besideApply = m.besideApply := by
  unfold Motion.apply
  dsimp only
  split
  · split
    · rfl
    · split <;> rfl
  · rfl

theorem Motion.merged_besideApply (m : Motion) (count : BitVec 32) : (m.merged count).besideApply = { m with held := [] }.besideApply := by
  have hfold : ∀ (moves : List Move) (n : Motion), (moves.foldl (fun n mv => n.apply mv count) n).besideApply = n.besideApply := by
    intro moves
    induction moves with
    | nil => exact fun _ => rfl
    | cons mv moves ih => exact fun n => (ih _).trans (n.apply_besideApply mv count)
  exact hfold _ _

theorem Motion.merged_none {m : Motion} (count : BitVec 32) (h : m.held = []) : m.merged count = m := by
  rw [Motion.merged, h]
  exact congrArg (fun x => { m with held := x }) h.symm

theorem Motion.apply_mode (m : Motion) (mv : Move) (count : BitVec 32) : (m.apply mv count).mode ≠ .interp := by
  unfold Motion.apply
  dsimp only
  split
  · split
    · exact nofun
    · split <;> exact nofun
  · exact nofun

/-- No motion command puts a channel on a group's line. -/
theorem Motion.merged_mode {m : Motion} (count : BitVec 32) (h : m.mode ≠ .interp ∨ m.held ≠ []) : (m.merged count).mode ≠ .interp := by
  have hfold : ∀ (moves : List Move) (n : Motion), n.mode ≠ .interp ∨ moves ≠ [] →
      (moves.foldl (fun n mv => n.apply mv count) n).mode ≠ .interp := by
    intro moves
    induction moves with
    | nil => exact fun _ h => h.resolve_right fun e => e rfl
    | cons mv moves ih => exact fun n _ => ih _ (.inl (n.apply_mode mv count))
  exact hfold _ _ h

/-- A channel that goes on in MOVING: it is there, or takes what is held. -/
def Channel.goesOn (k : Channel) : Prop := (k.state = .moving ∧ k.motion.held = []) ∨ (k.takes ∧ k.motion.held ≠ [])

/-- The same after its held commands. -/
def Channel.going (k : Channel) (count : BitVec 32) : Channel :=
  { k with state := .moving, left := k.left || !k.motion.held.isEmpty, motion := k.motion.merged count }

theorem State.mergeMoves_chan_going (h : (s.chan c).goesOn) : (s.mergeMoves c).chan c = (s.chan c).going (s.fb c).count := by
  rcases h with ⟨hstate, hheld⟩ | ⟨htakes, hheld⟩
  · rw [State.mergeMoves_chan_none hheld, Channel.going, Motion.merged_none _ hheld, hheld, ← hstate]
    simp
  · rw [State.mergeMoves_chan_held htakes hheld, Channel.going]
    have hsome : (s.chan c).motion.held.isEmpty = false := by simpa using hheld
    rw [hsome, Bool.not_false, Bool.or_true]

end Sys2Proof.Machine
end

section
/-! A step in velocity mode without jerk (R51, R53, R56, R60): its speed, the change of its speed, and its travel. -/

namespace Sys2Proof.Machine

variable {l : Limits} {k : Kin} {m : Motion}

/-- The speed after one step towards `vt` without jerk. -/
def Limits.nextSpeed (l : Limits) (v vt : Int) : Int := max 0 (v + clamp (-l.d) l.a ((vt - v) * stepRate) / stepRate)

theorem stepToSpeed_jerkless (hj : l.j = 0) (k : Kin) (vt : Int) : ∃ a', stepToSpeed l k vt = k.move (l.nextSpeed k.v vt) a' :=
  ⟨_, if_pos hj⟩

/-- The next speed lies between the present one and the one aimed at, and within AMAX or DMAX of the present one but for the rounding
of one step. -/
theorem Limits.nextSpeed_bounds {v vt : Int} (ha : 0 < l.a) (hd : 0 < l.d) (hv : 0 ≤ v) (hvt : 0 ≤ vt) :
    0 ≤ l.nextSpeed v vt ∧ l.nextSpeed v vt ≤ max v vt ∧ stepRate * |l.nextSpeed v vt - v| ≤ max l.a l.d + stepRate := by
  have hlow : ∀ x, clamp (-l.d) l.a x ≤ max 0 x ∧ clamp (-l.d) l.a x ≤ l.a ∧ -l.d ≤ clamp (-l.d) l.a x := fun x => by
    unfold clamp
    split
    · omega
    · split <;> omega
  obtain ⟨hx, hup, hdown⟩ := hlow ((vt - v) * stepRate)
  unfold Limits.nextSpeed
  generalize clamp (-l.d) l.a ((vt - v) * stepRate) = x at hx hup hdown
  simp only [stepRate] at hx ⊢
  refine ⟨le_max_left _ _, ?_, ?_⟩
  · omega
  · rcases abs_cases (max 0 (v + x / 200000) - v) with ⟨habs, -⟩ | ⟨habs, -⟩ <;> rw [habs] <;> omega

/-! ### One move -/

/-- A move from `m` at speed `v'` in its direction of travel. -/
def Motion.movedOn (m : Motion) (v' a' : Int) : Motion :=
  let k := (m.kin 0 (dirSign m.vel)).move v' a'
  m.goto (m.pos + dirSign m.vel * k.x) (dirSign m.vel * k.v) (dirSign m.vel * k.a) k.carry

theorem dirSign_mul_abs (x : Int) : dirSign x * |x| = x := by
  unfold dirSign
  split
  · next h => rw [abs_of_neg h]; omega
  · next h => rw [abs_of_nonneg (not_lt.1 h)]; omega

/-- The channel moves no farther than the larger of its two speeds takes it, but for the rounding of one step. -/
theorem Motion.movedOn_bounds {v' : Int} (hv' : 0 ≤ v') (a' : Int) (hmin : posMin ≤ m.pos) (hmax : m.pos ≤ posMax)
    (hcarry : 0 ≤ m.carry) (hcarry' : m.carry < 2 * stepRate) :
    (m.movedOn v' a').vel = dirSign m.vel * v' ∧ 2 * stepRate * |(m.movedOn v' a').pos - m.pos| ≤ |m.vel| + v' + 2 * stepRate := by
  refine ⟨rfl, ?_⟩
  have htravel : (m.kin 0 (dirSign m.vel)).travel v' = m.carry + |m.vel| + v' := by
    simp only [Kin.travel, Motion.kin, Kin.of, Int.emod_eq_of_lt hcarry hcarry']
  have hx : ((m.kin 0 (dirSign m.vel)).move v' a').x = (m.carry + |m.vel| + v') / (2 * stepRate) := by
    simp only [Kin.move, htravel]
    exact zero_add _
  have hpos : (m.movedOn v' a').pos = clamp posMin posMax (m.pos + dirSign m.vel * ((m.carry + |m.vel| + v') / (2 * stepRate))) := by
    simp only [Motion.movedOn, Motion.goto, hx]
  have hspeed := abs_nonneg m.vel
  have hclamp : ∀ y, |clamp posMin posMax (m.pos + y) - m.pos| ≤ |y| := fun y => by
    unfold clamp
    split
    · rcases abs_cases (posMin - m.pos) with h | h <;> rcases abs_cases y with h' | h' <;> omega
    · split
      · rcases abs_cases (posMax - m.pos) with h | h <;> rcases abs_cases y with h' | h' <;> omega
      · rw [add_sub_cancel_left]
  have hdist : |dirSign m.vel * ((m.carry + |m.vel| + v') / (2 * stepRate))| = (m.carry + |m.vel| + v') / (2 * stepRate) := by
    have hunit : |dirSign m.vel| = 1 := by
      unfold dirSign
      split <;> rfl
    rw [abs_mul, hunit, one_mul, abs_of_nonneg]
    simp only [stepRate]
    omega
  have hbound := (hclamp _).trans_eq hdist
  rw [hpos]
  simp only [stepRate] at hcarry' hbound ⊢
  omega

/-! ### The step -/

theorem Motion.brake_jerkless (hj : l.j = 0) (hrest : (m.brake l false).vel ≠ 0) :
    ∃ a', m.brake l false = m.movedOn (l.nextSpeed |m.vel| 0) a' := by
  have hcases : (∃ x, stepToRest l false (m.kin 0 (dirSign m.vel)) = Kin.rest x) ∨
      stepToRest l false (m.kin 0 (dirSign m.vel)) = stepToSpeed l (m.kin 0 (dirSign m.vel)) 0 := by
    unfold stepToRest
    simp only [Bool.false_eq_true, if_false]
    split
    · exact .inl ⟨_, rfl⟩
    · split
      · exact .inl ⟨_, rfl⟩
      · exact .inr rfl
  have hstep := hcases.resolve_left fun ⟨x, h⟩ => hrest (by
    simp only [Motion.brake, h]
    exact mul_zero _)
  obtain ⟨a', hspeed⟩ := stepToSpeed_jerkless hj (m.kin 0 (dirSign m.vel)) 0
  exact ⟨a', by rw [Motion.brake, hstep, hspeed]; rfl⟩

/-- One step in velocity mode of a channel that moves before it and after it (R56). -/
theorem Motion.cruise_bounds {vt : Int} (hj : l.j = 0) (hlimit : 0 ≤ l.v) (ha : 0 < l.a) (hd : 0 < l.d) (hmin : posMin ≤ m.pos)
    (hmax : m.pos ≤ posMax) (hcarry : 0 ≤ m.carry) (hcarry' : m.carry < 2 * stepRate) (hvel : m.vel ≠ 0)
    (hvel' : (m.cruise l vt).vel ≠ 0) :
    |(m.cruise l vt).vel| ≤ max |m.vel| l.v ∧ stepRate * |(m.cruise l vt).vel - m.vel| ≤ max l.a l.d + stepRate ∧
      2 * stepRate * |(m.cruise l vt).pos - m.pos| ≤ |m.vel| + |(m.cruise l vt).vel| + 2 * stepRate := by
  have hstep : ∃ u a', 0 ≤ u ∧ u ≤ l.v ∧ m.cruise l vt = m.movedOn (l.nextSpeed |m.vel| u) a' := by
    have hcruise : m.cruise l vt = if dirSign m.vel * vt ≤ 0 then m.brake l false else
        let k := stepVelocity l (m.kin 0 (dirSign m.vel)) |vt|
        m.goto (m.pos + dirSign m.vel * k.x) (dirSign m.vel * k.v) (dirSign m.vel * k.a) k.carry := by
      unfold Motion.cruise
      rw [if_neg fun h => hvel h.1, if_neg hvel]
    rw [hcruise] at hvel' ⊢
    split at hvel'
    · next hback =>
      obtain ⟨a', hbrake⟩ := Motion.brake_jerkless hj hvel'
      exact ⟨0, a', le_rfl, hlimit, by rw [if_pos hback, hbrake]⟩
    · next hon =>
      have hmoving : (m.kin 0 (dirSign m.vel)).v ≠ 0 := abs_ne_zero.2 hvel
      obtain ⟨a', hspeed⟩ := stepToSpeed_jerkless hj (m.kin 0 (dirSign m.vel)) (min |vt| l.v)
      refine ⟨min |vt| l.v, a', le_min (abs_nonneg _) hlimit, min_le_right _ _, ?_⟩
      rw [if_neg hon, stepVelocity, if_neg fun h => hmoving h.1, hspeed]
      rfl
  obtain ⟨u, a', hu, hul, hstep⟩ := hstep
  obtain ⟨hlow, hhigh, hchange⟩ := l.nextSpeed_bounds ha hd (abs_nonneg m.vel) hu
  obtain ⟨hv, htravel⟩ := m.movedOn_bounds hlow a' hmin hmax hcarry hcarry'
  rw [hstep]
  have hunit : |dirSign m.vel| = 1 := by
    unfold dirSign
    split <;> rfl
  have hspeed : |(m.movedOn (l.nextSpeed |m.vel| u) a').vel| = l.nextSpeed |m.vel| u := by
    rw [hv, abs_mul, hunit, one_mul, abs_of_nonneg hlow]
  have hdiff : |(m.movedOn (l.nextSpeed |m.vel| u) a').vel - m.vel| = |l.nextSpeed |m.vel| u - (|m.vel|)| := by
    have hfactor : dirSign m.vel * l.nextSpeed |m.vel| u - m.vel = dirSign m.vel * (l.nextSpeed |m.vel| u - |m.vel|) := by
      rw [mul_sub, dirSign_mul_abs]
    rw [hv, hfactor, abs_mul, hunit, one_mul]
  rw [hspeed, hdiff]
  exact ⟨hhigh.trans (max_le_max le_rfl hul), hchange, htravel⟩

/-! ### Arrival -/

theorem Motion.towards_arrives {x : Int} (h : (m.towards l x).2 = true) (hmin : posMin ≤ x) (hmax : x ≤ posMax) : (m.towards l x).1.pos = x := by
  unfold Motion.towards at h ⊢
  dsimp only at h ⊢
  generalize (if m.vel = 0 then dirSign (x - m.pos) else dirSign m.vel) = d at h ⊢
  split
  · next hthere =>
    obtain ⟨-, hgap⟩ := hthere
    exact (sub_eq_zero.1 hgap).symm
  · next hthere =>
    rw [if_neg hthere] at h
    split
    · next hstuck =>
      rw [if_pos hstuck] at h
      exact absurd h Bool.false_ne_true
    · next hstuck =>
      rw [if_neg hstuck] at h
      split
      · next hbehind =>
        rw [if_pos hbehind] at h
        exact absurd h Bool.false_ne_true
      · next hbehind =>
        rw [if_neg hbehind] at h
        split
        · unfold Motion.goto clamp
          dsimp only
          rw [if_neg (not_lt.2 hmin), if_neg (not_lt.2 hmax)]
        · next hfar =>
          rw [if_neg hfar] at h
          exact absurd h Bool.false_ne_true

theorem Motion.advance_target (hvel : m.mode ≠ .velocity) (hfollow : m.mode ≠ .follow) :
    m.advance l false =
      ((m.towards l (m.target * unitStep)).1, if (m.towards l (m.target * unitStep)).2 then .arrived else .running) := by
  cases hmode : m.mode with
  | velocity => exact absurd hmode hvel
  | follow => exact absurd hmode hfollow
  | none | position | interp => simp only [Motion.advance, hmode, Bool.false_eq_true, if_false]

/-- Only a move to a target arrives. -/
theorem Motion.advance_arrived (h : (m.advance l false).2 = .arrived) :
    (m.advance l false).1 = (m.towards l (m.target * unitStep)).1 ∧ (m.towards l (m.target * unitStep)).2 = true := by
  have hvel : m.mode ≠ .velocity := fun hmode => by
    unfold Motion.advance at h
    simp only [Bool.false_eq_true, if_false, hmode] at h
    split at h
    · exact MotEnd.noConfusion h
    · dsimp only at h
      split at h <;> exact MotEnd.noConfusion h
  have hfollow : m.mode ≠ .follow := fun hmode => by
    unfold Motion.advance at h
    simp only [Bool.false_eq_true, if_false, hmode] at h
    split at h <;> exact MotEnd.noConfusion h
  rw [Motion.advance_target hvel hfollow] at h ⊢
  refine ⟨rfl, ?_⟩
  dsimp only at h
  split at h
  · assumption
  · exact MotEnd.noConfusion h

/-- An engine that goes on in velocity mode has taken its step towards the velocity in force. -/
theorem Motion.advance_velocity (hmode : m.mode = .velocity) (h : (m.advance l false).2 = .running) :
    (m.advance l false).1 = m.cruise l (velInForce l m.velCmd) := by
  unfold Motion.advance at h ⊢
  simp only [Bool.false_eq_true, if_false, hmode] at h ⊢
  split
  · next hpast =>
    rw [if_pos hpast] at h
    exact MotEnd.noConfusion h
  · rfl

end Sys2Proof.Machine
end

section
/-! An integration step of one channel that no group leads (R48, R53 to R66, R70, R73, R88): its turns put together. -/

namespace Sys2Proof.Machine

variable {s t : State} {c : Ch}

/-! ### What the turns read -/

theorem State.Onward.par (h : State.Onward s t) (id inst : Nat) : t.par id inst = s.par id inst := by
  have e := congrArg (fun x : State => x.par id inst) h.frame
  exact e

theorem State.Onward.fb (h : State.Onward s t) (c : Ch) : t.fb c = s.fb c := by
  have e := congrArg (fun x : State => x.fb c) h.frame
  exact e

theorem State.Onward.limits (h : State.Onward s t) (c : Ch) (a : Asserts) : t.limits c a = s.limits c a := by
  have e := congrArg (fun x : State => x.limits c a) h.frame
  exact e

/-- Nothing is asked of the engine, and no limit waits to be captured. -/
def Motion.quiet (m : Motion) : Prop := m.rampReq = none ∧ m.immReq = none ∧ m.capP = false ∧ m.capN = false

theorem Motion.quiet.asked {m : Motion} (h : m.quiet) (ceiling : Nat) : m.asked ceiling false = { m with vlimitRfx := ceiling } := by
  obtain ⟨hramp, himm, -, -⟩ := h
  exact congrArg₂ (fun x y => { m with rampReq := x, immReq := y, vlimitRfx := ceiling }) hramp.symm himm.symm

theorem State.mergeStops_quiet {a : Asserts} (h : (s.chan c).motion.quiet) (himm : a.imm = false) (hramp : a.ramp = false) :
    (s.mergeStops c a).chan c = { s.chan c with motion := { (s.chan c).motion with vlimitRfx := a.ceiling } } := by
  obtain ⟨hrampReq, himmReq, hp, hn⟩ := h
  have hhits : (s.chan c).motion.hits = false := by simp [Motion.hits, hp, hn]
  have himm' : s.immCause c a = none := by simp [State.immCause, himmReq, himm, hhits]
  have hramp' : s.rampCause c a = none := by simp [State.rampCause, hrampReq, hramp, hhits]
  rw [State.mergeStops_none himm' hramp', State.onMotion_chan_same, Motion.quiet.asked ⟨hrampReq, himmReq, hp, hn⟩]

/-- No group leads the channel, its twin does not turn off, and no stop waits or is asserted. -/
structure State.Unasked (s : State) (c : Ch) : Prop where
  ungrouped : s.ungrouped c
  calm : s.calm c
  quiet : (s.chan c).motion.quiet
  ramp : (assertsOn s.assertList c).ramp = false
  imm : (assertsOn s.assertList c).imm = false

/-! ### A channel at rest -/

/-- A channel that is not in motion and has nothing waiting stays where it is. -/
theorem State.Unasked.rests (h : s.Unasked c) (hstate : (s.chan c).state.inMotion = false) (hheld : (s.chan c).motion.held = []) :
    s.integrate.chan c = { s.chan c with motion := { (s.chan c).motion with vlimitRfx := (assertsOn s.assertList c).ceiling } } := by
  obtain ⟨hgroup, hcalm, hquiet, hramp, himm⟩ := h
  obtain ⟨u1, u2, u3, h1, h2, h3, h4, -⟩ := State.integrate_channel hgroup
  generalize assertsOn s.assertList c = a at hramp himm h3 h4 ⊢
  obtain ⟨hcalm1, hchan1⟩ := h1.calm c rfl hcalm
  have hmoves := State.mergeMoves_chan_none (s := u1) (c := c) (by rw [hchan1]; exact hheld)
  obtain ⟨hcalm2, hchan2⟩ := h2.calm c rfl (State.mergeMoves_own.2 hcalm1)
  have hk2 : u2.chan c = s.chan c := hchan2.trans (hmoves.trans hchan1)
  have hstops := State.mergeStops_quiet (s := u2) (c := c) (a := a) (by rw [hk2]; exact hquiet) himm hramp
  obtain ⟨hcalm3, hchan3⟩ := h3.calm c rfl ((State.mergeStops_own a).2 hcalm2)
  have hk3 := hchan3.trans hstops
  rw [hk2] at hk3
  have hrests := State.integrateCh_rests (s := u3) (c := c) (by rw [hk3]; exact hstate) a
  obtain ⟨-, hchan4⟩ := h4.calm c rfl ((State.integrateCh_own a).2 hcalm3)
  obtain ⟨-, -, hp, hn⟩ := hquiet
  rw [hchan4, hrests, State.captureLimits_chan, hk3]
  exact congrArg (fun m => { s.chan c with motion := m }) (Motion.captured_none (m := { (s.chan c).motion with vlimitRfx := a.ceiling }) hp hn)

/-! ### A channel that goes on -/

/-- The engine that a step advances: held commands in effect, the follower read (R57, R63). -/
def State.engine (s : State) (c : Ch) : Motion :=
  { (s.chan c).motion.merged (s.fb c).count with vlimitRfx := (assertsOn s.assertList c).ceiling }.follow (s.fb c).count
    (s.par Pid.FB_STEP_SCALE c.val)

/-- The channel with its engine one step on. -/
def State.advanced (s : State) (c : Ch) : Motion × MotEnd := (s.engine c).advance (s.limits c (assertsOn s.assertList c)) false

theorem Motion.merged_quiet {m : Motion} (h : m.quiet) (count : BitVec 32) : (m.merged count).quiet := by
  have hsame := m.merged_besideApply count
  obtain ⟨hramp, himm, hp, hn⟩ := h
  refine ⟨?_, ?_, ?_, ?_⟩
  · have e := congrArg Motion.rampReq hsame
    exact Eq.trans e hramp
  · have e := congrArg Motion.immReq hsame
    exact Eq.trans e himm
  · have e := congrArg Motion.capP hsame
    exact Eq.trans e hp
  · have e := congrArg Motion.capN hsame
    exact Eq.trans e hn

/-- A channel that goes on, nothing asked of it: its engine takes one step, and the step ends as the engine says. -/
theorem State.Unasked.goes (h : s.Unasked c) (hgo : (s.chan c).goesOn)
    (hmode : (s.chan c).motion.mode ≠ .interp ∨ (s.chan c).motion.held ≠ []) :
    ∃ (u : State) (cause : StopCause),
      u.chan c = { (s.chan c).going (s.fb c).count with motion := (s.advanced c).1.clearLatches true } ∧
      s.integrate.chan c = ((u.finished c (s.limits c (assertsOn s.assertList c)) cause (s.advanced c).2).chan c) ∧
      ∀ n, (u.finished c (s.limits c (assertsOn s.assertList c)) cause (s.advanced c).2).pulses.contains n = true →
        s.integrate.pulses.contains n = true := by
  obtain ⟨hgroup, hcalm, hquiet, hramp, himm⟩ := h
  obtain ⟨u1, u2, u3, h1, h2, h3, h4, hgroup3⟩ := State.integrate_channel hgroup
  unfold State.advanced State.engine
  generalize assertsOn s.assertList c = a at hramp himm h3 h4 ⊢
  have hon1 : State.Onward s.stepBegun u1 := h1.onward
  have hon3 : State.Onward s.stepBegun u3 :=
    (((hon1.trans State.mergeMoves_own.1).trans h2.onward).trans (State.mergeStops_own a).1).trans h3.onward
  obtain ⟨hcalm1, hchan1⟩ := h1.calm c rfl hcalm
  have hk1 : u1.chan c = s.chan c := hchan1
  have hmoves := State.mergeMoves_chan_going (s := u1) (c := c) (by rw [hk1]; exact hgo)
  rw [hk1, hon1.fb] at hmoves
  obtain ⟨hcalm2, hchan2⟩ := h2.calm c rfl (State.mergeMoves_own.2 hcalm1)
  have hk2 : u2.chan c = (s.chan c).going (s.fb c).count := hchan2.trans hmoves
  have hquiet2 : (u2.chan c).motion.quiet := by
    rw [hk2]
    exact Motion.merged_quiet hquiet _
  have hstops := State.mergeStops_quiet hquiet2 himm hramp
  obtain ⟨hcalm3, hchan3⟩ := h3.calm c rfl ((State.mergeStops_own a).2 hcalm2)
  have hk3 := hchan3.trans hstops
  rw [hk2] at hk3
  have hgoes3 : u3.goes c := by
    refine ⟨by rw [hk3]; rfl, ?_, hgroup3⟩
    rw [hk3]
    exact Motion.merged_mode _ hmode
  obtain ⟨cause, hstep⟩ := State.integrateCh_goes hgoes3 a
  have hlimits : u3.limits c a = s.limits c a := hon3.limits c a
  have hadvanced : u3.stepOf c a =
      ({ (s.chan c).motion.merged (s.fb c).count with vlimitRfx := a.ceiling }.follow (s.fb c).count
        (s.par Pid.FB_STEP_SCALE c.val)).advance (s.limits c a) false := by
    have hfb : u3.fb c = s.fb c := hon3.fb c
    have hpar : u3.par Pid.FB_STEP_SCALE c.val = s.par Pid.FB_STEP_SCALE c.val := hon3.par _ _
    rw [State.stepOf, hlimits, hfb, hpar, hk3]
    rfl
  have hcaptures : ((u3.stepOf c a).1.clearLatches true).captured = (u3.stepOf c a).1.clearLatches true := by
    obtain ⟨-, -, hp, hn⟩ := hquiet2
    have hsame := State.stepOf_besideStep (s := u3) (c := c) a
    rw [hk2] at hp hn
    rw [hk3] at hsame
    refine Motion.captured_none ?_ ?_
    · have e := congrArg Motion.capP hsame
      exact Eq.trans e hp
    · have e := congrArg Motion.capN hsame
      exact Eq.trans e hn
  have hmoving : (u3.chan c).state = .moving := by rw [hk3]; rfl
  have hstepped := State.stepped_chan (s := u3) (c := c) a
  have htrue : (ChState.moving == ChState.moving) = true := rfl
  rw [hmoving, htrue, hcaptures, hadvanced, hk3] at hstepped
  rw [hlimits, hadvanced] at hstep
  obtain ⟨-, hchan4⟩ := h4.calm c rfl ((State.integrateCh_own a).2 hcalm3)
  refine ⟨u3.stepped c a, cause, hstepped, ?_, fun n hn => h4.onward.pulses n ?_⟩
  · rw [hchan4, hstep]
  · rw [hstep]
    exact hn

/-! ### Held commands, as the statement spells them -/

/-- One motion command in effect (R55 to R57). -/
def Motion.begun (count : BitVec 32) (n : Motion) (mv : Move) : Motion :=
  let n := { n with velReported := none, velCmd := 0 }
  match mv with
  | .vel v => { n with mode := .velocity, velCmd := v, target := n.position }
  | .to x _ true => { n with mode := .follow, followOffset := x, followPos := 0, followLast := count, target := x }
  | .to x true false =>
    { n with mode := .position, target := max (-(2 ^ 39)) (min (2 ^ 39 - 1) ((if n.mode = .position then n.target else n.position) + x)) }
  | .to x false false => { n with mode := .position, target := x }

/-- Engines that differ in the speed ceiling, and in the target where follow mode sets it anew. -/
def Motion.alike (n m : Motion) : Prop := ∃ x y, m = { n with target := x, vlimitRfx := y } ∧ (n.mode ≠ .follow → x = n.target)

theorem clampTarget_eq (x : Int) : clampTarget x = max (-(2 ^ 39)) (min (2 ^ 39 - 1) x) := by
  unfold clampTarget clamp
  split
  · omega
  · split <;> omega

theorem Motion.alike.apply {n m : Motion} (h : n.alike m) (mv : Move) (count : BitVec 32) : (n.begun count mv).alike (m.apply mv count) := by
  obtain ⟨x, y, rfl, hx⟩ := h
  match mv with
  | .vel v => exact ⟨_, y, rfl, fun _ => rfl⟩
  | .to t _ true => exact ⟨_, y, rfl, fun h => absurd rfl h⟩
  | .to t false false => exact ⟨_, y, rfl, fun _ => rfl⟩
  | .to t true false =>
    refine ⟨_, y, rfl, fun _ => ?_⟩
    rw [clampTarget_eq]
    by_cases hmode : n.mode = .position
    · have hsame : x = n.target := hx (by rw [hmode]; exact nofun)
      simp only [Motion.begun, hmode, hsame, beq_self_eq_true, if_true]
    · simp only [Motion.begun, hmode, beq_iff_eq, if_false]
      rfl

theorem Motion.alike.foldl {count : BitVec 32} {moves : List Move} {n m : Motion} (h : n.alike m) :
    (moves.foldl (Motion.begun count) n).alike (moves.foldl (fun k mv => k.apply mv count) m) := by
  induction moves generalizing n m with
  | nil => exact h
  | cons mv moves ih => exact ih (h.apply mv count)

/-- The follower position and the target of follow mode (R57, R189). -/
def Motion.followed (n : Motion) (count : BitVec 32) (scale : Int) : Motion :=
  if n.mode = .follow then
    { n with followPos := n.followPos + (count - n.followLast).toInt, followLast := count
             target := n.followOffset + (n.followPos + (count - n.followLast).toInt) * scale }
  else n

theorem Motion.alike.follow {n m : Motion} (h : n.alike m) (count : BitVec 32) (scale : Int) :
    { m with vlimitRfx := n.vlimitRfx }.follow count scale = n.followed count scale := by
  obtain ⟨x, y, rfl, hx⟩ := h
  unfold Motion.follow Motion.followed
  by_cases hmode : n.mode = .follow
  · simp only [hmode, beq_self_eq_true, if_true]
  · rw [if_neg hmode, hx hmode]
    exact if_neg (by rw [beq_iff_eq]; exact hmode)

theorem Motion.begun_vlimitRfx {count : BitVec 32} {moves : List Move} {n : Motion} :
    (moves.foldl (Motion.begun count) n).vlimitRfx = n.vlimitRfx := by
  induction moves generalizing n with
  | nil => rfl
  | cons mv moves ih =>
    refine ih.trans ?_
    match mv with
    | .vel _ => rfl
    | .to _ _ true => rfl
    | .to _ true false => rfl
    | .to _ false false => rfl

/-- The engine that a step advances, by the commands in their order. -/
theorem State.engine_eq :
    s.engine c =
      ((s.chan c).motion.held.foldl (Motion.begun (s.fb c).count)
        { (s.chan c).motion with held := [], vlimitRfx := (assertsOn s.assertList c).ceiling }).followed (s.fb c).count
        (s.par Pid.FB_STEP_SCALE c.val) := by
  generalize hn : { (s.chan c).motion with held := [], vlimitRfx := (assertsOn s.assertList c).ceiling } = n
  have hlike : n.alike { (s.chan c).motion with held := [] } := ⟨_, (s.chan c).motion.vlimitRfx, by rw [← hn], fun _ => rfl⟩
  have hceiling : (assertsOn s.assertList c).ceiling = n.vlimitRfx := by rw [← hn]
  have hfold := hlike.foldl (count := (s.fb c).count) (moves := (s.chan c).motion.held)
  rw [State.engine, hceiling, ← Motion.begun_vlimitRfx (count := (s.fb c).count) (moves := (s.chan c).motion.held)]
  exact hfold.follow _ _

/-! ### What the step leaves of the engine -/

/-- An engine but for what held commands and the follower set. -/
def Motion.besideHeld (m : Motion) : Motion := { m.besideApply with held := [], vlimitRfx := 0 }

theorem State.engine_besideHeld : (s.engine c).besideHeld = (s.chan c).motion.besideHeld := by
  have hmerged := congrArg (fun m : Motion => { m with held := [], vlimitRfx := 0 }) ((s.chan c).motion.merged_besideApply (s.fb c).count)
  unfold State.engine
  rw [Motion.follow_besideFollow]
  exact hmerged

/-- The stops that wait stay with the engine. -/
theorem State.advanced_waits :
    (s.advanced c).1.stopFault = (s.chan c).motion.stopFault ∧ (s.advanced c).1.disablePending = (s.chan c).motion.disablePending := by
  have hstep := (s.engine c).advance_besideKin (s.limits c (assertsOn s.assertList c)) false
  have hheld := State.engine_besideHeld (s := s) (c := c)
  refine ⟨?_, ?_⟩
  · have e := congrArg Motion.stopFault hstep
    have e' := congrArg Motion.stopFault hheld
    exact Eq.trans e e'
  · have e := congrArg Motion.disablePending hstep
    have e' := congrArg Motion.disablePending hheld
    exact Eq.trans e e'

/-- With no fault and no DISABLE waiting, a channel comes to rest in IDLE. -/
theorem Channel.rest_idle {k : Channel} (hfault : k.motion.stopFault = false) (hdisable : k.motion.disablePending = false) : k.rest = .idle := by
  simp only [Channel.rest, hfault, hdisable, Bool.false_eq_true, if_false]

/-! ### How the step of such a channel ends -/

section
variable (h : s.Unasked c) (hgo : (s.chan c).goesOn) (hmode : (s.chan c).motion.mode ≠ .interp ∨ (s.chan c).motion.held ≠ [])
include h hgo hmode

theorem State.Unasked.running (hend : (s.advanced c).2 = .running) :
    s.integrate.chan c =
      { (s.chan c).going (s.fb c).count with
        motion := { (s.advanced c).1.clearLatches true with velReported := (s.integrate.chan c).motion.velReported } } := by
  obtain ⟨u, cause, hu, hchan, -⟩ := h.goes hgo hmode
  obtain ⟨v, hreport⟩ := State.reportVelocity_chan (s := u) (c := c) (s.limits c (assertsOn s.assertList c))
  have hone : s.integrate.chan c =
      { (s.chan c).going (s.fb c).count with motion := { (s.advanced c).1.clearLatches true with velReported := v } } := by
    rw [hchan, hend, State.finished, hreport, hu]
  have hv : (s.integrate.chan c).motion.velReported = v := by rw [hone]
  rw [hv]
  exact hone

theorem State.Unasked.arrived (hend : (s.advanced c).2 = .arrived) :
    s.integrate.chan c =
        { (s.chan c).going (s.fb c).count with
          state := .idle
          motion := { (s.advanced c).1.clearLatches true with mode := .none, velReported := none, vel := 0, acc := 0, carry := 0 } } ∧
      s.integrate.pulses.contains (36 * c.val + 6) = true := by
  obtain ⟨u, cause, hu, hchan, hpulses⟩ := h.goes hgo hmode
  rw [hend] at hchan hpulses
  refine ⟨?_, hpulses _ State.moveDone_pulse⟩
  rw [hchan, State.finished, State.moveDone_chan, hu]

theorem State.Unasked.stopped (hend : (s.advanced c).2 = .stopped) (hfault : (s.chan c).motion.stopFault = false)
    (hdisable : (s.chan c).motion.disablePending = false) :
    (s.integrate.chan c).state = .idle ∧ (s.integrate.chan c).motion.pos = (s.advanced c).1.pos ∧ (s.integrate.chan c).motion.vel = 0 ∧
      s.integrate.pulses.contains (36 * c.val + 7) = true := by
  obtain ⟨u, cause, hu, hchan, hpulses⟩ := h.goes hgo hmode
  rw [hend] at hchan hpulses
  obtain ⟨hstate, armed, hmotion, -⟩ := State.endStop_chan (s := u) (c := c) cause
  have hpulse := hpulses _ (State.endStop_pulse (s := u) (c := c) cause)
  rw [hchan, State.finished, hstate, hmotion, hu]
  obtain ⟨hwaits, hwaits'⟩ := State.advanced_waits (s := s) (c := c)
  exact ⟨Channel.rest_idle (hwaits.trans hfault) (hwaits'.trans hdisable), rfl, rfl, hpulse⟩

theorem State.Unasked.rangeEnd (hend : (s.advanced c).2 = .rangeEnd) (hfault : (s.chan c).motion.stopFault = false)
    (hdisable : (s.chan c).motion.disablePending = false) :
    (s.integrate.chan c).motion.pos = (s.advanced c).1.pos ∧ (s.integrate.chan c).motion.vel = (s.advanced c).1.vel ∧
      (s.integrate.chan c).motion.stopCause = .limit ∧
      (s.integrate.chan c).state = (if (s.advanced c).1.vel = 0 then .idle else .stopping) ∧
      s.integrate.pulses.contains (36 * c.val + 9) = true := by
  obtain ⟨u, cause, hu, hchan, hpulses⟩ := h.goes hgo hmode
  rw [hend] at hchan hpulses
  obtain ⟨hpos, hvel, hcause, hstate, hpulse⟩ := State.finished_rangeEnd (s := u) (c := c) (s.limits c (assertsOn s.assertList c)) cause
  have hpulse' := hpulses _ hpulse
  rw [hchan, hpos, hvel, hcause, hstate, hu]
  obtain ⟨hwaits, hwaits'⟩ := State.advanced_waits (s := s) (c := c)
  have hidle : Channel.rest { (s.chan c).going (s.fb c).count with motion := (s.advanced c).1.clearLatches true } = .idle :=
    Channel.rest_idle (hwaits.trans hfault) (hwaits'.trans hdisable)
  rw [hidle]
  exact ⟨rfl, rfl, rfl, rfl, hpulse'⟩

end

/-! ### A relative target beyond the range -/

theorem State.mergeMoves_clamps {mv : Move} (htakes : (s.chan c).takes) (hheld : (s.chan c).motion.held = [mv])
    (hclamps : (s.chan c).motion.clamps mv = true) : (s.mergeMoves c).pulses.contains (36 * c.val + 9) = true := by
  have hone : s.mergeMoves c = (s.onMotion c fun m => { m with held := [] }).applyHeld c mv := by
    rw [State.mergeMoves, hheld]
    rfl
  have hchan : (s.onMotion c fun m => { m with held := [] }).chan c =
      { s.chan c with motion := { (s.chan c).motion with held := [] } } := State.onMotion_chan_same ..
  have htaken : ((s.chan c).state == .idle || (s.chan c).state == .holdReduced || (s.chan c).state.inMotion) = true := by
    rcases htakes with h | h | h <;> simp [h]
  have hclamps' : Motion.clamps { (s.chan c).motion with held := [] } mv = true := hclamps
  rw [hone, State.applyHeld]
  simp only [hchan, htaken, hclamps', if_true]
  rw [State.raise_pulses]
  exact State.chPulse_active 9

/-- POS_RANGE_END reports a relative target that is clamped (R55). -/
theorem State.integrate_clamps (hgroup : s.ungrouped c) {mv : Move} (htakes : (s.chan c).takes) (hheld : (s.chan c).motion.held = [mv])
    (hclamps : (s.chan c).motion.clamps mv = true) : s.integrate.pulses.contains (36 * c.val + 9) = true := by
  obtain ⟨u1, u2, u3, h1, h2, h3, h4, -⟩ := State.integrate_channel hgroup
  have hstate : (u1.chan c).state = (s.chan c).state := h1.state c rfl
  have hmotion : (u1.chan c).motion = (s.chan c).motion := h1.motion c rfl
  have hpulse := State.mergeMoves_clamps (s := u1) (c := c) (mv := mv) (by rw [Channel.takes, hstate]; exact htakes)
    (by rw [hmotion]; exact hheld) (by rw [hmotion]; exact hclamps)
  have hstop := h3.onward.pulses _ ((State.mergeStops_own _).1.pulses _ (h2.onward.pulses _ hpulse))
  exact h4.onward.pulses _ ((State.integrateCh_own _).1.pulses _ hstop)

/-! ### Velocity mode -/

theorem State.engine_velocity
    (h : (∃ v, (s.chan c).motion.held = [.vel v]) ∨ ((s.chan c).motion.mode = .velocity ∧ (s.chan c).motion.held = [])) :
    (s.engine c).mode = .velocity := by
  have hmode : ((s.chan c).motion.merged (s.fb c).count).mode = .velocity := by
    rcases h with ⟨v, hheld⟩ | ⟨hmode, hheld⟩
    · rw [Motion.merged, hheld]
      rfl
    · rw [Motion.merged_none _ hheld]
      exact hmode
  unfold State.engine
  rw [Motion.follow_besideFollow]
  exact hmode

end Sys2Proof.Machine
end

section
/-! Stops in an integration step (R63 to R66, R70, R73, R88), and the statement about one step. -/

namespace Sys2Proof.Machine

variable {s t u : State} {c : Ch} {a : Asserts} {cause : StopCause}

/-! ### What waits on a channel that goes on -/

/-- The causes of a stop, by the engine and CH.LIMIT_MODE. -/
theorem State.immCause_congr (hp : t.par Pid.CH_LIMIT_MODE c.val = s.par Pid.CH_LIMIT_MODE c.val)
    (hreq : (t.chan c).motion.immReq = (s.chan c).motion.immReq) (hhits : (t.chan c).motion.hits = (s.chan c).motion.hits) :
    t.immCause c a = s.immCause c a := by
  simp only [State.immCause, hp, hreq, hhits]

theorem State.rampCause_congr (hreq : (t.chan c).motion.rampReq = (s.chan c).motion.rampReq)
    (hhits : (t.chan c).motion.hits = (s.chan c).motion.hits) : t.rampCause c a = s.rampCause c a := by
  simp only [State.rampCause, hreq, hhits]

/-- A channel that goes on, when the stops of the step are looked at. -/
structure State.Merged (s u : State) (c : Ch) : Prop where
  onward : State.Onward s.stepBegun u
  state : (u.chan c).state = .moving
  motion : (u.chan c).motion = (s.chan c).motion.merged (s.fb c).count

theorem State.Merged.causes (h : State.Merged s u c) (a : Asserts) : u.immCause c a = s.immCause c a ∧ u.rampCause c a = s.rampCause c a := by
  obtain ⟨hon, -, hmotion⟩ := h
  have hsame := (s.chan c).motion.merged_besideApply (s.fb c).count
  have hhits : (u.chan c).motion.hits = (s.chan c).motion.hits := by
    rw [hmotion]
    have e := congrArg Motion.hits hsame
    exact e
  refine ⟨State.immCause_congr (hon.par _ _) ?_ hhits, State.rampCause_congr ?_ hhits⟩
  · rw [hmotion]
    have e := congrArg Motion.immReq hsame
    exact e
  · rw [hmotion]
    have e := congrArg Motion.rampReq hsame
    exact e

/-- The turns of a channel that goes on, whatever is asked of it. -/
theorem State.integrate_merged (hgroup : s.ungrouped c) (hgo : (s.chan c).goesOn) :
    ∃ u2 u3 : State, State.Merged s u2 c ∧ State.Spares (· = c) none (u2.mergeStops c (assertsOn s.assertList c)) u3 ∧
      State.Spares (· = c) none (u3.integrateCh c (assertsOn s.assertList c)) s.integrate ∧ u3.ungrouped c := by
  obtain ⟨u1, u2, u3, h1, h2, h3, h4, hgroup3⟩ := State.integrate_channel hgroup
  have hstate : (u1.chan c).state = (s.chan c).state := h1.state c rfl
  have hmotion : (u1.chan c).motion = (s.chan c).motion := h1.motion c rfl
  have hfb : u1.fb c = s.fb c := h1.onward.fb c
  have hmoves := State.mergeMoves_chan_going (s := u1) (c := c) (by rw [Channel.goesOn, Channel.takes, hstate, hmotion]; exact hgo)
  refine ⟨u2, u3, ⟨(h1.onward.trans State.mergeMoves_own.1).trans h2.onward, ?_, ?_⟩, h3, h4, hgroup3⟩
  · rw [h2.state c rfl, hmoves]
    rfl
  · rw [h2.motion c rfl, hmoves, Channel.going, hmotion, hfb]

/-! ### No stop -/

theorem State.mergeStops_none_chan (himm : s.immCause c a = none) (hramp : s.rampCause c a = none) :
    (s.mergeStops c a).chan c = { s.chan c with motion := (s.chan c).motion.asked a.ceiling false } := by
  rw [State.mergeStops_none himm hramp, State.onMotion_chan_same]

/-! ### A ramp stop -/

/-- The engine at the beginning of a ramp stop (R64, R65). -/
def Motion.stopBegun (m : Motion) (cause : StopCause) (ceiling : Nat) : Motion :=
  { m.asked ceiling true with
    stopCause := cause, mode := .none, target := m.position, armed := none, velCmd := 0, velReported := none, stopNew := true }

theorem State.mergeStops_ramp_chan (hmoving : (s.chan c).state = .moving) (himm : s.immCause c a = none)
    (hramp : s.rampCause c a = some cause) :
    (s.mergeStops c a).chan c = { s.chan c with state := .stopping, motion := (s.chan c).motion.stopBegun cause a.ceiling } := by
  rw [State.mergeStops_ramp hmoving himm hramp, State.onChan_chan_same, State.onMotion_chan_same]
  rfl

/-- A deceleration begins by position, velocity, acceleration and carry alone. -/
theorem Motion.brake_congr {m n : Motion} (l : Limits) (fresh : Bool) (hpos : n.pos = m.pos) (hvel : n.vel = m.vel) (hacc : n.acc = m.acc)
    (hcarry : n.carry = m.carry) : (n.brake l fresh).pos = (m.brake l fresh).pos ∧ (n.brake l fresh).vel = (m.brake l fresh).vel := by
  simp only [Motion.brake, Motion.goto, Motion.kin, hpos, hvel, hacc, hcarry, and_self]

/-- The first step of a stop that has begun. -/
theorem Motion.stopBegun_advance {n : Motion} (l : Limits) (hmode : n.mode = .none) (hnew : n.stopNew = true) (count : BitVec 32) (scale : Int) :
    (n.follow count scale).advance l true =
      ({ n.brake l true with stopNew := false }, if (n.brake l true).vel = 0 then .stopped else .running) := by
  have hstays : n.follow count scale = n := if_neg (by rw [hmode]; exact nofun)
  rw [hstays, Motion.advance, if_pos rfl, hnew]

/-- An engine but for its captured limits and the report of its velocity. -/
def Motion.besideReports (m : Motion) : Motion :=
  { m with capP := false, limitPosP := 0, capN := false, limitPosN := 0, latchP := false, latchN := false, velReported := none }

theorem Motion.captured_besideReports (m : Motion) : m.captured.besideReports = m.besideReports := by
  rw [Motion.captured_frame]
  rfl

/-- A ramp stop brakes the channel in STOPPING, or is over where the speed allows it (R53, R65). -/
theorem State.ramp_stops (hgoes : s.goes c) {m : Motion} (hstate : (s.chan c).state = .stopping)
    (hmotion : (s.chan c).motion = m.stopBegun cause a.ceiling) (a' : Asserts) :
    let b := m.brake (s.limits c a') true
    let t := s.integrateCh c a'
    let n := (t.chan c).motion
    n.pos = b.pos ∧ n.vel = b.vel ∧ n.armed = none ∧ (m.held = [] → n.held = []) ∧ n.rampReq = none ∧ n.mode = .none ∧
      (b.vel ≠ 0 → (t.chan c).state = .stopping ∧ n.stopCause = cause) ∧
      (b.vel = 0 → (t.chan c).state = { s.chan c with motion := m }.rest ∧ t.pulses.contains (36 * c.val + 7) = true) := by
  intro b t n
  obtain ⟨hbpos, hbvel⟩ : ((m.stopBegun cause a.ceiling).brake (s.limits c a') true).pos = b.pos ∧
      ((m.stopBegun cause a.ceiling).brake (s.limits c a') true).vel = b.vel := Motion.brake_congr _ _ rfl rfl rfl rfl
  have hstep : s.stepOf c a' = ({ (m.stopBegun cause a.ceiling).brake (s.limits c a') true with stopNew := false },
      if b.vel = 0 then .stopped else .running) := by
    rw [State.stepOf, hmotion, hstate, ← hbvel]
    exact Motion.stopBegun_advance _ rfl rfl _ _
  obtain ⟨cause', ht⟩ := State.integrateCh_goes hgoes a'
  have hchan := State.stepped_chan (s := s) (c := c) a'
  generalize hx : ((s.stepOf c a').1.clearLatches ((s.chan c).state == .moving)).captured = x at hchan
  have hbeside : x.besideReports = { (m.stopBegun cause a.ceiling).brake (s.limits c a') true with stopNew := false }.besideReports := by
    rw [← hx, Motion.captured_besideReports, hstep]
    rfl
  have hpos : x.pos = b.pos := by
    have e := congrArg Motion.pos hbeside
    exact Eq.trans e hbpos
  have hvel : x.vel = b.vel := by
    have e := congrArg Motion.vel hbeside
    exact Eq.trans e hbvel
  have ht' : t = (s.stepped c a').finished c (s.limits c a') cause' (s.stepOf c a').2 := ht
  rw [hstep] at ht'
  by_cases hrest : b.vel = 0
  · have hend : t = (s.stepped c a').endStop c cause' := by
      rw [if_pos hrest] at ht'
      exact ht'
    obtain ⟨hstate', armed, hmotion', harmed⟩ := State.endStop_chan (s := s.stepped c a') (c := c) cause'
    have hpulse := State.endStop_pulse (s := s.stepped c a') (c := c) cause'
    rw [hchan] at hstate' hmotion' harmed
    have harmed' : armed = none := harmed (by have e := congrArg Motion.armed hbeside; exact e)
    have hn : n = { x.discard with armed := none } := by
      have e := congrArg (fun v : State => (v.chan c).motion) hend
      exact (Eq.trans e hmotion').trans (by rw [harmed'])
    have hfault : x.stopFault = m.stopFault := by have e := congrArg Motion.stopFault hbeside; exact e
    have hdisable : x.disablePending = m.disablePending := by have e := congrArg Motion.disablePending hbeside; exact e
    rw [hn, hend, hstate']
    refine ⟨hpos, hrest.symm, rfl, fun _ => rfl, rfl, rfl, fun hne => absurd hrest hne, fun _ => ⟨?_, hpulse⟩⟩
    simp only [Channel.rest, hfault, hdisable]
  · have hreport : t = (s.stepped c a').reportVelocity c (s.limits c a') := by
      rw [if_neg hrest] at ht'
      exact ht'
    obtain ⟨v, hreported⟩ := State.reportVelocity_chan (s := s.stepped c a') (c := c) (s.limits c a')
    rw [hchan] at hreported
    have hn : n = { x with velReported := v } := by
      have e := congrArg (fun v : State => (v.chan c).motion) hreport
      exact Eq.trans e (congrArg Channel.motion hreported)
    rw [hn, hreport, hreported]
    refine ⟨hpos, hvel, ?_, fun hheld => ?_, ?_, ?_, fun _ => ⟨hstate, ?_⟩, fun h => absurd h hrest⟩
    · have e := congrArg Motion.armed hbeside
      exact e
    · have e := congrArg Motion.held hbeside
      exact Eq.trans e hheld
    · have e := congrArg Motion.rampReq hbeside
      exact e
    · have e := congrArg Motion.mode hbeside
      exact e
    · have e := congrArg Motion.stopCause hbeside
      exact e

/-! ### An immediate stop -/

theorem State.halt_chan : (s.halt c).chan c = { s.chan c with motion := { (s.chan c).motion with vel := 0, acc := 0, carry := 0 } } := by
  rw [State.halt, State.orderHold_chan, State.onMotion_chan_same]

theorem maskBit_chBit (c : Ch) : maskBit (chBit c) c = true := by
  revert c
  decide

/-- HOLD is ordered while the link transmitter runs (R66). -/
theorem State.halt_hold (htx : s.link.txOn = true) : maskBit (s.halt c).link.hold c = true := by
  have hone : (s.halt c).link.hold = s.link.hold ||| chBit c := by
    unfold State.halt State.orderHold
    rw [if_pos (by exact htx)]
    rfl
  have hbit := maskBit_chBit c
  rw [hone]
  simp only [maskBit, BitVec.getLsbD_or, Bool.or_eq_true] at hbit ⊢
  exact .inr hbit

/-- An immediate stop ends motion where the channel is. -/
theorem State.mergeStops_imm_chan (hmoving : (s.chan c).state = .moving) (himm : s.immCause c a = some cause) :
    let t := s.mergeStops c a
    let n := (t.chan c).motion
    (t.chan c).state = (s.chan c).rest ∧ n.vel = 0 ∧ n.acc = 0 ∧ n.pos = (s.chan c).motion.pos ∧ n.armed = none ∧ n.immReq = none ∧
      n.capP = (s.chan c).motion.capP ∧ n.capN = (s.chan c).motion.capN ∧
      t.pulses.contains (36 * c.val + 7) = true ∧ (s.link.txOn = true → maskBit t.link.hold c = true) := by
  intro t n
  generalize hu : (s.onMotion c fun m => m.asked a.ceiling true).halt c = u
  have ht : t = u.endStop c cause := by
    rw [← hu]
    exact State.mergeStops_imm hmoving himm
  have hchan : u.chan c = { s.chan c with motion := { (s.chan c).motion.asked a.ceiling true with vel := 0, acc := 0, carry := 0 } } := by
    rw [← hu, State.halt_chan, State.onMotion_chan_same]
  obtain ⟨hstate, armed, hmotion, harmed⟩ := State.endStop_chan (s := u) (c := c) cause
  have hpulse := State.endStop_pulse (s := u) (c := c) cause
  have honward := (State.endStop_passes (s := u) (C := (· = twinOf c)) (own := none) (twinOf_ne c) cause).own_turn.1
  rw [hchan] at hstate hmotion harmed
  have hn : n = { (Motion.discard { (s.chan c).motion.asked a.ceiling true with vel := 0, acc := 0, carry := 0 }) with armed := none } := by
    have e := congrArg (fun v : State => (v.chan c).motion) ht
    exact (Eq.trans e hmotion).trans (by rw [harmed rfl])
  rw [hn, ht, hstate]
  refine ⟨rfl, rfl, rfl, rfl, rfl, rfl, rfl, rfl, hpulse, fun htx => honward.hold c ?_⟩
  rw [← hu]
  exact State.halt_hold htx

/-! ### The step of a channel that goes on -/

/-- What held commands leave of the engine. -/
theorem Motion.merged_kept (m : Motion) (count : BitVec 32) :
    let n := m.merged count
    (n.pos = m.pos ∧ n.vel = m.vel ∧ n.acc = m.acc ∧ n.carry = m.carry) ∧ n.held = [] ∧
      (n.stopFault = m.stopFault ∧ n.disablePending = m.disablePending) ∧ n.capP = m.capP ∧ n.capN = m.capN := by
  have h := m.merged_besideApply count
  refine ⟨⟨?_, ?_, ?_, ?_⟩, ?_, ⟨?_, ?_⟩, ?_, ?_⟩
  · have e := congrArg Motion.pos h
    exact e
  · have e := congrArg Motion.vel h
    exact e
  · have e := congrArg Motion.acc h
    exact e
  · have e := congrArg Motion.carry h
    exact e
  · have e := congrArg Motion.held h
    exact e
  · have e := congrArg Motion.stopFault h
    exact e
  · have e := congrArg Motion.disablePending h
    exact e
  · have e := congrArg Motion.capP h
    exact e
  · have e := congrArg Motion.capN h
    exact e

theorem Channel.rest_inMotion (k : Channel) : k.rest.inMotion = false := by
  unfold Channel.rest
  split
  · rfl
  · split <;> rfl

/-- A channel that goes on into the stops of the step comes out in motion by itself, or at rest, its limits still to be captured. -/
theorem State.Merged.stops (h : State.Merged s u c) (hmode : (s.chan c).motion.mode ≠ .interp ∨ (s.chan c).motion.held ≠ [])
    (ht : State.Spares (· = c) none (u.mergeStops c a) t) (hgroup : t.ungrouped c) :
    (t.goes c ∨ (t.chan c).state.inMotion = false) ∧ (t.chan c).motion.capP = (s.chan c).motion.capP ∧
      (t.chan c).motion.capN = (s.chan c).motion.capN := by
  obtain ⟨-, -, -, hp, hn⟩ := (s.chan c).motion.merged_kept (s.fb c).count
  have hmotion := h.motion
  rw [State.goes, ht.state c rfl, ht.motion c rfl]
  cases himm : u.immCause c a with
  | some cause =>
    obtain ⟨hstate, -, -, -, -, -, hp', hn', -⟩ := State.mergeStops_imm_chan h.state himm
    refine ⟨.inr (by rw [hstate]; exact Channel.rest_inMotion _), ?_, ?_⟩
    · rw [hp', hmotion, hp]
    · rw [hn', hmotion, hn]
  | none =>
    cases hramp : u.rampCause c a with
    | some cause =>
      rw [State.mergeStops_ramp_chan h.state himm hramp, hmotion]
      exact ⟨.inl ⟨rfl, nofun, hgroup⟩, hp, hn⟩
    | none =>
      rw [State.mergeStops_none_chan himm hramp, hmotion]
      exact ⟨.inl ⟨by rw [h.state]; rfl, Motion.merged_mode _ hmode, hgroup⟩, hp, hn⟩

/-- The limits that were to be captured have the position of this step (R70). -/
theorem State.integrate_captures (hgroup : s.ungrouped c) (hgo : (s.chan c).goesOn)
    (hmode : (s.chan c).motion.mode ≠ .interp ∨ (s.chan c).motion.held ≠ []) :
    let n := (s.integrate.chan c).motion
    ((s.chan c).motion.capP = true → n.limitPosP = n.position ∧ n.capP = false) ∧
      ((s.chan c).motion.capN = true → n.limitPosN = n.position ∧ n.capN = false) := by
  obtain ⟨u2, u3, hmerged, h3, h4, hgroup3⟩ := State.integrate_merged hgroup hgo
  obtain ⟨hgoes, hp, hn⟩ := hmerged.stops hmode h3 hgroup3
  have hcaptures := State.integrateCh_captures hgoes (assertsOn s.assertList c)
  rw [h4.motion c rfl, ← hp, ← hn]
  exact hcaptures

/-- A ramp stop prevails over what the channel would do at this step (R64, R65). -/
theorem State.integrate_ramp (hgroup : s.ungrouped c) (hgo : (s.chan c).goesOn) (himm : s.immCause c (assertsOn s.assertList c) = none)
    (hramp : s.rampCause c (assertsOn s.assertList c) = some cause) :
    let b := (s.chan c).motion.brake (s.limits c (assertsOn s.assertList c)) true
    let t := s.integrate
    let n := (t.chan c).motion
    n.pos = b.pos ∧ n.vel = b.vel ∧ n.armed = none ∧ n.held = [] ∧ n.rampReq = none ∧ n.mode = .none ∧
      (b.vel ≠ 0 → (t.chan c).state = .stopping ∧ n.stopCause = cause) ∧
      (b.vel = 0 → (t.chan c).state = (s.chan c).rest ∧ t.pulses.contains (36 * c.val + 7) = true) := by
  intro b t n
  obtain ⟨u2, u3, hmerged, h3, h4, hgroup3⟩ := State.integrate_merged hgroup hgo
  obtain ⟨himm', hramp'⟩ := hmerged.causes (assertsOn s.assertList c)
  have hstop := State.mergeStops_ramp_chan hmerged.state (himm'.trans himm) (hramp'.trans hramp)
  obtain ⟨⟨hpos, hvel, hacc, hcarry⟩, hheld, ⟨hfault, hdisable⟩, -, -⟩ := (s.chan c).motion.merged_kept (s.fb c).count
  have hlimits : u3.limits c (assertsOn s.assertList c) = s.limits c (assertsOn s.assertList c) :=
    ((hmerged.onward.trans (State.mergeStops_own _).1).trans h3.onward).limits c _
  obtain ⟨hbpos, hbvel⟩ := Motion.brake_congr (s.limits c (assertsOn s.assertList c)) true hpos hvel hacc hcarry
  have hstate3 : (u3.chan c).state = .stopping := by rw [h3.state c rfl, hstop]
  have hmotion3 : (u3.chan c).motion = ((s.chan c).motion.merged (s.fb c).count).stopBegun cause (assertsOn s.assertList c).ceiling := by
    rw [h3.motion c rfl, hstop, ← hmerged.motion]
  have hgoes : u3.goes c := ⟨by rw [hstate3]; rfl, by rw [hmotion3]; exact nofun, hgroup3⟩
  have hstops := State.ramp_stops hgoes hstate3 hmotion3 (assertsOn s.assertList c)
  rw [hlimits] at hstops
  obtain ⟨hnpos, hnvel, harmed, hnheld, hrampReq, hmode, hbrakes, hends⟩ := hstops
  have hn : n = ((u3.integrateCh c (assertsOn s.assertList c)).chan c).motion := h4.motion c rfl
  have hst : (t.chan c).state = ((u3.integrateCh c (assertsOn s.assertList c)).chan c).state := h4.state c rfl
  rw [hn, hst]
  refine ⟨hnpos.trans hbpos, hnvel.trans hbvel, harmed, hnheld hheld, hrampReq, hmode, fun hb => hbrakes (hbvel.trans_ne hb), fun hb => ?_⟩
  obtain ⟨hrest, hpulse⟩ := hends (hbvel.trans hb)
  refine ⟨hrest.trans ?_, h4.onward.pulses _ hpulse⟩
  simp only [Channel.rest, hfault, hdisable]

/-- An immediate stop prevails over a ramp stop too (R66). -/
theorem State.integrate_imm (hgroup : s.ungrouped c) (hgo : (s.chan c).goesOn)
    (himm : s.immCause c (assertsOn s.assertList c) = some cause) :
    let t := s.integrate
    let n := (t.chan c).motion
    (t.chan c).state = (s.chan c).rest ∧ n.vel = 0 ∧ n.acc = 0 ∧ n.pos = (s.chan c).motion.pos ∧ n.armed = none ∧ n.immReq = none ∧
      t.pulses.contains (36 * c.val + 7) = true ∧ (s.link.txOn = true → maskBit t.link.hold c = true) := by
  obtain ⟨u2, u3, hmerged, h3, h4, -⟩ := State.integrate_merged hgroup hgo
  obtain ⟨himm', -⟩ := hmerged.causes (assertsOn s.assertList c)
  obtain ⟨⟨hpos, -⟩, -, ⟨hfault, hdisable⟩, -⟩ := (s.chan c).motion.merged_kept (s.fb c).count
  obtain ⟨hstate, hvel, hacc, hnpos, harmed, hreq, -, -, hpulse, hhold⟩ :=
    State.mergeStops_imm_chan hmerged.state (himm'.trans himm)
  have hrest : (u3.chan c).state.inMotion = false := by rw [h3.state c rfl, hstate]; exact Channel.rest_inMotion _
  have hlast := State.integrateCh_rests hrest (assertsOn s.assertList c)
  have hst : (s.integrate.chan c).state = (u3.chan c).state := by rw [h4.state c rfl, hlast, State.captureLimits_chan]
  have hn : (s.integrate.chan c).motion.besideReports = (u3.chan c).motion.besideReports := by
    have e : (s.integrate.chan c).motion = (u3.chan c).motion.captured := (h4.motion c rfl).trans (by rw [hlast, State.captureLimits_chan])
    rw [e, Motion.captured_besideReports]
  rw [h3.motion c rfl] at hn
  have hpulse' : s.integrate.pulses.contains (36 * c.val + 7) = true :=
    h4.onward.pulses _ ((State.integrateCh_own _).1.pulses _ (h3.onward.pulses _ hpulse))
  have hhold' : s.link.txOn = true → maskBit s.integrate.link.hold c = true := fun htx => by
    have htx' : u2.link.txOn = true := by
      have e := congrArg (fun x : State => x.link.txOn) hmerged.onward.frame
      exact Eq.trans e htx
    have h3' := h3.onward.hold c (hhold htx')
    have h3'' := (State.integrateCh_own (c := c) (assertsOn s.assertList c)).1.hold c h3'
    exact h4.onward.hold c h3''
  generalize s.integrate = t at hst hn hpulse' hhold' ⊢
  intro t n
  refine ⟨?_, ?_, ?_, ?_, ?_, ?_, hpulse', hhold'⟩
  · rw [hst, h3.state c rfl, hstate]
    simp only [Channel.rest, hmerged.motion, hfault, hdisable]
  · have e := congrArg Motion.vel hn
    exact Eq.trans e hvel
  · have e := congrArg Motion.acc hn
    exact Eq.trans e hacc
  · have e := congrArg Motion.pos hn
    exact Eq.trans e (hnpos.trans (by rw [hmerged.motion]; exact hpos))
  · have e := congrArg Motion.armed hn
    exact Eq.trans e harmed
  · have e := congrArg Motion.immReq hn
    exact Eq.trans e hreq

end Sys2Proof.Machine
end

section
/-! The statement about one integration step (R48 to R66, R70, R73, R88). -/

namespace Sys2Proof.Machine

variable {s : State} {c : Ch}

theorem State.ungrouped_of_any (h : ∀ g : Fin 4, (s.groups[g].active && s.groups[g].members.any fun x => x.1 == c) = false) : s.ungrouped c :=
  fun j hactive x hx hxc => by
    have hany : (s.groups[j].members.any fun x => x.1 == c) = true := List.any_eq_true.2 ⟨x, hx, beq_iff_eq.2 hxc⟩
    have hboth := h j
    rw [hactive, hany] at hboth
    exact Bool.noConfusion hboth

/-- What a step leaves of the state beside its engines. -/
theorem State.Onward.kept {s t : State} (h : State.Onward s t) :
    t.istep = s.istep ∧ t.pd = s.pd ∧ t.otp = s.otp ∧ t.params = s.params ∧ t.fbs = s.fbs ∧ t.rules = s.rules := by
  have hframe := h.frame
  refine ⟨?_, ?_, ?_, ?_, ?_, ?_⟩
  · have e := congrArg State.istep hframe
    exact e
  · have e := congrArg State.pd hframe
    exact e
  · have e := congrArg State.otp hframe
    exact e
  · have e := congrArg State.params hframe
    exact e
  · have e := congrArg State.fbs hframe
    exact e
  · have e := congrArg State.rules hframe
    exact e

/-- A channel moves towards a captured limit, as the statement spells it. -/
theorem Motion.hits_iff (m : Motion) : m.hits = true ↔ (m.capP = true ∧ 0 < m.vel) ∨ (m.capN = true ∧ m.vel < 0) := by
  simp [Motion.hits]

theorem State.immCause_none {a : Asserts} (hreq : (s.chan c).motion.immReq = none) (himm : a.imm = false)
    (hsoft : ¬ ((s.chan c).motion.hits = true ∧ s.par Pid.CH_LIMIT_MODE c.val = 1)) : s.immCause c a = none := by
  have hlimit : ((s.chan c).motion.hits && s.par Pid.CH_LIMIT_MODE c.val == 1) = false := by
    rw [Bool.eq_false_iff]
    intro e
    rw [Bool.and_eq_true, beq_iff_eq] at e
    exact hsoft e
  simp only [State.immCause, hreq, himm, hlimit, Option.isSome_none, Bool.false_eq_true, if_false]

/-- The host or a fault comes before the matrix, and the matrix before a limit. -/
theorem State.immCause_some {a : Asserts} {cause : StopCause}
    (h : (s.chan c).motion.immReq = some cause ∨ ((s.chan c).motion.immReq = none ∧ a.imm = true ∧ cause = .reflex) ∨
      ((s.chan c).motion.immReq = none ∧ a.imm = false ∧ (s.chan c).motion.hits = true ∧ s.par Pid.CH_LIMIT_MODE c.val = 1 ∧
        cause = .limit)) : s.immCause c a = some cause := by
  rcases h with hreq | ⟨hreq, himm, rfl⟩ | ⟨hreq, himm, hhits, hmode, rfl⟩
  · simp only [State.immCause, hreq, Option.isSome_some, if_true]
  · simp only [State.immCause, hreq, himm, Option.isSome_none, Bool.false_eq_true, if_false, if_true]
  · simp only [State.immCause, hreq, himm, hhits, hmode, Option.isSome_none, Bool.false_eq_true, if_false, beq_self_eq_true, Bool.and_self,
      if_true]

theorem State.rampCause_some {a : Asserts} {cause : StopCause}
    (h : (s.chan c).motion.rampReq = some cause ∨ ((s.chan c).motion.rampReq = none ∧ a.ramp = true ∧ cause = .reflex) ∨
      ((s.chan c).motion.rampReq = none ∧ a.ramp = false ∧ (s.chan c).motion.hits = true ∧ cause = .limit)) :
    s.rampCause c a = some cause := by
  rcases h with hreq | ⟨hreq, hramp, rfl⟩ | ⟨hreq, hramp, hhits, rfl⟩
  · simp only [State.rampCause, hreq, Option.isSome_some, if_true]
  · simp only [State.rampCause, hreq, hramp, Option.isSome_none, Bool.false_eq_true, if_false, if_true]
  · simp only [State.rampCause, hreq, hramp, hhits, Option.isSome_none, Bool.false_eq_true, if_false, if_true]

theorem State.Unasked.moving_runs (h : s.Unasked c) (hgo : (s.chan c).goesOn)
    (hmode : (s.chan c).motion.mode ≠ .interp ∨ (s.chan c).motion.held ≠ []) (hfault : (s.chan c).motion.stopFault = false)
    (hdisable : (s.chan c).motion.disablePending = false) (hmoving : (s.integrate.chan c).state = .moving) :
    (s.advanced c).2 = .running := by
  cases hend : (s.advanced c).2 with
  | running => rfl
  | arrived =>
    obtain ⟨hchan, -⟩ := h.arrived hgo hmode hend
    rw [hchan] at hmoving
    exact ChState.noConfusion hmoving
  | stopped =>
    obtain ⟨hstate, -⟩ := h.stopped hgo hmode hend hfault hdisable
    rw [hstate] at hmoving
    exact ChState.noConfusion hmoving
  | rangeEnd =>
    obtain ⟨-, -, -, hstate, -⟩ := h.rangeEnd hgo hmode hend hfault hdisable
    rw [hstate] at hmoving
    split at hmoving <;> exact ChState.noConfusion hmoving

/-- Speed, change of speed and travel of a step in velocity mode without jerk (R51, R56, R60). -/
theorem State.Unasked.velocity_bounds (h : s.Unasked c) (hgo : (s.chan c).goesOn)
    (hcommand : (∃ v, (s.chan c).motion.held = [.vel v]) ∨ ((s.chan c).motion.mode = .velocity ∧ (s.chan c).motion.held = []))
    (hfault : (s.chan c).motion.stopFault = false) (hdisable : (s.chan c).motion.disablePending = false) :
    let m := (s.chan c).motion
    let n := (s.integrate.chan c).motion
    let l := s.limits c (assertsOn s.assertList c)
    l.j = 0 → 0 ≤ l.v → 0 < l.a → 0 < l.d → posMin ≤ m.pos → m.pos ≤ posMax → 0 ≤ m.carry → m.carry < 2 * stepRate →
      (s.integrate.chan c).state = .moving → m.vel ≠ 0 → n.vel ≠ 0 →
      |n.vel| ≤ max |m.vel| l.v ∧ stepRate * |n.vel - m.vel| ≤ max l.a l.d + stepRate ∧
        2 * stepRate * |n.pos - m.pos| ≤ |m.vel| + |n.vel| + 2 * stepRate := by
  intro m n l hj hv ha hd hmin hmax hcarry hcarry' hmoving hvel hvel'
  have hmode : (s.chan c).motion.mode ≠ .interp ∨ (s.chan c).motion.held ≠ [] := by
    rcases hcommand with ⟨v, hheld⟩ | ⟨hmode, -⟩
    · exact .inr (by rw [hheld]; exact List.cons_ne_nil _ _)
    · exact .inl (by rw [hmode]; exact nofun)
  have hend := h.moving_runs hgo hmode hfault hdisable hmoving
  have hchan := h.running hgo hmode hend
  have hcruise : (s.advanced c).1 = (s.engine c).cruise l (velInForce l (s.engine c).velCmd) :=
    Motion.advance_velocity (State.engine_velocity hcommand) hend
  have hengine := State.engine_besideHeld (s := s) (c := c)
  have hpos : (s.engine c).pos = m.pos := by have e := congrArg Motion.pos hengine; exact e
  have hspeed : (s.engine c).vel = m.vel := by have e := congrArg Motion.vel hengine; exact e
  have hkept : (s.engine c).carry = m.carry := by have e := congrArg Motion.carry hengine; exact e
  obtain ⟨hvelocity, hplace⟩ : (s.integrate.chan c).motion.vel = (s.advanced c).1.vel ∧
      (s.integrate.chan c).motion.pos = (s.advanced c).1.pos := by
    rw [hchan]
    exact ⟨rfl, rfl⟩
  have hnvel : n.vel = ((s.engine c).cruise l (velInForce l (s.engine c).velCmd)).vel := by
    rw [hvelocity, hcruise]
  have hnpos : n.pos = ((s.engine c).cruise l (velInForce l (s.engine c).velCmd)).pos := by
    rw [hplace, hcruise]
  have hbounds := Motion.cruise_bounds (m := s.engine c) (vt := velInForce l (s.engine c).velCmd) hj hv ha hd (hmin.trans_eq hpos.symm)
    (hpos.trans_le hmax) (hcarry.trans_eq hkept.symm) (hkept.trans_lt hcarry') (hspeed.trans_ne hvel) (by rw [← hnvel]; exact hvel')
  rw [← hnvel, ← hnpos, hspeed, hpos] at hbounds
  exact hbounds

theorem State.advanced_target (hend : (s.advanced c).2 = .arrived) (hlow : -(2 ^ 39) ≤ (s.engine c).target)
    (hhigh : (s.engine c).target < 2 ^ 39) : (s.advanced c).1.pos = (s.engine c).target * 2 ^ 24 := by
  obtain ⟨hone, hthere⟩ := Motion.advance_arrived hend
  refine (congrArg Motion.pos hone).trans (Motion.towards_arrives hthere ?_ ?_)
  · simp only [posMin, unitStep]
    omega
  · simp only [posMax, unitStep]
    omega

/-- Settles O40: a channel at rest, one that goes on, and the stops that prevail over it. -/
theorem integrationStepsAndHeldCommands : Obligations.IntegrationStepsAndHeldCommands := by
  unfold Obligations.IntegrationStepsAndHeldCommands
  refine ⟨fun s hon => ?steps, fun s c cause hon => ?stops⟩
  case steps =>
    have hexec : exec .integrationStep s = .next s.integrate := by rw [exec_integrationStep, if_pos hon]
    obtain ⟨histep, hpd, hotp, hparams, hfbs, hrules⟩ := (State.integrate_onward (s := s)).kept
    refine ⟨s.integrate, hexec, histep, hpd, hotp, hparams, hfbs, hrules, fun c => ?_⟩
    intro k m a hrampReq himmReq hp hn hdisable hfault hramp himm hgroup hpair l count aim begun merged travelled start r ends begins
    have h : s.Unasked c := ⟨State.ungrouped_of_any hgroup, hpair, ⟨hrampReq, himmReq, hp, hn⟩, hramp, himm⟩
    have hstart : s.engine c = start := State.engine_eq
    have hr : s.advanced c = r := congrArg (fun n => Motion.advance l false n) hstart
    have hgoes (hcase : begins ∨ (k.state = .moving ∧ m.mode ≠ .interp ∧ m.held = [])) :
        k.goesOn ∧ (m.mode ≠ .interp ∨ m.held ≠ []) := by
      rcases hcase with ⟨htakes, hheld⟩ | ⟨hstate, hmode, hheld⟩
      · exact ⟨.inr ⟨htakes, hheld⟩, .inr hheld⟩
      · exact ⟨.inl ⟨hstate, hheld⟩, .inl hmode⟩
    refine ⟨fun hstate hheld => h.rests hstate hheld, fun hcase => ?goes, fun x hbegins hheld hbeyond => ?clamped, fun hcase => ?velocity⟩
    case goes =>
      obtain ⟨hgo, hmode⟩ := hgoes hcase
      refine ⟨fun hend => ?_, fun hend => ?_, fun hend => ?_, fun hend => ?_⟩
      · have hruns := h.running hgo hmode (by rw [hr]; exact hend)
        rw [hr] at hruns
        exact hruns
      · obtain ⟨hends, hpulse⟩ := h.arrived hgo hmode (by rw [hr]; exact hend)
        rw [hr] at hends
        refine ⟨hends, hpulse, fun hlow hhigh => ?_⟩
        have hthere := State.advanced_target (s := s) (c := c) (by rw [hr]; exact hend) (by rw [hstart]; exact hlow)
          (by rw [hstart]; exact hhigh)
        rw [hr, hstart] at hthere
        rw [hends]
        exact hthere
      · have hstops := h.stopped hgo hmode (by rw [hr]; exact hend) hfault hdisable
        rw [hr] at hstops
        exact hstops
      · have hrange := h.rangeEnd hgo hmode (by rw [hr]; exact hend) hfault hdisable
        rw [hr] at hrange
        exact hrange
    case clamped =>
      refine State.integrate_clamps h.ungrouped hbegins.1 hheld ?_
      have hne : clampTarget (aim m x) ≠ aim m x := by
        rw [clampTarget_eq]
        omega
      simp only [Motion.clamps, beq_iff_eq]
      exact bne_iff_ne.2 hne
    case velocity =>
      have hgo : k.goesOn := by
        rcases hcase with ⟨hbegins, -⟩ | ⟨hstate, -, hheld⟩
        · exact .inr hbegins
        · exact .inl ⟨hstate, hheld⟩
      have hcommand : (∃ v, m.held = [.vel v]) ∨ (m.mode = .velocity ∧ m.held = []) :=
        hcase.imp (fun hbegins => hbegins.2) fun hgoing => hgoing.2
      exact h.velocity_bounds hgo hcommand hfault hdisable
  case stops =>
    intro k m a hits hard hcase hgroup rest
    have hexec : exec .integrationStep s = .next s.integrate := by rw [exec_integrationStep, if_pos hon]
    have hungrouped := State.ungrouped_of_any hgroup
    have hgo : k.goesOn := hcase.imp (fun h => ⟨h.1, h.2.2⟩) id
    have hmode : m.mode ≠ .interp ∨ m.held ≠ [] := hcase.imp (fun h => h.2.1) fun h => h.2
    have hhits : m.hits = true ↔ hits := m.hits_iff
    obtain ⟨hp, hn⟩ := State.integrate_captures hungrouped hgo hmode
    refine ⟨s.integrate, hexec, hp, hn, fun himmReq himm hsoft hcauses => ?_, fun hcauses => ?_⟩
    · have hnone : s.immCause c a = none := State.immCause_none himmReq himm fun h => hsoft ⟨hhits.1 h.1, h.2⟩
      have hsome : s.rampCause c a = some cause :=
        State.rampCause_some (hcauses.imp_right (Or.imp_right fun ⟨hreq, hramp, hhit, he⟩ => ⟨hreq, hramp, hhits.2 hhit, he⟩))
      exact State.integrate_ramp hungrouped hgo hnone hsome
    · have hsome : s.immCause c a = some cause :=
        State.immCause_some (hcauses.imp_right (Or.imp_right fun ⟨hreq, himm, hhit, he⟩ => ⟨hreq, himm, hhits.2 hhit, he⟩))
      exact State.integrate_imm hungrouped hgo hsome

end Sys2Proof.Machine
end

section
/-! What the delays of a standing channel and of a standing bank do to the channels (R104, R105). -/

namespace Sys2Proof.Machine

variable {s : State} {b : BankIx} {c : Ch}

/-! ### The standstill delay (R104) -/

theorem exec_standstillDelayExpiry_idle (hhw : s.hwOn = true) (h : (s.chan c).state = .idle) :
    exec (.standstillDelayExpiry c) s = .next (s.onChan c fun k =>
      { k with state := .holdReduced, policy := (s.bank (bankOf c)).policyActive, coil := { k.coil with rampDone := 0 } }) := by
  change execStandstillDelayExpiry c s = _
  simp only [execStandstillDelayExpiry, hhw, h, Bool.not_true, Bool.false_eq_true, if_false]

theorem exec_standstillDelayExpiry_holding (hhw : s.hwOn = true) (h : (s.chan c).state = .fault) (hon : (s.chan c).fetsOff = false)
    (hfull : (s.chan c).coil.reduced = false) :
    exec (.standstillDelayExpiry c) s = .next (s.onCoil c fun w => { w with reduced := true, rampDone := 0 }) := by
  change execStandstillDelayExpiry c s = _
  simp only [execStandstillDelayExpiry, hhw, h, hon, hfull, Bool.not_true, Bool.or_self, Bool.false_eq_true, if_false]

/-! ### The bank coil policy (R105) -/

/-- A channel that the bank coil policy finds: in HOLD_REDUCED it takes it. -/
def Channel.underPolicy (k : Channel) : Channel := { k with policy := k.state == .holdReduced, left := false }

/-- The bank coil policy comes into force for a bank. -/
def State.beginPolicy (s : State) (b : BankIx) : State :=
  (s.onBank b fun k => { k with policyActive := true }).forAll (bankChs b) fun c t => t.onChan c Channel.underPolicy

theorem State.allStanding_iff :
    s.allStanding b = true ↔ ∀ c, bankOf c = b → s.hasCh c = true → (s.chan c).state.stopped = true := by
  simp only [State.allStanding, State.presentChs, List.all_eq_true, List.mem_filter, mem_bankChs, and_imp, ChState.standing]

theorem exec_idleDelayExpiry_standing (hhw : s.hwOn = true) (h : s.allStanding b = true) :
    exec (.idleDelayExpiry b) s = .next (s.beginPolicy b) := by
  have hguard : (s.hwOn && s.allStanding b) = true := by rw [hhw, h, Bool.and_self]
  exact congrArg Host.Outcome.next (if_pos hguard)

/-- Channels of a list without repetitions are updated, all others stay. -/
theorem State.forAll_onChan {cs : List Ch} (hnodup : cs.Nodup) (u : Channel → Channel) (c : Ch) :
    (s.forAll cs fun d t => t.onChan d u).chan c = if c ∈ cs then u (s.chan c) else s.chan c := by
  have hother : ∀ (d : Ch) (t : State) (i : Ch), i ≠ d → (t.onChan d u).chan i = t.chan i := fun d t i h =>
    State.onChan_chan_other t d i u h
  split
  · next h =>
    exact State.forAll_unit_same (fun d t => t.chan d) (key := id) (u := fun _ => u) (fun d t => t.onChan_chan_same d u) hother
      (by rwa [List.map_id]) h
  · next h => exact State.forAll_unit_other (fun d t => t.chan d) (key := id) hother fun d hd e => h (e ▸ hd)

theorem State.beginPolicy_frame : s.beginPolicy b = { s with banks := (s.beginPolicy b).banks, chans := (s.beginPolicy b).chans } :=
  State.forAll_invariant (P := fun t => t = { s with banks := t.banks, chans := t.chans })
    (fun d _ t ht => congrArg (fun u : State => { u with chans := (t.onChan d Channel.underPolicy).chans }) ht) rfl

theorem State.beginPolicy_bank (d : BankIx) :
    (s.beginPolicy b).bank d = if d = b then { s.bank d with policyActive := true } else s.bank d := by
  rw [State.beginPolicy, State.forAll_keeps fun t => t.bank d, State.onBank_bank]
  exact fun _ _ => State.onChan_bank ..

theorem State.beginPolicy_chan : (s.beginPolicy b).chan c = if bankOf c = b then (s.chan c).underPolicy else s.chan c := by
  rw [State.beginPolicy, State.forAll_onChan (bankChs_nodup b)]
  simp only [mem_bankChs, State.onBank_chan]

end Sys2Proof.Machine
end

section
/-! The saturation count at CH.SAT_PERIODS: its report, and the check of the two coils over it (R103, R118). -/

namespace Sys2Proof.Machine

variable {s : State} {c : Ch}

/-! ### The report -/

/-- Both coils have been checked over the count, and its report is out until it is re-armed. -/
def State.satChecked (s : State) (c : Ch) : State :=
  let q := (s.chan c).coil.count
  s.onCoil c fun w =>
    { w with count := { w.count with reported := true, checked := true }
             deficit1 := deficit q.meas1 q.set1, deficit2 := deficit q.meas2 q.set2 }

/-- COIL_SAT has been reported, unless the last report is still to be re-armed. -/
def State.satReported (s : State) (c : Ch) : State :=
  if (s.chan c).coil.count.reported then s.satChecked c
  else ((s.satChecked c).chPulse c 15).raise 0x0201 c.val [BitVec.ofNat 8 ((s.satChecked c).chan c).coil.status]

theorem State.satReached_eq :
    s.satReached c =
      let q := (s.chan c).coil.count
      let t := s.satReported c
      let u := if deficit q.meas1 q.set1 then t.coilOpen c 1 else t
      if deficit q.meas2 q.set2 then u.coilOpen c 2 else u := rfl

theorem State.satReported_frame :
    (s.satReported c).chans = (s.satChecked c).chans ∧ (s.satReported c).pd = s.pd ∧ (s.satReported c).params = s.params := by
  unfold State.satReported
  split
  · exact ⟨rfl, rfl, rfl⟩
  · rw [State.raise_chans, State.raise_pd, State.raise_params, State.chPulse_chans, State.chPulse_pd, State.chPulse_params]
    exact ⟨rfl, rfl, rfl⟩

theorem State.satReported_state : ((s.satReported c).chan c).state = (s.chan c).state := by
  have hchan : (s.satReported c).chan c = (s.satChecked c).chan c := congrArg (·[c]) State.satReported_frame.1
  rw [hchan, State.satChecked, State.onCoil_chan_same]

/-- With no coil in deficit, CH.SAT_STATUS shows the saturation alone. -/
theorem Coil.status_of_no_deficit {w : Coil} (h1 : w.deficit1 = false) (h2 : w.deficit2 = false) : w.status = b2n w.sat := by
  simp [Coil.status, h1, h2, b2n]

/-! ### A coil found open -/

/-- A channel that COIL_OPEN has turned off: its cause stands, and the set-point already computed is taken back. -/
def Channel.coilOpened (k : Channel) : Prop := k.faulted ∧ k.causes.coilOpen = true ∧ k.coil.next.entry = DutyEntry.off

/-- A coil found open turns off a channel that a fault turns off (R67, R103). -/
theorem State.coilOpen_opens (h : (s.chan c).faultable) (coil : Nat) : ((s.coilOpen c coil).chan c).coilOpened := by
  have hchan : ((s.chPulse c 16).raise 0x0202 c.val [BitVec.ofNat 8 coil]).chan c = s.chan c := by
    rw [State.raise_chan, State.chPulse_chan]
  obtain ⟨hd, hp⟩ := h
  rw [← hchan] at hd hp
  obtain ⟨hfaulted, hcauses⟩ := State.faultOff_faulted hd hp fun k => { k with coilOpen := true }
  unfold State.coilOpen State.retract
  rw [State.onCoil_chan_same]
  exact ⟨hfaulted, congrArg Causes.coilOpen hcauses, rfl⟩

theorem State.coilOpen_frame (coil : Nat) : (s.coilOpen c coil).pd = s.pd ∧ (s.coilOpen c coil).params = s.params := by
  unfold State.coilOpen State.retract State.onCoil
  rw [State.onChan_pd, State.onChan_params, State.faultOff_pd, State.faultOff_params, State.raise_pd, State.raise_params,
    State.chPulse_pd, State.chPulse_params]
  exact ⟨rfl, rfl⟩

/-- One coil in deficit is enough; the other, where it is open too, finds the channel turned off. -/
theorem State.satReached_opens (hstate : (s.chan c).state.energised = true)
    (h : deficit (s.chan c).coil.count.meas1 (s.chan c).coil.count.set1 = true ∨
      deficit (s.chan c).coil.count.meas2 (s.chan c).coil.count.set2 = true) : ((s.satReached c).chan c).coilOpened := by
  have hfaultable : ((s.satReported c).chan c).faultable :=
    Channel.faultable_of_energised (by rw [State.satReported_state]; exact hstate)
  rw [State.satReached_eq]
  dsimp only
  split
  · next h2 =>
    split
    · next h1 =>
      obtain ⟨hfaulted, -⟩ := State.coilOpen_opens hfaultable 1
      exact State.coilOpen_opens hfaulted.faultable 2
    · exact State.coilOpen_opens hfaultable 2
  · next h2 =>
    rw [if_pos (h.resolve_right h2)]
    exact State.coilOpen_opens hfaultable 1

theorem State.satReached_frame : (s.satReached c).pd = s.pd ∧ (s.satReached c).params = s.params := by
  obtain ⟨-, hpd, hparams⟩ := State.satReported_frame (s := s) (c := c)
  rw [State.satReached_eq]
  dsimp only
  split <;> split <;> simp only [State.coilOpen_frame, hpd, hparams, and_self]

theorem State.satReached_no_deficit (h1 : deficit (s.chan c).coil.count.meas1 (s.chan c).coil.count.set1 = false)
    (h2 : deficit (s.chan c).coil.count.meas2 (s.chan c).coil.count.set2 = false) : s.satReached c = s.satReported c := by
  rw [State.satReached_eq]
  dsimp only
  rw [h1, h2]
  rfl

/-! ### The command -/

theorem exec_satPeriodsCount_reached (hhw : s.hwOn = true) (hrun : s.par Pid.CH_SAT_PERIODS c.val ≤ (s.chan c).coil.count.run)
    (hfirst : (s.chan c).coil.count.checked = false) : exec (.satPeriodsCount c) s = .next (s.satReached c) := by
  have hguard : (s.hwOn && decide (s.par Pid.CH_SAT_PERIODS c.val ≤ (s.chan c).coil.count.run) && !(s.chan c).coil.count.checked) = true := by
    rw [hhw, hfirst, decide_eq_true hrun]
    rfl
  exact congrArg Host.Outcome.next (if_pos hguard)

theorem exec_satPeriodsCount_below (hrun : (s.chan c).coil.count.run < s.par Pid.CH_SAT_PERIODS c.val) :
    exec (.satPeriodsCount c) s = .next s := by
  have hguard : ¬ (s.hwOn && decide (s.par Pid.CH_SAT_PERIODS c.val ≤ (s.chan c).coil.count.run) && !(s.chan c).coil.count.checked) = true := by
    rw [decide_eq_false (by omega), Bool.and_false]
    exact Bool.false_ne_true
  exact congrArg Host.Outcome.next (if_neg hguard)

end Sys2Proof.Machine
end

section
/-! The end of a full collection of Ke (R139, R367). -/

namespace Sys2Proof.Machine

variable {s : State} {c : Ch}

/-- The collection of Ke begins anew. -/
def State.keAnew (s : State) (c : Ch) : State := s.onEst c fun e => { e with keSeen := 0, keGood := 0, keSum := 0 }

/-- Ke of what has been collected, at most the upper end of CH.MOTOR_KE's range (assumption 76). -/
def Estim.keMean (e : Estim) : Int := min 1000000 (divNear e.keSum (1000 * (max 1 e.keGood : Nat)))

theorem exec_keLearnUpdate_full (hfw : s.fwOn = true) (hlearn : s.parB Pid.CH_KE_LEARN c.val = true) (hfull : s.keFull c = true) :
    exec (.keLearnUpdate c) s = .next
      (if 9 * (s.chan c).est.keSeen ≤ 10 * (s.chan c).est.keGood then
        (s.keAnew c).ownWrite Pid.CH_MOTOR_KE c.val (s.chan c).est.keMean
      else s.keAnew c) := by
  have hguard : (s.fwOn && s.parB Pid.CH_KE_LEARN c.val && s.keFull c) = true := by
    rw [hfw, hlearn, hfull]
    rfl
  exact congrArg Host.Outcome.next (if_pos hguard)

/-- The firmware's own write, in a unit that has had none in this fabric cycle. -/
theorem State.ownWrite_free {id inst : Nat} (h : s.freeUnit id inst) (v : Int) :
    s.ownWrite id inst v = (s.setPar id inst v).noteWrite (unitOf id inst) :=
  if_neg (by rw [h]; exact Bool.false_ne_true)

/-- In a unit that has had one, it waits for a later fabric cycle. -/
theorem State.ownWrite_busy {id inst : Nat} (h : ¬ s.freeUnit id inst) (v : Int) :
    s.ownWrite id inst v = { s with mbx := { s.mbx with later := s.mbx.later ++ [(id, inst, v)] } } :=
  if_pos (by rwa [State.freeUnit, Bool.not_eq_false] at h)

end Sys2Proof.Machine
end

section
/-! The statement about standstill, the saturation count and Ke learning (R103 to R105, R118, R139). -/

namespace Sys2Proof.Machine

/-- Settles O41: the two delays, the saturation count by its deficits, the collection by its share of qualified set-points. -/
theorem standstillIdleSaturationAndKe : Obligations.StandstillIdleSaturationAndKe := by
  refine ⟨fun s hhw => ⟨fun c => ⟨exec_standstillDelayExpiry_idle hhw, exec_standstillDelayExpiry_holding hhw⟩, fun b hstanding => ?idle⟩,
    fun s c => ⟨fun hhw hrun hfirst h1 h2 => ?whole, fun hhw hrun hfirst hdeficit hstate => ?opens,
      fun _ => exec_satPeriodsCount_below, fun hfw hlearn hfull hgood => ?learns, fun hfw hlearn hfull hbad => ?drops⟩⟩
  case idle =>
    refine ⟨s.beginPolicy b, exec_idleDelayExpiry_standing hhw (State.allStanding_iff.2 hstanding), State.beginPolicy_frame, ?_,
      fun d hd => ?_, fun c => State.beginPolicy_chan⟩
    · rw [State.beginPolicy_bank, if_pos rfl]
    · rw [State.beginPolicy_bank, if_neg hd]
  case whole =>
    have hseen : s.satChecked c = s.onCoil c fun w =>
        { w with count := { w.count with reported := true, checked := true }, deficit1 := false, deficit2 := false } := by
      simp only [State.satChecked, h1, h2]
    have hstatus : ((s.satChecked c).chan c).coil.status = b2n (s.chan c).coil.sat := by
      rw [hseen, State.onCoil_chan_same]
      exact Coil.status_of_no_deficit rfl rfl
    rw [exec_satPeriodsCount_reached hhw hrun hfirst, State.satReached_no_deficit h1 h2, State.satReported, hstatus, hseen]
  case opens =>
    obtain ⟨hfaulted, hcause, hoff⟩ := State.satReached_opens hstate hdeficit
    exact ⟨s.satReached c, exec_satPeriodsCount_reached hhw hrun hfirst, hfaulted, hcause, hoff, State.satReached_frame⟩
  case learns =>
    have hends := (exec_keLearnUpdate_full hfw hlearn hfull).trans (congrArg Host.Outcome.next (if_pos hgood))
    refine ⟨fun hfree => ?_, fun hbusy => ?_⟩
    · rw [hends, State.ownWrite_free (s := s.keAnew c) hfree]
      rfl
    · rw [hends, State.ownWrite_busy (s := s.keAnew c) hbusy]
      rfl
  case drops =>
    rw [exec_keLearnUpdate_full hfw hlearn hfull, if_neg (Nat.not_le.2 hbad)]
    rfl

end Sys2Proof.Machine
end

section
/-! The statement about catches and rejoins (R115, R116, R430, R431). An ENABLE that is a rejoin puts its channel into ROLLCALL at once and
sends the write that powers its gate-drive slice; until the echo of that write the channel takes nothing up. The statement leaves this
wait out. -/

namespace Sys2Proof.Machine

variable {s : State} {c : Ch}

/-- Nothing is taken up before the slice of the channel is powered (R431). -/
theorem exec_rejoinTakeUp_preparing (h : s.preparing c = true) : exec (.rejoinTakeUp c) s = .next s := by
  refine congrArg Host.Outcome.next (if_neg ?_)
  rw [h, Bool.not_true, Bool.and_false]
  exact Bool.false_ne_true

/-- A runtime in which channels 0 and 12 are a pair. -/
def pairUp : State :=
  (({ State.reset with phase := .runtime, link := { Link.init with txOn := true, answers := true } } : State).setPar
    Pid.CH_TWIN 0 1).setPar Pid.CH_TWIN 12 1

/-- The ENABLE of channel 0 beside its partner in IDLE, just accepted: a rejoin (R115). -/
def rejoinAccepted : State := (pairUp.onChan 12 fun k => { k with state := .idle, fetsOff := false }).enableOne [0] 0

/-- The rejoining channel waits with its FETs off for its slice to be powered. -/
theorem rejoinAccepted_preparing :
    rejoinAccepted.fwOn = true ∧ (rejoinAccepted.chan 0).state = .rollcall ∧ (rejoinAccepted.chan 0).rejoin = .loading ∧
      (rejoinAccepted.chan 0).fetsOff = true ∧ rejoinAccepted.preparing 0 = true := by
  decide +kernel

/-- Refutes O43: a channel that rejoins is said to have its FETs on after the take-up; one whose slice is still being prepared keeps them
off. -/
theorem not_catchesAndTwinRejoins : ¬ Obligations.CatchesAndTwinRejoins := by
  unfold Obligations.CatchesAndTwinRejoins
  rintro ⟨-, hrejoins⟩
  obtain ⟨hfw, hstate, hloading, hoff, hpreparing⟩ := rejoinAccepted_preparing
  obtain ⟨htake, -⟩ := hrejoins rejoinAccepted 0
  obtain ⟨t, hexec, -, -, hon, -⟩ := htake hfw hstate hloading
  have ht : t = rejoinAccepted := Host.Outcome.next.inj (hexec.symm.trans (exec_rejoinTakeUp_preparing hpreparing))
  rw [ht, hoff] at hon
  exact Bool.true_eq_false_eq_False hon

end Sys2Proof.Machine
end

section
/-! The statement about stalls and following errors (R113, R126 to R128). A twin that a stall turns off beside a partner that holds in FAULT
leaves the actuator to it: the twin supervisor sets SOLO there. The statement keeps a partner that is not energised as it is. -/

namespace Sys2Proof.Machine

variable {s : State} {c d : Ch}

theorem State.pairEnergised_beside_fault (h : (s.chan (twinOf c)).state = .fault) : s.pairEnergised c = false := by
  simp only [State.pairEnergised, State.energised, h, ChState.energised, Bool.and_false]

/-- A twin that holds in FAULT carries the actuator alone once its partner's FETs turn off (R113). -/
theorem State.partnerOff_solo_holding (n : Nat) (hpaired : s.paired c = true) (hfault : (s.chan (twinOf c)).state = .fault)
    (hholds : (s.chan (twinOf c)).fetsOff = false) : ((s.partnerOff c n).chan (twinOf c)).solo = true := by
  have hcarries : ((s.chan (twinOf c)).state.energised || ((s.chan (twinOf c)).state == .fault && !(s.chan (twinOf c)).fetsOff)) = true := by
    rw [hfault, hholds]
    rfl
  unfold State.partnerOff
  dsimp only
  rw [hpaired, hcarries]
  cases hsolo : (s.chan (twinOf c)).solo with
  | false =>
    rw [if_pos (by decide), State.raise_chan, State.onChan_recompute_chan]
  | true =>
    rw [if_neg (by decide), if_pos (by decide), State.onChan_recompute_chan]
    exact hsolo

theorem State.jamOff_chan_other (set : Causes → Causes) (h : d ≠ c) : (s.jamOff c set).chan d = s.chan d := by
  rw [State.jamOff, State.retract, State.onCoil, State.onChan_chan_other _ _ _ _ h, State.onChan_chan_other _ _ _ _ h, State.leaveGroup_chan]

theorem State.jamOff_paired (set : Causes → Causes) : (s.jamOff c set).paired d = s.paired d := by
  simp [State.jamOff, State.retract, State.onCoil, State.paired, State.isTwin, State.parB]

/-- OFF on a twin beside a partner that holds in FAULT (R113, R126, R127). -/
theorem State.jamAct_off_solo (set : Bool → Causes → Causes) (hpaired : s.paired c = true) (hfault : (s.chan (twinOf c)).state = .fault)
    (hholds : (s.chan (twinOf c)).fetsOff = false) : ((s.jamAct c 2 set).chan (twinOf c)).solo = true := by
  have hother : (s.jamOff c (set true)).chan (twinOf c) = s.chan (twinOf c) := State.jamOff_chan_other _ (twinOf_ne c).symm
  have hact : s.jamAct c 2 set = (s.jamOff c (set true)).partnerOff c 1 :=
    if_neg (by rw [State.pairEnergised_beside_fault hfault]; exact Bool.false_ne_true)
  rw [hact]
  exact State.partnerOff_solo_holding 1 ((State.jamOff_paired _).trans hpaired) (by rw [hother, hfault]) (by rw [hother, hholds])

/-- A stall as it is reported where no following error stands beside it (R124, R126). -/
def State.stallReported (s : State) (c : Ch) : State :=
  let k := s.chan c
  let crit := b2n (s.stallCounts c).1 + 2 * b2n (s.stallCounts c).2
  ((s.onEst c fun e => { e with angleCount := 0, emfCount := 0, joint := false }).chPulse c 10).raise 0x0301 c.val
    ([BitVec.ofNat 8 crit, BitVec.ofNat 8 (s.parN Pid.CH_STALL_ACTION c.val)] ++ leInt 2 k.est.loadAngle ++ leBytes 2 k.est.emf ++
      [0, 0] ++ posField k.motion.position)

theorem State.stallReported_chan_other (h : d ≠ c) : (s.stallReported c).chan d = s.chan d := by
  rw [State.stallReported, State.raise_chan, State.chPulse_chan, State.onEst, State.onChan_chan_other _ _ _ _ h]

theorem State.stallReported_paired : (s.stallReported c).paired d = s.paired d := by
  simp [State.stallReported, State.paired, State.isTwin, State.parB]

/-- A stall that is neither latched nor beside a following error acts by its own action (R126). -/
theorem exec_stall_alone (hhw : s.hwOn = true) (hvalid : (s.chan c).est.valid = true)
    (hcount : ((s.stallCounts c).1 || (s.stallCounts c).2) = true) (hjoint : (s.chan c).est.joint = false)
    (hnew : (s.chan c).causes.stalled = false) (hfollows : s.feReached c = false) :
    exec (.stall c) s = .next ((s.stallReported c).jamAct c (s.parN Pid.CH_STALL_ACTION c.val) stallCause) := by
  have hflag : s.flagStall c = (s.stallReported c).jamAct c (s.parN Pid.CH_STALL_ACTION c.val) stallCause := by
    simp only [State.flagStall, State.stallReported, hjoint, hnew, hfollows, Bool.false_and, Bool.false_eq_true, if_false]
  rw [← hflag]
  exact congrArg Host.Outcome.next (if_pos (by rw [hhw, hvalid, hcount]; rfl))

/-- Channel 0 in motion, stalled under action OFF, beside its partner that holds in FAULT: the pair has ended a ramp stop of a fault, and
channel 0 alone has had its CLEAR_FAULT and moves again (R82, R85). -/
def stalledBesideHolding : State :=
  ((pairUp.setPar Pid.CH_STALL_ACTION 0 2).onChan 12 fun k => { k with state := .fault, fetsOff := false }).onChan 0 fun k =>
    { k with state := .moving, fetsOff := false, est := { k.est with valid := true, angleCount := 262144 } }

theorem stalledBesideHolding_stalls :
    stalledBesideHolding.hwOn = true ∧ (stalledBesideHolding.chan 0).est.valid = true ∧ (stalledBesideHolding.stallCounts 0).1 = true ∧
      (stalledBesideHolding.chan 0).state.energised = true ∧ (stalledBesideHolding.chan 0).est.joint = false ∧
      (stalledBesideHolding.chan 0).causes.stalled = false ∧ stalledBesideHolding.feReached 0 = false ∧
      stalledBesideHolding.parN Pid.CH_STALL_ACTION (0 : Ch).val = 2 := by
  decide +kernel

theorem stalledBesideHolding_partner :
    stalledBesideHolding.paired 0 = true ∧ (stalledBesideHolding.chan (twinOf 0)).state = .fault ∧
      (stalledBesideHolding.chan (twinOf 0)).fetsOff = false ∧ (stalledBesideHolding.chan (twinOf 0)).solo = false := by
  decide +kernel

/-- Its stall sets SOLO on the partner. -/
theorem stalledBesideHolding_sets_solo :
    ∃ t : State, exec (.stall 0) stalledBesideHolding = .next t ∧ (t.chan (twinOf 0)).solo = true := by
  obtain ⟨hhw, hvalid, hcount, -, hjoint, hnew, hfollows, haction⟩ := stalledBesideHolding_stalls
  obtain ⟨hpaired, hfault, hholds, -⟩ := stalledBesideHolding_partner
  have hother := State.stallReported_chan_other (s := stalledBesideHolding) (twinOf_ne 0).symm
  refine ⟨_, exec_stall_alone hhw hvalid (by rw [hcount, Bool.true_or]) hjoint hnew hfollows, ?_⟩
  rw [haction]
  exact State.jamAct_off_solo _ (State.stallReported_paired.trans hpaired) (by rw [hother, hfault]) (by rw [hother, hholds])

/-- Refutes O44: action OFF on a twin whose pair is not energised is said to change no other channel; a partner that holds in FAULT gets
SOLO. -/
theorem not_stallsAndFollowingErrorsAct : ¬ Obligations.StallsAndFollowingErrorsAct := by
  unfold Obligations.StallsAndFollowingErrorsAct
  rintro ⟨hstalls, -⟩
  obtain ⟨hhw, hvalid, hcount, henergised, hjoint, hnew, hfollows, haction⟩ := stalledBesideHolding_stalls
  obtain ⟨-, hfault, -, hsolo⟩ := stalledBesideHolding_partner
  obtain ⟨-, -, -, -, hoff, -⟩ := hstalls stalledBesideHolding 0 hhw hvalid (.inl hcount) henergised
  obtain ⟨t, hexec, -, hothers, -⟩ := hoff hjoint hnew (.inl (by simp only [hfollows, Bool.false_and])) haction
  obtain ⟨u, hexec', hsolo'⟩ := stalledBesideHolding_sets_solo
  have ht : t = u := Host.Outcome.next.inj (hexec.symm.trans hexec')
  rw [← ht, hothers _ (twinOf_ne 0).symm (.inl (State.pairEnergised_beside_fault hfault)), hsolo] at hsolo'
  exact absurd hsolo' Bool.false_ne_true

end Sys2Proof.Machine
end

section
/-! Shorts, gate faults, the two steps of a turn-off, safe inputs and temperature on the power die (R145, R151 to R158, R168 to R173). -/

namespace Sys2Proof.Machine

variable {s : State} {c : Ch}

/-! ### The turn-off of one channel (R151, R156, R157) -/

section
variable {k : PdChan}

theorem PdChan.commandedOn_iff : k.commandedOn = true ↔ (k.entry.gateEn = true ∧ k.turnOff = .none) ∨ k.turnOff = .plateau := by
  simp only [PdChan.commandedOn, PdChan.switching, Bool.or_eq_true, Bool.and_eq_true, beq_iff_eq]

theorem PdChan.startOff_eq (k : PdChan) :
    k.startOff =
      { k with parkHold := false
               turnOff := if k.turnOff = .none then (if k.entry.gateEn then .plateau else .off) else k.turnOff } := by
  unfold PdChan.startOff
  cases k.turnOff <;> rfl

/-- Behind FETs that are commanded on stands the plateau (R156). -/
theorem PdChan.startOff_of_commandedOn (h : k.commandedOn = true) : k.startOff = k.forceOff := by
  rw [PdChan.startOff_eq]
  rcases PdChan.commandedOn_iff.1 h with ⟨hgate, hnone⟩ | hplateau
  · rw [if_pos hnone, if_pos hgate]
    rfl
  · rw [hplateau, if_neg (by decide)]
    rfl

/-- A short turns a channel off in two steps also where GATE_EN = 0 has just loaded (R173). -/
theorem PdChan.shortOff_eq (h : k.commandedOn = true ∨ k.turnOff = .none) :
    (if k.turnOff == .none && !k.entry.gateEn then k.forceOff else k.startOff) = k.forceOff := by
  split
  · rfl
  · next hgates =>
    refine PdChan.startOff_of_commandedOn (h.elim id fun hnone => PdChan.commandedOn_iff.2 (.inl ⟨?_, hnone⟩))
    simpa [hnone] using hgates

theorem PdChan.fullOff_turnOff (k : PdChan) (fc : Nat) : (k.fullOff fc).turnOff ≠ .plateau := by
  unfold PdChan.fullOff
  split
  · exact TurnOff.noConfusion
  · next h => exact fun e => h (beq_iff_eq.2 e)
end

/-- An update is known by what it makes of the channel that it finds. -/
theorem State.onPdChan_congr {f g : PdChan → PdChan} (h : f (s.pdChan c) = g (s.pdChan c)) : s.onPdChan c f = s.onPdChan c g :=
  congrArg (fun k => ({ s with pd := { s.pd with chans := s.pd.chans.set c k } } : State)) h

/-! ### Trips (R145, R155 to R157, R172, R173) -/

/-- The channel behind a short of a half-bridge (R155, R158). -/
def PdChan.shorted (k : PdChan) (hb : Fin 4) (instant : Bool) : PdChan :=
  { k with parkHold := false, turnOff := .plateau, sc := k.sc ||| BitVec.ofNat 4 (2 ^ hb.val), inst := k.inst || instant }

theorem State.shortTrip_eq (h : (s.pdChan c).commandedOn = true ∨ (s.pdChan c).turnOff = .none) (hb : Fin 4) (instant : Bool) :
    s.shortTrip c hb instant = s.onPdChan c fun k => k.shorted hb instant := by
  refine State.onPdChan_congr ?_
  simp only [PdChan.shortOff_eq h]
  rfl

/-- A short is seen of a FET that is commanded on, or was until this cycle (R151, R173). -/
theorem exec_shortTrip (hb : Fin 4) (instant : Bool) :
    exec (.shortTrip c hb instant) s =
      .next (if s.drives c = true ∧ ((s.pdChan c).commandedOn = true ∨ (s.pdChan c).offFc = some s.fc) then s.shortTrip c hb instant
        else s) := by
  simp only [exec, execShortTrip, Bool.and_eq_true, Bool.or_eq_true, beq_iff_eq]

theorem State.gateChecked_iff :
    s.gateChecked c = true ↔
      s.drives c = true ∧ ((s.pdChan c).commandedOn = true ∨ ∃ f, (s.pdChan c).checkFc = some f ∧ s.fc ≤ f + 480) := by
  simp only [State.gateChecked, Bool.and_eq_true, Bool.or_eq_true, Option.any_eq_true, decide_eq_true_eq]

theorem exec_gateFault_due (h : s.gateChecked c = true) :
    exec (.gateFault c) s = .next (s.onPdChan c fun k => { k with parkHold := false, gate := true, turnOff := .plateau }) :=
  congrArg Host.Outcome.next (if_pos h)

theorem exec_gateFault_undue (h : ¬s.gateChecked c = true) : exec (.gateFault c) s = .next s :=
  congrArg Host.Outcome.next (if_neg h)

/-! ### The ends of the plateau and of the park hold (R156, R170) -/

theorem exec_softoffPlateauEnd_plateau (h : (s.pdChan c).turnOff = .plateau) :
    exec (.softoffPlateauEnd c) s = .next (s.onPdChan c fun k => { k with turnOff := .off, checkFc := some s.fc }) := by
  have hends : s.onPdChan c (fun k => k.fullOff s.fc) = s.onPdChan c fun k => { k with turnOff := .off, checkFc := some s.fc } :=
    State.onPdChan_congr (if_pos (beq_iff_eq.2 h))
  rw [← hends]
  exact congrArg Host.Outcome.next (if_pos (beq_iff_eq.2 h))

theorem exec_softoffPlateauEnd_other (h : (s.pdChan c).turnOff ≠ .plateau) : exec (.softoffPlateauEnd c) s = .next s :=
  congrArg Host.Outcome.next (if_neg fun e => h (beq_iff_eq.1 e))

theorem exec_parkHoldEnd :
    exec (.parkHoldEnd c) s =
      .next (if s.pdOn = true ∧ (s.pdChan c).parkHold = true then s.onPdChan c PdChan.startOff else s) := by
  simp only [exec, execParkHoldEnd, Bool.and_eq_true]

/-! ### Park by a safe input or by temperature (R168 to R171) -/

theorem State.pdPark_pdBank (m : BitVec 24) (b : BankIx) : (s.pdPark m).pdBank b = s.pdBank b := by
  have h := congrArg (fun t : State => t.pdBank b) (s.pdPark_besidePdChans m)
  exact h

theorem maskBit_bankMask (b : BankIx) (c : Ch) : maskBit (bankMask b) c = true ↔ bankOf c = b := by
  rw [bankMask, maskBit_maskWhere, beq_iff_eq]

/-- The duty words stay (R170). -/
theorem State.pdPark_entry (m : BitVec 24) : ((s.pdPark m).pdChan c).entry = (s.pdChan c).entry := by
  rw [State.pdPark_pdChan]
  split
  · exact PdChan.enterPark_entry ..
  · rfl

theorem State.pdPark_park (hpd : s.pdOn = true) (hunits : s.pd.units = true) {m : BitVec 24} (hm : maskBit m c = true)
    (hhas : s.hasCh c = true) : ((s.pdPark m).pdChan c).park = true := by
  rw [State.pdPark_pdChan, if_pos ⟨hm, hhas, hpd, hunits⟩]
  exact PdChan.enterPark_park ..

theorem State.pdPark_other {m : BitVec 24} (h : ¬maskBit m c = true ∨ s.hasCh c = false) : (s.pdPark m).pdChan c = s.pdChan c := by
  rw [State.pdPark_pdChan, if_neg]
  rintro ⟨hm, hhas, -⟩
  rcases h with hout | hno
  · exact hout hm
  · exact Bool.false_ne_true (hno.symm.trans hhas)

/-- A safe input while the park logic is on (R168, R169). -/
theorem exec_safeInputAsserted_parks (b : BankIx) (hpd : s.pdOn = true) (hunits : s.pd.units = true) :
    ∃ t : State, exec (.safeInputAsserted b) s = .next t ∧
      t = { s with pd := { s.pd with chans := t.pd.chans, banks := t.pd.banks } } ∧
      t.pdBank b = { s.pdBank b with safe := true } ∧ (∀ d, d ≠ b → t.pdBank d = s.pdBank d) ∧
      (∀ c, bankOf c = b → s.hasCh c = true → (t.pdChan c).park = true ∧ (t.pdChan c).entry = (s.pdChan c).entry) ∧
      (∀ c, (bankOf c ≠ b ∨ s.hasCh c = false) → t.pdChan c = s.pdChan c) := by
  let u := s.onPdBank b fun k => { k with safe := true }
  have hsafe : u.pdBank b = { s.pdBank b with safe := true } := State.onPdBank_pdBank_same ..
  refine ⟨u.pdPark (bankMask b), rfl, ?_, ?_, fun d hd => ?_, fun c hc hhas => ⟨?_, ?_⟩, fun c hc => ?_⟩
  · apply State.eq_of_besidePdUnits
    have hpark := congrArg State.besidePdUnits (State.pdPark_besidePdChans (s := u) (bankMask b))
    exact hpark
  · exact (State.pdPark_pdBank ..).trans hsafe
  · exact (State.pdPark_pdBank ..).trans (State.onPdBank_pdBank_other _ _ _ _ hd)
  · exact State.pdPark_park (s := u) hpd hunits ((maskBit_bankMask b c).2 hc) hhas
  · exact State.pdPark_entry ..
  · exact State.pdPark_other (s := u) (hc.imp_left (mt (maskBit_bankMask b c).1))

theorem exec_safeInputAsserted_off (b : BankIx) (h : ¬(s.pdOn = true ∧ s.pd.units = true)) :
    exec (.safeInputAsserted b) s = .next (s.onPdBank b fun k => { k with safe := true }) :=
  congrArg Host.Outcome.next (State.pdPark_off (s := s.onPdBank b fun k => { k with safe := true }) h _)

/-- 170 degrees while the park logic is on (R168, R171). -/
theorem exec_overTemperature_parks {temp : BitVec 16} (htemp : 1360 ≤ temp.toInt) (hpd : s.pdOn = true) (hunits : s.pd.units = true) :
    ∃ t : State, exec (.overTemperature temp) s = .next t ∧ t = { s with pd := { s.pd with chans := t.pd.chans, ot := true } } ∧
      ∀ c : Ch, (s.hasCh c = true → (t.pdChan c).park = true) ∧ (s.hasCh c = false → t.pdChan c = s.pdChan c) ∧
        (t.pdChan c).entry = (s.pdChan c).entry := by
  let u : State := { s with pd := { s.pd with ot := true } }
  refine ⟨u.pdPark allMask, congrArg Host.Outcome.next (if_pos ?_), ?_, fun c => ⟨fun hhas => ?_, fun hno => ?_, ?_⟩⟩
  · simp only [hpd, htemp, decide_true, Bool.and_self]
  · have hpark := congrArg (fun t : State => ({ t with pd := { t.pd with chans := (u.pdPark allMask).pd.chans } } : State))
      (State.pdPark_besidePdChans (s := u) allMask)
    exact hpark
  · exact State.pdPark_park (s := u) hpd hunits (maskBit_allMask c) hhas
  · exact State.pdPark_other (s := u) (.inr hno)
  · exact State.pdPark_entry (s := u) allMask

theorem exec_otClear_below {temp : BitVec 16} (htemp : temp.toInt < 1200) (hpd : s.pdOn = true) :
    exec (.otClear temp) s = .next { s with pd := { s.pd with ot := false } } :=
  congrArg Host.Outcome.next (if_pos (by simp only [hpd, htemp, decide_true, Bool.and_self]))

/-- Settles O45: trips by what the power die commands, the two ends of a turn-off, and park by its causes. -/
theorem shortGateAndParkTurnOff : Obligations.ShortGateAndParkTurnOff := by
  unfold Obligations.ShortGateAndParkTurnOff
  refine ⟨fun s c hb instant => ?_, fun s c => ?_, fun s => ?_⟩
  case refine_1 =>
    refine ⟨fun hdrives hon => ?_, fun hdrives hoff hnone => ?_, fun h => ?_, fun hdrives hdue => ?_, fun h => ?_⟩
    · rw [exec_shortTrip, if_pos ⟨hdrives, .inl hon⟩, State.shortTrip_eq (.inl hon)]
      rfl
    · rw [exec_shortTrip, if_pos ⟨hdrives, .inr hoff⟩, State.shortTrip_eq (.inr hnone)]
      rfl
    · rw [exec_shortTrip, if_neg (by simpa only [not_and_or, not_or, Bool.not_eq_true] using h)]
    · exact exec_gateFault_due (State.gateChecked_iff.2 ⟨hdrives, hdue⟩)
    · refine exec_gateFault_undue (mt State.gateChecked_iff.1 ?_)
      rintro ⟨hdrives, hdue⟩
      rcases h with hundriven | ⟨hoff, hpast⟩
      · exact Bool.false_ne_true (hundriven.symm.trans hdrives)
      · rcases hdue with hon | ⟨f, hf, hdue⟩
        · exact Bool.false_ne_true (hoff.symm.trans hon)
        · exact absurd (hpast f hf) (Nat.not_lt.2 hdue)
  case refine_2 =>
    refine ⟨exec_softoffPlateauEnd_plateau, exec_softoffPlateauEnd_other, fun hpd hhold => ?_, fun h => ?_⟩
    · rw [exec_parkHoldEnd, if_pos ⟨hpd, hhold⟩, funext PdChan.startOff_eq]
    · rw [exec_parkHoldEnd, if_neg (by simpa only [not_and_or, Bool.not_eq_true] using h)]
  case refine_3 =>
    refine ⟨fun b => ⟨fun hparks => ?_, fun h => ?_, rfl⟩, fun temp => ⟨fun htemp hparks => ?_, exec_otClear_below⟩⟩
    · exact exec_safeInputAsserted_parks b hparks.1 hparks.2
    · exact exec_safeInputAsserted_off b (by simpa only [not_and_or, Bool.not_eq_true] using h)
    · exact exec_overTemperature_parks htemp hparks.1 hparks.2

end Sys2Proof.Machine
end

section
/-! The supply monitor of a bank and its chopper (R162 to R166, R177, R417, R430). -/

namespace Sys2Proof.Machine

variable {s : State} {b : BankIx} {c : Ch} {vm : BitVec 16}

/-! ### The turn-off of a bank (R165, R166) -/

/-- The FETs of a channel are read from the channel and from what no turn-off changes. -/
theorem State.fetsOn_congr {t : State} (h : t.besidePdChans = s.besidePdChans) (hc : t.pdChan c = s.pdChan c) :
    t.fetsOn c = s.fetsOn c := by
  have hsupply := congrArg (fun x : State => x.pdOn && (s.pdChan c).slice && (x.pdBank (bankOf c)).pump && x.vmPresent (bankOf c)) h
  unfold State.fetsOn State.drives
  rw [hc]
  exact congrArg (· && (s.pdChan c).commandedOn) hsupply

/-- One channel's turn in the turn-off of its bank. -/
def State.offByBank (s : State) (c : Ch) (uv : Bool) : State :=
  if s.fetsOn c then s.onPdChan c fun k => { k.startOff with bankOff := true, bankUv := uv } else s

theorem State.bankTurnOff_eq (b : BankIx) (uv : Bool) : s.bankTurnOff b uv = s.forAll (bankChs b) fun c t => t.offByBank c uv := rfl

theorem State.offByBank_besidePdChans (c : Ch) (uv : Bool) : (s.offByBank c uv).besidePdChans = s.besidePdChans := by
  unfold State.offByBank
  split <;> rfl

theorem State.offByBank_pdChan_other {d : Ch} (h : d ≠ c) (uv : Bool) : (s.offByBank c uv).pdChan d = s.pdChan d := by
  unfold State.offByBank
  split
  · exact State.onPdChan_pdChan_other _ _ _ _ h
  · rfl

theorem State.fetsOn_commandedOn (h : s.fetsOn c = true) : (s.pdChan c).commandedOn = true := (Bool.and_eq_true_iff.1 h).2

theorem State.offByBank_pdChan_same (uv : Bool) :
    (s.offByBank c uv).pdChan c =
      if s.fetsOn c = true then { (s.pdChan c).forceOff with bankOff := true, bankUv := uv } else s.pdChan c := by
  unfold State.offByBank
  split
  · next hon => rw [State.onPdChan_pdChan_same, PdChan.startOff_of_commandedOn (State.fetsOn_commandedOn hon)]
  · rfl

/-- A channel of the bank whose FETs are on turns off and latches it (R165, R166). -/
theorem State.bankTurnOff_pdChan (uv : Bool) :
    (s.bankTurnOff b uv).pdChan c =
      if bankOf c = b ∧ s.fetsOn c = true then { (s.pdChan c).forceOff with bankOff := true, bankUv := uv } else s.pdChan c := by
  by_cases hc : bankOf c = b
  · rw [State.bankTurnOff_eq]
    simp only [hc, true_and]
    refine State.forAll_turn
      (before := fun t => t.besidePdChans = s.besidePdChans ∧ t.pdChan c = s.pdChan c) (after := fun t => t.pdChan c = _)
      (mem_bankChs.2 hc) (bankChs_nodup b) ?_ ?_ ?_ ⟨rfl, rfl⟩
    · rintro d - hne t ⟨hrest, hchan⟩
      exact ⟨(State.offByBank_besidePdChans d uv).trans hrest, (State.offByBank_pdChan_other hne.symm uv).trans hchan⟩
    · rintro t ⟨hrest, hchan⟩
      rw [State.offByBank_pdChan_same, State.fetsOn_congr hrest hchan, hchan]
    · rintro d - hne t hchan
      exact (State.offByBank_pdChan_other hne.symm uv).trans hchan
  · rw [State.bankTurnOff_pdChan_other hc, if_neg fun h => hc h.1]

theorem State.bankTurnOff_pdBank (b d : BankIx) (uv : Bool) : (s.bankTurnOff b uv).pdBank d = s.pdBank d := by
  have h := congrArg (fun t : State => t.pdBank d) (s.bankTurnOff_besidePdChans b uv)
  exact h

/-! ### VM above and below 6 V (R146, R417) -/

theorem State.gatesOff_above (h : 6000 < vm.toNat) : s.gatesOff b vm = s := if_pos h

theorem State.gatesOff_below (h : vm.toNat ≤ 6000) :
    s.gatesOff b vm = s.forAll (bankChs b) fun c t => t.onPdChan c fun k => k.fullOff s.fc := by
  unfold State.gatesOff
  rw [if_neg (Nat.not_lt.2 h)]
  exact State.forAll_congr (P := fun t => t.fc = s.fc) (fun _ _ h => h) (fun _ _ h => by rw [h]) rfl

theorem State.gatesOff_turnOff (h : vm.toNat ≤ 6000) (hc : bankOf c = b) : ((s.gatesOff b vm).pdChan c).turnOff ≠ .plateau := by
  rw [State.gatesOff_below h, State.forAll_onPdChan (bankChs_nodup b), if_pos (mem_bankChs.2 hc)]
  exact PdChan.fullOff_turnOff _ _

theorem State.gatesOff_besidePdChans (b : BankIx) (vm : BitVec 16) : (s.gatesOff b vm).besidePdChans = s.besidePdChans := by
  by_cases h : 6000 < vm.toNat
  · rw [State.gatesOff_above h]
  · rw [State.gatesOff_below (Nat.not_lt.1 h)]
    exact State.forAll_besidePdChans (fun c => c) _

theorem State.noteVm_power (b : BankIx) (vm : BitVec 16) :
    (b = 0 → (s.noteVm b vm).power = { s.power with vmA := decide (6000 < vm.toNat) }) ∧
      (b = 1 → (s.noteVm b vm).power = { s.power with vmB := decide (6000 < vm.toNat) }) := by
  constructor
  all_goals
    rintro rfl
    rfl

/-! ### Overvoltage (R165) -/

theorem exec_bankOv_above (hpd : s.pdOn = true) (hunits : s.pd.units = true) (h : s.level100 Pid.BANK_OV_TRIP b < vm.toNat) :
    exec (.bankOv b vm) s =
      .next ((s.bankTurnOff b false).onPdBank b fun k =>
        { k with ov := true, uv := false, chop := k.chop || s.pdPar Pid.BANK_CHOP_ENABLE b.val == 1 }) :=
  congrArg Host.Outcome.next (if_pos (by simp only [State.vmWatched, hpd, hunits, h, decide_true, Bool.and_self]))

/-! ### Undervoltage (R166) -/

/-- The power die behind an undervoltage of a bank. -/
def State.afterUv (s : State) (b : BankIx) (vm : BitVec 16) : State :=
  (((s.bankTurnOff b true).gatesOff b vm).noteVm b vm).onPdBank b fun k => { k with uv := true, ov := false }

theorem exec_bankUv_below (hpd : s.pdOn = true) (hunits : s.pd.units = true)
    (h : (vm.toNat : Int) < s.level100 Pid.BANK_UV_TRIP b) : exec (.bankUv b vm) s = .next (s.afterUv b vm) :=
  congrArg Host.Outcome.next (if_pos (by simp only [State.vmWatched, hpd, hunits, h, decide_true, Bool.and_self]))

theorem State.gatesOff_bankTurnOff_besidePdChans (b : BankIx) (vm : BitVec 16) :
    ((s.bankTurnOff b true).gatesOff b vm).besidePdChans = s.besidePdChans :=
  (State.gatesOff_besidePdChans b vm).trans (s.bankTurnOff_besidePdChans b true)

theorem State.afterUv_frame (b : BankIx) (vm : BitVec 16) :
    s.afterUv b vm =
      { s with pd := { s.pd with chans := (s.afterUv b vm).pd.chans, banks := (s.afterUv b vm).pd.banks }
               power := (s.afterUv b vm).power } := by
  have h := congrArg (fun x : State =>
    ({ x with pd := { x.pd with chans := (s.afterUv b vm).pd.chans, banks := (s.afterUv b vm).pd.banks }
              power := (s.afterUv b vm).power } : State)) (s.gatesOff_bankTurnOff_besidePdChans b vm)
  exact h

theorem State.afterUv_pdBank (b : BankIx) (vm : BitVec 16) :
    (s.afterUv b vm).pdBank b = { s.pdBank b with uv := true, ov := false } := by
  have h := congrArg (fun t : State => t.pdBank b) (s.gatesOff_bankTurnOff_besidePdChans b vm)
  refine (State.onPdBank_pdBank_same ..).trans ?_
  exact congrArg (fun k : PdBank => { k with uv := true, ov := false }) h

theorem State.afterUv_pdChan (b : BankIx) (vm : BitVec 16) (c : Ch) :
    (s.afterUv b vm).pdChan c = ((s.bankTurnOff b true).gatesOff b vm).pdChan c := rfl

theorem State.afterUv_power (b : BankIx) (vm : BitVec 16) :
    (b = 0 → (s.afterUv b vm).power = { s.power with vmA := decide (6000 < vm.toNat) }) ∧
      (b = 1 → (s.afterUv b vm).power = { s.power with vmB := decide (6000 < vm.toNat) }) := by
  have h : ((s.bankTurnOff b true).gatesOff b vm).power = s.power := by
    have hpower := congrArg State.power (s.gatesOff_bankTurnOff_besidePdChans b vm)
    exact hpower
  rw [← h]
  exact State.noteVm_power b vm

/-! ### The return of VM (R162) -/

theorem exec_vmWindowReturn_watched (hpd : s.pdOn = true) (hunits : s.pd.units = true) :
    exec (.vmWindowReturn b vm) s =
      .next ((s.noteVm b vm).onPdBank b fun k =>
        { k with ov := k.ov && decide (s.level100 Pid.BANK_OV_TRIP b < vm.toNat)
                 uv := k.uv && decide ((vm.toNat : Int) < s.level100 Pid.BANK_UV_TRIP b) }) :=
  congrArg Host.Outcome.next (if_pos (by simp only [State.vmWatched, hpd, hunits, Bool.and_self]))

/-! ### The chopper (R164, R177) -/

theorem exec_chopOn_watched (hpd : s.pdOn = true) (hunits : s.pd.units = true) :
    exec (.chopOn b vm) s =
      .next (if s.pdPar Pid.BANK_CHOP_ENABLE b.val = 1 ∧ s.level100 Pid.BANK_CHOP_ON b < vm.toNat then
        s.onPdBank b fun k => { k with chop := true } else s) := by
  simp only [exec, execChopOn, State.vmWatched, hpd, hunits, Bool.true_and, Bool.and_eq_true, beq_iff_eq, decide_eq_true_eq]

theorem exec_chopOff_below (hpd : s.pdOn = true) (hunits : s.pd.units = true)
    (h : (vm.toNat : Int) < s.level100 Pid.BANK_CHOP_OFF b) :
    exec (.chopOff b vm) s = .next (s.onPdBank b fun k => { k with chop := false }) :=
  congrArg Host.Outcome.next (if_pos (by simp only [State.vmWatched, hpd, hunits, h, decide_true, Bool.and_self]))

/-- An on-time above BANK.CHOP_MAX_ON, not yet reported (R164). -/
theorem exec_chopOverload_first {onMs : BitVec 32} (hhw : s.hwOn = true) (hon : (s.bank b).status.getLsbD 4 = true)
    (hlong : (s.bank b).chopMax < onMs.toNat) (hnew : (s.bank b).chopReported = false) :
    exec (.chopOverload b onMs) s =
      .next (((s.onBank b fun k => { k with chopReported := true }).pulse (864 + 24 * b.val + 7)).raise 0x0405 b.val
        (leBytes 4 onMs.toNat)) :=
  congrArg Host.Outcome.next (if_pos (by simp only [hhw, hon, hlong, hnew, decide_true, Bool.and_self, Bool.not_false]))

theorem exec_chopOverload_reported {onMs : BitVec 32} (h : (s.bank b).chopReported = true) :
    exec (.chopOverload b onMs) s = .next s :=
  congrArg Host.Outcome.next (if_neg (by simp only [h, Bool.not_true, Bool.and_false, Bool.false_eq_true, not_false_eq_true]))

/-- Settles O46: the turn-off of the bank under each level, the return, and the chopper by its levels. -/
theorem supplyMonitorAndChopper : Obligations.SupplyMonitorAndChopper := by
  unfold Obligations.SupplyMonitorAndChopper
  have hother : ∀ {s : State} {b : BankIx} {c : Ch}, bankOf c ≠ b ∨ s.fetsOn c = false → ¬(bankOf c = b ∧ s.fetsOn c = true) :=
    fun h => by simpa only [not_and_or, Bool.not_eq_true] using h
  refine ⟨fun s b vm hpd hunits => ⟨fun hover => ?_, fun hunder habove => ?_, fun hunder hbelow => ?_, ?_⟩, fun s b vm onMs => ?_⟩
  case refine_1 =>
    refine ⟨_, exec_bankOv_above hpd hunits hover, ?_, ?_, fun d hd => ?_, fun c hc hon => ?_, fun c hc => ?_⟩
    · apply State.eq_of_besidePdUnits
      have h := congrArg State.besidePdUnits (s.bankTurnOff_besidePdChans b false)
      exact h
    · rw [State.onPdBank_pdBank_same, State.bankTurnOff_pdBank]
    · rw [State.onPdBank_pdBank_other _ _ _ _ hd, State.bankTurnOff_pdBank]
    · rw [State.onPdBank_pdChan, State.bankTurnOff_pdChan, if_pos ⟨hc, hon⟩]
      exact ⟨rfl, rfl, rfl⟩
    · rw [State.onPdBank_pdChan, State.bankTurnOff_pdChan, if_neg (hother hc)]
  case refine_2 =>
    refine ⟨_, exec_bankUv_below hpd hunits hunder, State.afterUv_frame b vm, State.afterUv_pdBank b vm, fun c hc hon => ?_,
      fun c hc => ?_⟩
    · rw [State.afterUv_pdChan, State.gatesOff_above habove, State.bankTurnOff_pdChan, if_pos ⟨hc, hon⟩]
      exact ⟨rfl, rfl, rfl⟩
    · rw [State.afterUv_pdChan, State.gatesOff_above habove, State.bankTurnOff_pdChan, if_neg (hother hc)]
  case refine_3 =>
    obtain ⟨hA, hB⟩ := s.afterUv_power b vm
    rw [decide_eq_false (Nat.not_lt.2 hbelow)] at hA hB
    exact ⟨_, exec_bankUv_below hpd hunits hunder, congrArg PdBank.uv (State.afterUv_pdBank b vm),
      fun c hc => State.gatesOff_turnOff hbelow hc, hA, hB⟩
  case refine_4 =>
    obtain ⟨hA, hB⟩ := s.noteVm_power b vm
    exact ⟨_, exec_vmWindowReturn_watched hpd hunits, rfl, State.onPdBank_pdBank_same .., hA, hB⟩
  case refine_5 =>
    refine ⟨fun hon henable hover => ?_, fun hon hdisabled => ?_, fun hon => exec_chopOff_below hon.1 hon.2, exec_chopOverload_first,
      exec_chopOverload_reported⟩
    · rw [exec_chopOn_watched hon.1 hon.2, if_pos ⟨henable, hover⟩]
    · rw [exec_chopOn_watched hon.1 hon.2, if_neg fun h => hdisabled h.1]

end Sys2Proof.Machine
end

section
/-! What a feedback interface does by itself (R178, R194 to R200): an error, a move of its count, and what they leave of the block and of
the interface. -/

namespace Sys2Proof.Machine

variable {s t u : State} {c d : Ch}

/-! ### Operations of one interface -/

/-- An operation of one feedback interface: beside it, the pulses and the mailboxes, the block stands. -/
structure State.FbOnly (c : Ch) (s t : State) : Prop where
  beside : t.besideFbs = s.besideFbs
  others : ∀ d, d ≠ c → t.fb d = s.fb d

theorem State.FbOnly.trans (h : State.FbOnly c s t) (h' : State.FbOnly c t u) : State.FbOnly c s u :=
  ⟨h'.beside.trans h.beside, fun d hd => (h'.others d hd).trans (h.others d hd)⟩

theorem State.FbOnly.frame (h : State.FbOnly c s t) : t = { s with fbs := t.fbs, pulses := t.pulses, mbx := t.mbx } :=
  congrArg (fun x : State => { x with fbs := t.fbs, pulses := t.pulses, mbx := t.mbx }) h.beside

theorem State.FbOnly.fc (h : State.FbOnly c s t) : t.fc = s.fc := by
  rw [h.frame]

theorem State.FbOnly.parN (h : State.FbOnly c s t) (id i : Nat) : t.parN id i = s.parN id i := by
  rw [h.frame]
  rfl

theorem State.FbOnly.fbDir (h : State.FbOnly c s t) (n : Int) : t.fbDir d n = s.fbDir d n := by
  rw [h.frame]
  rfl

theorem State.fbOnly_onFb (f : Fb → Fb) : State.FbOnly c s (s.onFb c f) :=
  ⟨rfl, fun _ hd => State.onFb_fb_other _ _ _ _ hd⟩

theorem State.fbOnly_chPulse (c : Ch) (n : Nat) : State.FbOnly c s (s.chPulse c n) := by
  refine ⟨?_, fun d _ => State.chPulse_fb ..⟩
  rw [State.chPulse_frame]
  rfl

theorem State.fbOnly_raiseS (c : Ch) (code inst : Nat) (sus : Bool) (p : List Byte) :
    State.FbOnly c s (s.raiseS code inst sus p) := by
  refine ⟨?_, fun d _ => State.raiseS_fb ..⟩
  rw [State.raiseS_frame]
  rfl

theorem State.onFb_onFb (f g : Fb → Fb) : (s.onFb c f).onFb c g = s.onFb c fun k => g (f k) := by
  simp [State.onFb, upd]

/-- What an event makes of the mailboxes is blind to the interfaces and pulses (R355 to R359). -/
theorem State.FbOnly.raise_mbx (h : State.FbOnly c s t) (hmbx : t.mbx = s.mbx) (code inst : Nat) (p : List Byte) :
    (t.raise code inst p).mbx = (s.raise code inst p).mbx := by
  rw [h.frame, hmbx]
  simp only [State.raise, State.raiseS, State.learn, State.post, State.ringUp, apply_ite State.mbx]
  rfl

/-! ### Errors and their reports (R197, R199) -/

/-- The error as the interface takes it, before its report. -/
def State.fbErred (s : State) (c : Ch) (kind : Nat) : State :=
  (s.onFb c fun f =>
    { f with errCount := satAdd (2 ^ 32 - 1) f.errCount 1, suspect := true, trustRun := 0,
             occ := f.occ.set kind (f.occ.getD kind 0 + 1) }).chPulse c 26

theorem State.fbErred_fb (kind : Nat) :
    (s.fbErred c kind).fb c =
      { s.fb c with errCount := satAdd (2 ^ 32 - 1) (s.fb c).errCount 1, suspect := true, trustRun := 0,
                    occ := (s.fb c).occ.set kind ((s.fb c).occ.getD kind 0 + 1) } :=
  (State.chPulse_fb ..).trans (State.onFb_fb_same ..)

theorem State.fbOnly_fbErred (kind : Nat) : State.FbOnly c s (s.fbErred c kind) :=
  (State.fbOnly_onFb _).trans (State.fbOnly_chPulse c 26)

theorem State.fbErred_mbx (kind : Nat) : (s.fbErred c kind).mbx = s.mbx := State.chPulse_mbx ..

/-- Within the 10 ms of the last report an error makes none. -/
theorem State.fbError_limited {kind : Nat} (h : (s.fb c).limited.getD kind false = true) : s.fbError c kind = s.fbErred c kind :=
  if_pos ((congrArg (fun f : Fb => f.limited.getD kind false) (State.fbErred_fb kind)).trans h)

theorem State.fbError_unlimited {kind : Nat} (h : (s.fb c).limited.getD kind false = false) :
    s.fbError c kind = (s.fbErred c kind).fbReport c kind :=
  if_neg (ne_true_of_eq_false ((congrArg (fun f : Fb => f.limited.getD kind false) (State.fbErred_fb kind)).trans h))

theorem State.fbReport_fb (kind : Nat) :
    (s.fbReport c kind).fb c = { s.fb c with occ := (s.fb c).occ.set kind 0, limited := (s.fb c).limited.set kind true } :=
  (State.raise_fb ..).trans (State.onFb_fb_same ..)

theorem State.fbOnly_fbError (kind : Nat) : State.FbOnly c s (s.fbError c kind) := by
  cases h : (s.fb c).limited.getD kind false
  · rw [State.fbError_unlimited h]
    exact (State.fbOnly_fbErred kind).trans ((State.fbOnly_onFb _).trans (State.fbOnly_raiseS c _ _ false _))
  · rw [State.fbError_limited h]
    exact State.fbOnly_fbErred kind

/-- What an error does to its interface, up to the occurrences that wait for a report. -/
theorem State.fbError_fb (kind : Nat) :
    (s.fbError c kind).fb c =
      { s.fb c with errCount := min (2 ^ 32 - 1) ((s.fb c).errCount + 1), suspect := true, trustRun := 0
                    occ := ((s.fbError c kind).fb c).occ, limited := ((s.fbError c kind).fb c).limited } := by
  cases h : (s.fb c).limited.getD kind false
  · rw [State.fbError_unlimited h, State.fbReport_fb, State.fbErred_fb]
    rfl
  · rw [State.fbError_limited h, State.fbErred_fb]
    rfl

theorem State.fbError_mbx_limited {kind : Nat} (h : (s.fb c).limited.getD kind false = true) : (s.fbError c kind).mbx = s.mbx := by
  rw [State.fbError_limited h, State.fbErred_mbx]

/-- The first error after the 10 ms is reported with all that occurred since the last report, and begins the next 10 ms. -/
theorem State.fbError_first {kind : Nat} (h : (s.fb c).limited.getD kind false = false) (hkind : kind < (s.fb c).occ.length) :
    ((s.fbError c kind).fb c).limited = (s.fb c).limited.set kind true ∧
      (s.fbError c kind).mbx = (s.raise (fbErrorCode kind) c.val (leBytes 4 ((s.fb c).occ.getD kind 0 + 1) ++
        leBytes 4 (s.fb c).count.toNat ++ (if kind == 1 then leInt 4 (s.fb c).indexInterval else []))).mbx := by
  have hocc : ((s.fb c).occ.set kind ((s.fb c).occ.getD kind 0 + 1)).getD kind 0 = (s.fb c).occ.getD kind 0 + 1 := by
    rw [List.getD_eq_getElem?_getD, List.getElem?_set_self hkind, Option.getD_some]
  have hreport : ((s.fbErred c kind).fbReport c kind).mbx = _ :=
    State.FbOnly.raise_mbx ((State.fbOnly_fbErred kind).trans (State.fbOnly_onFb _)) (State.fbErred_mbx kind) ..
  rw [State.fbError_unlimited h, hreport, State.fbReport_fb, State.fbErred_fb, hocc]
  exact ⟨rfl, rfl⟩

/-! ### The count moves (R194 to R196, R200) -/

theorem State.fbCompare_cases (k : Nat) (old : BitVec 32) (n : Int) :
    s.fbCompare c k old n = s ∨ s.fbCompare c k old n = (s.chPulse c (23 + k)).raiseS 0x0506 c.val (s.fb c).suspect
      ([BitVec.ofNat 8 k, 0, 0, 0] ++ leBytes 4 (s.fb c).count.toNat) :=
  (ite_eq_or_eq _ _ _).symm

theorem State.fbOnly_fbCompare (k : Nat) (old : BitVec 32) (n : Int) : State.FbOnly c s (s.fbCompare c k old n) := by
  rcases s.fbCompare_cases (c := c) k old n with h | h
  · rw [h]
    exact ⟨rfl, fun _ _ => rfl⟩
  · rw [h]
    exact (State.fbOnly_chPulse c _).trans (State.fbOnly_raiseS c ..)

theorem State.fbCompare_fb (k : Nat) (old : BitVec 32) (n : Int) : (s.fbCompare c k old n).fb d = s.fb d := by
  rcases s.fbCompare_cases (c := c) k old n with h | h
  · rw [h]
  · rw [h, State.raiseS_fb, State.chPulse_fb]

theorem State.fbOnly_fbMove (n : Int) (keep : Bool) : State.FbOnly c s (s.fbMove c n keep) :=
  (((State.fbOnly_onFb _).trans (State.fbOnly_chPulse c 30)).trans (State.fbOnly_fbCompare ..)).trans (State.fbOnly_fbCompare ..)

/-- A move of the count, up to the periods and the latched value. -/
theorem State.fbMove_fb (n : Int) (keep : Bool) :
    (s.fbMove c n keep).fb c =
      { s.fb c with
        count := (s.fb c).count + BitVec.ofInt 32 n, neg := decide (n < 0), counted := true, haveEdge := true, lastEdge := s.fc
        standstill := false, latched := ((s.fbMove c n keep).fb c).latched, periods := ((s.fbMove c n keep).fb c).periods
        dirChanged := ((s.fbMove c n keep).fb c).dirChanged, firstPeriod := ((s.fbMove c n keep).fb c).firstPeriod } := by
  unfold State.fbMove
  dsimp only
  rw [State.fbCompare_fb, State.fbCompare_fb, State.chPulse_fb, State.onFb_fb_same]
  split <;> rfl

/-- The count has moved by `n` in this fabric cycle, and no channel, parameter or other interface with it. -/
def State.Counted (s : State) (c : Ch) (n : Int) (t : State) : Prop :=
  (t.fb c).count = (s.fb c).count + BitVec.ofInt 32 n ∧ (t.fb c).neg = decide (n < 0) ∧ (t.fb c).lastEdge = s.fc ∧
    (t.fb c).standstill = false ∧ (∀ d, d ≠ c → t.fb d = s.fb d) ∧ t.chans = s.chans ∧ t.params = s.params ∧ t.pd = s.pd

/-- A move counts from where the interface stood, whatever was done to it before the move but for its count. -/
theorem State.FbOnly.counted_fbMove (h : State.FbOnly c s t) (hcount : (t.fb c).count = (s.fb c).count) (n : Int) (keep : Bool) :
    s.Counted c n (t.fbMove c n keep) := by
  have hmove := h.trans (State.fbOnly_fbMove n keep)
  refine ⟨?_, ?_, ?_, ?_, hmove.others, ?_, ?_, ?_⟩
  case refine_1 => rw [State.fbMove_fb, hcount]
  case refine_2 | refine_4 => rw [State.fbMove_fb]
  case refine_3 => rw [State.fbMove_fb, h.fc]
  case refine_5 | refine_6 | refine_7 => rw [hmove.frame]

/-! ### What runs -/

theorem State.fbMode_running (h : (s.fb c).running = true) : s.fbMode c = s.parN Pid.FB_MODE c.val := if_pos h

theorem State.fbMode_stopped (h : (s.fb c).running = false) : s.fbMode c = 0 :=
  if_neg fun e => Bool.false_ne_true (h.symm.trans e)

theorem State.fbIs_running (hhw : s.hwOn = true) (hhas : s.hasCh c = true) (hrun : (s.fb c).running = true) (mode : Nat) :
    s.fbIs c mode = (s.parN Pid.FB_MODE c.val == mode) := by
  rw [State.fbIs, hhw, hhas, State.fbMode_running hrun, Bool.and_self, Bool.true_and]

theorem State.fbIs_stopped (h : (s.fb c).running = false) (mode : Nat) : s.fbIs c (mode + 1) = false := by
  rw [State.fbIs, State.fbMode_stopped h, beq_eq_false_iff_ne.2 (Nat.succ_ne_zero mode).symm, Bool.and_false]

/-- The sign of FB.COUNT_DIR (R181). -/
theorem State.fbDir_eq_mul (n : Int) : s.fbDir c n = (if s.parB Pid.FB_COUNT_DIR c.val then -1 else 1) * n := by
  unfold State.fbDir
  split
  · exact (neg_one_mul n).symm
  · exact (one_mul n).symm

theorem State.fbDir_ite (p : Prop) [Decidable p] :
    s.fbDir c (if p then 1 else -1) =
      if p then (if s.parB Pid.FB_COUNT_DIR c.val then -1 else 1) else -(if s.parB Pid.FB_COUNT_DIR c.val then -1 else 1) := by
  split
  · rfl
  · rw [State.fbDir_eq_mul, mul_neg_one]

end Sys2Proof.Machine
end

section
/-! Edges of the counting modes, their errors, and the index (R178, R181 to R188, R194, R195, R197 to R199). -/

namespace Sys2Proof.Machine

variable {s t : State} {c : Ch} {a b u v w : Bool} {x y z : BitVec 16}

/-! ### Comparators (R178) -/

theorem State.fbHyst_eq (c : Ch) : s.fbHyst c = [0, 25, 50, 100].getD (s.parN Pid.FB_HYST c.val) 100 := by
  unfold State.fbHyst
  split
  · next h => rw [h]; rfl
  · next h => rw [h]; rfl
  · next h => rw [h]; rfl
  · next h0 h1 h2 =>
    obtain ⟨n, hn⟩ : ∃ n, s.parN Pid.FB_HYST c.val = n + 3 := Nat.exists_eq_add_of_le' (by
      simp only [imp_false] at h0 h1 h2
      omega)
    rw [hn]
    cases n <;> rfl

/-- The comparator as the statement spells it: steps of 16 mV, the hysteresis centred on the threshold. -/
theorem State.fbComparator_eq (pin : Fin 3) (mv : BitVec 16) (before : Bool) :
    s.fbComparator c pin mv.toNat before =
      if before = true then
        decide (2 * (s.par (Pid.FB_THRESH_A + pin.val) c.val / 16 * 16) - [0, 25, 50, 100].getD (s.parN Pid.FB_HYST c.val) 100 ≤
          2 * (mv.toNat : Int))
      else
        decide (2 * (s.par (Pid.FB_THRESH_A + pin.val) c.val / 16 * 16) + [0, 25, 50, 100].getD (s.parN Pid.FB_HYST c.val) 100 <
          2 * (mv.toNat : Int)) := by
  rw [← State.fbHyst_eq]
  cases before <;> rfl

/-! ### Quadrature (R183) -/

/-- The outputs of the comparators of A and B are taken over. -/
def State.setAB (s : State) (c : Ch) (a b : Bool) : State := s.onFb c fun f => { f with lineA := a, lineB := b }

/-- Steps along the sequence 00, 10, 11, 01 that lead to a line state. -/
def State.quadTurn (s : State) (c : Ch) (a b : Bool) : Nat :=
  (quadPlace (s.fbPol c 0 a) (s.fbPol c 1 b) + 4 - quadPlace (s.fbPol c 0 (s.fb c).lineA) (s.fbPol c 1 (s.fb c).lineB)) % 4

theorem State.quad_counts (h : s.quadTurn c a b = 1 ∨ s.quadTurn c a b = 3) :
    s.quad c a b = (s.setAB c a b).fbMove c (s.fbDir c (if s.quadTurn c a b = 1 then 1 else -1)) true := by
  unfold State.quadTurn at h ⊢
  unfold State.quad
  rcases h with h | h
  all_goals
    dsimp only
    rw [h]
    rfl

theorem State.quad_illegal (h : s.quadTurn c a b = 2) : s.quad c a b = (s.setAB c a b).fbError c 0 := by
  unfold State.quadTurn at h
  unfold State.quad
  dsimp only
  rw [h]
  rfl

theorem exec_quadTransition_running (h : s.fbIs c 1 = true) :
    exec (.quadTransition c x y) s = .next (s.quad c (s.fbLine c 0 x) (s.fbLine c 1 y)) :=
  congrArg Host.Outcome.next (if_pos h)

theorem exec_quadTransition_stopped (h : (s.fb c).running = false) :
    exec (.quadTransition c x y) s = .next (s.setAB c (s.fbLine c 0 x) (s.fbLine c 1 y)) :=
  congrArg Host.Outcome.next (if_neg (ne_true_of_eq_false (State.fbIs_stopped h 0)))

theorem State.fbMove_setAB (n : Int) (keep : Bool) :
    s.Counted c n ((s.setAB c a b).fbMove c n keep) ∧ (((s.setAB c a b).fbMove c n keep).fb c).lineA = a ∧
      (((s.setAB c a b).fbMove c n keep).fb c).lineB = b := by
  have hset : (s.setAB c a b).fb c = { s.fb c with lineA := a, lineB := b } := State.onFb_fb_same ..
  refine ⟨(State.fbOnly_onFb _).counted_fbMove (congrArg Fb.count hset :) n keep, ?_, ?_⟩
  all_goals rw [State.fbMove_fb, hset]

theorem exec_quadTransition_counts (h : s.fbIs c 1 = true)
    (hturn : s.quadTurn c (s.fbLine c 0 x) (s.fbLine c 1 y) = 1 ∨ s.quadTurn c (s.fbLine c 0 x) (s.fbLine c 1 y) = 3) :
    ∃ t : State, exec (.quadTransition c x y) s = .next t ∧
      s.Counted c (s.fbDir c (if s.quadTurn c (s.fbLine c 0 x) (s.fbLine c 1 y) = 1 then 1 else -1)) t ∧
      (t.fb c).lineA = s.fbLine c 0 x ∧ (t.fb c).lineB = s.fbLine c 1 y :=
  ⟨_, (exec_quadTransition_running h).trans (congrArg Host.Outcome.next (State.quad_counts hturn)), State.fbMove_setAB ..⟩

/-! ### Hall lines (R185, R197) -/

/-- The outputs of the comparators of U, V and W are taken over. -/
def State.setUVW (s : State) (c : Ch) (u v w : Bool) : State :=
  s.onFb c fun f => { f with lineA := u, lineB := v, lineI := w }

/-- A valid state of the hall lines is seen. -/
def State.hallSeen (s : State) (c : Ch) (u v w : Bool) : State :=
  (s.setUVW c u v w).onFb c fun f => { f with hallOk := true, absSeen := true, suspect := f.suspect && f.absSeen }

theorem State.hallSeen_eq :
    s.hallSeen c u v w =
      s.onFb c fun f =>
        { f with lineA := u, lineB := v, lineI := w, hallOk := true, absSeen := true, suspect := f.suspect && f.absSeen } :=
  State.onFb_onFb ..

theorem State.hallSeen_fb :
    (s.hallSeen c u v w).fb c =
      { s.fb c with lineA := u, lineB := v, lineI := w, hallOk := true, absSeen := true
                    suspect := (s.fb c).suspect && (s.fb c).absSeen } := by
  rw [State.hallSeen_eq, State.onFb_fb_same]

theorem State.fbOnly_hallSeen : State.FbOnly c s (s.hallSeen c u v w) := (State.fbOnly_onFb _).trans (State.fbOnly_onFb _)

theorem State.hall_illegal (h : s.hallAt c u v w = none) :
    s.hall c u v w = ((s.setUVW c u v w).onFb c fun f => { f with hallOk := false }).fbError c 0 := by
  unfold State.hall
  dsimp only
  rw [h]
  rfl

/-- From no valid state nothing is judged: the state before is none. -/
theorem State.hall_first {p : Nat} (h : s.hallAt c u v w = some p) (hok : (s.fb c).hallOk = false) :
    s.hall c u v w = s.hallSeen c u v w := by
  unfold State.hall
  dsimp only
  rw [h, hok]
  rfl

section
variable {p q : Nat} (hnew : s.hallAt c u v w = some p) (hok : (s.fb c).hallOk = true)
  (hold : s.hallAt c (s.fb c).lineA (s.fb c).lineB (s.fb c).lineI = some q)
include hnew hok hold

theorem State.hall_counts (h : (p + 6 - q) % 6 = 1 ∨ (p + 6 - q) % 6 = 5) :
    s.hall c u v w =
      ((s.hallSeen c u v w).goodRun c).fbMove c (s.fbDir c (if (p + 6 - q) % 6 = 1 then 1 else -1)) true := by
  unfold State.hall
  dsimp only
  rw [hnew, hok, if_pos rfl, hold]
  rcases h with h | h
  all_goals
    dsimp only
    rw [h]
    rfl

theorem State.hall_skips (h : 2 ≤ (p + 6 - q) % 6 ∧ (p + 6 - q) % 6 ≤ 4) : s.hall c u v w = (s.hallSeen c u v w).fbError c 0 := by
  unfold State.hall
  dsimp only
  rw [hnew, hok, if_pos rfl, hold]
  obtain ⟨hlo, hhi⟩ := h
  dsimp only
  split
  · omega
  · omega
  · omega
  · rfl
end

theorem exec_hallChange_running (h : s.fbIs c 2 = true) :
    exec (.hallChange c x y z) s = .next (s.hall c (s.fbLine c 0 x) (s.fbLine c 1 y) (s.fbLine c 2 z)) :=
  congrArg Host.Outcome.next (if_pos h)

theorem exec_hallChange_stopped (h : (s.fb c).running = false) :
    exec (.hallChange c x y z) s = .next (s.setUVW c (s.fbLine c 0 x) (s.fbLine c 1 y) (s.fbLine c 2 z)) :=
  congrArg Host.Outcome.next (if_neg (ne_true_of_eq_false (State.fbIs_stopped h 1)))

theorem State.fbOnly_goodRun : State.FbOnly c s (s.goodRun c) := State.fbOnly_onFb _

theorem State.goodRun_fb :
    (s.goodRun c).fb c = { s.fb c with trustRun := ((s.goodRun c).fb c).trustRun, suspect := ((s.goodRun c).fb c).suspect } := by
  unfold State.goodRun
  rw [State.onFb_fb_same]

theorem exec_hallChange_counts {p q : Nat} (h : s.fbIs c 2 = true) (hok : (s.fb c).hallOk = true)
    (hnew : s.hallAt c (s.fbLine c 0 x) (s.fbLine c 1 y) (s.fbLine c 2 z) = some p)
    (hold : s.hallAt c (s.fb c).lineA (s.fb c).lineB (s.fb c).lineI = some q)
    (hturn : (p + 6 - q) % 6 = 1 ∨ (p + 6 - q) % 6 = 5) :
    ∃ t : State, exec (.hallChange c x y z) s = .next t ∧ s.Counted c (s.fbDir c (if (p + 6 - q) % 6 = 1 then 1 else -1)) t ∧
      (t.fb c).lineA = s.fbLine c 0 x ∧ (t.fb c).lineB = s.fbLine c 1 y ∧ (t.fb c).lineI = s.fbLine c 2 z := by
  refine ⟨_, (exec_hallChange_running h).trans (congrArg Host.Outcome.next (State.hall_counts hnew hok hold hturn)), ?_, ?_, ?_, ?_⟩
  · refine (State.fbOnly_hallSeen.trans State.fbOnly_goodRun).counted_fbMove ?_ _ _
    rw [State.goodRun_fb, State.hallSeen_fb]
  all_goals rw [State.fbMove_fb, State.goodRun_fb, State.hallSeen_fb]

/-! ### Teeth (R186, R198) -/

theorem Fb.toothFail_count (f : Fb) : f.toothFail.count = f.count := by
  unfold Fb.toothFail
  split <;> rfl

/-- However its period is judged, a tooth moves the count by one. -/
theorem State.tooth_counts : s.Counted c (s.fbDir c 1) (s.tooth c) := by
  have href (p : Nat) : ((s.onFb c fun f => { f with toothRef := some p, toothFails := 0 }).fb c).count = (s.fb c).count := by
    rw [State.onFb_fb_same]
  have hgood (p : Nat) : (((s.onFb c fun f => { f with toothRef := some p, toothFails := 0 }).goodRun c).fb c).count =
      (s.fb c).count := by rw [State.goodRun_fb, href]
  have hfail (kind : Nat) : (((s.onFb c Fb.toothFail).fbError c kind).fb c).count = (s.fb c).count := by
    rw [State.fbError_fb, State.onFb_fb_same, Fb.toothFail_count]
  unfold State.tooth
  split
  · exact State.FbOnly.counted_fbMove ⟨rfl, fun _ _ => rfl⟩ rfl _ _
  · exact (State.fbOnly_onFb _).counted_fbMove (href _) _ _
  · exact ((State.fbOnly_onFb _).trans State.fbOnly_goodRun).counted_fbMove (hgood _) _ _
  · exact ((State.fbOnly_onFb _).trans (State.fbOnly_fbError 3)).counted_fbMove (hfail 3) _ _
  · exact ((State.fbOnly_onFb _).trans (State.fbOnly_fbError 2)).counted_fbMove (hfail 2) _ _

theorem exec_wssTooth_running (h : s.fbIs c 6 = true) : exec (.wssTooth c) s = .next (s.tooth c) :=
  congrArg Host.Outcome.next (if_pos h)

theorem exec_wssTooth_stopped (h : (s.fb c).running = false) : exec (.wssTooth c) s = .next s :=
  congrArg Host.Outcome.next (if_neg (ne_true_of_eq_false (State.fbIs_stopped h 5)))

/-! ### Step and direction (R188) -/

/-- FB.STEP_EDGE selects the edge. -/
def State.stepCounts (s : State) (c : Ch) (rising : Bool) : Prop :=
  s.parN Pid.FB_STEP_EDGE c.val = 2 ∨ (s.parN Pid.FB_STEP_EDGE c.val = 0 ∧ s.fbPol c 0 rising = true) ∨
    (s.parN Pid.FB_STEP_EDGE c.val = 1 ∧ s.fbPol c 0 rising = false)

theorem State.stepCounts_iff (rising : Bool) :
    (s.parN Pid.FB_STEP_EDGE c.val == 2 || (s.parN Pid.FB_STEP_EDGE c.val == 0 && s.fbPol c 0 rising) ||
      (s.parN Pid.FB_STEP_EDGE c.val == 1 && !s.fbPol c 0 rising)) = true ↔ s.stepCounts c rising := by
  simp only [State.stepCounts, Bool.or_eq_true, Bool.and_eq_true, beq_iff_eq, Bool.not_eq_true', or_assoc]

theorem exec_stepEdge_selected {rising : Bool} (h : s.fbIs c 5 = true) (hedge : s.stepCounts c rising) :
    exec (.stepEdge c rising x) s = .next ((s.setAB c rising (s.fbLine c 1 x)).fbMove c
      (s.fbDir c (if s.fbPol c 1 (s.fbLine c 1 x) then 1 else -1)) true) :=
  congrArg Host.Outcome.next (if_pos (by rw [h, Bool.true_and]; exact (State.stepCounts_iff rising).2 hedge))

theorem exec_stepEdge_unselected {rising : Bool} (hedge : ¬s.stepCounts c rising) :
    exec (.stepEdge c rising x) s = .next (s.setAB c rising (s.fbLine c 1 x)) :=
  congrArg Host.Outcome.next
    (if_neg fun e => hedge ((State.stepCounts_iff rising).1 (Bool.and_eq_true_iff.1 e).2))

/-! ### Illegal transitions (R183, R185, R197, R199) -/

/-- An illegal transition: the count stays and becomes suspect, the error is counted and, outside the 10 ms, reported. -/
def State.Illegal (s : State) (c : Ch) (t : State) : Prop :=
  t = { s with fbs := t.fbs, pulses := t.pulses, mbx := t.mbx } ∧
    (t.fb c).count = (s.fb c).count ∧ (t.fb c).suspect = true ∧
    (t.fb c).errCount = min (2 ^ 32 - 1) ((s.fb c).errCount + 1) ∧ (t.fb c).trustRun = 0 ∧
    ((s.fb c).limited.getD 0 false = true → t.mbx = s.mbx) ∧
    ((s.fb c).limited.getD 0 false = false → (s.fb c).occ.length = 5 → (s.fb c).limited.length = 5 →
      (t.fb c).limited.getD 0 false = true ∧
      t.mbx = (s.raise 0x0501 c.val (leBytes 4 ((s.fb c).occ.getD 0 0 + 1) ++ leBytes 4 (s.fb c).count.toNat)).mbx)

/-- What the reports of an interface are made of. -/
def Fb.tally (f : Fb) : BitVec 32 × Nat × List Nat × List Bool := (f.count, f.errCount, f.occ, f.limited)

/-- The error comes after an update of the interface that leaves what its reports are made of. -/
theorem State.FbOnly.illegal_fbError (h : State.FbOnly c s t) (hmbx : t.mbx = s.mbx) (htally : (t.fb c).tally = (s.fb c).tally) :
    s.Illegal c (t.fbError c 0) := by
  simp only [Fb.tally, Prod.mk.injEq] at htally
  obtain ⟨hcount, herr, hocc, hlimited⟩ := htally
  unfold State.Illegal
  rw [← hlimited, ← hocc, ← hcount, ← herr]
  refine ⟨(h.trans (State.fbOnly_fbError 0)).frame, ?_, ?_, ?_, ?_, fun hrate => ?_, fun hfree hlen hlen' => ?_⟩
  case refine_1 | refine_2 | refine_3 | refine_4 => rw [State.fbError_fb]
  case refine_5 => exact (State.fbError_mbx_limited hrate).trans hmbx
  case refine_6 =>
    obtain ⟨hfirst, hreport⟩ := State.fbError_first hfree (hlen ▸ Nat.succ_pos 4)
    constructor
    · rw [hfirst, List.getD_eq_getElem?_getD, List.getElem?_set_self (hlen' ▸ Nat.succ_pos 4), Option.getD_some]
    · rw [hreport, h.raise_mbx hmbx]
      exact congrArg (fun p => (s.raise 0x0501 c.val p).mbx) (List.append_nil _)

theorem exec_quadTransition_illegal (h : s.fbIs c 1 = true) (hturn : s.quadTurn c (s.fbLine c 0 x) (s.fbLine c 1 y) = 2) :
    ∃ t : State, exec (.quadTransition c x y) s = .next t ∧ s.Illegal c t := by
  refine ⟨_, (exec_quadTransition_running h).trans (congrArg Host.Outcome.next (State.quad_illegal hturn)), ?_⟩
  exact State.FbOnly.illegal_fbError (State.fbOnly_onFb _) rfl (by rw [State.setAB, State.onFb_fb_same]; rfl)

theorem exec_hallChange_illegal (h : s.fbIs c 2 = true)
    (hnone : s.hallAt c (s.fbLine c 0 x) (s.fbLine c 1 y) (s.fbLine c 2 z) = none) :
    ∃ t : State, exec (.hallChange c x y z) s = .next t ∧ s.Illegal c t := by
  refine ⟨_, (exec_hallChange_running h).trans (congrArg Host.Outcome.next (State.hall_illegal hnone)), ?_⟩
  exact State.FbOnly.illegal_fbError ((State.fbOnly_onFb _).trans (State.fbOnly_onFb _)) rfl
    (by rw [State.onFb_fb_same, State.setUVW, State.onFb_fb_same]; rfl)

theorem exec_hallChange_skips {p q : Nat} (h : s.fbIs c 2 = true) (hok : (s.fb c).hallOk = true)
    (hnew : s.hallAt c (s.fbLine c 0 x) (s.fbLine c 1 y) (s.fbLine c 2 z) = some p)
    (hold : s.hallAt c (s.fb c).lineA (s.fb c).lineB (s.fb c).lineI = some q)
    (hturn : 2 ≤ (p + 6 - q) % 6 ∧ (p + 6 - q) % 6 ≤ 4) :
    ∃ t : State, exec (.hallChange c x y z) s = .next t ∧ s.Illegal c t := by
  refine ⟨_, (exec_hallChange_running h).trans (congrArg Host.Outcome.next (State.hall_skips hnew hok hold hturn)), ?_⟩
  exact State.fbOnly_hallSeen.illegal_fbError rfl (by rw [State.hallSeen_fb]; rfl)

/-! ### The index (R184, R199) -/

/-- The interval from the last index, in counts. -/
def Fb.sinceIndex (f : Fb) : Int := (f.count - f.indexPos).toInt

/-- The interval is judged: FB.LINES is set, and there is an interval, over one direction. -/
def State.indexJudged (s : State) (c : Ch) : Bool :=
  s.par Pid.FB_LINES c.val != 0 && (s.fb c).indexSeen && !(s.fb c).dirChanged

/-- The interval lies within the tolerance. -/
def State.indexFits (s : State) (c : Ch) : Bool :=
  decide (|(|(s.fb c).sinceIndex| - 4 * s.par Pid.FB_LINES c.val)| ≤ s.par Pid.FB_LINES_TOL c.val)

/-- This count becomes the last index, and the interval is kept. -/
def State.indexKept (s : State) (c : Ch) : State :=
  (s.onFb c fun f =>
    { f with indexPos := f.count, indexInterval := if f.indexSeen then (s.fb c).sinceIndex else f.indexInterval, indexSeen := true
             dirChanged := false, suspect := f.suspect && !(s.indexJudged c && s.indexFits c) }).chPulse c 25

theorem State.index_eq :
    s.index c = if s.indexJudged c && !s.indexFits c then (s.indexKept c).fbError c 1 else s.indexKept c := rfl

theorem State.indexKept_fb :
    (s.indexKept c).fb c =
      { s.fb c with
        indexPos := (s.fb c).count, indexInterval := if (s.fb c).indexSeen then (s.fb c).sinceIndex else (s.fb c).indexInterval
        indexSeen := true, dirChanged := false, suspect := (s.fb c).suspect && !(s.indexJudged c && s.indexFits c) } := by
  rw [State.indexKept, State.chPulse_fb, State.onFb_fb_same]

theorem State.fbOnly_indexKept : State.FbOnly c s (s.indexKept c) := (State.fbOnly_onFb _).trans (State.fbOnly_chPulse c 25)

theorem State.indexKept_mbx : (s.indexKept c).mbx = s.mbx := State.chPulse_mbx ..

theorem State.fbOnly_index : State.FbOnly c s (s.index c) := by
  rw [State.index_eq]
  split
  · exact State.fbOnly_indexKept.trans (State.fbOnly_fbError 1)
  · exact State.fbOnly_indexKept

/-- However its interval is judged, an index keeps the count and begins the next interval. -/
theorem State.index_fb :
    (s.index c).fb c =
      { (s.indexKept c).fb c with
        errCount := ((s.index c).fb c).errCount, suspect := ((s.index c).fb c).suspect, trustRun := ((s.index c).fb c).trustRun
        occ := ((s.index c).fb c).occ, limited := ((s.index c).fb c).limited } := by
  rw [State.index_eq]
  split
  · rw [State.fbError_fb]
  · rfl

theorem State.index_marks :
    ((s.index c).fb c).indexPos = (s.fb c).count ∧ ((s.index c).fb c).indexSeen = true ∧ ((s.index c).fb c).dirChanged = false ∧
      ((s.index c).fb c).count = (s.fb c).count ∧
      ((s.index c).fb c).indexInterval = if (s.fb c).indexSeen then (s.fb c).sinceIndex else (s.fb c).indexInterval := by
  rw [State.index_fb, State.indexKept_fb]
  exact ⟨rfl, rfl, rfl, rfl, rfl⟩

theorem State.indexJudged_iff :
    s.indexJudged c = true ↔ s.par Pid.FB_LINES c.val ≠ 0 ∧ (s.fb c).indexSeen = true ∧ (s.fb c).dirChanged = false := by
  simp only [State.indexJudged, Bool.and_eq_true, bne_iff_ne, Bool.not_eq_true', and_assoc]

theorem State.index_fits (hjudged : s.indexJudged c = true) (hfits : s.indexFits c = true) :
    ((s.index c).fb c).suspect = false ∧ (s.index c).mbx = s.mbx := by
  have hkept : s.index c = s.indexKept c := by rw [State.index_eq, hjudged, hfits]; rfl
  rw [hkept, State.indexKept_fb, hjudged, hfits]
  exact ⟨Bool.and_false _, State.indexKept_mbx⟩

theorem State.index_unjudged (h : s.indexJudged c = false) : ((s.index c).fb c).suspect = (s.fb c).suspect ∧ (s.index c).mbx = s.mbx := by
  have hkept : s.index c = s.indexKept c := by rw [State.index_eq, h]; rfl
  rw [hkept, State.indexKept_fb, h]
  exact ⟨Bool.and_true _, State.indexKept_mbx⟩

/-- An interval outside the tolerance: the error carries it. -/
theorem State.index_fails (hjudged : s.indexJudged c = true) (hfails : s.indexFits c = false) :
    ((s.index c).fb c).suspect = true ∧ ((s.index c).fb c).errCount = min (2 ^ 32 - 1) ((s.fb c).errCount + 1) ∧
      ((s.fb c).limited.getD 1 false = true → (s.index c).mbx = s.mbx) ∧
      ((s.fb c).limited.getD 1 false = false → (s.fb c).occ.length = 5 → (s.index c).mbx = (s.raise 0x0502 c.val
        (leBytes 4 ((s.fb c).occ.getD 1 0 + 1) ++ leBytes 4 (s.fb c).count.toNat ++ leInt 4 (s.fb c).sinceIndex)).mbx) := by
  have herror : s.index c = (s.indexKept c).fbError c 1 := by rw [State.index_eq, hjudged, hfails]; rfl
  obtain ⟨-, hseen, -⟩ := State.indexJudged_iff.1 hjudged
  have hlimited : ((s.indexKept c).fb c).limited = (s.fb c).limited := by rw [State.indexKept_fb]
  rw [herror]
  refine ⟨?_, ?_, fun h => ?_, fun h hlen => ?_⟩
  · rw [State.fbError_fb]
  · rw [State.fbError_fb, State.indexKept_fb]
  · exact (State.fbError_mbx_limited (hlimited.symm ▸ h)).trans State.indexKept_mbx
  · have hkind : 1 < ((s.indexKept c).fb c).occ.length := by
      rw [State.indexKept_fb]
      exact hlen ▸ by decide
    rw [(State.fbError_first (hlimited.symm ▸ h) hkind).2, State.fbOnly_indexKept.raise_mbx State.indexKept_mbx, State.indexKept_fb,
      hseen]
    rfl

theorem exec_index_running (h : s.fbIs c 1 = true) : exec (.index c) s = .next (s.index c) :=
  congrArg Host.Outcome.next (if_pos h)

/-- Settles O47: each edge by how the interface judges it, an illegal transition by what the report is made of, an index by its interval. -/
theorem edgesErrorsAndIndexes : Obligations.EdgesErrorsAndIndexes := by
  unfold Obligations.EdgesErrorsAndIndexes
  refine ⟨fun s c hhw hhas => ?_, fun s c a b w i hhw hhas hrun => ?_, fun s c hhw hhas hrun hmode => ?_⟩
  case refine_1 =>
    intro f dir mode hyst out lineA lineB lineI pol quad hall counted
    have hA : lineA = s.fbLine c 0 := funext fun mv => (State.fbComparator_eq 0 mv f.lineA).symm
    have hB : lineB = s.fbLine c 1 := funext fun mv => (State.fbComparator_eq 1 mv f.lineB).symm
    have hI : lineI = s.fbLine c 2 := funext fun mv => (State.fbComparator_eq 2 mv f.lineI).symm
    have his {m : Nat} (hrun : f.running = true) (hmode : mode = m) : s.fbIs c m = true :=
      (State.fbIs_running hhw hhas hrun m).trans (beq_iff_eq.2 hmode)
    rw [hA, hB, hI]
    refine ⟨fun a b hrun hmode hstep => ?_, fun a b hrun => exec_quadTransition_stopped hrun,
      fun u v w p q hrun hmode hok hnew hold hstep => ?_, fun u v w hrun => exec_hallChange_stopped hrun, fun hrun hmode => ?_,
      exec_wssTooth_stopped, fun rising b hrun hmode => ⟨fun hedge => ?_, exec_stepEdge_unselected⟩⟩
    · obtain ⟨t, hexec, hcounted, hlines⟩ := exec_quadTransition_counts (his hrun hmode) hstep
      rw [State.fbDir_ite] at hcounted
      exact ⟨t, hexec, hcounted, hlines⟩
    · obtain ⟨t, hexec, hcounted, hlines⟩ := exec_hallChange_counts (his hrun hmode) hok hnew hold hstep
      rw [State.fbDir_ite] at hcounted
      exact ⟨t, hexec, hcounted, hlines⟩
    · exact ⟨_, exec_wssTooth_running (his hrun hmode), State.tooth_counts⟩
    · refine ⟨_, exec_stepEdge_selected (his hrun hmode) hedge, ?_⟩
      rw [State.fbDir_ite]
      exact State.fbMove_setAB ..
  case refine_2 =>
    have his {m : Nat} (hmode : s.parN Pid.FB_MODE c.val = m) : s.fbIs c m = true :=
      (State.fbIs_running hhw hhas hrun m).trans (beq_iff_eq.2 hmode)
    refine ⟨fun h => ?_, fun p hmode hok hnew => ?_⟩
    · rcases h with ⟨rfl, hmode, hturn⟩ | ⟨rfl, hmode, hnone⟩ | ⟨rfl, hmode, hok, p, q, hnew, hold, hturn⟩
      · exact exec_quadTransition_illegal (his hmode) hturn
      · exact exec_hallChange_illegal (his hmode) hnone
      · exact exec_hallChange_skips (his hmode) hok hnew hold hturn
    · rw [exec_hallChange_running (his hmode), State.hall_first hnew hok, State.hallSeen_eq]
  case refine_3 =>
    have his : s.fbIs c 1 = true := (State.fbIs_running hhw hhas hrun 1).trans (beq_iff_eq.2 hmode)
    intro f interval lines ok
    obtain ⟨hpos, hseen', hdir', hcount, hinterval⟩ := State.index_marks (s := s) (c := c)
    refine ⟨_, exec_index_running his, State.fbOnly_index.frame, hpos, hseen', hdir', hcount,
      fun hseen => hinterval.trans (if_pos hseen), State.fbOnly_index.others,
      fun hlines hseen hdir hok => ?_, fun hlines hseen hdir hok => ?_, fun h => ?_⟩
    · exact State.index_fits (State.indexJudged_iff.2 ⟨hlines, hseen, hdir⟩) (decide_eq_true hok)
    · exact State.index_fails (State.indexJudged_iff.2 ⟨hlines, hseen, hdir⟩) (decide_eq_false hok)
    · refine State.index_unjudged (Bool.eq_false_iff.2 fun hjudged => ?_)
      obtain ⟨hlines, hseen, hdir⟩ := State.indexJudged_iff.1 hjudged
      rcases h with hzero | hnone | hturned
      · exact hlines hzero
      · exact Bool.false_ne_true (hnone.symm.trans hseen)
      · exact Bool.false_ne_true (hdir.symm.trans hturned)

end Sys2Proof.Machine
end

section
/-! Frames of the absolute modes, the line monitor and the speed time-out (R178, R187, R190 to R197, R199). -/

namespace Sys2Proof.Machine

variable {s t : State} {c : Ch} {value : Nat} {rx : SentRx} {on : Bool}

/-! ### A good frame (R193, R194, R197) -/

/-- The signed change from the last position to that of a frame. -/
def State.absChange (s : State) (c : Ch) (value : Nat) : Int :=
  sint (s.parN Pid.FB_ABS_BITS c.val) (uint (s.parN Pid.FB_ABS_BITS c.val) ((s.absField c value : Int) - (s.fb c).absPos))

/-- The count after a good frame: the position of the first, the change of a later one added. -/
def State.absCount (s : State) (c : Ch) (value : Nat) : BitVec 32 :=
  if !(s.fb c).absSeen then BitVec.ofNat 32 (s.absField c value)
  else (s.fb c).count + BitVec.ofInt 32 (s.fbDir c (s.absChange c value))

/-- The frame is taken for the last, and trusted. -/
def State.absTaken (s : State) (c : Ch) (value : Nat) : State :=
  s.onFb c fun f =>
    { f with absRaw := BitVec.ofNat 64 value, absPos := s.absField c value, absSeen := true, checkErr := false, suspect := false }

/-- The count follows the frame. -/
def State.absCounted (s : State) (c : Ch) (value : Nat) : State :=
  if !(s.fb c).absSeen then (s.absTaken c value).onFb c fun f => { f with count := BitVec.ofNat 32 (s.absField c value) }
  else if s.fbDir c (s.absChange c value) = 0 then s.absTaken c value
  else (s.absTaken c value).fbMove c (s.fbDir c (s.absChange c value)) true

theorem State.goodFrame_eq : s.goodFrame c value = (s.absCounted c value).onFb c fun f => { f with latched := f.count } := rfl

theorem State.absTaken_fb :
    (s.absTaken c value).fb c =
      { s.fb c with
        absRaw := BitVec.ofNat 64 value, absPos := s.absField c value, absSeen := true, checkErr := false, suspect := false } :=
  State.onFb_fb_same ..

theorem State.fbOnly_absCounted : State.FbOnly c s (s.absCounted c value) := by
  have htaken : State.FbOnly c s (s.absTaken c value) := State.fbOnly_onFb _
  unfold State.absCounted
  split
  · exact htaken.trans (State.fbOnly_onFb _)
  · split
    · exact htaken
    · exact htaken.trans (State.fbOnly_fbMove ..)

theorem State.absCounted_fb :
    (s.absCounted c value).fb c =
      { (s.absCounted c value).fb c with
        count := s.absCount c value, absRaw := BitVec.ofNat 64 value, absPos := s.absField c value, absSeen := true
        checkErr := false, suspect := false, lastCal := (s.fb c).lastCal, ssiBusy := (s.fb c).ssiBusy } := by
  unfold State.absCounted State.absCount
  split
  · rw [State.onFb_fb_same, State.absTaken_fb]
  · split
    · next hstill => rw [State.absTaken_fb, hstill, show BitVec.ofInt 32 0 = 0#32 from rfl, BitVec.add_zero]
    · rw [State.fbMove_fb, State.absTaken_fb]

theorem State.fbOnly_goodFrame : State.FbOnly c s (s.goodFrame c value) := by
  rw [State.goodFrame_eq]
  exact State.fbOnly_absCounted.trans (State.fbOnly_onFb _)

theorem State.goodFrame_fb :
    (s.goodFrame c value).fb c =
      { (s.goodFrame c value).fb c with
        count := s.absCount c value, latched := s.absCount c value, absRaw := BitVec.ofNat 64 value, absPos := s.absField c value
        absSeen := true, checkErr := false, suspect := false, lastCal := (s.fb c).lastCal, ssiBusy := (s.fb c).ssiBusy } := by
  rw [State.goodFrame_eq, State.onFb_fb_same, State.absCounted_fb]

/-- A good frame has been taken from where `s` stood. -/
structure State.TookFrame (s : State) (c : Ch) (value : Nat) (t : State) : Prop where
  count : (t.fb c).count = s.absCount c value
  raw : (t.fb c).absRaw = BitVec.ofNat 64 value
  pos : (t.fb c).absPos = s.absField c value
  seen : (t.fb c).absSeen = true
  trusted : (t.fb c).suspect = false
  checked : (t.fb c).checkErr = false
  latched : (t.fb c).latched = (t.fb c).count
  others : ∀ d, d ≠ c → t.fb d = s.fb d

/-- The count, the last position, and whether there is one: what a frame is compared with. -/
def Fb.place (f : Fb) : BitVec 32 × Nat × Bool := (f.count, f.absPos, f.absSeen)

theorem State.FbOnly.absField (h : State.FbOnly c s t) : t.absField c value = s.absField c value := by
  unfold State.absField
  simp only [h.parN]

theorem State.FbOnly.absCount (h : State.FbOnly c s t) (hplace : (t.fb c).place = (s.fb c).place) :
    t.absCount c value = s.absCount c value := by
  simp only [Fb.place, Prod.mk.injEq] at hplace
  obtain ⟨hcount, hpos, hseen⟩ := hplace
  unfold State.absCount State.absChange
  rw [hcount, hpos, hseen, h.absField, h.parN, h.fbDir]

/-- A good frame comes after an update of the interface that leaves what it is compared with. -/
theorem State.FbOnly.tookFrame (h : State.FbOnly c s t) (hplace : (t.fb c).place = (s.fb c).place) :
    s.TookFrame c value (t.goodFrame c value) where
  count := by rw [State.goodFrame_fb, h.absCount hplace]
  raw := by rw [State.goodFrame_fb]
  pos := by rw [State.goodFrame_fb, h.absField]
  seen := by rw [State.goodFrame_fb]
  trusted := by rw [State.goodFrame_fb]
  checked := by rw [State.goodFrame_fb]
  latched := by rw [State.goodFrame_fb]
  others := (h.trans State.fbOnly_goodFrame).others

theorem State.TookFrame.count_first (h : s.TookFrame c value t) (hseen : (s.fb c).absSeen = false) :
    (t.fb c).count = BitVec.ofNat 32 (s.absField c value) :=
  h.count.trans (if_pos (by rw [hseen]; rfl))

theorem State.TookFrame.count_later (h : s.TookFrame c value t) (hseen : (s.fb c).absSeen = true) :
    (t.fb c).count =
      (s.fb c).count + BitVec.ofInt 32 ((if s.parB Pid.FB_COUNT_DIR c.val then -1 else 1) * s.absChange c value) := by
  rw [h.count, State.absCount, if_neg (by rw [hseen]; exact Bool.false_ne_true), State.fbDir_eq_mul]

/-! ### A frame that fails its checks (R190, R191, R197) -/

theorem State.badFrame_fb :
    (s.badFrame c).fb c =
      { (s.badFrame c).fb c with
        count := (s.fb c).count, checkErr := true, suspect := true, slowBits := (s.fb c).slowBits, ssiBusy := (s.fb c).ssiBusy } := by
  rw [State.badFrame, State.fbError_fb, State.onFb_fb_same]

/-! ### SENT (R190) -/

/-- The calibration pulse is the last. -/
def State.setCal (s : State) (c : Ch) (calNs : Nat) : State := s.onFb c fun f => { f with lastCal := some calNs }

theorem State.setCal_fb (calNs : Nat) : (s.setCal c calNs).fb c = { s.fb c with lastCal := some calNs } := State.onFb_fb_same ..

theorem State.fbOnly_setCal (calNs : Nat) : State.FbOnly c s (s.setCal c calNs) := State.fbOnly_onFb _

theorem State.slowChannel_fb (status : BitVec 4) :
    (s.slowChannel c status).fb c =
      { s.fb c with slowBits := ((s.slowChannel c status).fb c).slowBits, sentSlow := ((s.slowChannel c status).fb c).sentSlow } := by
  unfold State.slowChannel
  dsimp only
  split
  · rw [State.raise_fb, State.onFb_fb_same]
  · rw [State.onFb_fb_same]

theorem State.fbOnly_slowChannel (status : BitVec 4) : State.FbOnly c s (s.slowChannel c status) := by
  unfold State.slowChannel
  dsimp only
  split
  · exact (State.fbOnly_onFb _).trans (State.fbOnly_raiseS c _ _ false _)
  · exact State.fbOnly_onFb _

/-- The serial message beside a frame leaves what the frame said. -/
theorem State.TookFrame.slowChannel (h : s.TookFrame c value t) (status : BitVec 4) : s.TookFrame c value (t.slowChannel c status) where
  count := by rw [State.slowChannel_fb, h.count]
  raw := by rw [State.slowChannel_fb, h.raw]
  pos := by rw [State.slowChannel_fb, h.pos]
  seen := by rw [State.slowChannel_fb, h.seen]
  trusted := by rw [State.slowChannel_fb, h.trusted]
  checked := by rw [State.slowChannel_fb, h.checked]
  latched := by rw [State.slowChannel_fb, h.latched]
  others := fun d hd => ((State.fbOnly_slowChannel status).others d hd).trans (h.others d hd)

/-- The value of the data nibbles. -/
def sentValue (rx : SentRx) (n : Nat) : Nat := (sentNibbles rx n).foldl (fun (a : Nat) n => 16 * a + n.toNat) 0

theorem State.calOk_of_sentOk (h : s.sentOk c rx = true) : s.calOk c rx.calNs = true := by
  simp only [State.sentOk, Bool.and_eq_true] at h
  obtain ⟨⟨⟨hcal, -⟩, -⟩, -⟩ := h
  exact hcal

theorem State.sent_good (h : s.sentOk c rx = true) :
    s.sent c rx = ((s.setCal c rx.calNs).goodFrame c (sentValue rx (s.parN Pid.FB_SENT_NIBBLES c.val))).slowChannel c (sentStatus rx) := by
  unfold State.sent
  dsimp only
  rw [h, State.calOk_of_sentOk h]
  rfl

theorem exec_sentFrame_running (h : s.fbIs c 3 = true) : exec (.sentFrame c rx) s = .next (s.sent c rx) :=
  congrArg Host.Outcome.next (if_pos h)

theorem State.tookFrame_sent (h : s.sentOk c rx = true) :
    s.TookFrame c (sentValue rx (s.parN Pid.FB_SENT_NIBBLES c.val)) (s.sent c rx) ∧ ((s.sent c rx).fb c).lastCal = some rx.calNs := by
  rw [State.sent_good h]
  constructor
  · exact ((State.fbOnly_setCal _).tookFrame (by rw [State.setCal_fb]; rfl)).slowChannel _
  · rw [State.slowChannel_fb, State.goodFrame_fb, State.setCal_fb]

/-- A frame that fails leaves the count, is an error, and ends the serial message, whatever its calibration pulse. -/
theorem State.sent_bad (h : s.sentOk c rx = false) :
    ((s.sent c rx).fb c).count = (s.fb c).count ∧ ((s.sent c rx).fb c).checkErr = true ∧ ((s.sent c rx).fb c).suspect = true ∧
      ((s.sent c rx).fb c).slowBits = [] := by
  have hsent : s.sent c rx =
      ((if s.calOk c rx.calNs then s.setCal c rx.calNs else s).onFb c fun f => { f with slowBits := [] }).badFrame c := by
    unfold State.sent
    dsimp only
    rw [h]
    rfl
  have hcount : ((if s.calOk c rx.calNs then s.setCal c rx.calNs else s).fb c).count = (s.fb c).count := by
    split
    · rw [State.setCal_fb]
    · rfl
  rw [hsent, State.badFrame_fb, State.onFb_fb_same, hcount]
  exact ⟨rfl, rfl, rfl, rfl⟩

/-! ### Serial frames (R191) -/

theorem exec_serialFrameEnd_busy {bits : BitVec 40} {idleHigh : Bool} (h : s.fbIs c 4 = true) (hbusy : (s.fb c).ssiBusy = true) :
    exec (.serialFrameEnd c bits idleHigh) s = .next (s.serial c bits idleHigh) :=
  congrArg Host.Outcome.next (if_pos (by rw [h, hbusy, Bool.and_self]))

/-- No frame is in progress any more. -/
def State.ssiDone (s : State) (c : Ch) : State := s.onFb c fun f => { f with ssiBusy := false }

theorem State.ssiDone_fb : (s.ssiDone c).fb c = { s.fb c with ssiBusy := false } := State.onFb_fb_same ..

theorem State.fbOnly_ssiDone : State.FbOnly c s (s.ssiDone c) := State.fbOnly_onFb _

/-- FB.POL turns the levels at the sampling edges (R178). -/
theorem State.serialValue_eq (bits : BitVec 40) :
    s.serialValue c bits =
      (if (s.parN Pid.FB_POL c.val).testBit 0 then ~~~bits else bits).toNat % 2 ^ s.parN Pid.FB_SSI_BITS c.val := by
  rw [State.serialValue, State.fbPol, Bool.false_bne]

theorem State.serial_eq (bits : BitVec 40) (idleHigh : Bool) :
    s.serial c bits idleHigh =
      if s.serialOk c (s.serialValue c bits) (s.fbPol c 0 idleHigh) then (s.ssiDone c).goodFrame c (s.serialValue c bits)
      else (s.ssiDone c).badFrame c := rfl

theorem State.tookFrame_ssiDone :
    s.TookFrame c value ((s.ssiDone c).goodFrame c value) ∧ (((s.ssiDone c).goodFrame c value).fb c).ssiBusy = false := by
  constructor
  · exact State.fbOnly_ssiDone.tookFrame (by rw [State.ssiDone_fb]; rfl)
  · rw [State.goodFrame_fb, State.ssiDone_fb]

theorem State.ssiDone_badFrame :
    (((s.ssiDone c).badFrame c).fb c).count = (s.fb c).count ∧ (((s.ssiDone c).badFrame c).fb c).checkErr = true ∧
      (((s.ssiDone c).badFrame c).fb c).suspect = true ∧ (((s.ssiDone c).badFrame c).fb c).ssiBusy = false := by
  rw [State.badFrame_fb, State.ssiDone_fb]
  exact ⟨rfl, rfl, rfl, rfl⟩

/-! ### The line monitor and the speed time-out (R187, R196, R197, R199) -/

theorem State.monitors_of_wss (h : s.fbIs c 6 = true) (hmonitor : s.parB Pid.FB_WSS_MONITOR c.val = true) : s.monitors c = true := by
  rw [State.monitors, h, hmonitor, Bool.and_self]

theorem State.not_monitors (h : s.parB Pid.FB_WSS_MONITOR c.val = false) : s.monitors c = false := by
  rw [State.monitors, h, Bool.and_false]

theorem exec_lineOpen_changes (h : s.monitors c = true) (hnew : (s.fb c).lineOpen ≠ on) :
    exec (.lineOpen c on) s = .next ((s.onFb c fun f =>
      { f with lineOpen := on, suspect := f.suspect || on, trustRun := if on then 0 else f.trustRun }).raise 0x0508 c.val
        [BitVec.ofNat 8 (b2n on)]) :=
  congrArg Host.Outcome.next (if_pos (by rw [h, bne_iff_ne.2 hnew, Bool.and_self]))

theorem exec_lineShort_changes (h : s.monitors c = true) (hnew : (s.fb c).lineShort ≠ on) :
    exec (.lineShort c on) s = .next ((s.onFb c fun f =>
      { f with lineShort := on, suspect := f.suspect || on, trustRun := if on then 0 else f.trustRun }).raise 0x0509 c.val
        [BitVec.ofNat 8 (b2n on)]) :=
  congrArg Host.Outcome.next (if_pos (by rw [h, bne_iff_ne.2 hnew, Bool.and_self]))

theorem exec_line_unmonitored (h : s.monitors c = false) : exec (.lineOpen c on) s = .next s ∧ exec (.lineShort c on) s = .next s := by
  have hoff (b : Bool) : ¬(s.monitors c && b) = true := by rw [h]; exact Bool.false_ne_true
  exact ⟨congrArg Host.Outcome.next (if_neg (hoff _)), congrArg Host.Outcome.next (if_neg (hoff _))⟩

theorem exec_speedTimeout_running (hhw : s.hwOn = true) (hrun : (s.fb c).running = true) (hmode : s.parN Pid.FB_MODE c.val ≠ 0) :
    exec (.speedTimeout c) s = .next (s.onFb c fun f =>
      { f with periods := [], standstill := true, haveEdge := false, firstPeriod := true
               suspect := f.suspect || s.parN Pid.FB_MODE c.val == 3 || s.parN Pid.FB_MODE c.val == 4 }) := by
  have hexec : exec (.speedTimeout c) s = execSpeedTimeout c s := rfl
  rw [hexec, execSpeedTimeout, State.fbMode_running hrun]
  exact congrArg Host.Outcome.next (if_pos (by rw [hhw, bne_iff_ne.2 hmode, Bool.and_self]))

/-- Settles O48: a frame by its checks, a line by what the monitor finds changed, the time-out by the mode. -/
theorem absoluteFramesAndLineMonitor : Obligations.AbsoluteFramesAndLineMonitor := by
  unfold Obligations.AbsoluteFramesAndLineMonitor
  refine ⟨fun s c hhw hhas hrun => ?_, fun s c on hhw hhas hrun => ?_⟩
  all_goals
    have his {m : Nat} (hmode : s.parN Pid.FB_MODE c.val = m) : s.fbIs c m = true :=
      (State.fbIs_running hhw hhas hrun m).trans (beq_iff_eq.2 hmode)
  case refine_1 =>
    intro f bits dir good bad
    have hgood {value : Nat} {t : State} (h : s.TookFrame c value t) : good t value :=
      ⟨h.count_first, h.count_later, h.raw, h.pos, h.seen, h.trusted, h.checked, h.latched, h.others⟩
    refine ⟨fun rx hmode hok => ?_, fun rx hmode hfails => ?_, fun x idleHigh hmode hbusy => ?_⟩
    · obtain ⟨htook, hcal⟩ := State.tookFrame_sent hok
      exact ⟨_, exec_sentFrame_running (his hmode), hgood htook, hcal⟩
    · obtain ⟨hcount, hcheck, hsuspect, hslow⟩ := State.sent_bad hfails
      exact ⟨_, exec_sentFrame_running (his hmode), ⟨hcount, hcheck, hsuspect⟩, hslow⟩
    · have hexec := exec_serialFrameEnd_busy (bits := x) (idleHigh := idleHigh) (his hmode) hbusy
      rw [State.serial_eq] at hexec
      dsimp only
      rw [← State.serialValue_eq]
      refine ⟨fun hok => ?_, fun hfails => ?_⟩
      · obtain ⟨htook, hdone⟩ := State.tookFrame_ssiDone (s := s) (c := c) (value := s.serialValue c x)
        exact ⟨_, hexec.trans (congrArg Host.Outcome.next (if_pos hok)), hgood htook, hdone⟩
      · obtain ⟨hcount, hcheck, hsuspect, hdone⟩ := State.ssiDone_badFrame (s := s) (c := c)
        exact ⟨_, hexec.trans (congrArg Host.Outcome.next (if_neg (ne_true_of_eq_false hfails))), ⟨hcount, hcheck, hsuspect⟩, hdone⟩
  case refine_2 =>
    exact ⟨fun hmode hmonitor => exec_lineOpen_changes (State.monitors_of_wss (his hmode) hmonitor),
      fun hmode hmonitor => exec_lineShort_changes (State.monitors_of_wss (his hmode) hmonitor),
      fun hoff => exec_line_unmonitored (State.not_monitors hoff), exec_speedTimeout_running hhw hrun⟩

end Sys2Proof.Machine
end

section
/-! The statement about firings (R213, R216, R221, R225, R230). A rule fires only in a fabric cycle at whose end its gate holds (R213,
assumption 56). The statement takes every called rule that may fire for one that fires, whatever its gate. -/

namespace Sys2Proof.Machine

variable {s : State} {r : RuleIx}

/-- A rule whose gate does not hold makes no firing (R213). -/
theorem State.firings_of_gate (h : s.gateOk (s.ruleWord r) = false) : ∀ x ∈ s.firings, x.rule ≠ r := by
  intro x hx e
  simp only [State.firings, List.mem_map, List.mem_filter, Bool.and_eq_true] at hx
  obtain ⟨q, ⟨-, -, hgate⟩, rfl⟩ := hx
  rw [show q = r from e, h] at hgate
  exact Bool.false_ne_true hgate

theorem Rule.settle_fireCount (k : Rule) (srcNow : BitVec 24) : (k.settle srcNow).fireCount = k.fireCount := by
  unfold Rule.settle
  dsimp only
  cases k.releaseNext with
  | false => rw [if_neg Bool.false_ne_true]; split <;> rfl
  | true => rw [if_pos rfl]; split <;> rfl

theorem State.growLatched_fireCount : (s.growLatched r).fireCount = (s.rule r).fireCount := by
  unfold State.growLatched
  dsimp only
  split <;> rfl

/-- What a rule remembers at the end of a fabric cycle is no part of what its firings have recorded (R212, R213). -/
theorem State.rememberRule_fireCount : (s.rememberRule r).fireCount = (s.rule r).fireCount := by
  unfold State.rememberRule
  rw [Rule.settle_fireCount]
  dsimp only
  split <;> exact State.growLatched_fireCount

/-- No gate reads the host port's view. -/
theorem State.latchView_gateOk (w : RuleWord) : s.latchView.gateOk w = s.disarm.gateOk w := by
  have hsource : ∀ n, s.latchView.source n = s.disarm.source n := fun n =>
    congrArg (s.pulses.contains n || ·) (State.latchView_level n)
  simp only [State.gateOk, hsource]

/-- A fabric cycle counts no firing of a rule whose gate does not hold in it, called or not (R213). -/
theorem State.cycle_fireCount_of_gate (h : s.hwOn = true) (hgate : s.disarm.gateOk (s.ruleWord r) = false) :
    (s.cycle.rule r).fireCount = (s.rule r).fireCount := by
  have hshut : s.latchView.gateOk (s.latchView.ruleWord r) = false := (State.latchView_gateOk _).trans hgate
  have hsettled := congrArg Rule.fireCount (State.cycle_rule h r)
  calc (s.cycle.rule r).fireCount
      = (s.latchView.recorded.rememberRule r).fireCount := hsettled
    _ = (s.latchView.recorded.rule r).fireCount := State.rememberRule_fireCount
    _ = (s.rule r).fireCount := congrArg Rule.fireCount (State.recorded_rule_other (State.firings_of_gate hshut))

/-! ### The counterexample -/

/-- A runtime in which rule 0 watches LIM_P of channel 0, which is active, under a gate that asks for LIM_N of channel 0, which is not
(R208, R211, R213). -/
def gateShut : State :=
  ((({ State.reset with phase := .runtime } : State).setPar Pid.RFX_RULE_LO 0 (2 ^ 17 + 2 * 2 ^ 22 + 1 * 2 ^ 24 + 1 * 2 ^ 35)).onRule 0
    fun k => { k with enabled := true }).onMotion 0 fun m => { m with limP := true }

/-- Rule 0 called in this fabric cycle. -/
def calledGateShut : State := gateShut.callFiring 0

/-- The model reaches it: the rule is called since its member is newly active, before its gate is judged (R221, assumption 56). -/
theorem gateShut_reaches : gateShut.hwOn = true ∧ gateShut.fires 0 = true ∧ exec (.rfxFiring 0) gateShut = .next calledGateShut := by
  have hon : gateShut.hwOn = true ∧ gateShut.fires 0 = true := by decide +kernel
  obtain ⟨hhw, hfires⟩ := hon
  exact ⟨hhw, hfires, congrArg Host.Outcome.next (if_pos (by rw [hhw, hfires]; rfl))⟩

theorem calledGateShut_due :
    calledGateShut.hwOn = true ∧ calledGateShut.fabOn = true ∧ (calledGateShut.rule 0).due = true ∧
      (calledGateShut.rule 0).enabled = true ∧ (calledGateShut.rule 0).enableNext = none ∧ (calledGateShut.rule 0).fireCount = 0 ∧
      calledGateShut.disarm.gateOk (calledGateShut.ruleWord 0) = false := by
  decide +kernel

/-- Refutes O49: a called rule that is enabled is said to count its firing; one whose gate does not hold at the end of the fabric cycle
counts none. -/
theorem not_firingIsCapturedAndActs : ¬ Obligations.FiringIsCapturedAndActs := by
  unfold Obligations.FiringIsCapturedAndActs
  rintro ⟨hcaptured, -⟩
  obtain ⟨hhw, hfab, hdue, henabled, hnext, hcount, hgate⟩ := calledGateShut_due
  obtain ⟨-, -, -, hcycle⟩ := hcaptured calledGateShut 0 hhw
  obtain ⟨t, hstep, -, hfires, -⟩ := hcycle rfl hfab
  obtain ⟨-, hcounted, -⟩ := hfires hdue henabled (by rw [hnext]; decide)
  have ht : t = calledGateShut.cycle := (Host.Outcome.next.inj hstep).symm
  rw [ht, State.cycle_fireCount_of_gate hhw hgate, hcount] at hcounted
  exact absurd hcounted (by decide)

end Sys2Proof.Machine
end

section
/-! Device-level stops (R315, R342): what each channel has after them, whatever its twin had. -/

namespace Sys2Proof.Machine

variable {s : State} {c d : Ch} {set : Causes → Causes}

/-! ### One channel's stop -/

/-- A motion engine that a fault has told to stop (R64, R82). -/
def Motion.faultStop (m : Motion) : Motion := { m with armed := none, stopFault := true, rampReq := some .fault }

/-- What the stop of another channel leaves as it was on one that it does not tell to stop: state, FETs, causes and motion. -/
def Channel.stopView (k : Channel) : ChState × Bool × Causes × Motion := (k.state, k.fetsOff, k.causes, k.motion)

theorem Channel.stopView_eq {k k' : Channel} :
    k'.stopView = k.stopView ↔ k'.state = k.state ∧ k'.fetsOff = k.fetsOff ∧ k'.causes = k.causes ∧ k'.motion = k.motion := by
  simp only [Channel.stopView, Prod.mk.injEq]

theorem State.deviceStop_rollcall (h : (s.chan c).state = .rollcall) :
    s.deviceStop c set = s.faultOff c fun k => { set k with rollCall := true } := by
  simp only [State.deviceStop, h]

theorem State.deviceStop_other (h : (s.chan c).state ≠ .rollcall) : s.deviceStop c set = s.faultMotion c set := by
  unfold State.deviceStop
  split
  · next hcall => exact absurd hcall h
  · rfl

/-- A device-level stop changes channels, groups and the mailboxes alone. -/
theorem State.deviceStop_frame :
    s.deviceStop c set =
      { s with chans := (s.deviceStop c set).chans, groups := (s.deviceStop c set).groups, mbx := (s.deviceStop c set).mbx } := by
  by_cases h : (s.chan c).state = .rollcall
  · rw [State.deviceStop_rollcall h]
    exact State.faultOff_frame ..
  · rw [State.deviceStop_other h, State.faultMotion_frame]

/-- An energised channel is told to stop once, or twice beside an energised twin that has its own turn. -/
theorem State.faultMotion_chan_same (h : (s.chan c).state.energised = true) :
    (s.faultMotion c set).chan c = (s.chan c).faultStop set := by
  unfold State.faultMotion
  rw [if_pos (show s.energised c = true from h)]
  dsimp only
  split
  · rw [State.onChan_chan_other _ _ _ _ (twinOf_ne c), State.onChan_chan_same]
  · exact State.onChan_chan_same ..

/-- Of the other channels an energised twin is told to stop too, and no other (R114). -/
theorem State.faultMotion_chan_other (hd : d ≠ c) :
    (s.faultMotion c set).chan d = s.chan d ∨
      ((s.chan d).state.energised = true ∧ (s.faultMotion c set).chan d = (s.chan d).faultStop set) := by
  unfold State.faultMotion
  dsimp only
  split
  · split
    · next hpair =>
      by_cases htwin : d = twinOf c
      · subst htwin
        simp only [State.pairEnergised, Bool.and_eq_true] at hpair
        obtain ⟨-, hon⟩ := hpair
        right
        rw [State.onChan_chan_same, State.onChan_chan_other _ _ _ _ hd]
        exact ⟨hon, rfl⟩
      · left
        rw [State.onChan_chan_other _ _ _ _ htwin, State.onChan_chan_other _ _ _ _ hd]
    · exact .inl (State.onChan_chan_other _ _ _ _ hd)
  · exact .inl rfl

/-- A channel that a fault turns off leaves state, FETs, causes and motion of every other channel as they were (R113). -/
theorem State.faultOff_stopView (hd : d ≠ c) : ((s.faultOff c set).chan d).stopView = (s.chan d).stopView := by
  have hcoff : ((s.faultedCh c set).chan d) = s.chan d := by
    rw [State.faultedCh, State.onChan_chan_other _ _ _ _ hd, State.leaveGroup_chan]
  by_cases hdis : (s.chan c).state = .disabled
  · rw [State.faultOff_disabled hdis]
  · by_cases hpark : (s.chan c).state = .parked
    · rw [State.faultOff_parked hpark, State.onCauses_chan, if_neg hd]
    · rw [State.faultOff_on hdis hpark]
      split
      · rw [hcoff]
      · by_cases htwin : d = twinOf c
        · subst htwin
          obtain ⟨hk, -⟩ := State.partnerOff_chan_twin (s := s.faultedCh c set) (c := c) 1 rfl rfl
          rw [hk, hcoff]
          rfl
        · rw [State.partnerOff_chan _ _ _ _ htwin, hcoff]

/-- The stop of another channel, as one channel finds it. -/
theorem State.deviceStop_chan_other (hd : d ≠ c) :
    ((s.deviceStop c set).chan d).stopView = (s.chan d).stopView ∨
      ((s.chan d).state.energised = true ∧ ((s.deviceStop c set).chan d).stopView = ((s.chan d).faultStop set).stopView) := by
  by_cases h : (s.chan c).state = .rollcall
  · rw [State.deviceStop_rollcall h]
    exact .inl (State.faultOff_stopView hd)
  · rw [State.deviceStop_other h]
    rcases State.faultMotion_chan_other (s := s) (set := set) hd with hsame | ⟨hon, hstop⟩
    · exact .inl (congrArg Channel.stopView hsame)
    · exact .inr ⟨hon, congrArg Channel.stopView hstop⟩

/-! ### All channels that it affects -/

/-- The stops of all channels that are energised or in ROLLCALL (R315, R342). -/
@[irreducible] def State.deviceStops (s : State) (set : Causes → Causes) : State :=
  s.forAll (maskChs s.deviceStopMask) fun c t => t.deviceStop c set

theorem State.deviceStops_frame :
    s.deviceStops set =
      { s with chans := (s.deviceStops set).chans, groups := (s.deviceStops set).groups, mbx := (s.deviceStops set).mbx } := by
  unfold State.deviceStops
  refine State.forAll_invariant (P := fun t => t = { s with chans := t.chans, groups := t.groups, mbx := t.mbx })
    (fun c _ t ht => ?_) rfl
  have hturn := t.deviceStop_frame (c := c) (set := set)
  rw [ht] at hturn ⊢
  exact hturn

theorem mem_deviceStopMask : c ∈ maskChs s.deviceStopMask ↔ (s.chan c).state.energised = true ∨ (s.chan c).state = .rollcall := by
  rw [mem_maskChs, State.deviceStopMask, maskBit_maskWhere, Bool.or_eq_true, beq_iff_eq]
  rfl

/-- What is neither energised nor in ROLLCALL stays as it was. -/
theorem State.deviceStops_kept (hcall : (s.chan c).state ≠ .rollcall) (hon : (s.chan c).state.energised = false) :
    ((s.deviceStops set).chan c).stopView = (s.chan c).stopView := by
  unfold State.deviceStops
  refine State.forAll_invariant (P := fun t => (t.chan c).stopView = (s.chan c).stopView) (fun d hd t ht => ?_) rfl
  have hne : c ≠ d := by
    rintro rfl
    rcases mem_deviceStopMask.1 hd with h | h
    · exact Bool.false_ne_true (hon.symm.trans h)
    · exact hcall h
  rcases State.deviceStop_chan_other (s := t) (set := set) hne with hsame | ⟨hon', -⟩
  · exact hsame.trans ht
  · have hstate : (t.chan c).state = (s.chan c).state := congrArg Prod.fst ht
    rw [hstate, hon] at hon'
    exact absurd hon' Bool.false_ne_true

/-- A channel in ROLLCALL is in FAULT (R315, R342). -/
theorem State.deviceStops_rollcall (h : (s.chan c).state = .rollcall) :
    ((s.deviceStops set).chan c).faulted ∧ ∃ k, ((s.deviceStops set).chan c).causes = { set k with rollCall := true } := by
  have hother : ∀ (d : Ch) (t : State) (st : ChState), c ≠ d → st.energised = false → (t.chan c).state = st →
      ((t.deviceStop d set).chan c).stopView = (t.chan c).stopView := fun d t st hd hst ht => by
    rcases State.deviceStop_chan_other (s := t) (set := set) hd with hsame | ⟨hon, -⟩
    · exact hsame
    · rw [ht, hst] at hon
      exact absurd hon Bool.false_ne_true
  unfold State.deviceStops
  refine State.forAll_turn (before := fun t => (t.chan c).state = .rollcall)
    (after := fun t => (t.chan c).faulted ∧ ∃ k, (t.chan c).causes = { set k with rollCall := true })
    (mem_deviceStopMask.2 (.inr h)) (maskChs_nodup _) (fun d _ hd t ht => ?_) (fun t ht => ?_) (fun d _ hd t ht => ?_) h
  · exact (congrArg Prod.fst (hother d t _ hd.symm rfl ht)).trans ht
  · rw [State.deviceStop_rollcall ht]
    obtain ⟨hfaulted, hcauses⟩ := State.faultOff_faulted (s := t) (c := c) (by rw [ht]; decide) (by rw [ht]; decide)
      fun k => { set k with rollCall := true }
    exact ⟨hfaulted, _, hcauses⟩
  · obtain ⟨⟨hstate, hoff, hvel⟩, k, hcauses⟩ := ht
    obtain ⟨hstate', hoff', hcauses', hmotion'⟩ := Channel.stopView_eq.1 (hother d t _ hd.symm rfl hstate)
    exact ⟨⟨hstate'.trans hstate, hoff'.trans hoff, (congrArg Motion.vel hmotion').trans hvel⟩, k, hcauses'.trans hcauses⟩

/-- An energised channel is told to ramp-stop with the cause latched (R315, R342). -/
theorem State.deviceStops_energised (h : (s.chan c).state.energised = true) :
    ((s.deviceStops set).chan c).state = (s.chan c).state ∧ ((s.deviceStops set).chan c).motion = (s.chan c).motion.faultStop ∧
      ∃ k, ((s.deviceStops set).chan c).causes = set k := by
  have hcall : (s.chan c).state ≠ .rollcall := fun e => by rw [e] at h; exact Bool.false_ne_true h
  unfold State.deviceStops
  refine State.forAll_turn
    (before := fun t => (t.chan c).state = (s.chan c).state ∧ (t.chan c).motion.faultStop = (s.chan c).motion.faultStop)
    (after := fun t => (t.chan c).state = (s.chan c).state ∧ (t.chan c).motion = (s.chan c).motion.faultStop ∧
      ∃ k, (t.chan c).causes = set k)
    (mem_deviceStopMask.2 (.inl h)) (maskChs_nodup _) (fun d _ hd t ht => ?_) (fun t ht => ?_) (fun d _ hd t ht => ?_) ⟨rfl, rfl⟩
  · obtain ⟨hstate, hmotion⟩ := ht
    rcases State.deviceStop_chan_other (s := t) (set := set) hd.symm with hview | ⟨-, hview⟩
    · obtain ⟨hstate', -, -, hmotion'⟩ := Channel.stopView_eq.1 hview
      exact ⟨hstate'.trans hstate, (congrArg Motion.faultStop hmotion').trans hmotion⟩
    · obtain ⟨hstate', -, -, hmotion'⟩ := Channel.stopView_eq.1 hview
      exact ⟨hstate'.trans hstate, (congrArg Motion.faultStop hmotion').trans hmotion⟩
  · obtain ⟨hstate, hmotion⟩ := ht
    rw [State.deviceStop_other (by rw [hstate]; exact hcall), State.faultMotion_chan_same (by rw [hstate]; exact h)]
    exact ⟨hstate, hmotion, _, rfl⟩
  · obtain ⟨hstate, hmotion, k, hcauses⟩ := ht
    rcases State.deviceStop_chan_other (s := t) (set := set) hd.symm with hview | ⟨-, hview⟩
    · obtain ⟨hstate', -, hcauses', hmotion'⟩ := Channel.stopView_eq.1 hview
      exact ⟨hstate'.trans hstate, hmotion'.trans hmotion, k, hcauses'.trans hcauses⟩
    · obtain ⟨hstate', -, hcauses', hmotion'⟩ := Channel.stopView_eq.1 hview
      exact ⟨hstate'.trans hstate, hmotion'.trans (congrArg Motion.faultStop hmotion :), _, hcauses'⟩

end Sys2Proof.Machine
end
section
/-! The beginning and the end of an Eclipse (R254, R261, R304, R309 to R312, R316, R439). -/

namespace Sys2Proof.Machine

variable {s : State}

/-! ### A cause arises (R309, R316) -/

/-- The block as the restart finds it: an uncorrectable RAM error may have struck queued records (R439). -/
def State.struckBy (s : State) (cause : Nat) : State := if cause == 2 then s.ramError else s

theorem State.struckBy_frame (cause : Nat) :
    s.struckBy cause = { s with mbx := { s.mbx with queue := (s.struckBy cause).mbx.queue } } := by
  unfold State.struckBy
  split <;> rfl

theorem exec_eclipseStart_runtime {cause : Fin 7} (hhw : s.hwOn = true) (hcause : cause.val ≠ 0) (hhalted : s.boot.halted = false) :
    exec (.eclipseStart cause) s = .next ((s.struckBy cause.val).eclipseStart cause.val) := by
  have hguard : (s.hwOn && cause.val != 0 && !s.boot.halted) = true := by simp [hhw, hcause, hhalted]
  exact congrArg Host.Outcome.next (if_pos hguard)

/-- What stands in the mailboxes has no part in the beginning of a restart. -/
theorem State.eclipseStart_struckBy (cause n : Nat) :
    (s.struckBy cause).eclipseStart n = { s.eclipseStart n with mbx := { s.mbx with queue := (s.struckBy cause).mbx.queue } } :=
  (congrArg (State.eclipseStart · n) (s.struckBy_frame cause)).trans rfl

/-- One of the three attempts (R316). -/
theorem State.eclipseStart_attempt (n : Nat) (h : s.nextAttempt ≤ 3) :
    let b := (s.eclipseStart n).boot
    b.eclipse = true ∧ b.halted = false ∧ b.attempts = s.nextAttempt ∧ b.result = 0 := by
  have hunused : ¬3 < s.nextAttempt := Nat.not_lt.2 h
  exact ⟨by simp [State.eclipseStart, State.interruptCals, hunused], by simp [State.eclipseStart, State.interruptCals, hunused],
    Nat.min_eq_right h, if_neg (by simpa using hunused)⟩

/-- The fourth: the processor stays halted (R316, assumption 53). -/
theorem State.eclipseStart_halts (n : Nat) (h : 3 < s.nextAttempt) :
    let b := (s.eclipseStart n).boot
    b.eclipse = false ∧ b.halted = true ∧ b.attempts = 3 ∧ b.result = 3 :=
  ⟨by simp [State.eclipseStart, State.interruptCals, h], by simp [State.eclipseStart, State.interruptCals, h],
    Nat.min_eq_left h.le, if_pos (by simpa using h)⟩

/-- A new Eclipse counts its time and its autonomy bound afresh (R309, R315). -/
theorem State.eclipseStart_afresh (n : Nat) (h : s.boot.eclipse = false) :
    (s.eclipseStart n).boot.elapsed = 0 ∧ (s.eclipseStart n).boot.expired = false := by
  simp [State.eclipseStart, State.interruptCals, h]

/-- A step that still collects ends with reason 6 (R254, R261). -/
theorem State.eclipseStart_cal (n : Nat) {i : EntryIx} {k : CalRun} (h : s.entries[i].cal = some k) :
    (s.eclipseStart n).entries[i].cal = some (if k.done then k else { k with ended := some 6 }) := by
  simp only [State.eclipseStart, State.interruptCals, Fin.getElem_fin, Vector.getElem_map]
  simp only [Fin.getElem_fin] at h
  rw [h]
  rfl

/-- Before runtime start an uncorrectable RAM error counts for the verification (R304). -/
theorem exec_eclipseStart_boot {cause : Fin 7} (hphase : s.phase = .boot) (hdebug : s.sec.debugHalt = false) (hcause : cause.val = 2) :
    exec (.eclipseStart cause) s = .next { s with boot := { s.boot with stagingError := true } } := by
  have hhw : s.hwOn = false := by simp [State.hwOn, hphase]
  have hboot : s.bootOn = true := by simp [State.bootOn, hphase, hdebug]
  change execEclipseStart cause s = _
  simp [execEclipseStart, hhw, hboot, hcause]

/-! ### The restart completes (R312) -/

/-- What the firmware learns of changes the mailboxes alone: neither what waits for a restart, nor a waiting command, nor the
queue. -/
def State.besideEvents (s : State) : State :=
  { s with mbx := { Mailbox.init with deferred := s.mbx.deferred, waiting := s.mbx.waiting, queue := s.mbx.queue } }

theorem State.ringUp_besideEvents (e : Event) : (s.ringUp e).besideEvents = s.besideEvents := by
  unfold State.ringUp State.besideEvents
  rw [Mailbox.store_frame]

theorem State.learn_besideEvents (e : Event) : (s.learn e).besideEvents = s.besideEvents := by
  unfold State.learn State.post
  split
  · split <;> rfl
  · split
    · rfl
    · exact State.ringUp_besideEvents _

theorem State.raise_besideEvents (hecl : s.boot.eclipse = false) (hhalt : s.boot.halted = false) (code inst : Nat) (p : List Byte) :
    (s.raise code inst p).besideEvents = s.besideEvents := by
  unfold State.raise State.raiseS
  dsimp only
  rw [hecl, hhalt, Bool.or_self, Bool.and_false, if_neg Bool.false_ne_true]
  split
  · rfl
  · exact State.learn_besideEvents _

/-- Nothing waits for the restart any more (R312). -/
def State.noDeferred (s : State) : State := { s with mbx := { s.mbx with deferred := [] } }

theorem State.noDeferred_besideEvents : s.noDeferred.besideEvents = s.besideEvents.noDeferred := rfl

theorem State.postDeferred_besideEvents : s.postDeferred.besideEvents = s.noDeferred.besideEvents := by
  unfold State.postDeferred
  exact State.forAll_keeps State.besideEvents (fun _ _ => State.learn_besideEvents _) _

section
variable {β : Type} (g : State → β)
  (hg : ∀ (t : State) (ps : List (Nat × Int)) (v : Vector Can 2), g { t with params := ps, cans := v } = g t)
include hg

theorem State.setPar_onCan_keeps (id inst : Nat) (v : Int) (c : CanIx) (f : Can → Can) : g ((s.setPar id inst v).onCan c f) = g s :=
  hg s _ _

/-- A step of a search changes parameters and controllers alone (R378). -/
theorem State.settleSearch_keeps (c : CanIx) : g (s.settleSearch c) = g s := by
  unfold State.settleSearch State.lockCandidate
  dsimp only
  split
  · rfl
  · split
    · split
      · exact (State.setPar_onCan_keeps g hg ..).trans (State.setPar_onCan_keeps g hg ..)
      · exact State.setPar_onCan_keeps g hg ..
    · split
      · exact hg s s.params _
      · rfl

end

/-- Controllers that search for no bit timing have no step to make (R378). -/
theorem State.settleSearch_idle {c : CanIx} (h : (s.can c).detecting = false) : s.settleSearch c = s := by
  simp [State.settleSearch, h]

/-- The filter channels whose figures waited get them (R287). -/
@[irreducible] def State.retimeAll (s : State) : State := s.forAll (List.finRange 32) fun f t => if (t.flt f).retimeDue then t.retime f else t

/-- The steps of the searches that waited are made (R397). -/
@[irreducible] def State.searchAll (s : State) : State := s.forAll (List.finRange 2) fun c t => t.settleSearch c

/-- The gate-drive slices of channels in DISABLED count as switched off (R431). -/
def State.noteSlices (s : State) : State :=
  { s with chans := s.chans.map fun k => { k with powered := k.powered && k.state != .disabled } }

/-- What the firmware takes up before it turns to the link. -/
@[irreducible] def State.caughtUp (s : State) : State := s.retimeAll.searchAll.noteSlices

/-- A state but for what the firmware takes up where no Roll Call and no start of the power die has waited: figures, searches, slices,
and the settings of the power die. -/
def State.besideCatchUp (s : State) : State :=
  { s with
    params := [], cans := Vector.replicate 2 Can.init, flts := Vector.replicate 32 Flt.init, link := Link.init
    chans := s.chans.map fun k => { k with powered := false } }

theorem State.retimeAll_keeps {β : Type} (g : State → β) (hg : ∀ (t : State) (v : Vector Flt 32), g { t with flts := v } = g t) :
    g s.retimeAll = g s := by
  unfold State.retimeAll
  refine State.forAll_keeps g (fun f t => ?_) s
  split
  · exact hg t _
  · rfl

theorem State.searchAll_keeps {β : Type} (g : State → β)
    (hg : ∀ (t : State) (ps : List (Nat × Int)) (v : Vector Can 2), g { t with params := ps, cans := v } = g t) :
    g s.searchAll = g s := by
  unfold State.searchAll
  exact State.forAll_keeps g (fun c _ => State.settleSearch_keeps g hg c) s

theorem State.noteSlices_besideCatchUp : s.noteSlices.besideCatchUp = s.besideCatchUp := by
  unfold State.noteSlices State.besideCatchUp
  simp only [Vector.map_map, Function.comp_def]

theorem State.caughtUp_besideCatchUp : s.caughtUp.besideCatchUp = s.besideCatchUp := by
  unfold State.caughtUp
  exact State.noteSlices_besideCatchUp.trans ((State.searchAll_keeps _ fun _ _ _ => rfl).trans (State.retimeAll_keeps _ fun _ _ => rfl))

theorem State.caughtUp_link : s.caughtUp.link = s.link := by
  unfold State.caughtUp
  exact (State.searchAll_keeps State.link fun _ _ _ => rfl).trans (State.retimeAll_keeps State.link fun _ _ => rfl)

theorem State.caughtUp_waiting : s.caughtUp.mbx.waiting = s.mbx.waiting := by
  unfold State.caughtUp
  exact (State.searchAll_keeps (fun t => t.mbx.waiting) fun _ _ _ => rfl).trans
    (State.retimeAll_keeps (fun t => t.mbx.waiting) fun _ _ => rfl)

theorem State.caughtUp_params (h : ∀ c, (s.can c).detecting = false) : s.caughtUp.params = s.params := by
  have hcans : s.retimeAll.cans = s.cans := State.retimeAll_keeps State.cans fun _ _ => rfl
  have hidle : s.retimeAll.searchAll = s.retimeAll := by
    unfold State.searchAll
    refine State.forAll_invariant (P := fun t => t = s.retimeAll) (fun c _ t ht => ?_) rfl
    rw [ht]
    refine State.settleSearch_idle ?_
    rw [State.can, hcans]
    exact h c
  unfold State.caughtUp
  exact (congrArg State.params hidle).trans (State.retimeAll_keeps State.params fun _ _ => rfl)

theorem State.applyFigures_keeps {β : Type} (g : State → β) (hg : ∀ (t : State) (v : Vector Flt 32), g { t with flts := v } = g t) :
    g s.applyFigures = g s := by
  unfold State.applyFigures
  split
  · exact hg s _
  · rfl

theorem State.resendDue_keeps {β : Type} (g : State → β) (hg : ∀ (t : State) (l : Link), g { t with link := l } = g t) :
    g s.resendDue = g s :=
  (congrArg g State.resendDue_frame).trans (hg s _)

/-- With no Roll Call, no start of the power die and no command waiting, the firmware takes up its own units and the settings of the
power die (R287, R306, R397). -/
theorem State.catchUp_eq (hwaiting : s.mbx.waiting = none) (hup : s.link.upPending = false) (hcalls : ∀ c, (s.chan c).est.rcWait = none) :
    s.catchUp = s.caughtUp.resendDue.applyFigures := by
  unfold State.catchUp
  extract_lets calls retimed searched powered resent
  have hnone : calls = s := by
    refine State.forAll_invariant (P := fun t => t = s) (fun c _ t ht => ?_) rfl
    rw [ht, hcalls c]
  have hpowered : powered = s.caughtUp := by
    unfold State.caughtUp State.searchAll State.retimeAll
    exact congrArg (fun t : State => ((t.forAll (List.finRange 32) fun f t => if (t.flt f).retimeDue then t.retime f else t).forAll
      (List.finRange 2) fun c t => t.settleSearch c).noteSlices) hnone
  have hresent : resent = s.caughtUp.resendDue := by
    refine (if_neg ?_).trans (congrArg State.resendDue hpowered)
    rw [hpowered, State.caughtUp_link, hup]
    exact Bool.false_ne_true
  rw [hresent]
  refine State.tryComplete_none ?_
  have hsame : s.caughtUp.resendDue.applyFigures.mbx = s.caughtUp.mbx :=
    (State.applyFigures_keeps State.mbx fun _ _ => rfl).trans (State.resendDue_keeps State.mbx fun _ _ => rfl)
  rw [hsame, State.caughtUp_waiting]
  exact hwaiting

theorem State.catchUp_besideCatchUp (hwaiting : s.mbx.waiting = none) (hup : s.link.upPending = false)
    (hcalls : ∀ c, (s.chan c).est.rcWait = none) : s.catchUp.besideCatchUp = s.besideCatchUp := by
  rw [State.catchUp_eq hwaiting hup hcalls]
  exact (State.applyFigures_keeps State.besideCatchUp fun _ _ => rfl).trans
    ((State.resendDue_keeps State.besideCatchUp fun _ _ => rfl).trans State.caughtUp_besideCatchUp)

/-- A power die that answers is sent no settings anew (R306). -/
theorem State.resendDue_answering (h : s.link.answers = true) : s.resendDue = s := by
  simp [State.resendDue, State.mustResend, h]

theorem State.catchUp_link (hwaiting : s.mbx.waiting = none) (hup : s.link.upPending = false)
    (hcalls : ∀ c, (s.chan c).est.rcWait = none) (hanswers : s.link.answers = true) : s.catchUp.link = s.link := by
  rw [State.catchUp_eq hwaiting hup hcalls, State.resendDue_answering (by rw [State.caughtUp_link]; exact hanswers)]
  exact (State.applyFigures_keeps State.link fun _ _ => rfl).trans State.caughtUp_link

theorem State.catchUp_params (hwaiting : s.mbx.waiting = none) (hup : s.link.upPending = false)
    (hcalls : ∀ c, (s.chan c).est.rcWait = none) (hidle : ∀ c, (s.can c).detecting = false) : s.catchUp.params = s.params := by
  rw [State.catchUp_eq hwaiting hup hcalls, ← State.caughtUp_params hidle]
  exact (State.applyFigures_keeps State.params fun _ _ => rfl).trans (State.resendDue_keeps State.params fun _ _ => rfl)

/-- The restart has completed for the boot unit (R312). -/
def State.restarted (s : State) (ms : Nat) : State :=
  { s with boot := { s.boot with eclipse := false, result := 1, elapsed := ms * 240000, lastEnd := some s.fc } }

/-- ECLIPSE_END and the events that waited are posted, and what waited is taken up (R312). -/
theorem State.eclipseEnd_eq (ms : Nat) (hhalt : s.boot.halted = false) :
    ∃ t : State, s.eclipseEnd ms = t.catchUp ∧ t.besideEvents = (s.restarted ms).noDeferred.besideEvents := by
  let u := (s.restarted ms).raise 0x0B02 0
    ([BitVec.ofNat 8 (s.restarted ms).boot.cause, BitVec.ofNat 8 (s.restarted ms).boot.attempts] ++ leBytes 2 ms)
  have hraise : u.besideEvents = (s.restarted ms).besideEvents :=
    State.raise_besideEvents (s := s.restarted ms) rfl hhalt ..
  have hend : s.eclipseEnd ms = u.postDeferred.catchUp := rfl
  refine ⟨u.postDeferred, hend, ?_⟩
  rw [State.postDeferred_besideEvents, State.noDeferred_besideEvents, State.noDeferred_besideEvents, hraise]

end Sys2Proof.Machine
end

section
/-! The statement about Eclipses and host silence (R254, R261, R304, R309 to R312, R315, R316, R341, R342, R344, R439). -/

namespace Sys2Proof.Machine

variable {s : State}

/-! ### Eclipses -/

/-- A cause of an Eclipse in runtime (R309, R310, R316). -/
theorem eclipse_begins {cause : Fin 7} (hhw : s.hwOn = true) (hcause : cause.val ≠ 0) (hhalted : s.boot.halted = false) :
    let n := s.nextAttempt
    let fresh := !s.boot.eclipse
    ∃ t : State, exec (.eclipseStart cause) s = .next t ∧ t = { s with boot := t.boot, entries := t.entries, mbx := t.mbx } ∧
      t.mbx = { s.mbx with queue := t.mbx.queue } ∧ (cause.val ≠ 2 → t.mbx.queue = s.mbx.queue) ∧
      (cause.val = 2 → t.mbx.queue = s.mbx.queue.map fun q =>
        { q with sound := q.sound && !Config.strikes s.sec.draws s.fc q.seq }) ∧
      t.boot.cause = cause.val ∧ t.boot.count = min (2 ^ 32 - 1) (s.boot.count + b2n fresh) ∧
      (n ≤ 3 → t.boot.eclipse = true ∧ t.boot.halted = false ∧ t.boot.attempts = n ∧ t.boot.result = 0) ∧
      (3 < n → t.boot.eclipse = false ∧ t.boot.halted = true ∧ t.boot.attempts = 3 ∧ t.boot.result = 3) ∧
      (fresh = true → t.boot.elapsed = 0 ∧ t.boot.expired = false) ∧
      (∀ (i : EntryIx) (k : CalRun), s.entries[i].cal = some k →
        t.entries[i].cal = some (if k.done then k else { k with ended := some 6 })) := by
  have hstart := State.eclipseStart_struckBy (s := s) cause.val cause.val
  refine ⟨_, (exec_eclipseStart_runtime hhw hcause hhalted).trans (congrArg Host.Outcome.next hstart), rfl, rfl, fun h => ?_, fun h => ?_,
    rfl, rfl, State.eclipseStart_attempt _, State.eclipseStart_halts _, fun h => ?_, fun i k => State.eclipseStart_cal _⟩
  · simp [State.struckBy, h]
  · simp [State.struckBy, h, State.ramError]
  · exact State.eclipseStart_afresh _ (by simpa using h)

/-- The end of a restart with nothing waiting on channels and on the link (R312). -/
theorem eclipse_ends (ms : BitVec 16) (hhw : s.hwOn = true) (hecl : s.boot.eclipse = true) (hhalt : s.boot.halted = false)
    (hwaiting : s.mbx.waiting = none) (hup : s.link.upPending = false) (hcalls : ∀ c, (s.chan c).est.rcWait = none) :
    ∃ t : State, exec (.eclipseEnd ms) s = .next t ∧
      t.boot = { s.boot with eclipse := false, result := 1, elapsed := ms.toNat * 240000, lastEnd := some s.fc } ∧
      t.fwOn = true ∧ t.mbx.deferred = [] ∧ t.mbx.queue = s.mbx.queue ∧ t.pd = s.pd ∧
      (s.link.answers = true → t.link = s.link) ∧ ((∀ c, (s.can c).detecting = false) → t.params = s.params) ∧
      ∀ c : Ch, (t.chan c).state = (s.chan c).state ∧ (t.chan c).motion = (s.chan c).motion := by
  have hexec : exec (.eclipseEnd ms) s = .next (s.eclipseEnd ms.toNat) :=
    congrArg Host.Outcome.next (if_pos (by rw [hhw, hecl]; rfl))
  obtain ⟨u, hend, hu⟩ := State.eclipseEnd_eq ms.toNat hhalt
  have hwaiting' : u.mbx.waiting = none := (congrArg (fun t : State => t.mbx.waiting) hu).trans hwaiting
  have hup' : u.link.upPending = false := (congrArg (fun t : State => t.link.upPending) hu).trans hup
  have hcalls' : ∀ c, (u.chan c).est.rcWait = none := fun c => (congrArg (fun t : State => (t.chan c).est.rcWait) hu).trans (hcalls c)
  have hkept := State.catchUp_besideCatchUp hwaiting' hup' hcalls'
  have hlink : u.link.answers = true → u.catchUp.link = u.link := State.catchUp_link hwaiting' hup' hcalls'
  have hparams : (∀ c, (u.can c).detecting = false) → u.catchUp.params = u.params := State.catchUp_params hwaiting' hup' hcalls'
  refine ⟨u.catchUp, hexec.trans (congrArg Host.Outcome.next hend), ?_⟩
  generalize u.catchUp = t at hkept hlink hparams
  have hsame : ∀ {β : Type} (g : State → β), g u.besideEvents = g (s.restarted ms.toNat).noDeferred.besideEvents := fun g =>
    congrArg g hu
  refine ⟨?_, ?_, ?_, ?_, ?_, fun h => ?_, fun h => ?_, fun c => ?_⟩
  · exact (congrArg State.boot hkept).trans (hsame State.boot)
  · have hfw : t.fwOn = (s.restarted ms.toNat).fwOn := (congrArg State.fwOn hkept).trans (hsame State.fwOn)
    rw [hfw]
    simp only [State.fwOn, State.restarted, hhalt, Bool.not_false, Bool.and_true]
    exact hhw
  · exact (congrArg (fun t : State => t.mbx.deferred) hkept).trans (hsame fun t => t.mbx.deferred)
  · exact (congrArg (fun t : State => t.mbx.queue) hkept).trans (hsame fun t => t.mbx.queue)
  · exact (congrArg State.pd hkept).trans (hsame State.pd)
  · exact (hlink ((hsame fun t => t.link.answers).trans h)).trans (hsame State.link)
  · exact (hparams fun c => (hsame fun t => (t.can c).detecting).trans (h c)).trans (hsame State.params)
  · have hchan : ∀ {β : Type} (g : Channel → β), (∀ (k : Channel) (p : Bool), g { k with powered := p } = g k) →
        g (t.chan c) = g (u.chan c) := fun g hg => by
      have hk := congrArg (fun t : State => g (t.chan c)) hkept
      simpa [State.besideCatchUp, State.chan, hg] using hk
    exact ⟨(hchan Channel.state fun _ _ => rfl).trans (hsame fun t => (t.chan c).state),
      (hchan Channel.motion fun _ _ => rfl).trans (hsame fun t => (t.chan c).motion)⟩

end Sys2Proof.Machine
end

section
/-! The autonomy bound and host silence (R315, R316, R341, R342, R344), and the statement about both and the Eclipses. -/

namespace Sys2Proof.Machine

variable {s : State} {c : Ch}

/-! ### A restart that fails, and the autonomy bound (R315, R316) -/

theorem exec_eclipseRestartFailed (e : RestartFail) (hhw : s.hwOn = true) (hecl : s.boot.eclipse = true) :
    exec (.eclipseRestartFailed e) s = .next { s with boot := { s.boot with eclipse := false, halted := true, result := 2 } } := by
  have hguard : (s.hwOn && s.boot.eclipse) = true := by rw [hhw, hecl]; rfl
  cases e with
  | image => exact congrArg Host.Outcome.next (if_pos hguard)
  | data => exact congrArg Host.Outcome.next (if_pos hguard)

/-- The cause that the autonomy bound latches (R315). -/
def eclipseCause (k : Causes) : Causes := { k with eclipse := true }

/-- The autonomy bound stops the channels and is counted once (R315). -/
theorem State.expire_after :
    s.expire.boot.expired = true ∧ s.expire.boot.expiries = min (2 ^ 32 - 1) (s.boot.expiries + 1) ∧ s.expire.pd = s.pd ∧
      s.expire.params = s.params ∧ ∀ c, s.expire.chan c = (s.deviceStops eclipseCause).chan c := by
  have hstops := s.deviceStops_frame (set := eclipseCause)
  have hexpire : s.expire =
      ({ s.deviceStops eclipseCause with
        boot := { (s.deviceStops eclipseCause).boot with
          expired := true, expiries := satAdd (2 ^ 32 - 1) (s.deviceStops eclipseCause).boot.expiries 1 } } : State).raise 0x0B03 0
        (leBytes 4 s.deviceStopMask.toNat) := by
    unfold State.deviceStops
    rfl
  generalize s.deviceStops eclipseCause = u at hstops hexpire
  have hboot : u.boot = s.boot := by have h := congrArg State.boot hstops; exact h
  have hpd : u.pd = s.pd := by have h := congrArg State.pd hstops; exact h
  have hparams : u.params = s.params := by have h := congrArg State.params hstops; exact h
  rw [hexpire, State.raise_boot, State.raise_pd, State.raise_params, hboot]
  exact ⟨rfl, rfl, hpd, hparams, fun c => State.raise_chan ..⟩

theorem exec_eclipseExpired (hhw : s.hwOn = true) (hecl : s.boot.eclipse = true ∨ s.boot.halted = true) (hfirst : s.boot.expired = false) :
    exec .eclipseExpired s = .next s.expire := by
  have heclipsed : s.eclipsed = true := Bool.or_eq_true_iff.2 hecl
  exact congrArg Host.Outcome.next (if_pos (by rw [hhw, heclipsed, hfirst]; rfl))

/-! ### Host silence (R341, R342, R344) -/

/-- The cause that host silence latches (R342). -/
def silentCause (k : Causes) : Causes := { k with silent := true }

/-- The present channels that are not in PARKED park. -/
@[irreducible] def State.parkPresent (s : State) (cause : Nat) : State := s.forAll (maskChs s.unparked) fun c t => t.parkCh c cause

theorem State.parkPresent_frame (n : Nat) :
    s.parkPresent n =
      { s with chans := (s.parkPresent n).chans, groups := (s.parkPresent n).groups, mbx := (s.parkPresent n).mbx } := by
  unfold State.parkPresent
  refine State.forAll_invariant (P := fun t => t = { s with chans := t.chans, groups := t.groups, mbx := t.mbx })
    (fun c _ t ht => ?_) rfl
  have hturn := t.parkCh_frame c n
  rw [ht] at hturn ⊢
  exact hturn

/-- Every present channel is in PARKED, with this cause if it was not before (R342). -/
theorem State.parkPresent_chan (n : Nat) (hhas : s.hasCh c = true) :
    ((s.parkPresent n).chan c).state = .parked ∧ ((s.chan c).state ≠ .parked → ((s.parkPresent n).chan c).parkCause = n) := by
  unfold State.parkPresent
  by_cases hparked : (s.chan c).state = .parked
  · refine ⟨State.forAll_invariant (P := fun t => (t.chan c).state = .parked) (fun d hd t ht => ?_) hparked, fun h => absurd hparked h⟩
    have hne : c ≠ d := by
      rintro rfl
      exact (mem_unparked.1 hd).2 hparked
    rw [State.parkCh_chan_kept hne]
    exact ht
  · have hturn := State.forAll_turn (f := fun c t => State.parkCh t c n) (before := fun t => (t.chan c).state ≠ .parked)
      (after := fun t => (t.chan c).state = .parked ∧ (t.chan c).parkCause = n) (mem_unparked.2 ⟨hhas, hparked⟩) (maskChs_nodup _)
      (fun d _ hd t ht => by rw [State.parkCh_chan_kept hd.symm]; exact ht)
      (fun t ht => by rw [State.parkCh_chan_same ht]; exact ⟨rfl, rfl⟩)
      (fun d _ hd t ht => by rw [State.parkCh_chan_kept hd.symm]; exact ht) hparked
    obtain ⟨hstate, hcause⟩ := hturn
    exact ⟨hstate, fun _ => hcause⟩

theorem exec_hostSilent {action : Nat} (hhw : s.hwOn = true) (hdue : s.hp.silenceDue = some action) :
    exec .hostSilent s = .next (s.hostSilent action) := by
  change execHostSilent s = _
  simp only [execHostSilent, hdue, hhw, if_true]

/-- The action of an expiry, its event, and the marks of the host port (R341, R342). -/
theorem State.hostSilent_after {action : Nat} {u : State} (hu : (s.silenceAction action).1 = u) (hhp : u.hp = s.hp) :
    let t := s.hostSilent action
    t.hp = { s.hp with silent := true, silenceDue := none, silenceCount := min (2 ^ 32 - 1) (s.hp.silenceCount + 1) } ∧
      t.pd = u.pd ∧ t.params = u.params ∧ t.link = u.link ∧ ∀ c, t.chan c = u.chan c := by
  unfold State.hostSilent
  dsimp only
  rw [hu, State.raise_hp, hhp, State.raise_pd, State.raise_params, State.raise_link]
  exact ⟨rfl, rfl, rfl, rfl, fun c => State.raise_chan ..⟩

/-- With action PARK every channel parks (R342). -/
theorem hostSilent_parks (s : State) :
    let t := s.hostSilent 1
    t.hp = { s.hp with silent := true, silenceDue := none, silenceCount := min (2 ^ 32 - 1) (s.hp.silenceCount + 1) } ∧
      t.pd = s.pd ∧ t.params = s.params ∧ (s.link.txOn = true → ∀ c, maskBit t.link.park c = true) ∧
      ∀ c : Ch, s.hasCh c = true → (t.chan c).state = .parked ∧ ((s.chan c).state ≠ .parked → (t.chan c).parkCause = 2) := by
  have haction : (s.silenceAction 1).1 = (s.parkPresent 2).orderPark allMask := by
    unfold State.parkPresent
    rfl
  have hframe := s.parkPresent_frame 2
  have horder := (s.parkPresent 2).orderPark_frame allMask
  have hparked : ∀ c, s.hasCh c = true → _ := fun c => State.parkPresent_chan (s := s) (c := c) 2
  have hpark : (s.parkPresent 2).link.txOn = true → _ := State.orderPark_all
  generalize s.parkPresent 2 = u at *
  generalize u.orderPark allMask = v at *
  have hrest : ∀ {β : Type} (g : State → β), (∀ (t : State) ks gs m l, g { t with chans := ks, groups := gs, mbx := m, link := l } = g t) →
      g v = g s := fun g hg => by
    rw [horder, hframe]
    exact hg s ..
  have hchans : v.chans = u.chans := by rw [horder]
  have hlink : u.link = s.link := by rw [hframe]
  obtain ⟨hhp, hpd, hparams, hlinks, hchan⟩ := State.hostSilent_after haction (hrest State.hp fun _ _ _ _ _ => rfl)
  refine ⟨hhp, hpd.trans (hrest State.pd fun _ _ _ _ _ => rfl), hparams.trans (hrest State.params fun _ _ _ _ _ => rfl),
    fun htx c => ?_, fun c hhas => ?_⟩
  · rw [hlinks]
    exact hpark (by rw [hlink]; exact htx) c
  · have hk : (s.hostSilent 1).chan c = u.chan c := (hchan c).trans (congrArg (fun v : Vector Channel 24 => v[c]) hchans)
    rw [hk]
    exact hparked c hhas

/-- With any other action the energised channels ramp-stop (R342). -/
theorem hostSilent_stops {action : Nat} (h : action ≠ 1) :
    let t := s.hostSilent action
    t.hp = { s.hp with silent := true, silenceDue := none, silenceCount := min (2 ^ 32 - 1) (s.hp.silenceCount + 1) } ∧
      t.pd = s.pd ∧ t.params = s.params ∧ t.link = s.link ∧ ∀ c, t.chan c = (s.deviceStops silentCause).chan c := by
  have haction : (s.silenceAction action).1 = s.deviceStops silentCause := by
    unfold State.deviceStops State.silenceAction
    rw [if_neg (by rw [beq_iff_eq]; exact h)]
    rfl
  have hframe := s.deviceStops_frame (set := silentCause)
  generalize s.deviceStops silentCause = u at *
  have hhp : u.hp = s.hp := by rw [hframe]
  have hpd : u.pd = s.pd := by rw [hframe]
  have hparams : u.params = s.params := by rw [hframe]
  have hlink : u.link = s.link := by rw [hframe]
  obtain ⟨hhp', hpd', hparams', hlink', hchan⟩ := State.hostSilent_after haction hhp
  exact ⟨hhp', hpd'.trans hpd, hparams'.trans hparams, hlink'.trans hlink, hchan⟩

/-! ### The statement -/

/-- Settles O59: the beginning and the end of an Eclipse, the autonomy bound, and host silence. -/
theorem eclipsesAndHostSilence : Obligations.EclipsesAndHostSilence := by
  unfold Obligations.EclipsesAndHostSilence
  refine ⟨fun s => ⟨fun cause => eclipse_begins, fun cause => exec_eclipseStart_boot, fun ms => eclipse_ends ms,
    fun e => exec_eclipseRestartFailed e, fun hhw hecl hfirst => ?expiry⟩, fun s => ⟨fun hnone => ?early, fun action hhw hdue => ?silence⟩⟩
  case expiry =>
    obtain ⟨hexpired, hexpiries, hpd, hparams, hchan⟩ := s.expire_after
    refine ⟨s.expire, exec_eclipseExpired hhw hecl hfirst, hexpired, hexpiries, hpd, hparams, fun c => ?_⟩
    rw [hchan]
    refine ⟨fun hcall => ?_, fun hon => ?_, fun hcall hon => ?_⟩
    · obtain ⟨hfaulted, k, hcauses⟩ := State.deviceStops_rollcall (set := eclipseCause) hcall
      rw [hcauses]
      exact ⟨hfaulted, rfl, rfl⟩
    · obtain ⟨hstate, hmotion, k, hcauses⟩ := State.deviceStops_energised (set := eclipseCause) hon
      rw [hcauses]
      exact ⟨hstate, rfl, hmotion⟩
    · obtain ⟨hstate, -, hcauses, hmotion⟩ := Channel.stopView_eq.1 (State.deviceStops_kept (set := eclipseCause) hcall hon)
      exact ⟨hstate, hcauses, hmotion⟩
  case early =>
    change execHostSilent s = _
    simp only [execHostSilent, hnone]
  case silence =>
    refine ⟨s.hostSilent action, exec_hostSilent hhw hdue, ?_⟩
    by_cases hact : action = 1
    · subst hact
      obtain ⟨hhp, hpd, hparams, hpark, hchan⟩ := hostSilent_parks s
      exact ⟨hhp, hpd, hparams, fun _ => ⟨hpark, hchan⟩, fun h => absurd rfl h⟩
    · obtain ⟨hhp, hpd, hparams, hlink, hchan⟩ := hostSilent_stops (s := s) hact
      refine ⟨hhp, hpd, hparams, fun h => absurd h hact, fun _ => ⟨hlink, fun c => ?_⟩⟩
      rw [hchan]
      refine ⟨fun hon => ?_, fun hcall => ?_, fun hon hcall => ?_⟩
      · obtain ⟨hstate, hmotion, k, hcauses⟩ := State.deviceStops_energised (set := silentCause) hon
        rw [hcauses]
        exact ⟨hstate, rfl, hmotion⟩
      · obtain ⟨hfaulted, -⟩ := State.deviceStops_rollcall (set := silentCause) hcall
        exact hfaulted
      · obtain ⟨hstate, -, hcauses, hmotion⟩ := Channel.stopView_eq.1 (State.deviceStops_kept (set := silentCause) hcall hon)
        exact ⟨hstate, hcauses, hmotion⟩

end Sys2Proof.Machine
end

section
/-! The statement about ADC.RUN, GB.ENABLE, FLT.RUN and preset loads. A write of 1 to FLT.RUN that replaces a stop computes the figures of the
running page (R10, R287, R291, assumption 100), so it also ends the mark by which that computation waits for a restart (R290). The
statement keeps the mark as it is, and quantifies over every state. The model itself sets the mark only while the firmware is halted and
ends it before the firmware runs again (`State.swapNow`, `State.catchUp`). -/

namespace Sys2Proof.Machine

variable {s : State} {f : FltIx}

theorem State.writeAlone_fltRun (hfw : s.fwOn = true) (hfree : s.freeUnit 0x7000 f.val) (hflt : s.hasFlt = true) (on : Bool) :
    s.writeAlone .host Pid.FLT_RUN f.val (BitVec.ofNat 64 (b2n on)) =
      State.settled (s.disarm.writeFltRun f (b2n on : Nat)) 0x7000 f.val := by
  obtain ⟨h8, h64, hrange⟩ := switch_ok on
  have hf : fltIx f.val = f := Fin.ext (Nat.mod_eq_of_lt f.isLt)
  exact State.writeAlone_plain (row := ⟨0x7000, 0x7000, false, 8, false, .range 0 1 1, 0⟩) hfw hfree rfl rfl f.isLt hflt rfl h8 h64
    hrange rfl (congrArg (fun d => Wrote.of (s.disarm.writeFltRun d _)) hf)

/-- A write of 1 before the slot start at which the stop would take effect replaces the stop (R10, R291). -/
theorem State.writeFltRun_replaces {a : Nat} (hrunning : (s.flt f).running = true) (hstop : (s.flt f).stopReq = some a)
    (hbefore : s.fc ≤ s.slotFrom f a) (hcode : s.fltRunCode f = .ok) :
    s.writeFltRun f 1 = ((s.setPar Pid.FLT_RUN f.val 1).withdrawStop f, .ok) := by
  have hpassed : s.stopPassed f = false := by simp [State.stopPassed, hstop, hbefore]
  simp [State.writeFltRun, hrunning, hstop, hcode, hpassed]

theorem State.retime_retimeDue : ((s.retime f).flt f).retimeDue = false := by
  unfold State.retime
  dsimp only
  rw [State.onFlt_flt_same]

/-- Where the firmware runs, the figures are computed with it, and none wait for a restart (R287, R290). -/
theorem State.withdrawStop_retimeDue (hfw : s.fwOn = true) : ((s.withdrawStop f).flt f).retimeDue = false := by
  unfold State.withdrawStop
  dsimp only
  rw [if_pos hfw]
  exact State.retime_retimeDue

theorem exec_fltRun_replaces {a : Nat} (hfw : s.fwOn = true) (hfree : s.freeUnit 0x7000 f.val) (hflt : s.hasFlt = true)
    (hrunning : (s.disarm.flt f).running = true) (hstop : (s.disarm.flt f).stopReq = some a)
    (hbefore : s.disarm.fc ≤ s.disarm.slotFrom f a) (hcode : s.disarm.fltRunCode f = .ok) :
    exec (.fltRun .host f 1) s = .next (((s.disarm.setPar Pid.FLT_RUN f.val 1).withdrawStop f).wrote 0x7000 f.val) := by
  have hwrite := State.writeAlone_fltRun (f := f) hfw hfree hflt true
  have hreplaces : s.disarm.writeFltRun f (b2n true : Nat) = _ := State.writeFltRun_replaces hrunning hstop hbefore hcode
  rw [hreplaces] at hwrite
  exact congrArg Host.Outcome.next hwrite

/-! ### The counterexample -/

/-- A runtime in which filter channel 0 runs in bypass, is asked to stop, and carries the mark. -/
def stopBesideMark : State :=
  ({ State.reset with phase := .runtime } : State).onFlt 0 fun k => { k with running := true, stopReq := some 0, retimeDue := true }

theorem stopBesideMark_runs :
    stopBesideMark.fwOn = true ∧ stopBesideMark.hasFlt = true ∧ stopBesideMark.canonical = true ∧
      (stopBesideMark.disarm.flt 0).running = true ∧ (stopBesideMark.disarm.flt 0).stopReq = some 0 ∧
      (stopBesideMark.disarm.flt 0).retimeDue = true ∧ stopBesideMark.disarm.fc ≤ stopBesideMark.disarm.slotFrom 0 0 ∧
      stopBesideMark.disarm.fltRunCode 0 = .ok := by
  decide +kernel

/-- Refutes O27: a write of 1 that replaces a stop is said to leave the mark of a computation that waits; it ends it. -/
theorem not_convertersGradebookAndFiltersStart : ¬ Obligations.ConvertersGradebookAndFiltersStart := by
  unfold Obligations.ConvertersGradebookAndFiltersStart
  rintro ⟨-, hfilters⟩
  obtain ⟨hfw, hflt, hcanonical, hrunning, hstop, hmark, hbefore, hcode⟩ := stopBesideMark_runs
  obtain ⟨-, -, -, -, hreplaced, -⟩ := hfilters stopBesideMark 0 hfw rfl hflt hcanonical
  obtain ⟨t, hexec, -, -, -, hkept⟩ := hreplaced 0 hrunning hstop hbefore hcode
  have hwrote := Host.Outcome.next.inj (hexec.symm.trans (exec_fltRun_replaces hfw rfl hflt hrunning hstop hbefore hcode))
  have ht : t.flt 0 = (((stopBesideMark.disarm.setPar Pid.FLT_RUN 0 1).withdrawStop 0).flt 0) :=
    (congrArg (fun u : State => u.flt 0) hwrote :)
  have hended : (t.flt 0).retimeDue = false := by
    rw [ht]
    exact State.withdrawStop_retimeDue hfw
  rw [hkept] at hended
  exact Bool.true_eq_false_eq_False (hmark.symm.trans hended)

end Sys2Proof.Machine
end

section
/-! Triggers and the beginning of a pass (R244, R246 to R249, R259). -/

namespace Sys2Proof.Machine

variable {s : State} {m d : ModIx}

/-! ### Two updates of one modulator -/

theorem upd_upd {α : Type} {n : Nat} (v : Vector α n) (i : Fin n) (f g : α → α) : upd (upd v i f) i g = upd v i fun a => g (f a) := by
  simp [upd]

theorem State.onMod_onMod (f g : Modulator → Modulator) : (s.onMod m f).onMod m g = s.onMod m fun k => g (f k) :=
  congrArg (fun v : Vector Modulator 16 => { s with mods := v }) (upd_upd s.mods m f g)

/-- Updates that make the same of a modulator as it stands are the same. -/
theorem State.onMod_congr {f g : Modulator → Modulator} (h : f (s.modu m) = g (s.modu m)) : s.onMod m f = s.onMod m g :=
  congrArg (fun k => { s with mods := s.mods.set m k }) h

/-! ### Overruns (R247) -/

/-- A modulator with one more trigger ignored. -/
def Modulator.countOverrun (k : Modulator) : Modulator :=
  { k with overrun := min (2 ^ 32 - 1) (k.overrun + 1), overrunNew := k.overrunNew + 1 }

theorem State.overrun_limited (h : (s.modu m).ovrLimited = true) : s.overrun m = s.onMod m Modulator.countOverrun := by
  unfold State.overrun
  dsimp only
  rw [State.onMod_modu_same, if_pos h]
  rfl

theorem State.overrun_reported (h : (s.modu m).ovrLimited = false) :
    s.overrun m =
      (s.onMod m fun k => { k with overrun := min (2 ^ 32 - 1) (k.overrun + 1), overrunNew := 0, ovrLimited := true }).raise 0x0702 m.val
        (leBytes 4 ((s.modu m).overrunNew + 1)) := by
  unfold State.overrun State.reportOverrun
  dsimp only
  rw [State.onMod_modu_same, if_neg (by rw [h]; exact Bool.false_ne_true), State.onMod_onMod]
  rfl

/-! ### A trigger (R246, R247) -/

/-- What a due trigger does, the count of triggers having begun again. -/
def State.triggered (s : State) (m : ModIx) : State :=
  let t := s.retrigger m
  if s.endless m && ((s.modu m).inPass || !(s.modu m).due.isEmpty) then t
  else if (s.modu m).inPass then t.overrun m
  else t.onMod m fun k => { k with due := k.due ++ [edgeFrom (s.fc + s.parN Pid.ADC_TRIG_DELAY m.val)] }

theorem exec_adcTrigger (hhw : s.hwOn = true) (hrunning : (s.modu m).running = true) (hdue : s.triggerDue m = true)
    (hlead : (s.modu m).paired = false ∨ m.val % 2 = 0) : exec (.adcTrigger m) s = .next (s.triggered m) := by
  have hodd : ((s.modu m).paired && m.val % 2 == 1) = false := by
    rcases hlead with h | h <;> simp [h]
  have hguard : ¬(!(s.hwOn && (s.modu m).running && s.triggerDue m && !((s.modu m).paired && m.val % 2 == 1))) = true := by
    simp [hhw, hrunning, hdue, hodd]
  exact congrArg Host.Outcome.next (if_neg hguard)

/-- A modulator whose trigger has come (R246). -/
def State.retriggered (s : State) (m : ModIx) (k : Modulator) : Modulator :=
  { k with
    pwmEvents := 0
    nextTimer := if s.parN Pid.ADC_TRIG_SRC m.val = 0 then k.nextTimer + 24 * s.parN Pid.ADC_TIMER_PERIOD m.val else k.nextTimer }

theorem State.retrigger_eq : s.retrigger m = s.onMod m (s.retriggered m) :=
  State.onMod_congr (by simp only [State.retriggered, beq_iff_eq])

theorem State.retrigger_modu : (s.retrigger m).modu m = s.retriggered m (s.modu m) := by
  rw [State.retrigger_eq, State.onMod_modu_same]

/-- It books a pass. -/
theorem State.triggered_books (hpass : (s.modu m).inPass = false) (hfree : s.endless m = false ∨ (s.modu m).due = []) :
    s.triggered m = s.onMod m fun k =>
      { s.retriggered m k with due := k.due ++ [(s.fc + s.parN Pid.ADC_TRIG_DELAY m.val + 23) / 24 * 24] } := by
  have hbooks : ¬(s.endless m && ((s.modu m).inPass || !(s.modu m).due.isEmpty)) = true := by
    rcases hfree with h | h <;> simp [h, hpass]
  unfold State.triggered
  dsimp only
  rw [if_neg hbooks, if_neg (by rw [hpass]; exact Bool.false_ne_true), State.retrigger_eq, State.onMod_onMod]
  rfl

/-- Under an endless entry it does nothing where a pass runs or is booked. -/
theorem State.triggered_endless (hpass : (s.modu m).inPass = true ∨ (s.modu m).due ≠ []) (hendless : s.endless m = true) :
    s.triggered m = s.onMod m (s.retriggered m) := by
  have hignored : (s.endless m && ((s.modu m).inPass || !(s.modu m).due.isEmpty)) = true := by
    rcases hpass with h | h <;> simp [h, hendless]
  exact (if_pos hignored).trans State.retrigger_eq

/-- Inside a pass it is an overrun. -/
theorem State.triggered_overrun (hpass : (s.modu m).inPass = true) (hendless : s.endless m = false) :
    s.triggered m = (s.onMod m (s.retriggered m)).overrun m := by
  unfold State.triggered
  dsimp only
  rw [if_neg (by simp [hendless]), if_pos hpass, State.retrigger_eq]

/-! ### A pass begins (R244, R247 to R249) -/

theorem State.onMux_mux (f : MuxSeq → MuxSeq) : (s.onMux m f).pd.mux[d] = if d = m then f s.pd.mux[d] else s.pd.mux[d] :=
  upd_get _ _ _ _

/-- Clocks that the front end takes to start up (R248). -/
def Modulator.startUp (k : Modulator) : Nat := if k.powered then 0 else 400

/-- A pass that begins changes modulators and multiplexer sequencers alone. -/
theorem State.startPass_frame (lag : Nat) :
    s.startPass m lag = { s with mods := (s.startPass m lag).mods, pd := { s.pd with mux := (s.startPass m lag).pd.mux } } := rfl

theorem State.startPass_modu_same (lag : Nat) :
    (s.startPass m lag).modu m =
      { s.beginEntry m 0 (s.inFlight + (lag + (s.modu m).startUp)) (s.modu m) with
        due := (s.modu m).due.tail, inPass := true, discard := !(s.modu m).powered, powered := true } :=
  State.onMod_modu_same (s := s) m _

theorem State.startPass_modu_other (lag : Nat) (h : d ≠ m) : (s.startPass m lag).modu d = s.modu d :=
  State.onMod_modu_other (s := s) m d _ h

theorem State.startPass_mux_same (lag : Nat) :
    (s.startPass m lag).pd.mux[m] = s.muxPass m (lag + (s.modu m).startUp) s.pd.mux[m] :=
  (State.onMux_mux _).trans (if_pos rfl)

theorem State.startPass_mux_other (lag : Nat) (h : d ≠ m) : (s.startPass m lag).pd.mux[d] = s.pd.mux[d] :=
  (State.onMux_mux _).trans (if_neg h)

/-- The front end is on; the entry is selected at once, or the start-up begins (R244, R248). -/
theorem State.muxPass_after (delay : Nat) (q : MuxSeq) :
    (s.muxPass m delay q).frontEnd = true ∧
      (delay = 0 → (s.muxPass m delay q).phase = .entry ∧ (s.muxPass m delay q).entry = 0 ∧
        (s.muxPass m delay q).input = s.muxPar m 0 Pid.ADC_E_INPUT ∧ (s.muxPass m delay q).gain = s.muxPar m 0 Pid.ADC_E_GAIN) ∧
      (delay ≠ 0 → (s.muxPass m delay q).phase = .startUp ∧ (s.muxPass m delay q).left = delay) := by
  by_cases h : delay = 0
  · subst h
    exact ⟨rfl, fun _ => ⟨rfl, rfl, rfl, rfl⟩, fun h => absurd rfl h⟩
  · have hlater : s.muxPass m delay q = { q with phase := .startUp, entry := 0, left := delay, frontEnd := true } :=
      if_neg (by rw [beq_iff_eq]; exact h)
    rw [hlater]
    exact ⟨rfl, fun h0 => absurd h0 h, fun _ => ⟨rfl, rfl⟩⟩

/-- The state of a pass that begins (R247, R249). -/
def State.passBegun (s : State) (m : ModIx) : State :=
  let t := s.startPass m 0
  if (s.modu m).paired then t.startPass (oddOf m) ((t.ePar m 0 Pid.ADC_E_RATIO).toNat / 2) else t

section
variable {edge : Nat} {rest : List Nat} (hhw : s.hwOn = true) (hrunning : (s.modu m).running = true) (hdue : (s.modu m).due = edge :: rest)
include hdue

theorem exec_passStart_early (hedge : s.fc < edge) : exec (.passStart m) s = .next s := by
  change execPassStart m s = _
  have hearly : ¬edge ≤ s.fc := Nat.not_le.2 hedge
  simp [execPassStart, hdue, hearly]

include hhw hrunning

theorem exec_passStart_due (hedge : edge ≤ s.fc) (hpass : (s.modu m).inPass = false) :
    exec (.passStart m) s = .next (s.passBegun m) := by
  change execPassStart m s = _
  simp only [execPassStart, hdue, hhw, hrunning, hpass, hedge, decide_true, Bool.and_self, Bool.not_true, Bool.false_eq_true, if_false]
  rfl

theorem exec_passStart_inPass (hedge : edge ≤ s.fc) (hpass : (s.modu m).inPass = true) :
    exec (.passStart m) s = .next ((s.onMod m fun k => { k with due := rest }).overrun m) := by
  change execPassStart m s = _
  simp only [execPassStart, hdue, hhw, hrunning, hpass, hedge, decide_true, Bool.and_self, Bool.not_true, Bool.false_eq_true, if_false,
    if_true]

end

theorem exec_passStart_none (hdue : (s.modu m).due = []) : exec (.passStart m) s = .next s := by
  change execPassStart m s = _
  simp only [execPassStart, hdue]

/-- The pass of a modulator that is not paired (R244, R247, R248). -/
theorem State.passBegun_alone (hpaired : (s.modu m).paired = false) : s.passBegun m = s.startPass m 0 :=
  if_neg (by rw [hpaired]; exact Bool.false_ne_true)

theorem oddOf_ne (h : m.val % 2 = 0) : oddOf m ≠ m := fun e => by
  have hval : m.val / 2 * 2 + 1 = m.val := congrArg Fin.val e
  omega

theorem evenOf_oddOf (h : m.val % 2 = 0) : evenOf (oddOf m) = m := by
  apply Fin.ext
  change (m.val / 2 * 2 + 1) / 2 * 2 = m.val
  omega

/-- Both members of an interleaved pair are in their pass, the odd one half a ratio later (R249). -/
theorem State.passBegun_pair (heven : m.val % 2 = 0) (hpaired : (s.modu m).paired = true)
    (hodd : (s.modu (oddOf m)).paired = true) (hpowered : (s.modu (oddOf m)).powered = true) :
    ((s.passBegun m).modu m).inPass = true ∧ ((s.passBegun m).modu (oddOf m)).inPass = true ∧
      ((s.passBegun m).modu (oddOf m)).entry = 0 ∧
      ((s.passBegun m).modu (oddOf m)).wait =
        s.inFlight + (s.ePar m 0 Pid.ADC_E_RATIO).toNat / 2 + (s.ePar m 0 Pid.ADC_E_SETTLE).toNat := by
  have hne := oddOf_ne heven
  have hbegun : s.passBegun m = (s.startPass m 0).startPass (oddOf m) ((s.ePar m 0 Pid.ADC_E_RATIO).toNat / 2) :=
    if_pos hpaired
  have hother : (s.startPass m 0).modu (oddOf m) = s.modu (oddOf m) := State.startPass_modu_other 0 hne
  have hsource : (s.modu (oddOf m)).source (oddOf m) = m := by rw [Modulator.source, if_pos hodd, evenOf_oddOf heven]
  have hstart : (s.modu (oddOf m)).startUp = 0 := if_pos hpowered
  rw [hbegun, State.startPass_modu_other _ hne.symm, State.startPass_modu_same, State.startPass_modu_same, hother, hstart]
  refine ⟨rfl, rfl, rfl, ?_⟩
  unfold State.beginEntry
  dsimp only
  rw [hsource]
  rfl

end Sys2Proof.Machine
end

section
/-! The statement about triggers and the beginning of a pass (R244, R246 to R249, R259). -/

namespace Sys2Proof.Machine

/-- Settles O50: a due trigger, by what runs and what is booked, and a booked pass at its edge. -/
theorem triggersStartPassesOrOverrun : Obligations.TriggersStartPassesOrOverrun := by
  unfold Obligations.TriggersStartPassesOrOverrun
  refine ⟨fun s m hhw hrunning hdue hlead => ?trigger, fun s m hhw hrunning => ?pass⟩
  case trigger =>
    have hexec := exec_adcTrigger hhw hrunning hdue hlead
    refine ⟨fun hpass hfree => ?_, fun hpass hendless => ?_, fun hpass hendless hlimited => ?_, fun hpass hendless hlimited => ?_⟩
    · rw [hexec, State.triggered_books hpass hfree]
      rfl
    · rw [hexec, State.triggered_endless hpass hendless]
      rfl
    · rw [hexec, State.triggered_overrun hpass hendless, State.overrun_limited, State.onMod_onMod]
      · rfl
      · rw [State.onMod_modu_same]
        exact hlimited
    · rw [hexec, State.triggered_overrun hpass hendless, State.overrun_reported, State.onMod_onMod, State.onMod_modu_same]
      · rfl
      · rw [State.onMod_modu_same]
        exact hlimited
  case pass =>
    refine ⟨fun edge rest hdue hedge hpass hpaired => ?_, fun edge rest hdue hedge hpass hpaired heven hodd hpowered => ?_,
      fun edge rest hdue hedge hpass hlimited => ?_, fun edge rest hdue hedge => exec_passStart_early hdue hedge, exec_passStart_none⟩
    · have hexec := exec_passStart_due hhw hrunning hdue hedge hpass
      rw [State.passBegun_alone hpaired] at hexec
      have hsource : (s.modu m).source m = m := if_neg (by rw [hpaired]; exact Bool.false_ne_true)
      obtain ⟨hfront, hselects, hwaits⟩ := State.muxPass_after (s := s) (m := m) (0 + (s.modu m).startUp) s.pd.mux[m]
      refine ⟨s.startPass m 0, hexec, State.startPass_frame 0, ?_,
        fun d hd => ⟨State.startPass_modu_other 0 hd, State.startPass_mux_other 0 hd⟩, ?_, fun hon => ?_, fun hoff => ?_⟩
      · rw [State.startPass_modu_same, hdue, State.beginEntry, hsource, Nat.zero_add]
        rfl
      · rw [State.startPass_mux_same]
        exact hfront
      · rw [State.startPass_mux_same]
        exact hselects (by simp [Modulator.startUp, hon])
      · rw [State.startPass_mux_same]
        have hdelay : 0 + (s.modu m).startUp = 400 := by simp [Modulator.startUp, hoff]
        obtain ⟨hphase, hleft⟩ := hwaits (by rw [hdelay]; decide)
        exact ⟨hphase, hleft.trans hdelay⟩
    · exact ⟨_, exec_passStart_due hhw hrunning hdue hedge hpass, State.passBegun_pair heven hpaired hodd hpowered⟩
    · rw [exec_passStart_inPass hhw hrunning hdue hedge hpass, State.overrun_limited, State.onMod_onMod]
      · rfl
      · rw [State.onMod_modu_same]
        exact hlimited

end Sys2Proof.Machine
end

section
/-! CALIBRATE, GB_SNAPSHOT and FLT_SWAP of the host (R253, R254, R258, R279, R350). -/

namespace Sys2Proof.Machine

variable {s : State} {q : Queued} {rest : List Queued} {f g : FltIx}

/-! ### CALIBRATE (R253, R254) -/

theorem exec_calibrate : exec .calibrate s = .next (s.mailbox 0x20) := rfl

theorem State.runRecord_calibrate (h : s.ready 0x20 q rest)
    (hjudge : s.judgeCalibrate (byteAt q.record 8).toNat (byteAt q.record 9).toNat (byteAt q.record 10).toNat = .queued) :
    (s.taken rest).runRecord .host q.record =
      .of ((s.taken rest).startCalibrate (modIx (byteAt q.record 8).toNat) (byteAt q.record 9).toNat (byteAt q.record 10).toNat)
        .queued := by
  obtain ⟨hform, hop⟩ := State.ready_form h
  have hjudge' : (s.taken rest).judgeCalibrate (byteAt q.record 8).toNat (byteAt q.record 9).toNat (byteAt q.record 10).toNat = .queued :=
    hjudge
  simp only [State.runRecord, hform, hop, State.doCalibrate, hjudge']

/-! ### GB_SNAPSHOT (R258) -/

theorem exec_gbSnapshot : exec .gbSnapshot s = .next (s.mailbox 0x21) := rfl

/-- The Gradebook entries that a snapshot reads. -/
def snapshotIxs (first count : Nat) : List EntryIx := (List.finRange 256).filter fun g => first ≤ g.val && g.val < first + count

theorem mem_snapshotIxs {first count : Nat} {g : EntryIx} : g ∈ snapshotIxs first count ↔ first ≤ g.val ∧ g.val < first + count := by
  simp [snapshotIxs]

theorem snapshotIxs_nodup (first count : Nat) : (snapshotIxs first count).Nodup := (List.nodup_finRange 256).filter _

/-- A record that has been read (R258). -/
def Gb.markRead (k : Gb) : Gb := { k with read := true }

/-- The block after a snapshot. -/
@[irreducible] def State.snapshotTaken (s : State) (first count : Nat) : State :=
  s.forAll (snapshotIxs first count) fun g t => t.onGb g Gb.markRead

theorem State.snapshotTaken_frame (first count : Nat) :
    s.snapshotTaken first count = { s with gbs := (s.snapshotTaken first count).gbs } := by
  unfold State.snapshotTaken
  exact State.forAll_invariant (P := fun t => t = { s with gbs := t.gbs })
    (fun g _ t ht => congrArg (fun u : State => { u with gbs := (t.onGb g Gb.markRead).gbs }) ht) rfl

theorem State.snapshotTaken_gb (first count : Nat) (g : EntryIx) :
    (s.snapshotTaken first count).gb g = if first ≤ g.val ∧ g.val < first + count then (s.gb g).markRead else s.gb g := by
  have hother : ∀ (d : EntryIx) (t : State) (i : EntryIx), i ≠ d → (t.onGb d Gb.markRead).gb i = t.gb i := fun d t i h =>
    State.onGb_gb_other t d i _ h
  unfold State.snapshotTaken
  split
  · next h =>
    exact State.forAll_unit_same (fun d t => t.gb d) (key := id) (u := fun _ => Gb.markRead)
      (fun d t => t.onGb_gb_same d Gb.markRead) hother (by rw [List.map_id]; exact snapshotIxs_nodup first count) (mem_snapshotIxs.2 h)
  · next h =>
    exact State.forAll_unit_other (fun d t => t.gb d) (key := id) hother fun d hd e => h (mem_snapshotIxs.1 (e ▸ hd))

theorem State.snapshot_eq (first count : Nat) :
    s.snapshot first count = (s.snapshotTaken first count, (snapshotIxs first count).flatMap fun g => (s.gb g).record) := by
  unfold State.snapshotTaken
  rfl

theorem State.runRecord_snapshot (h : s.ready 0x21 q rest) {first count : Nat} (hfirst : first = (byteAt q.record 8).toNat)
    (hcount : count = (byteAt q.record 9).toNat) (hsome : 1 ≤ count) (hfew : count ≤ 7) (hend : first + count ≤ 256) :
    (s.taken rest).runRecord .host q.record =
      { Done.of ((s.taken rest).snapshotTaken first count) .ok with
        data := (snapshotIxs first count).flatMap fun g => (s.gb g).record } := by
  obtain ⟨hform, hop⟩ := State.ready_form h
  have hrange : (count == 0 || decide (7 < count) || decide (256 < first + count)) = false := by
    simp only [Bool.or_eq_false_iff, beq_eq_false_iff_ne, decide_eq_false_iff_not]
    omega
  have hdone : (s.taken rest).doSnapshot q.record =
      { Done.of ((s.taken rest).snapshotTaken first count) .ok with
        data := (snapshotIxs first count).flatMap fun g => (s.gb g).record } := by
    unfold State.doSnapshot
    dsimp only
    rw [← hfirst, ← hcount, hrange, if_neg Bool.false_ne_true, State.snapshot_eq]
    rfl
  simp only [State.runRecord, hform, hop]
  exact hdone

/-! ### FLT_SWAP (R279) -/

theorem exec_fltSwap : exec .fltSwap s = .next (s.mailbox 0x22) := rfl

/-- A state but for what a swap changes: filter channels, and the events that wait for the answer. -/
def State.besideSwap (s : State) : State := { s with flts := Vector.replicate 32 Flt.init, mbx := { s.mbx with held := [] } }

theorem State.eq_of_besideSwap {t : State} (h : t.besideSwap = s.besideSwap) :
    t = { s with flts := t.flts, mbx := { s.mbx with held := t.mbx.held } } :=
  congrArg (fun x : State => { x with flts := t.flts, mbx := { x.mbx with held := t.mbx.held } }) h

/-- What a command in execution causes waits for its answer (R350). -/
theorem State.raise_held (hphase : s.phase = .runtime) (hholding : s.mbx.holding = true) (code inst : Nat) (p : List Byte) :
    s.raise code inst p = { s with mbx := { s.mbx with held := (s.raise code inst p).mbx.held } } := by
  have h := State.eq_of_besideTurnOff (State.raise_besideTurnOff hphase hholding code inst p)
  rwa [State.raise_chans, State.raise_groups] at h

theorem State.raiseAt_besideSwap (hphase : s.phase = .runtime) (hholding : s.mbx.holding = true) (t code inst : Nat) (p : List Byte) :
    (s.raiseAt t code inst p).besideSwap = s.besideSwap := by
  unfold State.raiseAt
  rw [State.raise_held (s := { s with time := t }) hphase hholding]
  rfl

/-- The page of a channel with its figures, before FLT_SWAPPED. -/
def State.pageSwapped (s : State) (f : FltIx) : State :=
  let t := s.onFlt f fun k => { k with page1 := !k.page1, swapPending := none }
  if t.fwOn then t.retime f else t.onFlt f fun k => { k with retimeDue := true }

theorem State.pageSwapped_besideSwap : (s.pageSwapped f).besideSwap = s.besideSwap := by
  unfold State.pageSwapped
  dsimp only
  split <;> rfl

theorem State.pageSwapped_page1 : ((s.pageSwapped f).flt f).page1 = !(s.flt f).page1 := by
  unfold State.pageSwapped State.retime
  dsimp only
  split <;> rw [State.onFlt_flt_same, State.onFlt_flt_same]

theorem State.pageSwapped_flt_other (h : g ≠ f) : (s.pageSwapped f).flt g = s.flt g := by
  unfold State.pageSwapped State.retime
  dsimp only
  split <;> rw [State.onFlt_flt_other _ _ _ _ h, State.onFlt_flt_other _ _ _ _ h]

/-- The turn of one channel of the mask. -/
def State.swapTurn (s : State) (f : FltIx) : State :=
  if (s.flt f).running then s.onFlt f fun k => { k with swapPending := some s.fc } else s.swapNow f false

theorem State.swapTurn_running (h : (s.flt f).running = true) : s.swapTurn f = s.onFlt f fun k => { k with swapPending := some s.fc } :=
  if_pos h

theorem State.swapTurn_stopped (h : (s.flt f).running = false) :
    s.swapTurn f =
      (s.pageSwapped f).raiseAt (s.pageSwapped f).time 0x0801 f.val [BitVec.ofNat 8 (b2n ((s.pageSwapped f).flt f).page1)] :=
  if_neg (by rw [h]; exact Bool.false_ne_true)

theorem State.swapTurn_flt_other (h : g ≠ f) : (s.swapTurn f).flt g = s.flt g := by
  cases hrun : (s.flt f).running with
  | true => rw [State.swapTurn_running hrun, State.onFlt_flt_other _ _ _ _ h]
  | false => rw [State.swapTurn_stopped hrun, State.raiseAt_flt, State.pageSwapped_flt_other h]

theorem State.swapTurn_besideSwap (hphase : s.phase = .runtime) (hholding : s.mbx.holding = true) :
    (s.swapTurn f).besideSwap = s.besideSwap := by
  cases hrun : (s.flt f).running with
  | true =>
    rw [State.swapTurn_running hrun]
    rfl
  | false =>
    have hpage := State.pageSwapped_besideSwap (s := s) (f := f)
    rw [State.swapTurn_stopped hrun]
    generalize s.pageSwapped f = u at hpage
    have hphase' : u.phase = .runtime := by have e := congrArg State.phase hpage; exact Eq.trans e hphase
    have hholding' : u.mbx.holding = true := by have e := congrArg (fun x : State => x.mbx.holding) hpage; exact Eq.trans e hholding
    exact (State.raiseAt_besideSwap hphase' hholding' ..).trans hpage

theorem State.startSwap_eq (mask : BitVec 32) : s.startSwap mask = s.forAll (maskFlts mask) fun f t => t.swapTurn f := rfl

theorem mem_maskFlts {mask : BitVec 32} : f ∈ maskFlts mask ↔ mask.getLsbD f.val = true := by simp [maskFlts]

theorem maskFlts_nodup (mask : BitVec 32) : (maskFlts mask).Nodup := (List.nodup_finRange 32).filter _

section
variable {mask : BitVec 32} (hphase : s.phase = .runtime) (hholding : s.mbx.holding = true)
include hphase hholding

/-- On the way through the mask the rest of the block stays as it was. -/
theorem State.swapTurn_keeps {t : State} (ht : t.besideSwap = s.besideSwap) (f : FltIx) : (t.swapTurn f).besideSwap = s.besideSwap := by
  have hphase' : t.phase = .runtime := by have e := congrArg State.phase ht; exact Eq.trans e hphase
  have hholding' : t.mbx.holding = true := by have e := congrArg (fun x : State => x.mbx.holding) ht; exact Eq.trans e hholding
  exact (State.swapTurn_besideSwap hphase' hholding').trans ht

theorem State.startSwap_besideSwap : (s.startSwap mask).besideSwap = s.besideSwap := by
  rw [State.startSwap_eq]
  exact State.forAll_invariant (P := fun t => t.besideSwap = s.besideSwap)
    (fun f _ t ht => State.swapTurn_keeps hphase hholding ht f) rfl

/-- What the turn of a channel of the mask leaves of it, the others' turns keep. -/
theorem State.startSwap_flt {P : Flt → Prop} (hf : mask.getLsbD f.val = true)
    (hturn : ∀ t : State, t.besideSwap = s.besideSwap → t.flt f = s.flt f → P ((t.swapTurn f).flt f)) : P ((s.startSwap mask).flt f) := by
  rw [State.startSwap_eq]
  refine State.forAll_turn (before := fun t => t.besideSwap = s.besideSwap ∧ t.flt f = s.flt f) (after := fun t => P (t.flt f))
    (mem_maskFlts.2 hf) (maskFlts_nodup mask) (fun d _ hd t ht => ?_) (fun t ht => hturn t ht.1 ht.2) (fun d _ hd t ht => ?_) ⟨rfl, rfl⟩
  · exact ⟨State.swapTurn_keeps hphase hholding ht.1 d, (State.swapTurn_flt_other hd.symm).trans ht.2⟩
  · rw [State.swapTurn_flt_other hd.symm]
    exact ht

/-- A running channel waits for a slot boundary (R279). -/
theorem State.startSwap_running (hf : mask.getLsbD f.val = true) (hrun : (s.flt f).running = true) :
    (s.startSwap mask).flt f = { s.flt f with swapPending := some s.fc } := by
  refine State.startSwap_flt (P := fun k => k = { s.flt f with swapPending := some s.fc }) hphase hholding hf fun t ht hkept => ?_
  have hfc : t.fc = s.fc := by have e := congrArg State.fc ht; exact e
  rw [State.swapTurn_running (by rw [hkept]; exact hrun), State.onFlt_flt_same, hkept, hfc]

/-- A stopped channel swaps at once (R279). -/
theorem State.startSwap_stopped (hf : mask.getLsbD f.val = true) (hrun : (s.flt f).running = false) :
    ((s.startSwap mask).flt f).page1 = !(s.flt f).page1 := by
  refine State.startSwap_flt (P := fun k => k.page1 = !(s.flt f).page1) hphase hholding hf fun t _ hkept => ?_
  rw [State.swapTurn_stopped (by rw [hkept]; exact hrun), State.raiseAt_flt, State.pageSwapped_page1, hkept]

end

theorem State.startSwap_flt_other {mask : BitVec 32} (hf : mask.getLsbD f.val = false) : (s.startSwap mask).flt f = s.flt f := by
  rw [State.startSwap_eq]
  refine State.forAll_unit_other (fun d t => State.flt t d) (key := id) (fun d t i h => State.swapTurn_flt_other h) fun d hd e => ?_
  rw [← show f = d from e, mem_maskFlts, hf] at hd
  exact Bool.false_ne_true hd

theorem State.runRecord_swap (h : s.ready 0x22 q rest) (hjudge : s.judgeSwap (BitVec.ofNat 32 (field q.record 8 4)) = (.queued, 0)) :
    (s.taken rest).runRecord .host q.record = .of ((s.taken rest).startSwap (BitVec.ofNat 32 (field q.record 8 4))) .queued := by
  obtain ⟨hform, hop⟩ := State.ready_form h
  have hjudge' : (s.taken rest).judgeSwap (BitVec.ofNat 32 (field q.record 8 4)) = (.queued, 0) := hjudge
  simp only [State.runRecord, hform, hop, State.doSwap, hjudge']

/-- A ready record whose command changes filter channels and causes events is answered in the same step (R350, R353). -/
theorem State.mailbox_answers_swap {op : Nat} (h : s.ready op q rest) {t : State} {r : Result}
    (hd : (s.taken rest).runRecord .host q.record = .of t r) (hframe : t.besideSwap = (s.taken rest).besideSwap) :
    s.mailbox op = (t.replied q r 0 []).postHeld := by
  rw [State.mailbox_ready h, hd]
  obtain ⟨-, hvia, -, -, hfw, hwaiting, -, hbacklog, hotp, htest, -, -, -, hentering⟩ := h
  have hsame : ∀ {β : Type} (g : State → β), g t.besideSwap = g (s.taken rest).besideSwap := fun g => congrArg g hframe
  have hwaiting' : t.mbx.waiting = s.mbx.waiting := hsame fun u => u.mbx.waiting
  refine (State.tryComplete_host (w := (Done.of t r).waiting q) rfl hvia rfl rfl rfl ?_ ?_ ?_ ?_ ?_).trans ?_
  · exact (hsame fun u => u.link.backlog.any (·.2)).trans hbacklog
  · exact (hsame fun u => u.sec.otpOp).trans hotp
  · exact (hsame State.fwOn).trans hfw
  · exact (hsame fun u => u.boot.testPending).trans htest
  · exact fun e => hentering ((hsame fun u => u.power.entering).symm.trans e)
  simp only [Mailbox.answered, State.replied, Done.waiting, Done.of, hwaiting', hwaiting]

/-! ### The statement -/

/-- Settles O14: the three commands that pass their conditions. -/
theorem calibrateSnapshotAndFilterSwap : Obligations.CalibrateSnapshotAndFilterSwap := by
  unfold Obligations.CalibrateSnapshotAndFilterSwap
  refine ⟨?calibrate, ?snapshot, ?swap⟩
  case calibrate =>
    intro s q rest h m e step hjudge
    rw [exec_calibrate]
    exact congrArg Host.Outcome.next
      (State.mailbox_answers h (State.runRecord_calibrate h hjudge) rfl rfl rfl rfl rfl rfl rfl rfl rfl rfl)
  case snapshot =>
    intro s q rest h first count ixs hsome hfew hend
    have hrun := State.runRecord_snapshot h (first := first) (count := count) rfl rfl hsome hfew hend
    have hframe := (s.taken rest).snapshotTaken_frame first count
    have hgb := fun g => (s.taken rest).snapshotTaken_gb first count g
    rw [exec_gbSnapshot]
    generalize (s.taken rest).snapshotTaken first count = t at hrun hframe hgb
    have hsame : ∀ {β : Type} (p : State → β), p t = p { s.taken rest with gbs := t.gbs } := fun p => congrArg p hframe
    refine ⟨t, congrArg Host.Outcome.next (State.mailbox_answers h hrun rfl rfl rfl ?_ ?_ ?_ ?_ ?_ ?_ ?_), hframe, hgb⟩
    · exact hsame fun u => u.mbx.held
    · exact hsame fun u => u.link.backlog
    · exact hsame fun u => u.sec.otpOp
    · exact hsame State.fwOn
    · exact hsame fun u => u.boot.testPending
    · exact hsame fun u => u.power.entering
    · exact hsame fun u => u.mbx.waiting
  case swap =>
    intro s q rest h mask hjudge
    have hphase : (s.taken rest).phase = .runtime := by
      obtain ⟨-, -, -, -, hfw, -⟩ := h
      simp only [State.fwOn, State.hwOn, Bool.and_eq_true, beq_iff_eq] at hfw
      obtain ⟨⟨⟨hrun, -⟩, -⟩, -⟩ := hfw
      exact hrun
    have hframe := State.startSwap_besideSwap (mask := mask) hphase rfl
    refine ⟨(s.taken rest).startSwap mask, ?_, State.eq_of_besideSwap hframe, fun f hf => State.startSwap_flt_other hf,
      fun f hf hrun => State.startSwap_stopped hphase rfl hf hrun, fun f hf hrun => State.startSwap_running hphase rfl hf hrun⟩
    rw [exec_fltSwap]
    exact congrArg Host.Outcome.next (State.mailbox_answers_swap h (State.runRecord_swap h hjudge) hframe)

end Sys2Proof.Machine
end

section
/-! What a slot of a filter channel does with an input (R267, R272 to R275, R282): the stages change the delays, a settling output is
only counted, and any other is written, handed on and given to the comparators. -/

namespace Sys2Proof.Machine

variable {s : State} {f g : FltIx} {k : Flt} {p : Page} {x y : Int} {ovr lost held : Bool} {sats : Nat}

theorem State.onFlt_onFlt (a b : Flt → Flt) : (s.onFlt f a).onFlt f b = s.onFlt f fun k => b (a k) :=
  congrArg (fun v : Vector Flt 32 => { s with flts := v }) (upd_upd s.flts f a b)

/-! ### The stages (R272, R273) -/

/-- A value after a section or the FIR sum: rounded to even and saturated to 32 bits (R273). -/
def stageValue (y : Int) : Int := clamp (-(2 ^ 31 - 1)) (2 ^ 31 - 1) (roundEven y 22)

/-- An output code: rounded to even and saturated to full scale (R273). -/
def outputCode (y : Int) : Int := clamp (-8388607) 8388607 (roundEven y 8)

/-- A code with its 8 fraction bits comes back as it is, saturated. -/
theorem outputCode_mul_256 (c : Int) : outputCode (c * 256) = clamp (-8388607) 8388607 c := by
  have hquotient : c * 256 / 2 ^ 8 = c := by omega
  have hremainder : c * 256 % 2 ^ 8 = 0 := by omega
  have hround : roundEven (c * 256) 8 = c := by
    unfold roundEven
    rw [hquotient, hremainder]
    rfl
  unfold outputCode
  rw [hround]

theorem cascade_nil (i : Nat) : cascade p i x [] = (x, [], 0) := rfl

theorem cascade_cons_out (i : Nat) (z : Int × Int × Int × Int) (zs : List (Int × Int × Int × Int)) :
    (cascade p i x (z :: zs)).1 =
      (cascade p (i + 1)
        (stageValue (p.c (5 * i) * x + p.c (5 * i + 1) * z.1 + p.c (5 * i + 2) * z.2.1 - p.c (5 * i + 3) * z.2.2.1 -
          p.c (5 * i + 4) * z.2.2.2)) zs).1 := by
  simp only [cascade, biquadStep, sat32, stageValue, Nat.add_zero]

/-- The stages change a channel's delays alone. -/
theorem Flt.stages_frame : (k.stages p x).1 = { k with biquad := (k.stages p x).1.biquad, fir := (k.stages p x).1.fir } := by
  unfold Flt.stages
  dsimp only
  split <;> rfl

theorem Flt.stages_bypass (hty : p.ty = 0) : (k.stages p x).2.1 = outputCode x := by
  unfold Flt.stages
  rw [hty]
  rfl

/-- A cascade with the delays of all its sections. -/
theorem Flt.stages_cascade (hty : p.ty = 1) (hlen : k.biquad.length = p.len) :
    (k.stages p x).1.biquad = (cascade p 0 x k.biquad).2.1 ∧ (k.stages p x).2.1 = outputCode (cascade p 0 x k.biquad).1 := by
  unfold Flt.stages
  rw [hty, hlen, Nat.sub_self, List.replicate_zero, List.append_nil]
  exact ⟨rfl, rfl⟩

theorem Flt.stages_fir (hty : p.ty = 2) :
    (k.stages p x).1.fir = (x :: k.fir).take 64 ∧
      (k.stages p x).2.1 =
        outputCode (stageValue ((List.zipWith (· * ·) (p.coef.take p.len) ((x :: k.fir).take 64)).foldl (· + ·) 0)) := by
  unfold Flt.stages
  rw [hty]
  exact ⟨rfl, rfl⟩

/-! ### The written output (R267, R274, R282, R285) -/

/-- A state but for what a written output enters beside its channel: the Gradebook and the comparators. -/
def State.outputReached (s t : State) : Prop := t = { s with gbs := t.gbs, cmps := t.cmps }

theorem State.outputReached_refl : s.outputReached s := rfl

theorem State.feedGb_reached (kind ix : Nat) (code : Int) (ovr lost : Bool) : s.outputReached (s.feedGb kind ix code ovr lost) := by
  have hgbs := s.feedGb_frame kind ix code ovr lost
  generalize (s.feedGb kind ix code ovr lost).gbs = v at hgbs
  rw [hgbs]
  rfl

theorem State.evalCmp_reached {t : State} (h : s.outputReached t) (c : Nat) (written : List Int) :
    s.outputReached (t.evalCmp f c written) := by
  have hcmps : t.evalCmp f c written = { t with cmps := (t.evalCmp f c written).cmps } := by
    unfold State.evalCmp
    dsimp only
    split <;> rfl
  generalize (t.evalCmp f c written).cmps = v at hcmps
  rw [hcmps]
  exact congrArg (fun u : State => { u with cmps := v }) h

/-- A channel with a written output. -/
def Flt.wrote (k : Flt) (y : Int) (lost held : Bool) : Flt :=
  { k with output := y, lostOut := lost, heldOut := held, written := (y :: k.written).take 256 }

theorem State.writeOutput_reached :
    (s.onFlt f fun k => k.wrote y lost held).outputReached (s.writeOutput f y ovr lost held) := by
  generalize ht : s.onFlt f (fun k => k.wrote y lost held) = t
  have hfed : t.outputReached (if t.gbGate f then t.feedGb 2 f.val y ovr lost else t) := by
    split
    · exact t.feedGb_reached ..
    · exact State.outputReached_refl
  have hwrite : s.writeOutput f y ovr lost held =
      if lost then (if t.gbGate f then t.feedGb 2 f.val y ovr lost else t)
      else (if t.gbGate f then t.feedGb 2 f.val y ovr lost else t).forAll (List.range 4) fun c s =>
        s.evalCmp f c (s.flt f).written := by
    rw [← ht]
    rfl
  rw [hwrite]
  split
  · exact hfed
  · exact State.forAll_invariant (P := t.outputReached) (fun c _ u hu => State.evalCmp_reached hu c _) hfed

/-! ### One input through the stages (R273 to R275) -/

/-- A channel that the stages have taken an input through, with what R273 and R274 count. -/
def Flt.worked (k : Flt) (p : Page) (x : Int) (lost : Bool) (sats : Nat) : Flt :=
  { (k.stages p x).1 with
    saturations := satAdd (2 ^ 32 - 1) k.saturations (sats + (k.stages p x).2.2)
    lostLeft := if lost then k.settleInForce else k.lostLeft - 1 }

/-- An input through the stages of a channel that stands as `k`. -/
def State.ran (s : State) (f : FltIx) (k : Flt) (x : Int) (ovr lost held : Bool) (sats : Nat) : State :=
  (s.onFlt f fun _ => k).runSlot f x ovr lost held sats

/-- A settling output is counted, not written (R275). -/
theorem State.ran_settling (h : 0 < k.settleLeft) :
    s.ran f k x ovr lost held sats =
      s.onFlt f fun _ => { k.worked (s.page f k.page1) x lost sats with settleLeft := k.settleLeft - 1 } := by
  unfold State.ran State.runSlot
  rw [State.onFlt_flt_same]
  dsimp only
  have hpage : (s.onFlt f fun _ => k).page f k.page1 = s.page f k.page1 := rfl
  rw [hpage, Flt.stages_frame]
  dsimp only
  rw [if_pos h, State.onFlt_onFlt]
  unfold Flt.worked
  rw [Flt.stages_frame]

/-- Any other is written, marked as lost within a settling time of a lost input (R274). -/
theorem State.ran_settled (h : k.settleLeft = 0) :
    ∃ mark, s.ran f k x ovr lost held sats =
      (s.onFlt f fun _ => k.worked (s.page f k.page1) x lost sats).writeOutput f (k.stages (s.page f k.page1) x).2.1 mark
        (lost || decide (0 < k.lostLeft)) held := by
  unfold State.ran State.runSlot
  rw [State.onFlt_flt_same]
  dsimp only
  have hpage : (s.onFlt f fun _ => k).page f k.page1 = s.page f k.page1 := rfl
  rw [hpage, Flt.stages_frame]
  dsimp only
  rw [if_neg (by omega), State.onFlt_onFlt]
  unfold Flt.worked
  rw [Flt.stages_frame]
  exact ⟨_, rfl⟩

/-- What an input in one channel leaves as it was: the other channels, and all that no output reaches. -/
def State.besideSlot (s : State) (f : FltIx) (t : State) : Prop :=
  t = { s with flts := t.flts, gbs := t.gbs, cmps := t.cmps, mbx := t.mbx } ∧ ∀ g, g ≠ f → t.flt g = s.flt g

theorem State.besideSlot_of_reached {t : State} (h : (s.onFlt f fun _ => k).outputReached t) : s.besideSlot f t ∧ t.flt f = k := by
  unfold State.outputReached at h
  rw [h]
  exact ⟨⟨rfl, fun g hg => s.onFlt_flt_other f g _ hg⟩, s.onFlt_flt_same f _⟩

/-- A settling output: only the channel changes. -/
theorem State.ran_of_settling (h : 0 < k.settleLeft) :
    s.besideSlot f (s.ran f k x ovr lost held sats) ∧
      (s.ran f k x ovr lost held sats).flt f =
        { k.worked (s.page f k.page1) x lost sats with settleLeft := k.settleLeft - 1 } ∧
      (s.ran f k x ovr lost held sats).gbs = s.gbs ∧ (s.ran f k x ovr lost held sats).cmps = s.cmps := by
  rw [State.ran_settling h]
  obtain ⟨hbeside, hflt⟩ := State.besideSlot_of_reached (s := s) (f := f)
    (k := { k.worked (s.page f k.page1) x lost sats with settleLeft := k.settleLeft - 1 }) State.outputReached_refl
  exact ⟨hbeside, hflt, rfl, rfl⟩

/-- A written output: the channel, and what it reaches. -/
theorem State.ran_of_settled (h : k.settleLeft = 0) :
    s.besideSlot f (s.ran f k x ovr lost held sats) ∧
      (s.ran f k x ovr lost held sats).flt f =
        (k.worked (s.page f k.page1) x lost sats).wrote (k.stages (s.page f k.page1) x).2.1 (lost || decide (0 < k.lostLeft)) held := by
  obtain ⟨mark, hran⟩ := State.ran_settled (s := s) (f := f) (x := x) (ovr := ovr) (lost := lost) (held := held) (sats := sats) h
  have hreached := (s.onFlt f fun _ => k.worked (s.page f k.page1) x lost sats).writeOutput_reached (f := f)
    (y := (k.stages (s.page f k.page1) x).2.1) (ovr := mark) (lost := lost || decide (0 < k.lostLeft)) (held := held)
  rw [State.onFlt_onFlt, ← hran] at hreached
  exact State.besideSlot_of_reached hreached

/-- What an input through the stages leaves, the channel having stood as `k`: only what an output reaches changes, and of the channel
its delays, counts and output; a settling output is not written, any other is. -/
structure State.Ran (s : State) (f : FltIx) (k : Flt) (x : Int) (lost held : Bool) (t : State) : Prop where
  beside : s.besideSlot f t
  keeps : t.flt f =
    { k with biquad := (k.stages (s.page f k.page1) x).1.biquad, fir := (k.stages (s.page f k.page1) x).1.fir
             saturations := (t.flt f).saturations, lostLeft := (t.flt f).lostLeft, settleLeft := (t.flt f).settleLeft
             output := (t.flt f).output, lostOut := (t.flt f).lostOut, heldOut := (t.flt f).heldOut, written := (t.flt f).written }
  settling : 0 < k.settleLeft →
    (t.flt f).settleLeft = k.settleLeft - 1 ∧ (t.flt f).output = k.output ∧ (t.flt f).written = k.written ∧
      t.gbs = s.gbs ∧ t.cmps = s.cmps
  settled : k.settleLeft = 0 →
    (t.flt f).heldOut = held ∧ (t.flt f).lostOut = (lost || decide (0 < k.lostLeft)) ∧
      (t.flt f).written = ((t.flt f).output :: k.written).take 256 ∧ (t.flt f).output = (k.stages (s.page f k.page1) x).2.1

theorem State.ran_spec : s.Ran f k x lost held (s.ran f k x ovr lost held sats) := by
  rcases Nat.eq_zero_or_pos k.settleLeft with h | h
  · obtain ⟨hbeside, hflt⟩ := State.ran_of_settled (s := s) (f := f) (x := x) (ovr := ovr) (lost := lost) (held := held) (sats := sats) h
    refine ⟨hbeside, ?_, fun h' => absurd h h'.ne', fun _ => ?_⟩
    · rw [hflt, Flt.wrote, Flt.worked, Flt.stages_frame]
    · rw [hflt, Flt.wrote, Flt.worked, Flt.stages_frame]
      exact ⟨rfl, rfl, rfl, rfl⟩
  · obtain ⟨hbeside, hflt, hgbs, hcmps⟩ :=
      State.ran_of_settling (s := s) (f := f) (x := x) (ovr := ovr) (lost := lost) (held := held) (sats := sats) h
    refine ⟨hbeside, ?_, fun _ => ?_, fun h' => absurd h' h.ne'⟩
    · rw [hflt, Flt.worked, Flt.stages_frame]
    · rw [hflt, Flt.worked, Flt.stages_frame]
      exact ⟨rfl, rfl, rfl, hgbs, hcmps⟩

end Sys2Proof.Machine
end

section
/-! The input of a slot (R269 to R271, R276). -/

namespace Sys2Proof.Machine

variable {s : State} {f : FltIx} {k : Flt} {w : Nat}

/-! ### A DIRECT channel (R269) -/

/-- A DIRECT channel that has taken result `r`, with `late` newer ones that leave after the slot's start. -/
def Flt.tookDirect (k : Flt) (w late : Nat) (r : ResultIn) : Flt :=
  { k with fresh := late, dropped := satAdd (2 ^ 32 - 1) k.dropped (k.fresh - late - 1), heldRun := 0, lastIn := r.code
           lastOver := r.ovr, lastInFc := r.fc, waitVaries := k.lastWait != 0 && k.lastWait != w - r.fc, lastWait := w - r.fc }

/-- Among the results since the last slot, newest first, the late ones come first, and the others have left in time. -/
theorem Flt.direct_takes {late older : List ResultIn} {r : ResultIn} (hsplit : k.inputs.take k.fresh = late ++ r :: older)
    (hlate : ∀ q, q ∈ late → w ≤ q.fc + 720) (htimely : ∀ q, q ∈ r :: older → q.fc + 720 < w) (hgood : r.lost = false) :
    k.direct w = (k.tookDirect w late.length r, .value (r.code * 256) r.ovr false false 0) := by
  have hlates : (k.inputs.take k.fresh).filter (fun q => w ≤ q.fc + 720) = late := by
    rw [hsplit, List.filter_append, List.filter_eq_self.2 fun q hq => decide_eq_true (hlate q hq),
      List.filter_eq_nil_iff.2 fun q hq => by have := htimely q hq; simp only [decide_eq_true_eq]; omega, List.append_nil]
  have htaken : (k.inputs.take k.fresh).filter (fun q => q.fc + 720 < w) = r :: older := by
    rw [hsplit, List.filter_append, List.filter_eq_self.2 fun q hq => decide_eq_true (htimely q hq),
      List.filter_eq_nil_iff.2 fun q hq => by have := hlate q hq; simp only [decide_eq_true_eq]; omega, List.nil_append]
  unfold Flt.direct
  rw [hlates, htaken]
  simp only [hgood, Bool.false_and, Bool.false_eq_true, if_false]
  rfl

section
variable (hnone : k.fresh = 0) (hprimed : k.primed = true)
include hnone hprimed

/-- A DIRECT channel that uses the last value again. -/
theorem Flt.direct_holds (hrun : k.heldRun < 16) :
    k.direct w =
      ({ k with underrun := satAdd (2 ^ 32 - 1) k.underrun 1, heldRun := k.heldRun + 1
                waitVaries := k.lastWait != 0 && k.lastWait != w - k.lastInFc, lastWait := w - k.lastInFc },
        .value (k.lastIn * 256) k.lastOver false true 0) := by
  have hfew : ¬16 ≤ k.heldRun := by omega
  simp only [Flt.direct, hnone, hprimed, hfew, List.take_zero, List.filter_nil, Bool.not_true, Bool.false_eq_true, if_false]

/-- A DIRECT channel that has used it 16 times. -/
theorem Flt.direct_starves (hrun : 16 ≤ k.heldRun) :
    k.direct w = ({ k with underrun := satAdd (2 ^ 32 - 1) k.underrun 1, starved := true }, .starved) := by
  simp only [Flt.direct, hnone, hprimed, hrun, List.take_zero, List.filter_nil, Bool.not_true, Bool.false_eq_true, if_false, if_true]

end

/-! ### A RESAMPLE channel (R270, R271) -/

/-- Results that left before the start of the slot that writes at `w`. -/
def Flt.timely (k : Flt) (w : Nat) : List ResultIn := k.inputs.filter fun q => q.fc + 720 < w

/-- The instant of the output (R270). -/
def Flt.instant (k : Flt) (w : Nat) : Int := (w : Int) - 720 - 8 * k.rsRatio

/-- How many of them are newer than the instant. -/
def Flt.newer (k : Flt) (w : Nat) : Nat := ((k.timely w).takeWhile fun q => k.instant w < q.fc).length

theorem Flt.resample_starves (hfew : k.newer w < 8 ∨ (k.timely w).length < k.newer w + 8) :
    k.resample w = ({ k with underrun := satAdd (2 ^ 32 - 1) k.underrun 1, starved := true }, .starved) := by
  have hstarve (a b : Bool) :
      (decide (k.newer w < 8) || a || b || decide ((k.timely w).length < k.newer w + 8)) = true := by
    rcases hfew with h | h <;> simp [h]
  unfold Flt.resample
  dsimp only
  split
  · rfl
  · exact if_pos (hstarve ..)

/-- What stands behind the elements that satisfy a condition does not. -/
theorem not_of_getElem?_length_takeWhile {α : Type} {c : α → Bool} {l : List α} {a : α} (h : l[(l.takeWhile c).length]? = some a) :
    c a = false := by
  induction l with
  | nil => cases h
  | cons b l ih =>
    cases hb : c b with
    | true =>
      rw [List.takeWhile_cons_of_pos hb, List.length_cons, List.getElem?_cons_succ] at h
      exact ih h
    | false =>
      rw [List.takeWhile_cons_of_neg (by rw [hb]; exact Bool.false_ne_true)] at h
      cases h
      exact hb

/-- With 8 results on either side of the place, every tap has its result. -/
theorem filterMap_taps {l : List ResultIn} {n : Nat} (d : ResultIn) (hnewer : 8 ≤ n) (holder : n + 8 ≤ l.length) :
    ((List.range 16).filterMap fun t => if n + 7 < t then none else (l[n + 7 - t]?).map fun v => (t, v)) =
      (List.range 16).map fun t => (t, (l[n + 7 - t]?).getD d) := by
  rw [← List.filterMap_eq_map]
  refine List.filterMap_congr fun t ht => ?_
  have ht' : t < 16 := List.mem_range.1 ht
  rw [if_neg (by omega), Function.comp_apply, List.getElem?_eq_getElem (by omega)]
  rfl

/-- Sum of 16 results with the coefficients of a phase (R271). -/
def Flt.resampleSum (k : Flt) (w phase : Nat) : Int :=
  ((List.range 16).map fun i =>
    (((k.timely w)[k.newer w + 7 - i]?).elim 0 fun q : ResultIn => q.code) * 256 * resampleTap phase i).foldl (· + ·) 0

theorem Flt.resampleSum_eq (d : ResultIn) (phase : Nat) (hnewer : 8 ≤ k.newer w) (holder : k.newer w + 8 ≤ (k.timely w).length) :
    ((List.range 16).map fun t => (t, ((k.timely w)[k.newer w + 7 - t]?).getD d)).foldl
      (fun a p => a + p.2.code * 256 * resampleTap phase p.1) 0 = k.resampleSum w phase := by
  unfold Flt.resampleSum
  rw [List.foldl_map, List.foldl_map]
  refine List.foldl_ext _ _ _ fun a t ht => ?_
  have ht' : t < 16 := List.mem_range.1 ht
  rw [List.getElem?_eq_getElem (by omega)]
  rfl

/-- A RESAMPLE channel that is not starved, at an instant that rounds down to a phase of result `r`. -/
theorem Flt.resample_value {r : ResultIn} (hstarved : k.starved = false) (hnewer : 8 ≤ k.newer w)
    (holder : k.newer w + 8 ≤ (k.timely w).length) (hr : (k.timely w)[k.newer w]? = some r) (hratio : 0 < k.rsRatio)
    (hdown : 2 * ((k.instant w - r.fc) * 64 % k.rsRatio) < k.rsRatio)
    (hphase : ((k.instant w - r.fc) * 64 / k.rsRatio).toNat < 64) :
    ∃ ovr lost sats, k.resample w =
      ({ k with fresh := 0 },
        .value (stageValue (k.resampleSum w ((k.instant w - r.fc) * 64 / k.rsRatio).toNat)) ovr lost false sats) := by
  have hafter : (r.fc : Int) ≤ k.instant w := by
    have h : decide (k.instant w < r.fc) = false := 
      not_of_getElem?_length_takeWhile (c := fun q : ResultIn => decide (k.instant w < q.fc)) hr
    exact not_lt.1 (of_decide_eq_false h)
  have hplace : (k.instant w - r.fc) * 64 / k.rsRatio ≠ 64 := by
    have : 0 ≤ (k.instant w - r.fc) * 64 / k.rsRatio := Int.ediv_nonneg (by omega) (by omega)
    omega
  have hfed : (decide (k.newer w < 8) || k.rsRatio == 0 || (k.starved && !regularRun k.rsRatio (k.timely w)) ||
      decide ((k.timely w).length < k.newer w + 8)) = false := by
    simp only [hstarved, Bool.false_and, Bool.or_false, Bool.or_eq_false_iff, decide_eq_false_iff_not, beq_eq_false_iff_ne]
    omega
  have hleft : (k.inputs.filter fun q => q.fc + 720 < w) = k.timely w := rfl
  have hinstant : (w : Int) - 720 - 8 * k.rsRatio = k.instant w := rfl
  have hcount : ((k.timely w).takeWhile fun q => k.instant w < q.fc).length = k.newer w := rfl
  unfold Flt.resample
  dsimp only
  rw [hleft, hinstant, hcount, hr]
  dsimp only
  rw [hfed, if_neg Bool.false_ne_true, if_pos hdown, if_neg hplace, if_neg hplace, filterMap_taps r hnewer holder,
    List.length_map, List.length_range, if_neg (lt_irrefl 16), Flt.resampleSum_eq r _ hnewer holder]
  exact ⟨_, _, _, rfl⟩

end Sys2Proof.Machine
end

section
/-! A slot of a filter channel: what it does with its input, and when it takes place (R266, R267, R269, R270, R275 to R277, R291). -/

namespace Sys2Proof.Machine

variable {s : State} {f : FltIx} {k : Flt} {x : Int} {ovr lost held : Bool} {sats : Nat}

/-! ### The slot and its input (R269, R270, R275, R276) -/

/-- The input of a channel's slot, and the channel that has taken it. -/
def State.slotInput (s : State) (f : FltIx) : Flt × SlotIn :=
  if s.parN Pid.FLT_INPUT_MODE f.val == 1 then (s.flt f).resample s.fc else (s.flt f).direct s.fc

theorem State.slotInput_direct (h : s.parN Pid.FLT_INPUT_MODE f.val ≠ 1) : s.slotInput f = (s.flt f).direct s.fc :=
  if_neg fun e => h (beq_iff_eq.1 e)

theorem State.slotInput_resample (h : ¬s.parN Pid.FLT_INPUT_MODE f.val ≠ 1) : s.slotInput f = (s.flt f).resample s.fc :=
  if_pos (beq_iff_eq.2 (not_not.1 h))

section
variable (hswap : (s.flt f).swapPending = none)
include hswap

theorem State.slot_eq :
    s.slot f =
      match (s.slotInput f).2 with
      | .none => s.onFlt f fun _ => (s.slotInput f).1
      | .starved => (s.onFlt f fun _ => (s.slotInput f).1).applyFigures
      | .value x ovr lost held sats =>
        if (s.flt f).starved || !(s.flt f).primed then
          let t := s.onFlt f fun _ => (s.slotInput f).1.prime (s.page f (s.slotInput f).1.page1) x
          (if (s.flt f).starved then t.raise 0x0802 f.val [] else t).runSlot f x ovr lost held sats
        else s.ran f (s.slotInput f).1 x ovr lost held sats := by
  have hdue : s.swapDue f = false := by simp only [State.swapDue, hswap]
  unfold State.slot
  dsimp only
  rw [hdue, if_neg Bool.false_ne_true]
  change (match (s.slotInput f).2 with | .none => _ | .starved => _ | .value x ovr lost held sats => _) = _
  cases (s.slotInput f).2 with
  | none => rfl
  | starved => rfl
  | value x ovr lost held sats =>
    dsimp only
    rw [State.onFlt_flt_same, State.onFlt_onFlt]
    rfl

theorem State.slot_runs (hin : s.slotInput f = (k, .value x ovr lost held sats)) (hprimed : (s.flt f).primed = true)
    (hstarved : (s.flt f).starved = false) : s.slot f = s.ran f k x ovr lost held sats := by
  rw [State.slot_eq hswap, hin, hprimed, hstarved]
  rfl

/-- The first input of a run primes the channel (R275). -/
theorem State.slot_primes (hin : s.slotInput f = (k, .value x ovr lost held sats)) (hprimed : (s.flt f).primed = false)
    (hstarved : (s.flt f).starved = false) : s.slot f = s.ran f (k.prime (s.page f k.page1) x) x ovr lost held sats := by
  rw [State.slot_eq hswap, hin, hprimed, hstarved]
  rfl

theorem State.slot_starves (hin : s.slotInput f = (k, .starved)) : s.slot f = (s.onFlt f fun _ => k).applyFigures := by
  rw [State.slot_eq hswap, hin]

end

/-! ### Figures for a starved channel (R277) -/

theorem Flt.takeFigures_frame :
    k.takeFigures = { k with rsRatio := k.takeFigures.rsRatio, rsLag := k.takeFigures.rsLag, figures := k.takeFigures.figures } := by
  unfold Flt.takeFigures
  split
  · split <;> rfl
  · rfl

theorem State.applyFigures_frame : s.applyFigures = { s with flts := s.applyFigures.flts } := by
  unfold State.applyFigures
  split <;> rfl

theorem State.applyFigures_flt : s.applyFigures.flt f = if s.fwOn then (s.flt f).takeFigures else s.flt f := by
  unfold State.applyFigures State.flt
  split
  · exact Vector.getElem_map ..
  · rfl

/-- A channel that starves keeps its figures but for those that its feeder's latest start has left for it. -/
theorem State.starved_slot (hstarved : k.starved = true) :
    ∃ t : State, (s.onFlt f fun _ => k).applyFigures = t ∧ t = { s with flts := t.flts } ∧
      t.flt f = { k with rsRatio := (t.flt f).rsRatio, rsLag := (t.flt f).rsLag, figures := (t.flt f).figures } ∧
      ((k.figures = none ∨ s.fwOn = false) → (t.flt f).rsRatio = k.rsRatio ∧ (t.flt f).rsLag = k.rsLag) ∧
      ∀ q, k.figures = some q → s.fwOn = true → (t.flt f).rsRatio = q.1 ∧ (t.flt f).rsLag = q.2 := by
  have hflt : (s.onFlt f fun _ => k).applyFigures.flt f = if s.fwOn then k.takeFigures else k := by
    rw [State.applyFigures_flt, State.onFlt_flt_same, State.onFlt_fwOn]
  refine ⟨_, rfl, State.applyFigures_frame (s := s.onFlt f fun _ => k), ?_, ?_, ?_⟩
  · rw [hflt]
    split
    · exact Flt.takeFigures_frame
    · rfl
  · rintro (h | h)
    · rw [hflt]
      simp only [Flt.takeFigures, h, ite_self, and_self]
    · simp only [hflt, h, Bool.false_eq_true, if_false, and_self]
  · intro q hq hfw
    simp only [hflt, hfw, Flt.takeFigures, hq, hstarved, if_true, and_self]

/-! ### The instruction (R266, R267, R291) -/

theorem exec_filterSlot_idle (h : (s.flt f).running = false ∨ s.atWrite f = false) : exec (.filterSlot f) s = .next s := by
  have hidle : (!(s.hwOn && s.hasFlt && (s.flt f).running && s.atWrite f)) = true := by
    rcases h with h | h <;> simp [h]
  exact congrArg Host.Outcome.next (if_pos hidle)

section
variable (hhw : s.hwOn = true) (hflt : s.hasFlt = true) (hrun : (s.flt f).running = true) (hwrite : s.atWrite f = true)
include hhw hflt hrun hwrite

/-- At the write cycle of a running channel's slot: a stop that is due, then the slot of an active frame. -/
theorem exec_filterSlot_write :
    exec (.filterSlot f) s =
      .next (let t := if s.stopDue f then s.stopAtSlot f else s
             if (t.flt f).running && t.frameActive f then t.slot f else t) := by
  have hopen : ¬(!(s.hwOn && s.hasFlt && (s.flt f).running && s.atWrite f)) = true := by simp [hhw, hflt, hrun, hwrite]
  exact congrArg Host.Outcome.next (if_neg hopen)

theorem exec_filterSlot_stops (hdue : s.stopDue f = true) (hswap : (s.flt f).swapPending = none) :
    exec (.filterSlot f) s = .next (s.onFlt f Flt.stop) := by
  have hstop : s.stopAtSlot f = s.onFlt f Flt.stop := by simp [State.stopAtSlot, hswap]
  have hstopped : ((s.onFlt f Flt.stop).flt f).running = false := congrArg Flt.running (s.onFlt_flt_same f Flt.stop)
  rw [exec_filterSlot_write hhw hflt hrun hwrite, if_pos hdue, hstop]
  simp only [hstopped, Bool.false_and, Bool.false_eq_true, if_false]

theorem exec_filterSlot_runs (hdue : s.stopDue f = false) :
    exec (.filterSlot f) s = .next (if s.frameActive f then s.slot f else s) := by
  rw [exec_filterSlot_write hhw hflt hrun hwrite]
  simp only [hdue, hrun, Bool.true_and, Bool.false_eq_true, if_false]

end

theorem exec_filterSlot_inactive (hhw : s.hwOn = true) (hflt : s.hasFlt = true) (hframe : s.frameActive f = false)
    (hdue : s.stopDue f = false) : exec (.filterSlot f) s = .next s := by
  cases hrun : (s.flt f).running with
  | false => exact exec_filterSlot_idle (.inl hrun)
  | true =>
    cases hwrite : s.atWrite f with
    | false => exact exec_filterSlot_idle (.inr hwrite)
    | true => rw [exec_filterSlot_runs hhw hflt hrun hwrite hdue, hframe, if_neg Bool.false_ne_true]

theorem State.stopDue_of_none (h : (s.flt f).stopReq = none) : s.stopDue f = false := by simp only [State.stopDue, h]

theorem State.stopDue_of_some {a : Nat} (h : (s.flt f).stopReq = some a) (hbefore : a + 720 ≤ s.fc) : s.stopDue f = true := by
  simp only [State.stopDue, h, hbefore, decide_true]

end Sys2Proof.Machine
end

section
/-! The statement about a slot of a filter channel (R266 to R277, R291). -/

namespace Sys2Proof.Machine

/-- Settles O52: an open slot is `State.slot`, whose input starves the channel or goes through the stages of the running page. -/
theorem filterSlotWritesItsOutput : Obligations.FilterSlotWritesItsOutput := by
  unfold Obligations.FilterSlotWritesItsOutput
  intro s f hhw hflt k p direct atSlot plain rest code wide
  have hslot : atSlot → exec (.filterSlot f) s = .next (s.slot f) := by
    rintro ⟨hrun, hwrite, hframe, hstop, -⟩
    rw [exec_filterSlot_runs hhw hflt hrun hwrite (State.stopDue_of_none hstop), if_pos hframe]
  have hswap : atSlot → (s.flt f).swapPending = none := by
    rintro ⟨-, -, -, -, h⟩
    exact h
  refine ⟨fun h => exec_filterSlot_idle (.inl h), fun h => exec_filterSlot_idle (.inr h),
    fun hframe hdue => exec_filterSlot_inactive hhw hflt hframe hdue, ?stops, ?takes, ?cascades, ?primes, ?holds, ?starves, ?resamples⟩
  case stops =>
    intro fc hrun hwrite hstop hbefore hunswapped
    exact exec_filterSlot_stops hhw hflt hrun hwrite (State.stopDue_of_some hstop hbefore) hunswapped
  case takes =>
    rintro late r older ⟨hat, hprimed, hstarved⟩ hdirect hsplit hlate htimely hgood
    have hin := (State.slotInput_direct hdirect).trans (Flt.direct_takes hsplit hlate htimely hgood)
    have hran : s.Ran f _ _ _ _ (s.slot f) := State.slot_runs (hswap hat) hin hprimed hstarved ▸ State.ran_spec
    obtain ⟨hbeside, hkeeps, hsettling, hsettled⟩ := hran
    have hcascade := Flt.stages_cascade (k := k.tookDirect s.fc late.length r) (p := p) (x := r.code * 256)
    have hfir := Flt.stages_fir (k := k.tookDirect s.fc late.length r) (p := p) (x := r.code * 256)
    refine ⟨s.slot f, hslot hat, hbeside, (congrArg Flt.fresh hkeeps :), (congrArg Flt.dropped hkeeps :), (congrArg Flt.lastIn hkeeps :),
      (congrArg Flt.heldRun hkeeps :), (congrArg Flt.underrun hkeeps :),
      fun hty hlen => (congrArg Flt.biquad hkeeps).trans (hcascade hty hlen).1,
      fun hty => (congrArg Flt.fir hkeeps).trans (hfir hty).1, hsettling, fun h => ?_⟩
    obtain ⟨hheld, hlost, hwritten, houtput⟩ := hsettled h
    exact ⟨hheld, hlost, hwritten, fun hty => houtput.trans ((Flt.stages_bypass hty).trans (outputCode_mul_256 r.code)),
      fun hty hlen => houtput.trans (hcascade hty hlen).2, fun hty => houtput.trans (hfir hty).2⟩
  case cascades => exact fun i x z zs => ⟨cascade_nil i, cascade_cons_out i z zs⟩
  case primes =>
    intro late r older hat hprimed hdirect hsplit hlate htimely hgood hstarved hsettle
    have hin := (State.slotInput_direct hdirect).trans (Flt.direct_takes hsplit hlate htimely hgood)
    have hran : s.Ran f _ _ _ _ (s.slot f) := State.slot_primes (hswap hat) hin hprimed hstarved ▸ State.ran_spec
    obtain ⟨hbeside, hkeeps, hsettling, -⟩ := hran
    obtain ⟨hleft, houtput, -, hgbs, -⟩ := hsettling hsettle
    exact ⟨s.slot f, hslot hat, hbeside, (congrArg Flt.primed hkeeps :), houtput, hleft, hgbs,
      fun hty => (congrArg Flt.fir hkeeps).trans (Flt.stages_fir hty).1⟩
  case holds =>
    rintro ⟨hat, hprimed, hstarved⟩ hdirect hnone hty hrun hsettle
    have hin := (State.slotInput_direct hdirect).trans (Flt.direct_holds hnone hprimed hrun)
    have hran : s.Ran f _ _ _ _ (s.slot f) := State.slot_runs (hswap hat) hin hprimed hstarved ▸ State.ran_spec
    obtain ⟨hbeside, hkeeps, -, hsettled⟩ := hran
    obtain ⟨hheld, -, -, houtput⟩ := hsettled hsettle
    exact ⟨s.slot f, hslot hat, hbeside, houtput.trans ((Flt.stages_bypass hty).trans (outputCode_mul_256 k.lastIn)), hheld,
      (congrArg Flt.underrun hkeeps :), (congrArg Flt.heldRun hkeeps :)⟩
  case starves =>
    rintro ⟨hat, hprimed, hstarved⟩ hstarves
    have hin : s.slotInput f = ({ k with underrun := satAdd (2 ^ 32 - 1) k.underrun 1, starved := true }, .starved) := by
      rcases hstarves with ⟨hdirect, hnone, hrun⟩ | ⟨hresample, hfew⟩
      · exact (State.slotInput_direct hdirect).trans (Flt.direct_starves hnone hprimed hrun)
      · exact (State.slotInput_resample hresample).trans (Flt.resample_starves hfew)
    obtain ⟨t, ht, hframe, hkeeps, hold, hnew⟩ :=
      State.starved_slot (s := s) (f := f) (k := { k with underrun := satAdd (2 ^ 32 - 1) k.underrun 1, starved := true }) rfl
    refine ⟨t, ?_, hframe, (congrArg Flt.starved hkeeps :), (congrArg Flt.underrun hkeeps :), (congrArg Flt.output hkeeps :),
      (congrArg Flt.written hkeeps :), hold, hnew⟩
    rw [hslot hat, State.slot_starves (hswap hat) hin, ht]
  case resamples =>
    rintro r ⟨hat, hprimed, hstarved⟩ hresample hnewer holder hr hratio num phase hdown hphase hsettle hty
    obtain ⟨ovr, lost, sats, hvalue⟩ := Flt.resample_value hstarved hnewer holder hr hratio hdown hphase
    have hin := (State.slotInput_resample hresample).trans hvalue
    have hran : s.Ran f _ _ _ _ (s.slot f) := State.slot_runs (hswap hat) hin hprimed hstarved ▸ State.ran_spec
    obtain ⟨hbeside, hkeeps, -, hsettled⟩ := hran
    obtain ⟨hheld, -, -, houtput⟩ := hsettled hsettle
    exact ⟨s.slot f, hslot hat, hbeside, (congrArg Flt.fresh hkeeps :), hheld, houtput.trans (Flt.stages_bypass hty)⟩

end Sys2Proof.Machine
end

section
/-! What becomes of an event, and of a window that limits reports (R199, R230, R247, R252, R312, R350, R356 to R359, R380). -/

namespace Sys2Proof.Machine

variable {s : State} {m : Mailbox} {e : Event} {code inst : Nat} {p : List Byte}

/-! ### A place in the ring (R356, R357) -/

theorem Mailbox.store_room (h : m.ring.length < 255) :
    m.store e = { m with nextEvtSeq := (m.nextEvtSeq + 1) % 2 ^ 32, ring := m.ring ++ [.event e], markerOpen := false } :=
  if_pos h

theorem Mailbox.store_opens_marker (hfull : 255 ≤ m.ring.length) (hclosed : m.markerOpen = false) :
    m.store e =
      { m with
        nextEvtSeq := (m.nextEvtSeq + 1) % 2 ^ 32, eventsLost := min (2 ^ 32 - 1) (m.eventsLost + 1)
        ring := m.ring ++ [.marker e.evtSeq [e.time]], markerOpen := true } := by
  refine (if_neg (Nat.not_lt.2 hfull)).trans ?_
  dsimp only
  rw [hclosed]
  rfl

theorem Mailbox.store_extends_marker {front : List Slot} {q : Nat} {ts : List Nat} (hfull : 255 ≤ m.ring.length)
    (hopen : m.markerOpen = true) (hring : m.ring = front ++ [.marker q ts]) :
    m.store e =
      { m with
        nextEvtSeq := (m.nextEvtSeq + 1) % 2 ^ 32, eventsLost := min (2 ^ 32 - 1) (m.eventsLost + 1)
        ring := front ++ [.marker q (ts ++ [e.time])], markerOpen := true } := by
  have hlast : m.ring.getLast? = some (.marker q ts) := by rw [hring, List.getLast?_concat]
  have hfront : m.ring.dropLast = front := by rw [hring, List.dropLast_concat]
  refine (if_neg (Nat.not_lt.2 hfull)).trans ?_
  dsimp only
  rw [hlast, hfront, hopen]
  rfl

/-! ### Who takes the event (R312, R350, R358, R359) -/

theorem State.raise_running (hphase : s.phase = .runtime) (heclipse : s.boot.eclipse = false) (hhalted : s.boot.halted = false) :
    s.raise code inst p = s.learn ⟨code, inst, false, false, 0, s.time, padTo 16 p⟩ := by
  simp only [State.raise, State.raiseS, hphase, heclipse, hhalted, bne_self_eq_false, Bool.or_self, Bool.and_false,
    Bool.false_eq_true, if_false]

theorem State.raise_eclipse (hphase : s.phase = .runtime) (heclipse : s.boot.eclipse = true) (hholding : s.mbx.holding = false) :
    s.raise code inst p =
      { s with mbx := { s.mbx with deferred := s.mbx.deferred ++ [⟨code, inst, true, false, 0, s.time, padTo 16 p⟩] } } := by
  simp only [State.raise, State.raiseS, hphase, heclipse, hholding, bne_self_eq_false, Bool.not_false, Bool.true_or, Bool.and_self,
    Bool.false_eq_true, if_false, if_true]

theorem State.learn_posts (hholding : s.mbx.holding = false) (hheld : s.mbx.held = []) (hsup : s.suppressed e.code = false) :
    s.learn e = s.ringUp e := by
  simp only [State.learn, State.post, hholding, hheld, hsup, List.isEmpty_nil, Bool.not_true, Bool.or_self, Bool.false_eq_true, if_false]

theorem State.learn_waits (h : s.mbx.holding = true ∨ s.mbx.held ≠ []) (hsup : s.suppressed e.code = false) :
    s.learn e = { s with mbx := { s.mbx with held := s.mbx.held ++ [e] } } := by
  have hbehind : (s.mbx.holding || !s.mbx.held.isEmpty) = true := by simpa using h
  rw [State.learn, if_pos hbehind, if_neg (by rw [hsup]; exact Bool.false_ne_true)]

/-- An event for which nothing stands in the way goes to the ring at once. -/
theorem State.raise_posts (hphase : s.phase = .runtime) (heclipse : s.boot.eclipse = false) (hhalted : s.boot.halted = false)
    (hholding : s.mbx.holding = false) (hheld : s.mbx.held = []) (hsup : s.suppressed code = false) :
    s.raise code inst p =
      { s with mbx := s.mbx.store ⟨code, inst, false, false, s.mbx.nextEvtSeq, s.time, padTo 16 p⟩ } :=
  (State.raise_running hphase heclipse hhalted).trans (State.learn_posts hholding hheld hsup)

/-! ### The end of a window (R199, R230, R247, R252, R380) -/

theorem exec_rateLimitedReport (hhw : s.hwOn = true) (k : ReportKind) : exec (.rateLimitedReport k) s = .next (s.windowEnd k) :=
  congrArg Host.Outcome.next (if_pos hhw)

/-- The shape that the window ends share: nothing gathered closes the window, anything else is reported. -/
theorem windowEnd_of_open {limited : Bool} {n : Nat} {closed reported : State} (h : limited = true) :
    (n = 0 → (if !limited then s else if n == 0 then closed else reported) = closed) ∧
      (n ≠ 0 → (if !limited then s else if n == 0 then closed else reported) = reported) := by
  subst h
  exact ⟨fun hn => if_pos (beq_iff_eq.2 hn), fun hn => if_neg fun e => hn (beq_iff_eq.1 e)⟩

theorem State.fbWindowEnd_closes {c : Ch} {kind : Nat} (hlimited : (s.fb c).limited.getD kind false = true)
    (hocc : (s.fb c).occ.getD kind 0 = 0) :
    s.fbWindowEnd c kind = s.onFb c fun f => { f with limited := f.limited.set kind false } := by
  simp only [State.fbWindowEnd, hlimited, hocc, Bool.not_true, Bool.false_eq_true, Nat.lt_irrefl, if_false]

theorem State.fbWindowEnd_reports {c : Ch} {kind : Nat} (hlimited : (s.fb c).limited.getD kind false = true)
    (hocc : (s.fb c).occ.getD kind 0 ≠ 0) : s.fbWindowEnd c kind = s.fbReport c kind := by
  simp only [State.fbWindowEnd, hlimited, Nat.pos_of_ne_zero hocc, Bool.not_true, Bool.false_eq_true, if_false, if_true]

theorem State.fbReport_eq (c : Ch) (kind : Nat) :
    s.fbReport c kind = (s.onFb c fun f => { f with occ := f.occ.set kind 0, limited := f.limited.set kind true }).raise
      (0x0501 + kind) c.val (leBytes 4 ((s.fb c).occ.getD kind 0) ++ leBytes 4 (s.fb c).count.toNat ++
        (if kind = 1 then leInt 4 (s.fb c).indexInterval else [])) := by
  simp only [State.fbReport, fbErrorCode, beq_iff_eq]

/-- The five kinds of a feedback interface, in the order of their codes (R199). -/
theorem State.windowEnd_fb {c : Ch} {k : ReportKind} {n : Fin 5}
    (h : [ReportKind.fbIllegal c, .fbLines c, .missingTooth c, .extraPulse c, .fbCheck c][n]? = some k) :
    s.windowEnd k = s.fbWindowEnd c n.val := by
  match n with
  | 0 | 1 | 2 | 3 | 4 =>
    obtain rfl := Option.some.inj h
    rfl

theorem exec_rfxReportWindowEnd_open {r : RuleIx} (hhw : s.hwOn = true) (hwindow : (s.rule r).window = true) :
    exec (.rfxReportWindowEnd r) s = .next (if (s.rule r).gathered == 0 then s.onRule r fun k => { k with window := false } else
      (s.raiseAt (s.rule r).gatherTime 0x0601 r.val (leBytes 4 (s.rule r).gatherCap.toNat ++ leBytes 4 (s.rule r).gathered)).onRule r
        fun k => { k with gathered := 0 }) :=
  congrArg Host.Outcome.next (if_neg (by rw [hhw, hwindow]; exact Bool.false_ne_true))

/-- Settles O8: the ways of an event by the state it arises in, and the window ends by what they gathered. -/
theorem eventsAreStoredAndReportsLimited : Obligations.EventsAreStoredAndReportsLimited := by
  unfold Obligations.EventsAreStoredAndReportsLimited
  refine ⟨?events, ?windows⟩
  case events =>
    intro s code inst p hphase m e plain lost
    have hposts : plain → s.raise code inst p = { s with mbx := m.store e } := by
      rintro ⟨heclipse, hhalted, hholding, hheld, hsup⟩
      exact State.raise_posts hphase heclipse hhalted hholding hheld hsup
    refine ⟨fun hplain hroom => ?_, fun hplain hfull hclosed => ?_, fun front q ts hplain hfull hopen hring => ?_,
      fun heclipse hhalted hsup => State.raise_suppressed s code inst p hphase heclipse hhalted hsup,
      fun heclipse hhalted hwaits hsup => (State.raise_running hphase heclipse hhalted).trans (State.learn_waits hwaits hsup),
      fun heclipse hholding => State.raise_eclipse hphase heclipse hholding⟩
    · rw [hposts hplain, Mailbox.store_room hroom]
    · rw [hposts hplain, Mailbox.store_opens_marker hfull hclosed]
    · rw [hposts hplain, Mailbox.store_extends_marker hfull hopen hring]
  case windows =>
    intro s hhw
    have hexec := exec_rateLimitedReport hhw
    refine ⟨fun m hlimited => ?_, fun m hlimited => ?_, fun c hlimited => ?_, fun c k n hkind hlimited => ?fb, fun r hwindow => ?rule⟩
    case fb =>
      rw [hexec, State.windowEnd_fb hkind, ← State.fbReport_eq]
      exact ⟨fun hocc => congrArg _ (State.fbWindowEnd_closes hlimited hocc),
        fun hocc => congrArg _ (State.fbWindowEnd_reports hlimited hocc)⟩
    case rule =>
      rw [exec_rfxReportWindowEnd_open hhw hwindow]
      exact ⟨fun hnone => congrArg _ (if_pos (beq_iff_eq.2 hnone)), fun hsome => congrArg _ (if_neg fun h => hsome (beq_iff_eq.1 h))⟩
    all_goals
      rw [hexec]
      obtain ⟨hcloses, hreports⟩ := windowEnd_of_open (s := s) hlimited
      exact ⟨fun h => congrArg _ (hcloses h), fun h => congrArg _ (hreports h)⟩

end Sys2Proof.Machine
end

section
/-! What a frame of the host port is answered (R298, R313, R329, R333 to R336, R346, R353, R355, R428, R446). -/

namespace Sys2Proof.Machine

variable {s : State} {f : HpFrame} {i : Instr}

/-! ### A frame after its host CRC (R327 to R329) -/

theorem State.present_fresh (hon : s.hpOn = true) (hcur : s.hp.cur = none) :
    s.present f = { s with hp := { s.hp with cur := some (s.curFrame f) } } := by
  simp only [State.present, hon, hcur, Option.isSome_none, Bool.not_true, Bool.false_eq_true, if_false]

theorem exec_mailboxFrame (hi : i = .commandPost f ∨ i = .responseFetch f ∨ i = .eventFetch f) (hon : s.hpOn = true)
    (hcur : s.hp.cur = none) : exec i s = .next { s with hp := { s.hp with cur := some (s.curFrame f) } } := by
  rw [← State.present_fresh hon hcur]
  rcases hi with rfl | rfl | rfl <;> rfl

theorem State.curFrame_rejected {r : Nat} (h : s.hp.reject f = some r) :
    s.curFrame f = ⟨f, some r, false, .ok, [], 0xFF, 0, 0⟩ := by
  simp only [State.curFrame, h]

theorem State.curFrame_good {a : Answer} (h : s.hp.reject f = none) (ha : s.answerFrame f = a) :
    s.curFrame f = ⟨f, none, s.hp.repeats f, a.result, a.data, s.statusByte, a.consume, a.markerSeen⟩ := by
  simp only [State.curFrame, h, ha]

/-! ### Who answers (R298, R313, R333, R335) -/

theorem State.answerFrame_repeated {p : Replay} (hrepeats : s.hp.repeats f = true) (hreplay : s.hp.replay = some p) :
    s.answerFrame f = ⟨.duplicate, p.result.code ::
      (if f.op = 0xA5 then (if p.result = .ok then p.reply else List.replicate f.length.toNat 0) else []), 0, 0⟩ := by
  simp only [State.answerFrame, hrepeats, if_true, HostPort.replayed, hreplay, opRead, beq_iff_eq]

theorem State.answerFrame_eclipsed (hnew : s.hp.repeats f = false) (hfrom : 1 ≤ f.window.toNat) (hto : f.window.toNat ≤ 3)
    (heclipsed : s.boot.eclipse = true ∨ s.boot.halted = true) : s.answerFrame f = .code .eclipseRetry := by
  have h : s.eclipsed = true := Bool.or_eq_true_iff.2 heclipsed
  simp only [State.answerFrame, hnew, hfrom, hto, h, decide_true, Bool.and_self, Bool.false_eq_true, if_false, if_true]

section
variable (hnew : s.hp.repeats f = false) (hawake : (1 ≤ f.window.toNat && f.window.toNat ≤ 3 && s.eclipsed) = false)
include hnew hawake

theorem State.answerFrame_unavailable (h : s.unavailable f = true) : s.answerFrame f = .code .wrongState := by
  simp only [State.answerFrame, hnew, hawake, h, Bool.false_eq_true, if_false, if_true]

/-- An available window answers a new frame by its own rule. -/
theorem State.answerFrame_available (h : s.unavailable f = false) :
    (f.window = 0 → f.op = 0x5A → s.answerFrame f = s.write0 f) ∧ (f.window = 1 → s.answerFrame f = s.post1 f) ∧
      (f.window = 2 → s.answerFrame f = s.fetch2 f) ∧ (f.window = 3 → s.answerFrame f = s.fetch3 f) ∧
      (f.window = 4 → s.answerFrame f = s.access4 f) ∧ (f.window = 5 → s.answerFrame f = s.access5 f) := by
  simp only [State.answerFrame, hnew, hawake, h, Bool.false_eq_true, if_false]
  refine ⟨fun hw hop => ?_, fun hw => ?_, fun hw => ?_, fun hw => ?_, fun hw => ?_, fun hw => ?_⟩ <;> rw [hw]
  case refine_1 => rw [hop]; rfl
  all_goals rfl

end

/-! ### Whether a window is available (R298, R335, R428, R446) -/

theorem State.unavailable_write0 (hw : f.window = 0) (hop : f.op = 0x5A) : s.unavailable f = s.started := by
  simp only [State.unavailable, hw, hop]
  rfl

theorem State.unavailable_post1 (hphase : s.phase = .runtime) (hw : f.window = 1) :
    s.unavailable f = true ↔ s.power.entering = .armed ∨ s.power.entering = .unitsStopped := by
  simp [State.unavailable, State.inRuntime, hw, hphase]

theorem State.unavailable_fetch (hphase : s.phase = .runtime) (hw : f.window = 2 ∨ f.window = 3) : s.unavailable f = false := by
  rcases hw with hw | hw <;> simp [State.unavailable, State.inRuntime, hw, hphase]

theorem State.unavailable_window4 (hw : f.window = 4) : s.unavailable f = false := by
  simp [State.unavailable, hw]

theorem State.unavailable_read5 (hw : f.window = 5) (hop : f.op = 0xA5) : s.unavailable f = false := by
  simp [State.unavailable, hw, hop, opWrite]

theorem State.unavailable_write5 (hphase : s.phase = .runtime) (heclipsed : s.eclipsed = false) (hw : f.window = 5) (hop : f.op = 0x5A) :
    s.unavailable f = true ↔ s.sec.attempts = 8 ∨ s.allDisabled = false := by
  simp [State.unavailable, State.inRuntime, hw, hop, opWrite, hphase, heclipsed]

/-! ### The mailbox windows (R346, R353, R355) -/

theorem offset_eq_zero : f.offset = 0#16 ↔ f.offset.toNat = 0 := BitVec.toNat_inj.symm

/-- A record that window 1 can take: a WRITE from offset 0, of a length that the record itself gives (R346). -/
def postFormed (f : HpFrame) : Prop :=
  f.op = 0x5A ∧ f.offset.toNat = 0 ∧ 8 ≤ f.length.toNat ∧ f.length.toNat ≤ 256 ∧ f.length.toNat % 4 = 0 ∧
    field f.data 2 2 = f.length.toNat

theorem State.post1_formed (h : postFormed f) : s.post1 f = .code (if s.freeEntries = 0 then .noCredit else .ok) := by
  obtain ⟨hop, hoff, hmin, hmax, hquad, hlen⟩ := h
  refine (if_neg ?_).trans ?_
  · simp [opWrite, offset_eq_zero, hop, hoff, hmin, hmax, hquad, hlen]
  · simp only [beq_iff_eq]
    split <;> rfl

theorem State.post1_malformed (h : ¬postFormed f) : s.post1 f = .code .outOfRange := by
  refine if_pos ?_
  by_contra hno
  exact h (by simpa [postFormed, opWrite, offset_eq_zero, and_assoc] using hno)

theorem State.fetch2_ok (hop : f.op = 0xA5) (hoff : f.offset.toNat = 0) (hlen : 16 ≤ f.length.toNat) :
    s.fetch2 f = ⟨.ok, padTo f.length.toNat (fitRecords f.length.toNat s.mbx.responses).flatten,
      (fitRecords f.length.toNat s.mbx.responses).length, 0⟩ := by
  refine if_neg ?_
  simp [opRead, offset_eq_zero, hop, hoff, hlen]

theorem State.fetch2_refused (h : f.op ≠ 0xA5 ∨ f.offset.toNat ≠ 0 ∨ f.length.toNat < 16) : s.fetch2 f = .code .outOfRange := by
  refine if_pos ?_
  simpa [opRead, offset_eq_zero, or_assoc] using h

theorem State.fetch3_ok (hop : f.op = 0xA5) (hoff : f.offset.toNat = 0) (hlen : 32 ≤ f.length.toNat) (hwhole : f.length.toNat % 32 = 0) :
    s.fetch3 f =
      let es := s.mbx.ring.take (f.length.toNat / 32)
      ⟨.ok, padTo f.length.toNat (es.flatMap Slot.bytes), es.length, (es.getLast?.map Slot.losses).getD 0⟩ := by
  refine if_neg ?_
  simp [opRead, offset_eq_zero, hop, hoff, hlen, hwhole]

theorem State.fetch3_refused (h : f.op ≠ 0xA5 ∨ f.offset.toNat ≠ 0 ∨ f.length.toNat < 32 ∨ f.length.toNat % 32 ≠ 0) :
    s.fetch3 f = .code .outOfRange := by
  refine if_pos ?_
  simpa [opRead, offset_eq_zero, or_assoc] using h

/-! ### The registers of windows 4 and 5 (R336, R446) -/

theorem State.access4_read (hop : f.op = 0xA5) (hend : f.offset.toNat + f.length.toNat ≤ 0x40) :
    s.access4 f = .ok (slice s.window4 f.offset.toNat f.length.toNat) :=
  (if_pos (beq_iff_eq.2 hop)).trans (if_pos hend)

theorem State.access4_write (hop : f.op = 0x5A) :
    s.access4 f =
      .code (if f.offset.toNat = 0x0C ∧ f.length.toNat = 4 ∧ ctrlOk (frameWord f) = true then .ok else .outOfRange) := by
  refine (if_neg (by rw [hop]; decide)).trans ?_
  simp only [frameAt, Bool.and_eq_true, beq_iff_eq, and_assoc]
  split <;> rfl

theorem State.access5_read (hop : f.op = 0xA5) (hend : f.offset.toNat + f.length.toNat ≤ 0x24) :
    s.access5 f = .ok (slice s.window5 f.offset.toNat f.length.toNat) :=
  (if_pos (beq_iff_eq.2 hop)).trans (if_pos hend)

theorem State.access5_write (hop : f.op = 0x5A) :
    s.access5 f = .code (if f.offset.toNat = 0x40 ∧ f.length.toNat = 132 then .ok else .outOfRange) := by
  refine (if_neg (by rw [hop]; decide)).trans ?_
  simp only [frameAt, Bool.and_eq_true, beq_iff_eq]
  split <;> rfl

/-- Settles O17: the frame in progress is `State.curFrame`, whose answer the state, the window and the form decide. -/
theorem presentedFramesAreJudged : Obligations.PresentedFramesAreJudged := by
  unfold Obligations.PresentedFramesAreJudged
  refine ⟨?answered, ?otherwise⟩
  case answered =>
    intro s f i hi hon hcur hgood hnew hphase heclipse hhalted hstarted n off closed latched formed
    have heclipsed : s.eclipsed = false := by rw [State.eclipsed, heclipse, hhalted]; rfl
    have hawake : (1 ≤ f.window.toNat && f.window.toNat ≤ 3 && s.eclipsed) = false := by rw [heclipsed, Bool.and_false]
    have hlatched : ∀ {a : Answer}, s.answerFrame f = a → latched a.result a.data a.consume a.markerSeen := fun ha => by
      have h := exec_mailboxFrame hi hon hcur
      rw [State.curFrame_good hgood ha, hnew] at h
      exact h
    have hclosed : s.unavailable f = true → latched .wrongState [] 0 0 := fun h =>
      hlatched (State.answerFrame_unavailable hnew hawake h)
    have hserved := State.answerFrame_available hnew hawake
    have hopen : ∀ {p : Prop}, (s.unavailable f = true ↔ p) → ¬p → s.unavailable f = false := fun h hp =>
      Bool.eq_false_iff.2 fun hun => hp (h.1 hun)
    refine ⟨?post_closed, ?post_formed, ?post_malformed, ?fetch, ?fetch_refused, ?events, ?events_refused, ?boot, ?read4, ?write4,
      ?read5, ?write5⟩
    case post_closed => exact fun hw hcl => hclosed ((State.unavailable_post1 hphase hw).2 hcl)
    case post_formed =>
      intro hw hcl hformed
      obtain ⟨-, hpost, -⟩ := hserved (hopen (State.unavailable_post1 hphase hw) hcl)
      exact hlatched ((hpost hw).trans (State.post1_formed hformed))
    case post_malformed =>
      intro hw hcl hformed
      obtain ⟨-, hpost, -⟩ := hserved (hopen (State.unavailable_post1 hphase hw) hcl)
      exact hlatched ((hpost hw).trans (State.post1_malformed hformed))
    case fetch =>
      intro hw hop hoff hlen
      obtain ⟨-, -, hfetch, -⟩ := hserved (State.unavailable_fetch hphase (.inl hw))
      exact hlatched ((hfetch hw).trans (State.fetch2_ok hop hoff hlen))
    case fetch_refused =>
      intro hw hbad
      obtain ⟨-, -, hfetch, -⟩ := hserved (State.unavailable_fetch hphase (.inl hw))
      exact hlatched ((hfetch hw).trans (State.fetch2_refused hbad))
    case events =>
      intro hw hop hoff hlen hwhole
      obtain ⟨-, -, -, hfetch, -⟩ := hserved (State.unavailable_fetch hphase (.inr hw))
      exact hlatched ((hfetch hw).trans (State.fetch3_ok hop hoff hlen hwhole))
    case events_refused =>
      intro hw hbad
      obtain ⟨-, -, -, hfetch, -⟩ := hserved (State.unavailable_fetch hphase (.inr hw))
      exact hlatched ((hfetch hw).trans (State.fetch3_refused hbad))
    case boot => exact fun hw hop => hclosed ((State.unavailable_write0 hw hop).trans (beq_iff_eq.2 hstarted))
    case read4 =>
      intro hw hop hend
      obtain ⟨-, -, -, -, haccess, -⟩ := hserved (State.unavailable_window4 hw)
      exact hlatched ((haccess hw).trans (State.access4_read hop hend))
    case write4 =>
      intro hw hop
      obtain ⟨-, -, -, -, haccess, -⟩ := hserved (State.unavailable_window4 hw)
      exact hlatched ((haccess hw).trans (State.access4_write hop))
    case read5 =>
      intro hw hop hend
      obtain ⟨-, -, -, -, -, haccess⟩ := hserved (State.unavailable_read5 hw hop)
      exact hlatched ((haccess hw).trans (State.access5_read hop hend))
    case write5 =>
      intro hw hop
      have hunlock := State.unavailable_write5 hphase heclipsed hw hop
      by_cases hblocked : s.sec.attempts = 8 ∨ s.allDisabled = false
      · rw [if_pos hblocked]
        exact hclosed (hunlock.2 hblocked)
      · rw [if_neg hblocked]
        obtain ⟨-, -, -, -, -, haccess⟩ := hserved (hopen hunlock hblocked)
        exact hlatched ((haccess hw).trans (State.access5_write hop))
  case otherwise =>
    intro s f i hi hon hcur
    rw [exec_mailboxFrame hi hon hcur]
    refine ⟨fun r hbad => ?_, fun hgood hnew hfrom hto heclipsed => ?_, fun p hgood hrepeats hreplay => ?_⟩
    · rw [State.curFrame_rejected hbad]
    · rw [State.curFrame_good hgood (State.answerFrame_eclipsed hnew hfrom hto heclipsed), hnew]
      rfl
    · rw [State.curFrame_good hgood (State.answerFrame_repeated hrepeats hreplay), hrepeats]

end Sys2Proof.Machine
end

section
/-! What a WRITE of a device register does at its commit (R298, R301, R302, R330, R332, R336). -/

namespace Sys2Proof.Machine

variable {s : State} {f : HpFrame} {r : Result}

/-! ### A frame received whole (R330, R332) -/

/-- The host port behind the commit of a new WRITE: the frame is the last new one, and the timer starts again (R332, R333, R341). -/
def HostPort.written (h : HostPort) (f : HpFrame) (r : Result) (timerOn : Bool) : HostPort :=
  { h with
    cur := none, prevBad := false, timer := 0, timerOn := timerOn, lastAlive := f.alive, valid := true
    replay := some ⟨f.op, f.window, f.offset, f.length, r, []⟩ }

/-- A good frame that is clocked to its last bit commits as it was answered. -/
theorem State.wholeFrame_good (hon : s.hpOn = true) (hcur : s.hp.cur = none) (hgood : s.hp.reject f = none) :
    s.wholeFrame f = ({ s with hp := { s.hp with cur := some (s.curFrame f) } } : State).commitGood (s.curFrame f) := by
  have hreject : (s.curFrame f).reject = none := by rw [State.curFrame_good hgood rfl]
  simp only [State.wholeFrame, hon, if_true, State.present_fresh hon hcur, State.endFrame, Option.map_some, Option.getD_some, hreject,
    Nat.le_refl]

section
variable (hon : s.hpOn = true) (hcur : s.hp.cur = none) (hgood : s.hp.reject f = none) (hnew : s.hp.repeats f = false)
  (hop : f.op = 0x5A)
include hon hcur hgood hnew hop

theorem State.wholeFrame_write (ha : s.answerFrame f = .code r) :
    s.wholeFrame f =
      ({ s with hp := s.hp.written f r s.inRuntime } : State).commitResult ⟨f, none, false, r, [], s.statusByte, 0, 0⟩ := by
  have hexempt : frameExempt f = false := by rw [frameExempt, hop]; rfl
  have hread : (f.op == opRead) = false := by rw [hop]; rfl
  rw [State.wholeFrame_good hon hcur hgood, State.curFrame_good hgood ha, hnew]
  simp only [State.commitGood, HostPort.sequence, hexempt, hread, Bool.or_self, Bool.false_and, Bool.false_eq_true, if_false]
  rfl

/-- A WRITE answered OK acts, by its window (R330). -/
theorem State.wholeFrame_acts (ha : s.answerFrame f = .ok []) :
    let t : State := { s with hp := s.hp.written f .ok s.inRuntime }
    (f.window = 0 → s.wholeFrame f = t.commit0 f) ∧
      (f.window = 4 → s.wholeFrame f = { t with hp := { t.hp with ctrl := BitVec.ofNat 32 (frameWord f) } }) := by
  rw [State.wholeFrame_write hon hcur hgood hnew hop ha]
  constructor <;> intro hw <;> simp [State.commitResult, State.commitOk, hw, hop, opWrite]

/-- One that is refused enters the sequence and does nothing else (R330). -/
theorem State.wholeFrame_refused (ha : s.answerFrame f = .code r) (hok : r ≠ .ok) (hcredit : r ≠ .noCredit) :
    s.wholeFrame f = { s with hp := s.hp.written f r s.inRuntime } := by
  rw [State.wholeFrame_write hon hcur hgood hnew hop ha]
  simp only [State.commitResult, hok, hcredit, Bool.false_eq_true, if_false]

end

/-! ### The ranges of window 0 (R298, R301, R302) -/

/-- A WRITE in the load aperture. -/
def inAperture (f : HpFrame) : Prop :=
  0x8000 ≤ f.offset.toNat ∧ frameEnd f ≤ 0x10000 ∧ f.offset.toNat % 4 = 0 ∧ f.length.toNat % 4 = 0

/-- A word that BOOT_CTRL takes. -/
def atBootCtrl (f : HpFrame) : Prop :=
  f.offset.toNat = 0x40 ∧ f.length.toNat = 4 ∧ (frameWord f = 1 ∨ frameWord f = 2)

/-- A word that LOAD_BASE takes. -/
def atLoadBase (f : HpFrame) : Prop :=
  f.offset.toNat = 0x48 ∧ f.length.toNat = 4 ∧ frameWord f % 32768 = 0 ∧ frameWord f / 32768 ≤ 39

/-- The range check of a WRITE of window 0, which comes before the check of the state (assumptions 47, 69). -/
def inRange0 (f : HpFrame) : Bool :=
  if 0x8000 ≤ f.offset.toNat then frameEnd f ≤ 0x10000 && f.offset.toNat % 4 == 0 && f.length.toNat % 4 == 0
  else if frameAt f 0x40 4 then frameWord f == 1 || frameWord f == 2
  else frameAt f 0x48 4 && loadBaseOk (frameWord f)

theorem State.write0_eq :
    s.write0 f = if !inRange0 f then .code .outOfRange else if s.boot.idle then .ok [] else .code .wrongState := rfl

theorem inRange0_iff : inRange0 f = true ↔ inAperture f ∨ atBootCtrl f ∨ atLoadBase f := by
  have hat : ∀ off len, frameAt f off len = true ↔ f.offset.toNat = off ∧ f.length.toNat = len := by simp [frameAt]
  unfold inRange0 inAperture atBootCtrl atLoadBase
  split
  case isTrue h =>
    have hC : f.offset.toNat ≠ 0x40 := by omega
    have hB : f.offset.toNat ≠ 0x48 := by omega
    simp [h, hC, hB, and_assoc]
  case isFalse h =>
    split
    case isTrue hc =>
      obtain ⟨hoff, hlen⟩ := (hat _ _).1 hc
      simp [hoff, hlen]
    case isFalse hc =>
      have hno : ¬(f.offset.toNat = 0x40 ∧ f.length.toNat = 4 ∧ (frameWord f = 1 ∨ frameWord f = 2)) := fun ⟨hoff, hlen, _⟩ =>
        hc ((hat _ _).2 ⟨hoff, hlen⟩)
      simp only [Bool.and_eq_true, hat, loadBaseOk, beq_iff_eq, decide_eq_true_eq, h, hno, false_and, false_or, and_assoc]

theorem Boot.idle_iff {b : Boot} : b.idle = true ↔ b.st = .ready ∨ b.st = .failed := by
  simp only [Boot.idle, Bool.or_eq_true, beq_iff_eq]

/-- The answer of window 0 to a new WRITE before runtime start. -/
theorem State.answerFrame_write0 (hnew : s.hp.repeats f = false) (hw : f.window = 0) (hop : f.op = 0x5A) :
    (s.boot.st = .starting → s.answerFrame f = .code .wrongState) ∧
      (s.boot.st ≠ .starting → ¬(inAperture f ∨ atBootCtrl f ∨ atLoadBase f) → s.answerFrame f = .code .outOfRange) ∧
      (s.boot.st ≠ .starting → inAperture f ∨ atBootCtrl f ∨ atLoadBase f → s.boot.idle = false →
        s.answerFrame f = .code .wrongState) ∧
      (inAperture f ∨ atBootCtrl f ∨ atLoadBase f → s.boot.idle = true → s.answerFrame f = .ok []) := by
  have hawake : (1 ≤ f.window.toNat && f.window.toNat ≤ 3 && s.eclipsed) = false := by rw [hw]; rfl
  have hun := State.unavailable_write0 (s := s) hw hop
  have hanswer : s.boot.st ≠ .starting → s.answerFrame f = s.write0 f := fun h => by
    obtain ⟨hwrite, -⟩ := State.answerFrame_available hnew hawake (hun.trans (beq_eq_false_iff_ne.2 h))
    exact hwrite hw hop
  refine ⟨fun h => State.answerFrame_unavailable hnew hawake (hun.trans (beq_iff_eq.2 h)), fun h hout => ?_, fun h hin hbusy => ?_,
    fun hin hidle => ?_⟩
  · rw [hanswer h, State.write0_eq, Bool.eq_false_iff.2 fun h => hout (inRange0_iff.1 h)]
    rfl
  · rw [hanswer h, State.write0_eq, inRange0_iff.2 hin, hbusy]
    rfl
  · have h : s.boot.st ≠ .starting := by
      rcases Boot.idle_iff.1 hidle with h | h <;> rw [h] <;> decide
    rw [hanswer h, State.write0_eq, inRange0_iff.2 hin, hidle]
    rfl

/-! ### What an accepted WRITE of window 0 does (R301, R302) -/

theorem State.commit0_aperture (h : inAperture f) :
    s.commit0 f = { s with boot := { s.boot with
      staging := stagingWrite s.boot.staging (s.boot.page * 32768 + (f.offset.toNat - 0x8000)) f.data } } :=
  congrArg (fun b : Boot => ({ s with boot := b } : State)) (if_pos h.1)

theorem State.commit0_base (h : atLoadBase f) : s.commit0 f = { s with boot := { s.boot with page := frameWord f / 32768 } } := by
  obtain ⟨hoff, -⟩ := h
  simp [State.commit0, hoff]

theorem State.commit0_control (h : atBootCtrl f) :
    s.commit0 f = { s with boot := { s.boot with st := if frameWord f = 1 then .verifying else .clearing } } := by
  obtain ⟨hoff, -⟩ := h
  simp only [State.commit0, hoff, beq_iff_eq]
  exact congrArg (fun b : Boot => ({ s with boot := b } : State)) (apply_ite (fun st => ({ s.boot with st := st } : Boot)) _ _ _).symm

/-- Settles O19: each WRITE is `State.wholeFrame`, which acts where the frame is answered OK. -/
theorem registerWritesTakeEffectAtCommit : Obligations.RegisterWritesTakeEffectAtCommit := by
  unfold Obligations.RegisterWritesTakeEffectAtCommit
  intro s f hon hcur hgood hnew hop off n h aperture control base refused
  have hacts := State.wholeFrame_acts hon hcur hgood hnew hop
  have hrefused : ∀ {r : Result}, s.answerFrame f = .code r → r ≠ .ok → r ≠ .noCredit → refused r := by
    rintro r ha hok hcredit i (rfl | rfl | rfl)
    all_goals exact congrArg Host.Outcome.next (State.wholeFrame_refused hon hcur hgood hnew hop ha hok hcredit)
  refine ⟨fun hw hoff hlen hctrl => ?ctrl, fun hw hidle => ?accepted, fun hw hboot hnotA hnotC hnotB => ?outside,
    fun hw hbusy hin => ?busy, fun hw hstarted => ?started⟩
  case ctrl =>
    have hawake : (1 ≤ f.window.toNat && f.window.toNat ≤ 3 && s.eclipsed) = false := by rw [hw]; rfl
    obtain ⟨-, -, -, -, haccess, -⟩ := State.answerFrame_available hnew hawake (State.unavailable_window4 hw)
    have ha : s.answerFrame f = .ok [] := by
      rw [haccess hw, State.access4_write hop, if_pos ⟨hoff, hlen, hctrl⟩]
      rfl
    obtain ⟨-, hwrites⟩ := hacts ha
    exact congrArg Host.Outcome.next (hwrites hw)
  case accepted =>
    obtain ⟨-, -, -, hanswer⟩ := State.answerFrame_write0 hnew hw hop
    have hcommits : aperture ∨ control ∨ base →
        s.wholeFrame f = ({ s with hp := s.hp.written f .ok s.inRuntime } : State).commit0 f := fun hin =>
      (hacts (hanswer hin (Boot.idle_iff.2 hidle))).1 hw
    refine ⟨fun ha => ?_, fun hb => ?_, fun hc hword => ?_, fun hc hword => ?_⟩
    · exact congrArg Host.Outcome.next ((hcommits (.inl ha)).trans (State.commit0_aperture ha))
    · exact congrArg Host.Outcome.next ((hcommits (.inr (.inr hb))).trans (State.commit0_base hb))
    all_goals
      have hdone := (hcommits (.inr (.inl hc))).trans (State.commit0_control hc)
      rw [hword] at hdone
      exact congrArg Host.Outcome.next hdone
  case outside =>
    obtain ⟨-, hanswer, -⟩ := State.answerFrame_write0 hnew hw hop
    exact hrefused (hanswer hboot fun hin => hin.elim hnotA fun h => h.elim hnotC hnotB) nofun nofun
  case busy =>
    obtain ⟨-, -, hanswer, -⟩ := State.answerFrame_write0 hnew hw hop
    have hstate : s.boot.st ≠ .starting ∧ s.boot.idle = false := by
      rcases hbusy with h | h <;> rw [Boot.idle, h] <;> decide
    exact hrefused (hanswer hstate.1 hin hstate.2) nofun nofun
  case started =>
    obtain ⟨hanswer, -⟩ := State.answerFrame_write0 hnew hw hop
    exact hrefused (hanswer hstarted) nofun nofun

end Sys2Proof.Machine
end

section
/-! The ends of the boot ROM's work, and the start of the runtime (R301, R304 to R306, R308, R341, R424, R438). -/

namespace Sys2Proof.Machine

variable {s : State}

theorem State.bootOn_of_boot (hphase : s.phase = .boot) (hdebug : s.sec.debugHalt = false) : s.bootOn = true := by
  rw [State.bootOn, hphase, hdebug]
  rfl

/-! ### A verification ends (R304) -/

theorem exec_verifyComplete (hboot : s.bootOn = true) (hst : s.boot.st = .verifying) :
    (∀ r, s.verifyFail = some r → exec .verifyComplete s = .next (s.verifyFails r)) ∧
      (s.verifyFail = none → exec .verifyComplete s = .next s.latchImage.startRuntime) := by
  change (∀ r, _ → execVerifyComplete s = _) ∧ (_ → execVerifyComplete s = _)
  have hdue : (s.bootOn && s.boot.st == .verifying) = true := by rw [hboot, hst]; rfl
  simp only [execVerifyComplete, hdue, if_true]
  exact ⟨fun r h => by rw [h], fun h => by rw [h]⟩

theorem exec_stagingClearDone (hboot : s.bootOn = true) (hst : s.boot.st = .clearing) :
    exec .stagingClearDone s = .next { s with boot := { s.boot with st := .ready, staging := [], stagingError := false } } :=
  congrArg Host.Outcome.next (if_pos (by rw [hboot, hst]; rfl))

theorem exec_bootProcessorFault (hboot : s.bootOn = true) :
    exec .bootProcessorFault s = .next
      { s with boot := { s.boot with st := .failed, fail := 0x0B, lastFail := 0x0B, staging := [], stagingError := false } } :=
  congrArg Host.Outcome.next (if_pos hboot)

/-! ### Runtime starts (R305, R306) -/

/-- The link as runtime start leaves it: the transmitter on, and the start-up write to a power die that runs (R306). -/
def Link.atRuntime (up : Bool) : Link :=
  let l := { Link.init with txOn := true, answers := up, startedOnce := up }
  if up then l.issue .startUp false else l

/-- The first tag of the rotation is 1 (R493). -/
theorem Link.atRuntime_cfg : (Link.atRuntime true).cfg = [⟨1, .startUp⟩] ∧ (Link.atRuntime false).cfg = [] := by
  decide

theorem Link.atRuntime_on (up : Bool) : (Link.atRuntime up).txOn = true ∧ (Link.atRuntime up).answers = up := by
  cases up <;> decide

theorem State.startRuntime_eq :
    s.startRuntime =
      ({ s with
        phase := .runtime, params := [], runFc := s.fc, slotTime := s.time, link := Link.atRuntime s.pd.running
        hp := { s.hp with timerOn := true, timer := 0, silenceDue := none }
        sec := { s.sec with eccCorrected := 0 }
        power := { s.power with arose := 0, first := none, tripped := 0 } } : State).raise
          0x0B01 0 [BitVec.ofNat 8 s.power.cause, BitVec.ofNat 8 (b2n s.pd.running)] := by
  cases h : s.pd.running <;> simp only [State.startRuntime, h] <;> rfl

/-- Settles O20: a verification by its first failing check, and the two other ends of work of the boot ROM. -/
theorem verificationStartsTheRuntimeOrFails : Obligations.VerificationStartsTheRuntimeOrFails := by
  unfold Obligations.VerificationStartsTheRuntimeOrFails
  refine ⟨fun s hphase hdebug hst => ?verify, fun s hphase hdebug => ?other⟩
  case verify =>
    obtain ⟨hfails, hpasses⟩ := exec_verifyComplete (State.bootOn_of_boot hphase hdebug) hst
    refine ⟨hfails, fun hnone => ?_⟩
    have hexec := hpasses hnone
    rw [State.startRuntime_eq] at hexec
    obtain ⟨hcfg, hquiet⟩ := Link.atRuntime_cfg
    obtain ⟨htx, hanswers⟩ := Link.atRuntime_on s.pd.running
    refine ⟨_, hexec, rfl, htx, hanswers, fun hup => ?_, fun hdown => ?_⟩
    · exact (congrArg (fun up => (Link.atRuntime up).cfg) hup).trans hcfg
    · exact (congrArg (fun up => (Link.atRuntime up).cfg) hdown).trans hquiet
  case other =>
    have hboot := State.bootOn_of_boot hphase hdebug
    exact ⟨exec_stagingClearDone hboot, exec_bootProcessorFault hboot⟩

end Sys2Proof.Machine
end

section
/-! The power die starts and stops (R306, R417, R493). -/

namespace Sys2Proof.Machine

variable {s : State} {vmA vmB : BitVec 16}

/-! ### A power die without a history -/

/-- What starting and stopping leave of the power die: every latch clear, nothing stored, and the levels of the safe inputs as they
were (assumption 42), with the channels and the parameters of the control die untouched. -/
def State.PdFresh (s t : State) (running : Bool) : Prop :=
  t.pd.running = running ∧ (∀ c : Ch, t.pdChan c = PdChan.init) ∧ t.pd.config = [] ∧ t.pd.ot = false ∧
    (∀ b : BankIx, (t.pdBank b).safe = (s.pdBank b).safe) ∧ t.chans = s.chans ∧ t.params = s.params

/-- It speaks of the power die, the channels and the parameters alone. -/
theorem State.PdFresh.of_eq {t u : State} {running : Bool} (h : s.PdFresh t running) (hpd : u.pd = t.pd) (hchans : u.chans = t.chans)
    (hparams : u.params = t.params) : s.PdFresh u running := by
  have hchan : u.pdChan = t.pdChan := funext fun c => congrArg (·.chans[c]) hpd
  have hbank : u.pdBank = t.pdBank := funext fun b => congrArg (·.banks[b]) hpd
  rw [State.PdFresh, hpd, hchans, hparams, hchan, hbank]
  exact h

theorem State.freshPd_fresh (running : Bool) : s.PdFresh (s.freshPd running) running := by
  refine ⟨rfl, fun c => ?_, rfl, rfl, fun b => ?_, rfl, rfl⟩
  · exact Vector.getElem_replicate ..
  · simp [State.freshPd, State.pdBank]

/-! ### Start (R306, R417) -/

/-- The power die runs afresh, and both VMs are known. -/
def State.pdStarted (s : State) (vmA vmB : BitVec 16) : State := ((s.freshPd true).noteVm 0 vmA).noteVm 1 vmB

theorem State.pdStarted_eq :
    s.pdStarted vmA vmB =
      { s.freshPd true with
        power := { s.power with vmA := decide (6000 < vmA.toNat), vmB := decide (6000 < vmB.toNat) } } := rfl

theorem exec_powerDieUp_idle (h : s.pd.running = true) : exec (.powerDieUp vmA vmB) s = .next s :=
  congrArg Host.Outcome.next (if_neg (by simp [h]))

/-- The control die's part: none before runtime, the firmware's answer, or a note for a firmware that does not run (R431). -/
theorem exec_powerDieUp_starts (hoff : s.pd.running = false) (hvm : 6000 < vmA.toNat ∨ 6000 < vmB.toNat) :
    (s.phase ≠ .runtime → exec (.powerDieUp vmA vmB) s = .next (s.pdStarted vmA vmB)) ∧
      (s.fwOn = true → exec (.powerDieUp vmA vmB) s = .next (s.pdStarted vmA vmB).powerUp) ∧
      (s.phase = .runtime → s.fwOn = false → exec (.powerDieUp vmA vmB) s =
        .next { s.pdStarted vmA vmB with link := { s.link with upPending := true } }) := by
  have hexec : exec (.powerDieUp vmA vmB) s = .next
      (if !s.inRuntime then s.pdStarted vmA vmB else if s.fwOn then (s.pdStarted vmA vmB).powerUp
       else { s.pdStarted vmA vmB with link := { s.link with upPending := true } }) :=
    congrArg Host.Outcome.next (if_pos (by simpa [hoff] using hvm))
  have hruns : s.fwOn = true → s.phase = .runtime := by
    simp only [State.fwOn, State.hwOn, Bool.and_eq_true, beq_iff_eq]
    rintro ⟨⟨⟨hphase, -⟩, -⟩, -⟩
    exact hphase
  refine ⟨fun hphase => ?_, fun hfw => ?_, fun hphase hfw => ?_⟩
  · simp [hexec, State.inRuntime, hphase]
  · simp [hexec, State.inRuntime, hruns hfw, hfw]
  · simp [hexec, State.inRuntime, hphase, hfw]

/-- What the firmware's writes may do to the link: they join it behind what stands there, and its state stays as it was. -/
def Link.Grew (l l' : Link) : Prop :=
  l'.answers = l.answers ∧ l'.startedOnce = l.startedOnce ∧ l'.upPending = l.upPending ∧ l.cfg <+: l'.cfg

theorem Link.issue_grew (l : Link) (k : CfgKind) (waited : Bool) : l.Grew (l.issue k waited) := by
  rcases l.issue_cases k waited with ⟨-, h⟩ | ⟨-, h⟩ <;> rw [h]
  · exact ⟨rfl, rfl, rfl, List.prefix_append _ _⟩
  · exact ⟨rfl, rfl, rfl, List.prefix_rfl⟩

theorem Link.issueAll_grew (ks : List CfgKind) (l : Link) : l.Grew (ks.foldl (fun l k => l.issue k false) l) := by
  induction ks generalizing l with
  | nil => exact ⟨rfl, rfl, rfl, List.prefix_rfl⟩
  | cons k ks ih =>
    obtain ⟨hanswers, honce, hup, hcfg⟩ := l.issue_grew k false
    obtain ⟨hanswers', honce', hup', hcfg'⟩ := ih (l.issue k false)
    exact ⟨hanswers'.trans hanswers, honce'.trans honce, hup'.trans hup, hcfg.trans hcfg'⟩

/-- The link as the firmware takes up a power die that has started, before its first write (R306). -/
def Link.answering (l : Link) : Link := { l with answers := true, startedOnce := true, upPending := false }

theorem State.powerUp_frame : s.powerUp = { s with link := s.powerUp.link, mbx := s.powerUp.mbx } := by
  unfold State.powerUp
  rw [State.raise_frame]
  rfl

theorem State.powerUp_beside :
    s.powerUp.pd = s.pd ∧ s.powerUp.chans = s.chans ∧ s.powerUp.params = s.params ∧ s.powerUp.power = s.power := by
  rw [State.powerUp_frame]
  exact ⟨rfl, rfl, rfl, rfl⟩

theorem State.powerUp_link : ({ s.link.answering.issue .startUp false with answers := true } : Link).Grew s.powerUp.link := by
  unfold State.powerUp
  rw [State.raise_link]
  exact Link.issueAll_grew _ _

theorem State.powerUp_answers :
    s.powerUp.link.answers = true ∧ s.powerUp.link.startedOnce = true ∧ s.powerUp.link.upPending = false := by
  obtain ⟨hanswers, honce, hup, -⟩ := s.powerUp_link
  obtain ⟨-, honce', hup', -⟩ := s.link.answering.issue_grew .startUp false
  exact ⟨hanswers, honce.trans honce', hup.trans hup'⟩

/-- The start-up write is the first of a link that has none to send. -/
theorem State.powerUp_first (hcfg : s.link.cfg = []) (htag : s.link.freeTag ≠ 0) :
    s.powerUp.link.cfg.head? = some ⟨s.link.freeTag, .startUp⟩ := by
  obtain ⟨-, -, -, rest, hrest⟩ := s.powerUp_link
  have hfirst : (s.link.answering.issue .startUp false).cfg = [⟨s.link.freeTag, .startUp⟩] := by
    rcases s.link.answering.issue_cases .startUp false with ⟨-, h⟩ | ⟨h, -⟩
    · exact (congrArg Link.cfg h).trans (congrArg (· ++ [_]) hcfg)
    · exact absurd h htag
  rw [← hrest]
  exact congrArg (fun l => (l ++ rest).head?) hfirst

/-! ### Stop (R417, R493) -/

/-- The power die has stopped, and no configuration write of the control die is left. -/
def State.pdStopped (s : State) : State :=
  { s.freshPd false with
    power := { s.power with vmA := false, vmB := false }
    link := { s.link with cfg := [], backlog := [], answers := false, upPending := false, goodDown := 0, goodUp := 0 } }

theorem exec_powerDieStop_idle (h : s.pd.running = false) : exec .powerDieStop s = .next s :=
  congrArg Host.Outcome.next (if_neg (by rw [h]; exact Bool.false_ne_true))

theorem exec_powerDieStop_stops (h : s.pd.running = true) : exec .powerDieStop s = .next s.pdStopped.abandonWaiting :=
  congrArg Host.Outcome.next (if_pos h)

theorem State.pdStopped_fresh : s.PdFresh s.pdStopped false := State.PdFresh.of_eq (s.freshPd_fresh false) rfl rfl rfl

theorem State.abandonWaiting_none (h : s.mbx.waiting = none) : s.abandonWaiting = s := by
  have hmap : s.mbx.waiting.map Waiting.abandon = s.mbx.waiting := by rw [h]; rfl
  unfold State.abandonWaiting
  rw [hmap]
  exact State.tryComplete_none h

/-- An entry into deep standby that was asked for is armed by the response, in the power state alone (R427, R428). -/
theorem State.afterResponse_frame (htest : s.boot.testPending = false) :
    s.afterResponse = { s with power := s.afterResponse.power } := by
  have h : s.testEclipse = s := by simp [State.testEclipse, htest]
  rw [State.afterResponse, h, State.armEntry]
  split <;> rfl

/-- A command of the host other than SET, cut off from its writes, answers that it had no effect (R493). -/
theorem State.abandonWaiting_host {w : Waiting} (hw : s.mbx.waiting = some w) (hop : recOp w.record ≠ 2) (hvia : w.via = none)
    (hbacklog : s.link.backlog = []) (hfw : s.fwOn = true) (hotp : s.sec.otpOp = 0) (htest : s.boot.testPending = false)
    (hheld : s.mbx.held = []) :
    ∃ p : Power, s.abandonWaiting =
      { s with
        power := p
        mbx := { s.mbx with
          waiting := none, doneSeq := w.seq
          responses := s.mbx.responses ++ [respRecord w.record w.seq .wrongState 0 []] } } := by
  have hcut : w.abandon = { w with tags := [], result := .wrongState, detail := 0, data := [], clears := [], starts := [] } :=
    if_neg (by simpa using hop)
  have hwaits : s.mbx.waiting.map Waiting.abandon = some w.abandon := congrArg (Option.map _) hw
  have hgo : s.abandonWaiting = ({ s with mbx := { s.mbx with waiting := some w.abandon } } : State).complete w.abandon := by
    unfold State.abandonWaiting
    rw [hwaits]
    exact State.tryComplete_done rfl (by rw [hcut]) hbacklog hotp hfw
  have hanswered : ({ s with mbx := { s.mbx with waiting := some w.abandon } } : State).complete w.abandon =
      ({ s with mbx := s.mbx.answered w.abandon } : State).postHeld.afterResponse := by
    rw [hcut]
    unfold State.complete
    rw [hvia]
    rfl
  rw [hgo, hanswered, State.postHeld_nil (s := { s with mbx := s.mbx.answered w.abandon }) hheld,
    State.afterResponse_frame (s := { s with mbx := s.mbx.answered w.abandon }) htest, hcut]
  exact ⟨_, rfl⟩

/-- Settles O58: start and stop leave `State.freshPd`; the firmware's answer adds to the link, and a stop empties it. -/
theorem powerDieStartsAndStops : Obligations.PowerDieStartsAndStops := by
  unfold Obligations.PowerDieStartsAndStops
  intro s vmA vmB fresh
  refine ⟨exec_powerDieUp_idle, fun hoff hvm => ?start, exec_powerDieStop_idle, fun hon hwaiting => ?stop,
    fun w hon hw hop hvia hfw hotp htest hheld => ?cut⟩
  case start =>
    have hfresh : s.PdFresh (s.pdStarted vmA vmB) true := State.PdFresh.of_eq (s.freshPd_fresh true) rfl rfl rfl
    obtain ⟨hbefore, hanswers, hnotes⟩ := exec_powerDieUp_starts hoff hvm
    by_cases hphase : s.phase = .runtime
    case neg =>
      have hnofw : s.fwOn = false := by simp [State.fwOn, State.hwOn, hphase]
      exact ⟨_, hbefore hphase, hfresh, rfl, rfl, fun _ => ⟨rfl, rfl⟩, fun h => absurd h hphase,
        fun h => absurd (hnofw.symm.trans h) Bool.false_ne_true⟩
    cases hfw : s.fwOn with
    | false =>
      exact ⟨_, hnotes hphase hfw, hfresh.of_eq rfl rfl rfl, rfl, rfl, fun h => absurd hphase h, fun _ _ => ⟨rfl, rfl⟩, nofun⟩
    | true =>
      obtain ⟨hpd, hchans, hparams, hpower⟩ := (s.pdStarted vmA vmB).powerUp_beside
      obtain ⟨hlink, honce, hup⟩ := (s.pdStarted vmA vmB).powerUp_answers
      exact ⟨_, hanswers hfw, hfresh.of_eq hpd hchans hparams, congrArg Power.vmA hpower, congrArg Power.vmB hpower,
        fun h => absurd hphase h, fun _ => nofun,
        fun _ => ⟨hlink, honce, hup, fun hcfg _ htag => State.powerUp_first (s := s.pdStarted vmA vmB) hcfg htag⟩⟩
  case stop =>
    rw [exec_powerDieStop_stops hon, State.abandonWaiting_none (s := s.pdStopped) hwaiting]
    exact ⟨_, rfl, s.pdStopped_fresh, rfl, rfl, rfl⟩
  case cut =>
    obtain ⟨p, hcut⟩ := State.abandonWaiting_host (s := s.pdStopped) hw hop hvia rfl hfw hotp htest hheld
    rw [exec_powerDieStop_stops hon, hcut]
    exact ⟨_, rfl, s.pdStopped_fresh.of_eq rfl rfl rfl, rfl, rfl, rfl⟩

end Sys2Proof.Machine
end
